-- ==== Sys2Proof/Word.lean ====
section
/-! DEFINITION. The words the module's registers, structures and messages are made of, and the plainest operations on them (00 R6, R7). -/

namespace Sys2Proof

/-- One byte. -/
abbrev Byte := BitVec 8

/-- A run of bytes at ascending addresses: a parameter block, an image, a message. -/
abbrev Bytes := List (BitVec 8)

abbrev W16 := BitVec 16
abbrev W32 := BitVec 32
abbrev W64 := BitVec 64

end Sys2Proof
end

