-- ==== Sys2Proof/Syntax.lean ====
section
/-! DEFINITION. The commands that reach the block (rows of spec/opcode_table.json) and the operands they carry. An operand is what the sender or the surroundings choose: a queue identifier, a command's Dwords and data, a unit number, a measured value, the outcome of a physical operation. -/

namespace Sys2Proof

/-- Which NVMe command this is: controller, submission queue and command identifier (15 R343, R355). -/
structure CmdId where
  ctrl : W16
  sq   : W16
  cid  : W16
  deriving DecidableEq, Repr

/-- The common fields of an I/O command (15 R350 to R352, R357). `sglOk` says that the data descriptors have the shape R357 asks for; `resLen` is the length of the result buffer in bytes. -/
structure IoHdr where
  id     : CmdId
  nsid   : W32
  tenant : W32
  cdw3   : W32
  sglOk  : Bool
  resLen : Nat
  deriving DecidableEq, Repr

/-- What the Gondola plans for a request (11, "Requests and deadlines"): planned work in cluster-µs, stage count D, the pieces it reads. The spec gives no rule for the planning itself. -/
structure Plan where
  workCus : Nat
  stages  : Nat
  fusion  : BitVec 2
  pieces  : List (W64 × Nat)
  deriving DecidableEq, Repr

/-- What a pass leaves for the Bridle at its commit (07 R176, 10 R236 to R240): routed activations of one token and layer, or the output of one expert record. -/
inductive BridleOut where
  /-- The pass wrote a routing record of TOP_K slots and one activation for one token. -/
  | route (model : W64) (ctx pos : W32) (layer : W16) (routeAddr dataAddr dataLen : Nat) (fmt : Byte)
  /-- The pass ran one dispatched record, and its output returns to the sender. -/
  | giveBack (model : W64) (toRank : Nat) (ctx pos : W32) (layer expert : W16) (slot : Byte) (weight version : W32) (dataAddr dataLen : Nat) (fmt : Byte)
  deriving DecidableEq, Repr

/-- Where a pass comes from and what it belongs to (07 R156, R189; 10 R248; 11 R257). -/
structure PassSrc where
  /-- Cianber firmware builds the pass. -/
  firmware : Bool
  /-- Reduction positions that both operands of a run hold, by the Loft address of the run's first word (05 R109): a run that is not listed fills its last chunk. -/
  lens     : List (W64 × Nat)
  /-- The host command whose request the pass serves. -/
  request  : Option CmdId
  /-- Stages of the request that follow the pass's own stage (11 R257). -/
  follow   : Nat
  /-- The context the pass belongs to. -/
  handle   : Option W32
  /-- The token that the pass's commit emits to its context. -/
  emits    : Option W32
  bridle   : List BridleOut
  /-- The Gondola allocates, with this submission, the work buffer of the completion record and the program's place where none lies there (09 R205, R208). -/
  staged   : Bool
  deriving DecidableEq, Repr

/-- The four 64-bit words of a run record (07 R163). -/
structure RunRec where
  w0 : BitVec 64
  w1 : BitVec 64
  w2 : BitVec 64
  w3 : BitVec 64
  deriving DecidableEq, Repr

/-- A Reel write into a cluster's stores (05 R118): the Loft address that the data was read at, 0 for none, SPACE of 07 R159, tile position, byte offset or first word, data, the marked 64-byte lines of the data by number (09 R209, R225), and of its source in HBM the lines that the stack's ECC cannot correct (09 R224). -/
structure Fill where
  src   : BitVec 64
  space : BitVec 3
  tile  : Fin 8
  base  : Nat
  data  : Bytes
  marks : List Nat
  ecc   : List Nat := []
  deriving DecidableEq, Repr

/-- The door of the die service port a command comes through (13 R298): at the register door the write of ENV_DSP_DATA launches it at time `t`. -/
inductive DspDoor where
  | register (data : W32) (t : Nat)
  | firmware (die row col data : W32)
  deriving DecidableEq, Repr

/-- What the rebuild finds on the media (13 R296, R303, R305, R308; 14 R327 to R329): for each channel the order number of the setting at which it trains (13 R296: 1 to 6; otherwise none), dies whose first or both calibration copies fail, journal dies with BOD, whether both copies of a map segment fail, members of parity groups rebuilt, units lost with two members of one group, and the duration. -/
structure RebuildIn where
  rates       : List (BitVec 3)
  calFirstBad : List Nat
  calBothBad  : List Nat
  bodDies     : List Nat
  segmentLost : Bool
  repaired    : Nat
  lostSlots   : List Nat
  ms          : Nat
  deriving DecidableEq, Repr

/-- The state of this side's receiver on a lane when a training frame arrives (16 R376 to R379). -/
structure LaneSelf where
  markers   : Nat
  satisfied : Bool
  polInv    : Bool
  doneSent  : Bool
  deriving DecidableEq, Repr

/-- What a tick brings of its bounds (02 R46, R47): how far the boundary moves, and the change of the trimmed rate, in ns. -/
structure TickIn where
  move : Int
  trim : Int
  deriving DecidableEq, Repr

/-- A reload of the Reel that ends: the pass it was for, and the units that no source gives without an error (07 R173; 08 R191). -/
structure ReloadIn where
  uid : Nat
  bad : List W64
  deriving DecidableEq, Repr

/-- What a fetch of a piece brings: units that cannot be corrected, the steps of read retry, and of a remote piece its bytes and marks (09 R210, R220, R224). -/
structure FetchIn where
  bad   : List Nat
  steps : List (Nat × Fin 6)
  data  : Bytes
  marks : List Nat
  deriving DecidableEq, Repr

/-- A Bridle message on a network (10 R239). -/
structure MessageIn where
  net : Fin 2
  msg : Bytes
  deriving DecidableEq, Repr

/-- A fault report as it reaches the Drogue (18 R426, R429, R430). -/
structure FaultIn where
  source : Byte
  master : W16
  access : BitVec 3
  space  : BitVec 2
  addr   : W32
  addrHi : W32
  deriving DecidableEq, Repr

/-- The unit whose breakpoint matches (21 R493, R495). -/
inductive BpUnit where
  | cluster (c : Fin 8)
  | core (k : Fin 4) (pc : W32)
  deriving DecidableEq, Repr


/-- The commands and events of the module: one constructor for each row of the table of operations. -/
inductive Instr where
  /-- PWR_EN_ASSERT (R458). -/
  | pwrEnAssert (mv : Nat)
  /-- POWER_GOOD (R458). -/
  | powerGood
  /-- RAIL_TIMEOUT (R458). -/
  | railTimeout (rail : Fin 6)
  /-- PWR_EN_DEASSERT (R457). -/
  | pwrEnDeassert
  /-- INPUT_SAMPLE (R457). -/
  | inputSample (mv ma10 : Nat)
  /-- INPUT_RESTORED (R457). -/
  | inputRestored
  /-- HOLDUP_BOD (R308). -/
  | holdupBod
  /-- HOLDUP_TEST (R459). -/
  | holdupTest (estimateUs : Nat)
  /-- MODULE_RESET (R460). -/
  | moduleReset (lowNs : Nat)
  /-- BOOT (R444). -/
  | boot
  /-- MAP_REBUILD (R327). -/
  | mapRebuild (rb : RebuildIn)
  /-- SHARD_REPLAY (R273). -/
  | shardReplay (index : BitVec 64) (shard : BitVec 16)
  /-- SENSOR_SAMPLE (R470). -/
  | sensorSample (readings : List (BitVec 16))
  /-- RAIL_EXCURSION (R470). -/
  | railExcursion (rail : Fin 6)
  /-- SOFT_STEP_DOWN (R468). -/
  | softStepDown
  /-- SOFT_STEP_UP (R468). -/
  | softStepUp
  /-- HARD_THROTTLE (R469). -/
  | hardThrottle
  /-- FREEZE_END (R469). -/
  | freezeEnd
  /-- DROOP (R473). -/
  | droop (g : Fin 16)
  /-- AVS_LOOP (R472). -/
  | avsLoop (margins stretchPm : List Nat)
  /-- SLEEP_REQ (R464). -/
  | sleepReq (c : Fin 8)
  /-- ARRAY_SLEEP_ENTER (R183). -/
  | arraySleepEnter (c : Fin 8)
  /-- ARRAY_SLEEP_WAKE (R183). -/
  | arraySleepWake (c : Fin 8)
  /-- PWR_HOLD_SET (R465). -/
  | pwrHoldSet (v : BitVec 32)
  /-- PWR_HOLD_CLR (R465). -/
  | pwrHoldClr (v : BitVec 32)
  /-- TICK (R34). -/
  | tick (move : TickIn)
  /-- SLOT_OPEN (R34). -/
  | slotOpen (c : Fin 8) (slot : Fin 16)
  /-- SLOT_CLOSE (R44). -/
  | slotClose (c : Fin 8) (slot : Fin 16)
  /-- GUARD (R42). -/
  | guardBand (c : Fin 8) (slot : Fin 16)
  /-- CLOSING_WINDOW (R43). -/
  | closingWindow (c : Fin 8) (slot : Fin 16)
  /-- SYNC_IN_EDGE (R47). -/
  | syncInEdge (t : Nat)
  /-- SYNC_ACQUIRE_TIMEOUT (R48). -/
  | syncAcquireTimeout
  /-- SYNC_LOST (R49). -/
  | syncLost
  /-- FRM_EVT_CLR (R55). -/
  | frmEvtClr (v : BitVec 32)
  /-- LOFT_IMAGE_TRANSFER (R58). -/
  | loftImageTransfer (id : CmdId) (numd ofst : BitVec 32) (data : Bytes)
  /-- LOFT_IMAGE_APPLY (R60). -/
  | loftImageApply (id : CmdId) (cdw10 cdw11 cdw12 : BitVec 32)
  /-- LOFT_IMAGE_APPLY_ACT_FRAME (R61). -/
  | loftImageApplyActFrame (id : CmdId) (rsv : BitVec 30) (cdw11 cdw12 : BitVec 32)
  /-- LOFT_IMAGE_CANCEL (R61). -/
  | loftImageCancel (id : CmdId) (rsv : BitVec 30) (cdw11 cdw12 : BitVec 32)
  /-- IMAGE_CHECK_DONE (R76). -/
  | imageCheckDone
  /-- IDENTIFY (R345). -/
  | identify (id : CmdId) (cns : BitVec 8) (nsid : BitVec 32)
  /-- GET_LOG_PAGE (R346). -/
  | getLogPage (id : CmdId) (lid : BitVec 8) (lsi : BitVec 16) (ofs len : Nat)
  /-- GET_FEATURES (R346). -/
  | getFeatures (id : CmdId) (fid : BitVec 8)
  /-- SET_FEATURES (R57). -/
  | setFeatures (id : CmdId) (fid : BitVec 8) (cdw11 : BitVec 32)
  /-- ASYNCHRONOUS_EVENT_REQUEST (R346). -/
  | asyncEventRequest (id : CmdId)
  /-- ABORT (R356). -/
  | abort (id : CmdId) (victim : CmdId)
  /-- KEEP_ALIVE (R346). -/
  | keepAlive (id : CmdId)
  /-- KEEP_ALIVE_TIMEOUT (R354). -/
  | keepAliveTimeout (ctrl : BitVec 16)
  /-- FIRMWARE_IMAGE_DOWNLOAD (R443). -/
  | firmwareImageDownload (id : CmdId) (ofst : BitVec 32) (data : Bytes)
  /-- FIRMWARE_COMMIT_REPLACE (R443). -/
  | firmwareCommitReplace (id : CmdId) (slot : BitVec 3)
  /-- FIRMWARE_COMMIT_ACTIVATE (R443). -/
  | firmwareCommitActivate (id : CmdId) (slot : BitVec 3)
  /-- FIRMWARE_COMMIT_SLOT (R443). -/
  | firmwareCommitSlot (id : CmdId) (slot : BitVec 3)
  /-- SECURITY_SEND (R449). -/
  | securitySend (id : CmdId) (secp : BitVec 8) (data : Bytes)
  /-- SECURITY_RECEIVE (R449). -/
  | securityReceive (id : CmdId) (secp : BitVec 8) (len : Nat)
  /-- REGISTER_ACCESS_READ (R368). -/
  | registerAccessRead (id : CmdId) (core : Fin 4) (addr cdw11 : BitVec 32) (rsv : BitVec 31)
  /-- REGISTER_ACCESS_WRITE (R368). -/
  | registerAccessWrite (id : CmdId) (core : Fin 4) (addr cdw11 : BitVec 32) (rsv : BitVec 31) (data : List (BitVec 32))
  /-- REGISTER_WRITE (R9). -/
  | registerWrite (master : BitVec 16) (addr v : BitVec 32)
  /-- NAMESPACE_CREATE (R348). -/
  | namespaceCreate (id : CmdId) (nsze : BitVec 64) (lbaf : BitVec 4) (cianber : Bytes)
  /-- NAMESPACE_DELETE (R348). -/
  | namespaceDelete (id : CmdId) (nsid : BitVec 32)
  /-- FORMAT_NVM (R349). -/
  | formatNvm (id : CmdId) (nsid : BitVec 32) (lbaf : BitVec 4) (ses : BitVec 3)
  /-- CONNECT (R343). -/
  | connect (id : CmdId) (port : Fin 8) (sqsize : BitVec 16) (kato : BitVec 32)
  /-- PROPERTY_GET (R343). -/
  | propertyGet (id : CmdId) (ofs : BitVec 32)
  /-- PROPERTY_SET (R343). -/
  | propertySet (id : CmdId) (ofs : BitVec 32) (v : BitVec 64)
  /-- DISCONNECT (R355). -/
  | disconnect (id : CmdId)
  /-- TRANSPORT_CONNECTION_LOST (R354). -/
  | transportConnectionLost (ctrl sq : BitVec 16)
  /-- FLUSH (R350). -/
  | flush (h : IoHdr)
  /-- WRITE (R353). -/
  | write (h : IoHdr) (slba : BitVec 64) (nlb : BitVec 16) (data : Bytes)
  /-- READ (R350). -/
  | read (h : IoHdr) (slba : BitVec 64) (nlb : BitVec 16)
  /-- WRITE_ZEROES (R350). -/
  | writeZeroes (h : IoHdr) (slba : BitVec 64) (nlb : BitVec 16)
  /-- DATASET_MANAGEMENT (R350). -/
  | datasetManagement (h : IoHdr) (attrs : BitVec 32) (ranges : List (BitVec 64 × BitVec 32))
  /-- MODEL_LOAD_BEGIN (R362). -/
  | modelLoadBegin (h : IoHdr) (pb : Bytes)
  /-- MODEL_LOAD_DATA (R362). -/
  | modelLoadData (h : IoHdr) (pb : Bytes)
  /-- MODEL_LOAD_COMMIT (R362). -/
  | modelLoadCommit (h : IoHdr) (pb : Bytes)
  /-- MODEL_LOAD_ADD_SCALE (R362). -/
  | modelLoadAddScale (h : IoHdr) (pb : Bytes)
  /-- MODEL_LOAD_ABANDON (R362). -/
  | modelLoadAbandon (h : IoHdr) (pb : Bytes)
  /-- MODEL_LOAD_TIMEOUT (R362). -/
  | modelLoadTimeout (model : BitVec 64)
  /-- MODEL_UNLOAD (R234). -/
  | modelUnload (h : IoHdr) (pb : Bytes)
  /-- LIST_MODELS (R361). -/
  | listModels (h : IoHdr) (pb : Bytes)
  /-- OPEN_CONTEXT (R247). -/
  | openContext (h : IoHdr) (pb : Bytes)
  /-- BUDDY_ACK_TIMEOUT (R247). -/
  | buddyAckTimeout (handle : BitVec 32)
  /-- CLOSE_CONTEXT (R250). -/
  | closeContext (h : IoHdr) (pb : Bytes)
  /-- CONTEXT_CLOSE_DONE (R250). -/
  | contextCloseDone (handle : BitVec 32)
  /-- GET_CONTEXT (R361). -/
  | getContext (h : IoHdr) (pb : Bytes)
  /-- TOKEN_BATCH (R248). -/
  | tokenBatch (h : IoHdr) (pb : Bytes) (plan : Plan)
  /-- REFIT_EXPERT (R199). -/
  | refitExpert (h : IoHdr) (pb : Bytes)
  /-- REFIT_COMMIT (R200). -/
  | refitCommit (job : Nat)
  /-- REFIT_SHADOW_TIMEOUT (R200). -/
  | refitShadowTimeout (job : Nat)
  /-- EMBEDDING_JOB (R290). -/
  | embeddingJob (h : IoHdr) (pb : Bytes) (outDim : Nat)
  /-- CREATE_INDEX (R271). -/
  | createIndex (h : IoHdr) (pb : Bytes)
  /-- DESTROY_INDEX (R364). -/
  | destroyIndex (h : IoHdr) (pb : Bytes)
  /-- INSERT (R274). -/
  | insert (h : IoHdr) (pb : Bytes)
  /-- DELETE (R277). -/
  | delete (h : IoHdr) (pb : Bytes)
  /-- QUERY (R280). -/
  | query (h : IoHdr) (pb : Bytes) (plan : Plan)
  /-- NODE_READ_DONE (R279). -/
  | nodeReadDone (ctx : Nat) (marked : Bool)
  /-- GROUP_QUERY_TIMEOUT (R288). -/
  | groupQueryTimeout (queryId : BitVec 64)
  /-- FILTER_CREATE (R285). -/
  | filterCreate (h : IoHdr) (pb : Bytes)
  /-- FILTER_ADD_IDS (R285). -/
  | filterAddIds (h : IoHdr) (pb : Bytes)
  /-- FILTER_REMOVE_IDS (R285). -/
  | filterRemoveIds (h : IoHdr) (pb : Bytes)
  /-- FILTER_FILL_ALL (R285). -/
  | filterFillAll (h : IoHdr) (pb : Bytes)
  /-- FILTER_COMBINE (R285). -/
  | filterCombine (h : IoHdr) (pb : Bytes)
  /-- FILTER_DESTROY (R285). -/
  | filterDestroy (h : IoHdr) (pb : Bytes)
  /-- INDEX_REPAIR (R278). -/
  | indexRepair
  /-- PASS_SUBMIT (R160). -/
  | passSubmit (desc : Bytes) (prog : List (BitVec 64)) (src : PassSrc)
  /-- PROGRAM_LOAD (R161). -/
  | programLoad (c : Fin 8) (uid : Nat)
  /-- PASS_START (R170). -/
  | passStart (c : Fin 8) (uid : Nat) (t : Nat)
  /-- VNOP (R136). -/
  | vnop (c : Fin 8) (w : BitVec 64)
  /-- VSETVL (R136). -/
  | vsetvl (c : Fin 8) (w : BitVec 64)
  /-- VLD (R143). -/
  | vld (c : Fin 8) (w : BitVec 64)
  /-- VST (R143). -/
  | vst (c : Fin 8) (w : BitVec 64)
  /-- VGATHER (R143). -/
  | vgather (c : Fin 8) (w : BitVec 64)
  /-- VPERM (R145). -/
  | vperm (c : Fin 8) (w : BitVec 64)
  /-- VBCAST (R136). -/
  | vbcast (c : Fin 8) (w : BitVec 64)
  /-- VCVT (R146). -/
  | vcvt (c : Fin 8) (w : BitVec 64)
  /-- VADD (R139). -/
  | vadd (c : Fin 8) (w : BitVec 64)
  /-- VMUL (R139). -/
  | vmul (c : Fin 8) (w : BitVec 64)
  /-- VFMA (R139). -/
  | vfma (c : Fin 8) (w : BitVec 64)
  /-- VCMP (R141). -/
  | vcmp (c : Fin 8) (w : BitVec 64)
  /-- VSEL (R136). -/
  | vsel (c : Fin 8) (w : BitVec 64)
  /-- VMIN (R141). -/
  | vmin (c : Fin 8) (w : BitVec 64)
  /-- VMAX (R141). -/
  | vmax (c : Fin 8) (w : BitVec 64)
  /-- VMLOG (R136). -/
  | vmlog (c : Fin 8) (w : BitVec 64)
  /-- VRED (R147). -/
  | vred (c : Fin 8) (w : BitVec 64)
  /-- MRUN (R163). -/
  | mrun (c : Fin 8) (r : RunRec)
  /-- MWAIT (R162). -/
  | mwait (c : Fin 8) (w : BitVec 64)
  /-- SLI (R162). -/
  | sli (c : Fin 8) (w : BitVec 64)
  /-- SADD (R162). -/
  | sadd (c : Fin 8) (w : BitVec 64)
  /-- SLD (R162). -/
  | sld (c : Fin 8) (w : BitVec 64)
  /-- BR (R162). -/
  | br (c : Fin 8) (w : BitVec 64)
  /-- SPAWN (R177). -/
  | spawn (c : Fin 8) (w : BitVec 64)
  /-- SIGNAL (R162). -/
  | signal (c : Fin 8) (w : BitVec 64)
  /-- HRET (R181). -/
  | hret (c : Fin 8)
  /-- END (R162). -/
  | endProgram (c : Fin 8)
  /-- RUN_DONE (R180). -/
  | runDone (c : Fin 8) (u : Fin 8)
  /-- PASS_COMMIT (R171). -/
  | passCommit (c : Fin 8) (cycles t : Nat)
  /-- LATE (R170). -/
  | late (c : Fin 8)
  /-- TILE_PARITY_ERROR (R126). -/
  | tileParityError (tile : Fin 64)
  /-- VECTOR_PARITY_ERROR (R152). -/
  | vectorParityError (c : Fin 8)
  /-- WT_POISON (R173). -/
  | wtPoison (tile : Fin 64)
  /-- REEL_RELOAD (R173). -/
  | reelReload (c : Fin 8) (what : ReloadIn)
  /-- REEL_DONE (R118). -/
  | reelDone (c : Fin 8) (fill : Fill)
  /-- SCALE_STORE_LOAD (R191). -/
  | scaleStoreLoad (c : Fin 8) (what : ReloadIn)
  /-- WDOG (R174). -/
  | wdog (c : Fin 8) (t : Nat)
  /-- SPAR_RESET_DONE (R18). -/
  | sparResetDone
  /-- HANDLER_ENTRY (R181). -/
  | handlerEntry (c : Fin 8)
  /-- SPC_IC_PEND_SET (R182). -/
  | spcIcPendSet (c : Fin 8) (hi : Bool) (v : BitVec 32)
  /-- SPC_IC_PEND_CLR (R182). -/
  | spcIcPendClr (c : Fin 8) (hi : Bool) (v : BitVec 32)
  /-- SPC_IC_EN_SET (R182). -/
  | spcIcEnSet (c : Fin 8) (hi : Bool) (v : BitVec 32)
  /-- SPC_IC_EN_CLR (R182). -/
  | spcIcEnClr (c : Fin 8) (hi : Bool) (v : BitVec 32)
  /-- SPC_MT_FLAGS_CLR (R130). -/
  | spcMtFlagsClr (tile : Fin 64) (v : BitVec 32)
  /-- SPC_VU_FLAGS_CLR (R155). -/
  | spcVuFlagsClr (c : Fin 8) (v : BitVec 32)
  /-- FETCH_DONE (R220). -/
  | fetchDone (addr : BitVec 64) (piece : Nat) (got : FetchIn)
  /-- MOVE_ABORT_TIMEOUT (R213). -/
  | moveAbortTimeout (mv : Nat)
  /-- REFETCH (R226). -/
  | refetch (addr : BitVec 64) (t1Ok t2Ok t3Ok : Bool)
  /-- KV_REPAIR (R252). -/
  | kvRepair (handle : BitVec 32) (unit : Nat)
  /-- BRIDLE_MESSAGE (R241). -/
  | bridleMessage (msg : MessageIn) (t : Nat)
  /-- DROP_NOTICE (R242). -/
  | dropNotice (msg : Bytes)
  /-- DISPATCH_TIMEOUT (R242). -/
  | dispatchTimeout (ctx pos : BitVec 32) (layer : BitVec 16) (slot : BitVec 8)
  /-- ENV_DSP_KEY (R299). -/
  | envDspKey (n : Fin 8) (v : BitVec 32) (t : Nat)
  /-- ENV_DSP_CMD (R299). -/
  | envDspCmd (n : Fin 8) (v : BitVec 32) (t : Nat)
  /-- ENV_DSP_ADDR (R299). -/
  | envDspAddr (n : Fin 8) (v : BitVec 32) (t : Nat)
  /-- READ_STATUS (R300). -/
  | readStatus (n : Fin 8) (door : DspDoor)
  /-- READ_PAGE (R300). -/
  | readPage (n : Fin 8) (door : DspDoor)
  /-- READ_CAL_ROW (R300). -/
  | readCalRow (n : Fin 8) (door : DspDoor)
  /-- READ_LEVELS (R300). -/
  | readLevels (n : Fin 8) (door : DspDoor)
  /-- PROGRAM_SLC (R300). -/
  | programSlc (n : Fin 8) (die row : BitVec 32) (data : Bytes)
  /-- PROGRAM_TLC (R300). -/
  | programTlc (n : Fin 8) (die row : BitVec 32) (fine : Bool) (data : Bytes)
  /-- ERASE (R300). -/
  | erase (n : Fin 8) (die row : BitVec 32)
  /-- DIE_RESET (R300). -/
  | dieReset (n : Fin 8) (die : BitVec 32)
  /-- DSP_DONE (R300). -/
  | dspDone (n : Fin 8) (page : Bytes) (step : Fin 6)
  /-- DSP_TIMEOUT (R301). -/
  | dspTimeout (n : Fin 8)
  /-- CH_WAIT_WRITE (R297). -/
  | chWaitWrite (ch : Fin 256) (second : Bool) (v : BitVec 32)
  /-- PROGRAM_DONE (R307). -/
  | programDone (job : Nat) (fail : Bool)
  /-- ERASE_DONE (R304). -/
  | eraseDone (die : Fin 2048) (fail : Bool)
  /-- FLASH_READ (R310). -/
  | flashRead (slot : Nat) (step : Fin 6)
  /-- DIE_TIMEOUT (R338). -/
  | dieTimeout (die : Fin 2048)
  /-- CALIBRATION_READ (R309). -/
  | calibrationRead (die : Fin 2048) (block : Nat) (levels : List (BitVec 8))
  /-- MEDIA_FLUSH (R326). -/
  | mediaFlush
  /-- GC_START (R330). -/
  | gcStart (die : Fin 2048) (bad : List Nat)
  /-- GC_COMMIT (R331). -/
  | gcCommit (n : Fin 8)
  /-- SCRUB (R334). -/
  | scrub (die : Fin 2048) (block cw : Nat) (step : Fin 6)
  /-- TEMP_HIST_SAMPLE (R341). -/
  | tempHistSample
  /-- SIGNAL_DETECT (R379). -/
  | signalDetect (lane : Fin 32)
  /-- TRAINING_FRAME (R376). -/
  | trainingFrame (lane : Fin 32) (ctl sts : BitVec 32) (crcCtl crcSts : BitVec 16) (self : LaneSelf)
  /-- TRAINING_TIMEOUT (R379). -/
  | trainingTimeout (lane : Fin 32)
  /-- TRAINING_MODE_SWITCH (R371). -/
  | trainingModeSwitch (p : Fin 8)
  /-- ALIGNMENT_MARKER (R375). -/
  | alignmentMarker (lane : Fin 32) (am : BitVec 257) (pairs bitErr corr uncorr : Nat)
  /-- PORT_DOWN (R388). -/
  | portDown (p : Fin 8) (lane : Fin 4)
  /-- PORT_RETRAIN (R388). -/
  | portRetrain (p : Fin 8)
  /-- FEC_DEGRADE (R380). -/
  | fecDegrade (lane : Fin 32)
  /-- ADDRESS_ACQUIRED (R370). -/
  | addressAcquired (p : Fin 8)
  /-- CONGESTION_NOTIFICATION (R384). -/
  | congestionNotification (qp : Nat)
  /-- RATE_RAISE (R384). -/
  | rateRaise (qp : Nat)
  /-- ACK_TIMEOUT (R384). -/
  | ackTimeout (qp : Nat)
  /-- PTP_EVENT_MESSAGE (R387). -/
  | ptpEventMessage (p : Fin 8) (egress : Bool) (seq : BitVec 16) (t : Nat)
  /-- TET_EVT_CLR (R389). -/
  | tetEvtClr (p : Fin 8) (v : BitVec 32)
  /-- DISCOVER (R392). -/
  | discover (net : Fin 2) (msg : Bytes)
  /-- HELLO (R392). -/
  | hello (net : Fin 2) (msg : Bytes)
  /-- BEACON (R394). -/
  | beacon (net : Fin 2) (msg : Bytes) (t : Nat)
  /-- JOIN (R395). -/
  | join (net : Fin 2) (msg : Bytes)
  /-- JOIN_RETRY (R395). -/
  | joinRetry
  /-- ADMIT (R396). -/
  | admitMsg (net : Fin 2) (msg : Bytes)
  /-- REJECT (R397). -/
  | reject (net : Fin 2) (msg : Bytes)
  /-- READY (R396). -/
  | ready (msg : Bytes)
  /-- READY_TIMEOUT (R396). -/
  | readyTimeout (rank : BitVec 16)
  /-- ADMISSION_DEADLINE (R398). -/
  | admissionDeadline (rank : BitVec 16)
  /-- NO_BEACON (R394). -/
  | noBeacon
  /-- STATUS (R407). -/
  | status (net : Fin 2) (msg : Bytes)
  /-- STATUS_TIMEOUT (R407). -/
  | statusTimeout (rank : BitVec 16)
  /-- FAIL (R407). -/
  | failMsg (msg : Bytes)
  /-- PLACE (R400). -/
  | place (msg : Bytes)
  /-- PLACE_ACK (R400). -/
  | placeAck (msg : Bytes)
  /-- PLACEMENT_RETRY (R401). -/
  | placementRetry
  /-- COPY (R393). -/
  | copy (msg : Bytes)
  /-- COPY_ACK (R393). -/
  | copyAck (msg : Bytes)
  /-- MIRROR_ACK_TIMEOUT (R404). -/
  | mirrorAckTimeout (copyId : BitVec 64)
  /-- JOURNAL (R406). -/
  | journal (msg : Bytes)
  /-- JOURNAL_ACK (R406). -/
  | journalAck (msg : Bytes)
  /-- NOVZEOW_QUERY (R416). -/
  | novzeowQuery (msg : Bytes)
  /-- ANSWER (R416). -/
  | answer (msg : Bytes)
  /-- LEVEL (R418). -/
  | level (msg : Bytes)
  /-- TAKEOVER (R414). -/
  | takeover (msg : Bytes)
  /-- VOTE (R414). -/
  | vote (msg : Bytes)
  /-- TAKEOVER_TIMEOUT (R414). -/
  | takeoverTimeout
  /-- LOCATE (R411). -/
  | locate (net : Fin 2) (msg : Bytes)
  /-- DRAIN (R419). -/
  | drain (net : Fin 2) (msg : Bytes)
  /-- DRAIN_DONE (R419). -/
  | drainDone (rank : BitVec 16)
  /-- FAULT_REPORT (R425). -/
  | faultReport (f : FaultIn)
  /-- QUIET_PERIOD_END (R434). -/
  | quietPeriodEnd
  /-- DROGUE_PARITY_ERROR (R436). -/
  | drogueParityError
  /-- DRG_CAP_CLR (R439). -/
  | drgCapClr (v : BitVec 32)
  /-- DRG_HB (R437). -/
  | drgHb (master : BitVec 16) (v : BitVec 32)
  /-- HEARTBEAT_MISS (R437). -/
  | heartbeatMiss (core : Fin 5)
  /-- MANAGEMENT_WATCHDOG (R437). -/
  | managementWatchdog
  /-- PAR_FLIP_MASK (R423). -/
  | parFlipMask (g : BitVec 8) (v : BitVec 32)
  /-- GET_VERSION (R449). -/
  | getVersion (req : Bytes)
  /-- GET_CAPABILITIES (R449). -/
  | getCapabilities (req : Bytes)
  /-- NEGOTIATE_ALGORITHMS (R449). -/
  | negotiateAlgorithms (req : Bytes)
  /-- GET_DIGESTS (R449). -/
  | getDigests (req : Bytes)
  /-- GET_CERTIFICATE (R448). -/
  | getCertificate (req : Bytes)
  /-- CHALLENGE (R449). -/
  | challenge (req : Bytes)
  /-- GET_MEASUREMENTS (R451). -/
  | getMeasurements (req : Bytes)
  /-- CHUNK_GET (R449). -/
  | chunkGet (req : Bytes)
  /-- GET_PQ_CERT (R450). -/
  | getPqCert (req : Bytes)
  /-- GET_PQ_SIGNATURE (R450). -/
  | getPqSignature (req : Bytes)
  /-- GET_NONCE (R450). -/
  | getNonce (req : Bytes)
  /-- OWNER_SET (R446). -/
  | ownerSet (req : Bytes)
  /-- OWNER_REVOKE (R446). -/
  | ownerRevoke (req : Bytes)
  /-- RD (R489). -/
  | rd (hdr wide : Bool) (addr : BitVec 64) (wait : Bool)
  /-- WR (R489). -/
  | wr (hdr wide : Bool) (addr : BitVec 64) (v : BitVec 32) (par wait : Bool)
  /-- RD_NEXT (R489). -/
  | rdNext (hdr wait : Bool)
  /-- WR_NEXT (R489). -/
  | wrNext (hdr : Bool) (v : BitVec 32) (par wait : Bool)
  /-- WR_SAME (R489). -/
  | wrSame (hdr : Bool) (v : BitVec 32) (par wait : Bool)
  /-- LINE_RESET (R491). -/
  | lineReset (high low : Nat)
  /-- UNLOCK (R454). -/
  | unlock
  /-- TOKEN_CHECK_DONE (R454). -/
  | tokenCheckDone
  /-- RELOCK (R496). -/
  | relock
  /-- CLR_FAULT (R498). -/
  | clrFault
  /-- DBG_RCV_DATA (R497). -/
  | dbgRcvData (v : BitVec 32)
  /-- RCV_COMMIT (R497). -/
  | rcvCommit
  /-- DBG_HALT_SET (R493). -/
  | dbgHaltSet (v : BitVec 32)
  /-- DBG_HALT_CLR (R493). -/
  | dbgHaltClr (v : BitVec 32)
  /-- DBG_STEP (R494). -/
  | dbgStep (v : BitVec 32)
  /-- BREAKPOINT_HIT (R493). -/
  | breakpointHit (u : BpUnit)
  /-- NVME_MI_BASIC (R483). -/
  | nvmeMiBasic (code : BitVec 8)
  /-- FRU_READ (R483). -/
  | fruRead (ofs len : Nat)
  /-- CLUSTER_RESET_DONE (R460). -/
  | clusterResetDone (c : Fin 8)
  /-- ENVELOPE_CONTROLLER_RESET_DONE (R460). -/
  | envelopeControllerResetDone (n : Fin 8) (rates : List (BitVec 3))
  /-- BRIDLE_RESET_DONE (R460). -/
  | bridleResetDone
  /-- CORE_RESTART_DONE (R437). -/
  | coreRestartDone (core : Fin 4)
  /-- RAIL_RECOVERED (R470). -/
  | railRecovered (rail : Fin 6)
  /-- DROOP_RECOVERED (R473). -/
  | droopRecovered (g : Fin 16)
  deriving DecidableEq, Repr

end Sys2Proof
end

