-- ==== Sys2Proof/Config.lean ====
section
/-! DEFINITION. What the spec leaves open: constants and functions with no body. No proof can see a value of any of them, so a statement holds whatever they are. -/

namespace Sys2Proof.Config

/-- Free 32-bit word number `n` (log 7). -/
opaque freeWord : Nat → W32

/-- Byte `i` of the output number `n` of the security core's CTR_DRBG (19 R450; log 4). -/
opaque drbg : Nat → Nat → Byte

/-- SHA-384 (FIPS 180), a named standard the spec does not restate (log 4). -/
opaque sha384 : Bytes → Bytes

/-- RSASSA-PSS verification under a 384-byte modulus with exponent 65,537: modulus, message, signature (19 R440, R441; log 4). -/
opaque rsaVerify : Bytes → Bytes → Bytes → Bool

/-- SLH-DSA-SHA2-192s verification: public key, message, signature (19 R441; log 4). -/
opaque slhVerify : Bytes → Bytes → Bytes → Bool

/-- The identity set's RSA signature over a message (19 R449; log 4). -/
opaque rsaSign : Bytes → Bytes

/-- The identity set's SLH-DSA signature over a message (19 R450; log 4). -/
opaque slhSign : Bytes → Bytes

/-- Modulus and SLH-DSA public key of vendor sets V0 to V3, in the boot ROM (19 R440). -/
opaque vendorKey : Nat → Bytes × Bytes

/-- The certificate chains: 0 the RSA chain, 1 the SLH-DSA chain (19 R448). -/
opaque certChain : Nat → Bytes

/-- The boot ROM (19 R451, measurement 1). -/
opaque bootRom : Bytes

/-- The bytes of a container of method 1 or 2 that the Reel makes of a unit: the choice of code lengths and of the dictionary is the Reel's (09 R215 to R217; log 5). -/
opaque container : BitVec 2 → Byte → Bytes → Bytes

/-- Bytes of the NVM Express Identify structures and log pages that the spec leaves to NVM Express: structure number and offset (15 R345, R346; log 10). -/
opaque identifyByte : Nat → Nat → Byte

/-- The FRU EEPROM's bytes (21 R483). -/
opaque fruByte : Nat → Byte

/-- Where the Bridle places a dispatched record in a cluster's staging, in 64-byte lines, by draw number (10 R241): the spec names no address. -/
opaque recordLine : Nat → Nat

/-- Where the returns of a token and layer stand in the routing cluster's staging, in 64-byte lines, by context, position and layer (10 R238): the spec names no address. -/
opaque returnLine : W32 → W32 → W16 → Nat

/-- The 256-entry seed table of the refit's reciprocal square root, part of the firmware (08 R199 step 4). -/
opaque rsqrtSeed : Byte → W32

/-- Where an expert's refit finds its scales in the tables that the spec says hold them (08 R186, R196): by layer and expert, the slot of a parameter's gradient in the refit table, and the first block-scale bytes of the first moment in the refit table and of the serving weights in a replacement table. Sarune lays the tables out. -/
opaque gradSlot : Nat → Nat → Nat → Nat
opaque momentBlock : Nat → Nat → Nat
opaque servingBlock : Nat → Nat → Nat

/-- Word `i` of the handler store that a firmware image carries (07 R181): the spec states no handler's words. -/
opaque handlerWord : Bytes → Nat → W64

/-- A free byte: draw number and place within the draw: KV entries that the programs write (10 R251), values the spec calls undefined (07 R172; log 7). -/
opaque freeByte : Nat → Nat → Byte

/-- The fused base MAC address of the ports (16 R370). -/
opaque macBase : BitVec 48

end Sys2Proof.Config
end

