-- ==== Sys2Proof/Machine/Bits.lean ====
section
/-! DEFINITION. Bytes, little-endian fields, bit fields, CRCs and saturating counts (00 R6, R7, R9). -/

namespace Sys2Proof.Machine

/-- Byte `i` of a run of bytes, 0 beyond its end. -/
def byteAt (b : Bytes) (i : Nat) : Byte := b.getD i 0

/-- The little-endian value of `n` bytes from offset `o` (R7). -/
def leNat (b : Bytes) (o : Nat) : Nat → Nat
  | 0 => 0
  | n + 1 => (byteAt b o).toNat + 256 * leNat b (o + 1) n

/-- A field of `n` bytes at offset `o` as a bit vector. -/
def le (w : Nat) (b : Bytes) (o : Nat) : BitVec w := BitVec.ofNat w (leNat b o (w / 8))

/-- `n` bytes of `b` from offset `o`, zero beyond its end. -/
def slice (b : Bytes) (o n : Nat) : Bytes :=
  let r := (b.drop o).take n
  r ++ List.replicate (n - r.length) 0

/-- Are the `n` bytes from offset `o` all zero (R11)? -/
def zeros (b : Bytes) (o n : Nat) : Bool := (slice b o n).all (· == 0)

/-- The `n` little-endian bytes of a value. -/
def toLe (v : Nat) : Nat → Bytes
  | 0 => []
  | n + 1 => BitVec.ofNat 8 v :: toLe (v / 256) n

/-- Bits [hi:lo] of a register or word. -/
def bits {w : Nat} (v : BitVec w) (hi lo : Nat) : Nat := v.toNat / 2 ^ lo % 2 ^ (hi + 1 - lo)

/-- Bit `i`. -/
def bit {w : Nat} (v : BitVec w) (i : Nat) : Bool := v.getLsbD i

/-- 1 for true, 0 for false. -/
def b2n (b : Bool) : Nat := if b then 1 else 0

/-- A bit set or cleared. -/
def setBit {w : Nat} (v : BitVec w) (i : Nat) (b : Bool) : BitVec w :=
  if b then v ||| BitVec.ofNat w (2 ^ i) else v &&& ~~~ BitVec.ofNat w (2 ^ i)

/-- The bits of `v` set in `m` are cleared: a WC write (R9). -/
def clearBits {w : Nat} (v m : BitVec w) : BitVec w := v &&& ~~~ m

/-- A count that stops at all ones. -/
def satInc {w : Nat} (v : BitVec w) : BitVec w := if v = BitVec.allOnes w then v else v + 1

/-- `n` added to a count that stops at all ones. -/
def satAdd {w : Nat} (v : BitVec w) (n : Nat) : BitVec w :=
  if v.toNat + n < 2 ^ w then BitVec.ofNat w (v.toNat + n) else BitVec.allOnes w

/-- Low and high words of a 64-bit value. -/
def lo32 (v : Nat) : W32 := BitVec.ofNat 32 v
def hi32 (v : Nat) : W32 := BitVec.ofNat 32 (v / 2 ^ 32)

/-- The quotient rounded up. -/
def ceilDiv (a b : Nat) : Nat := (a + b - 1) / b

/-- Units of 64 KiB that hold `n` bytes. -/
def units (n : Nat) : Nat := ceilDiv n 65536

/-- One bit of CRC-32 of IEEE 802.3, reflected. -/
def crc32Bit (c : W32) : W32 := if c.getLsbD 0 then (c >>> 1) ^^^ 0xEDB88320 else c >>> 1

/-- `n` bits. -/
def crc32Bits (c : W32) : Nat → W32
  | 0 => c
  | n + 1 => crc32Bits (crc32Bit c) n

/-- The register after each byte. -/
def crc32Bytes (c : W32) : Bytes → W32
  | [] => c
  | b :: r => crc32Bytes (crc32Bits (c ^^^ b.zeroExtend 32) 8) r

/-- CRC-32 of IEEE 802.3 over a run of bytes (03 R62, 13 R303). -/
def crc32 (b : Bytes) : W32 := ~~~ crc32Bytes 0xFFFFFFFF b

/-- One bit of the CRC-16 with x^16 + x^15 + x^2 + 1, initial value 0, bit 0 of the data first (16 R376). -/
def crc16Bit (c : W16) (d : Bool) : W16 :=
  if c.getLsbD 15 != d then (c <<< 1) ^^^ 0x8005 else c <<< 1

/-- `n` bits of a 32-bit field from bit `i`. -/
def crc16Bits (v : W32) (c : W16) (i : Nat) : Nat → W16
  | 0 => c
  | n + 1 => crc16Bits v (crc16Bit c (v.getLsbD i)) (i + 1) n

/-- The CRC-16 of a control or status field of a training frame (16 R376). -/
def crc16 (v : W32) : W16 := crc16Bits v 0 0 32

/-- The bytes of a sparse store listed from `k`. -/
def cellsOf (k : Nat) : Bytes → List (Nat × Byte)
  | [] => []
  | b :: r => if b = 0 then cellsOf (k + 1) r else (k, b) :: cellsOf (k + 1) r

/-- Whether a value read as two's complement lies below zero, and its value. -/
def sgn {w : Nat} (v : BitVec w) : Int := v.toInt

/-- The list with element `i` replaced by `f` of it. -/
def modifyAt {α : Type} (f : α → α) : List α → Nat → List α
  | [], _ => []
  | a :: r, 0 => f a :: r
  | a :: r, n + 1 => a :: modifyAt f r n

/-- The list with element `i` replaced. -/
def setAt {α : Type} (l : List α) (i : Nat) (v : α) : List α := modifyAt (fun _ => v) l i

/-- `0, 1, … , n - 1`. -/
def upTo (n : Nat) : List Nat := List.range n

/-- The sum of `f` over the list. -/
def sumBy {α : Type} (f : α → Nat) (l : List α) : Nat := l.foldl (fun a x => a + f x) 0

/-- A bit vector whose bit `i` is `f i`. -/
def mkBits (w : Nat) (f : Nat → Bool) : BitVec w :=
  BitVec.ofNat w (sumBy (fun i => if f i then 2 ^ i else 0) (upTo w))

/-- Insert into a list kept in order of `lt`, after its equals. -/
def insertBy {α : Type} (lt : α → α → Bool) (x : α) : List α → List α
  | [] => [x]
  | y :: r => if lt x y then x :: y :: r else y :: insertBy lt x r

/-- The list in order of `lt`, equals in their old order. -/
def sortBy {α : Type} (lt : α → α → Bool) (l : List α) : List α := l.foldl (fun a x => insertBy lt x a) []

end Sys2Proof.Machine
end

