-- ==== Sys2Proof/Machine/Sparse.lean ====
section
/-! DEFINITION. Sparse data by key in one canonical form: keys strictly rising, no entry equal to what an unlisted key reads as. Every store of the module (SRAM, staging, map, object contents) is held so. -/

namespace Sys2Proof.Machine

/-- What key `k` holds, `d` where it is not listed. -/
def Sparse.get {α : Type} (d : α) : List (Nat × α) → Nat → α
  | [], _ => d
  | (j, v) :: r, k => if j = k then v else Sparse.get d r k

/-- `v` written at key `k`: an entry equal to `d` is removed. -/
def Sparse.set {α : Type} [DecidableEq α] (d : α) : List (Nat × α) → Nat → α → List (Nat × α)
  | [], k, v => if v = d then [] else [(k, v)]
  | (j, w) :: r, k, v =>
    if k < j then (if v = d then (j, w) :: r else (k, v) :: (j, w) :: r)
    else if k = j then (if v = d then r else (k, v) :: r)
    else (j, w) :: Sparse.set d r k v

/-- Every key of the list is above `b`, the keys rise strictly, and no entry is `d`. -/
def Sparse.wfFrom {α : Type} [DecidableEq α] (d : α) : Option Nat → List (Nat × α) → Bool
  | _, [] => true
  | b, (k, v) :: r => (match b with | none => true | some x => decide (x < k)) && decide (v ≠ d) && Sparse.wfFrom d (some k) r

/-- The canonical form. -/
def Sparse.wf {α : Type} [DecidableEq α] (d : α) (m : List (Nat × α)) : Bool := Sparse.wfFrom d none m

/-- A run of values written at ascending keys from `k`. -/
def Sparse.setRun {α : Type} [DecidableEq α] (d : α) (m : List (Nat × α)) (k : Nat) : List α → List (Nat × α)
  | [] => m
  | v :: vs => Sparse.setRun d (Sparse.set d m k v) (k + 1) vs

/-- The values at `n` ascending keys from `k`. -/
def Sparse.getRun {α : Type} (d : α) (m : List (Nat × α)) (k : Nat) : Nat → List α
  | 0 => []
  | n + 1 => Sparse.get d m k :: Sparse.getRun d m (k + 1) n

/-- Every entry whose key lies in `[lo, hi)` removed. -/
def Sparse.clearRange {α : Type} (m : List (Nat × α)) (lo hi : Nat) : List (Nat × α) :=
  m.filter fun p => !(decide (lo ≤ p.1) && decide (p.1 < hi))

/-- A set of marked keys (poison marks, bad parity): a sparse map into Bool whose default is false. -/
abbrev Marks := List (Nat × Bool)

/-- Is key `k` marked? -/
abbrev Marks.has (m : Marks) (k : Nat) : Bool := Sparse.get false m k

/-- Mark or unmark key `k`. -/
abbrev Marks.put (m : Marks) (k : Nat) (b : Bool) : Marks := Sparse.set false m k b

/-- Mark or unmark `n` ascending keys from `k`. -/
def Marks.putRun (m : Marks) (k : Nat) (b : Bool) : Nat → Marks
  | 0 => m
  | n + 1 => Marks.putRun (Marks.put m k b) (k + 1) b n

/-- Is any of the `n` ascending keys from `k` marked? -/
def Marks.anyRun (m : Marks) (k n : Nat) : Bool := m.any fun e => e.2 && decide (k ≤ e.1) && decide (e.1 < k + n)

end Sys2Proof.Machine
end

