-- ==== Sys2Proof/Machine/TypesImage.lean ====
section
/-! DEFINITION. The frame timer, the Loft image and what loading one holds (02, 03). -/

namespace Sys2Proof.Machine

/-- A slot entry of the frame table (02 R36). -/
structure Slot where
  start    : Nat
  len      : Nat
  cls      : BitVec 2
  clusters : BitVec 8
  owner    : Nat
  kind     : BitVec 4
  deriving DecidableEq, Repr

/-- A row of the frame table (02 R35). -/
structure Row where
  progTgt  : BitVec 8
  eraseTgt : BitVec 8
  slots    : List Slot
  deriving DecidableEq, Repr

/-- A cluster entry of the Structure section (03 R65). -/
structure ClusterCfg where
  fusion   : Nat
  stageMib : Nat
  ovfIeee  : Bool
  deriving DecidableEq, Repr

/-- A contract entry (03 R67). -/
structure Contract where
  id          : Nat
  maxPassUs   : Nat
  tenant      : Nat
  lat         : Nat
  horizon     : Nat
  window      : Nat
  maxReq      : Nat
  workCus     : Nat
  maxContexts : Nat
  deriving DecidableEq, Repr

/-- A tenant entry; quotas in units of 64 KiB (03 R68). -/
structure Tenant where
  id  : Nat
  qT0 : Nat
  qT1 : Nat
  qT2 : Nat
  qT3 : Nat
  deriving DecidableEq, Repr

/-- A port byte (03 R71). -/
structure PortCfg where
  use  : Bool
  net  : Nat
  mode : Nat
  deriving DecidableEq, Repr

/-- An entry of the Media section (03 R74). -/
structure NsOpen where
  nsid : Nat
  mode : Nat
  deriving DecidableEq, Repr

/-- A checked Loft image: every field of its header and sections that takes effect (03 R62 to R75). -/
structure Image where
  schema       : Nat
  imageId      : Nat
  bodyDigest   : Bytes
  signed       : Bool
  keySlot      : Nat
  qryStage     : Nat
  brdStage     : Nat
  relStage     : Nat
  m2bf16       : Bool
  clusters     : List ClusterCfg
  periodUs     : Nat
  bgSharePm    : Nat
  src          : Nat
  outEn        : Bool
  inDiv        : Nat
  outDiv       : Nat
  rows         : List Row
  contracts    : List Contract
  tenants      : List Tenant
  ports        : List PortCfg
  mtu          : Nat
  role         : Nat
  rank         : Nat
  expectedSize : Nat
  quorum       : Nat
  groupId      : Nat
  powerCapW    : Nat
  quietMs      : Nat
  wV           : Nat
  wA           : Nat
  wW           : Nat
  openAll      : Bool
  nsOpen       : List NsOpen
  deriving DecidableEq, Repr

/-- The frame timer (02). Times are FRM_TIME in ns. -/
structure Frame where
  /-- FRM_TIME: ns since power-good (R32). -/
  time       : Nat := 0
  /-- FRM_NUM (R32). -/
  num        : BitVec 48 := 0
  /-- FRM_GRP_OFS (R33). -/
  grpOfs     : BitVec 48 := 0
  /-- FRM_TIME of the last tick. -/
  tickTime   : Nat := 0
  /-- FRM_TIME at which the next tick is due (R31). -/
  nextTick   : Nat := 2000000
  periodUs   : Nat := 2000
  rowIdx     : Nat := 0
  /-- FRM_STATUS.HELD (R53). -/
  held       : Bool := true
  /-- FRM_STATUS.SYNC_STATE: 0 free-running, 1 acquiring, 2 locked, 3 slewing, 4 holdover. -/
  syncState  : BitVec 3 := 0
  phaseErr   : W32 := 0
  ovrCnt     : W32 := 0
  slotOvrCnt : W32 := 0
  lastOvrClusters : BitVec 8 := 0
  lastOvrFreeze   : Bool := false
  lastOvrLate     : Bool := false
  lastOvrFrame    : W16 := 0
  /-- FRM_EVT: bit 0 STEP, 1 SPURIOUS_EDGE, 2 SYNC_LOST, 3 SYNC_RESTORED, 4 FRAME_OVR. -/
  evt        : BitVec 5 := 0
  /-- Frame overrun already counted in the current frame, and its parts (R45). -/
  ovrClusters : BitVec 8 := 0
  ovrFreeze   : Bool := false
  ovrLate     : Bool := false
  /-- The trim of the free-running rate, ns a frame (R47, R49). -/
  rate       : Int := 0
  /-- An event has been accepted since the last tick: the rate is trimmed by it (R47). -/
  trimDue    : Bool := false
  /-- Expected events in a row, up to the last tick, that brought no accepted one (R49). -/
  missed     : Int := 0
  /-- Ticks since acquisition began (R48). -/
  acqFrames  : Nat := 0
  /-- Slewing to a restored source, at the limit of R46 (R49). -/
  atLimit    : Bool := false
  /-- Phase error still to be slewed out, ns (R47, R49). -/
  residual   : Int := 0
  /-- Reference events in a row within 1 µs of their interval (R48, R49). -/
  goodEvents : Nat := 0
  /-- Acquiring or in holdover: the time of the last event seen (R48, R49). -/
  lastEvent  : Option Nat := none
  /-- Frames since the last beacon heard on either network (R49, 17 R394). -/
  sinceBeacon : Nat := 0
  /-- Rows start at the next tick: lock was confirmed, or acquisition gave up (R48). -/
  startRows  : Bool := false
  /-- No pass starts around a step, until the next tick (R50). -/
  stepping   : Bool := false
  /-- A Spar reset has ended in this frame: rows resume at the next tick (R52). -/
  resume     : Bool := false
  /-- SYNC_OUT: none while high-impedance (R51). -/
  syncOut    : Option Bool := none
  deriving DecidableEq, Repr

/-- An Apply whose checks run (03 R60, R61). -/
structure Checking where
  id       : CmdId
  mode     : Nat
  actFrame : BitVec 48
  deriving DecidableEq, Repr

/-- An image that waits for its activation tick (03 R60, R61). `id` is the Apply that still waits for its completion. -/
structure Pending where
  id       : Option CmdId
  mode     : Nat
  actFrame : BitVec 48
  image    : Image
  deriving DecidableEq, Repr

/-- Loading and holding the Loft image (03). -/
structure Loft where
  staging  : List Host.Cell := []
  extent   : Nat := 0
  checking : Option Checking := none
  pending  : Option Pending := none
  image    : Option Image := none
  /-- GON_IMG_STATUS.LAST: 0 none, 1 activated, 2 rejected, 3 discarded, 4 cancelled. -/
  last     : BitVec 3 := 0
  reason   : Byte := 0
  detail   : W16 := 0
  actFrame : BitVec 48 := 0
  count    : W32 := 0
  deriving DecidableEq, Repr

end Sys2Proof.Machine
end

