-- ==== Sys2Proof/Machine/TypesSpar.lean ====
section
/-! DEFINITION. The Spar: tiles, vector units, sequencers, interrupt controllers, dispatcher and contracts (05, 06, 07, 08, 11). -/

namespace Sys2Proof.Machine

/-- One matrix tile (05). Store keys: operand store word × 128 + bank, its marks byte by byte, 4 × that key + byte; accumulator store half × 65,536 + index. -/
structure Tile where
  store     : List (Nat × W32) := []
  storeMark : Marks := []
  acc       : List (Nat × W32) := []
  accMark   : Marks := []
  /-- Which half (0 or 1) is the committed half (R120, R122). -/
  committed : Bool := false
  /-- SPC_MT_STATUS.ACTIVE_REG (R119). -/
  activeReg : Bool := false
  /-- The two weight registers of every cell, key row × 128 + column: the groups of G bits that a cell holds (R119). -/
  reg0      : List (Nat × W32) := []
  reg1      : List (Nat × W32) := []
  /-- Cycles until a first weight set has been loaded into the shadow registers (R119). -/
  loadLeft  : Nat := 0
  /-- SPC_MT_STATUS.STATE outside freeze and sleep: 0 idle, 1 loading weights, 2 running. -/
  state     : BitVec 3 := 0
  /-- SPC_MT_FLAGS: bit 0 ACC_SAT, 1 CVT_OVF, 2 CVT_NAN, 3 WT_POISON, 4 POISON_OUT, 5 PAR_ERR. -/
  flags     : BitVec 6 := 0
  /-- SPC_MT_REPAIR, from the repair fuses. -/
  repair    : W32 := 0
  busy      : W64 := 0
  prod      : W64 := 0
  parPath   : W16 := 0
  parStore  : W16 := 0
  /-- Frames (FRM_NUM) of path faults of the last 1,024 frames (R126). -/
  faults    : List Nat := []
  deriving DecidableEq, Repr

/-- A scalar register with its poison mark and PRESENT tag (06 R132). -/
structure SReg where
  val     : W32 := 0
  poison  : Bool := false
  present : Bool := false
  deriving DecidableEq, Repr

/-- One vector unit (06). Vector register keys: register × 512 + lane. -/
structure Vu where
  v       : List (Nat × W32) := []
  vMark   : Marks := []
  m       : List (BitVec 512) := List.replicate 8 0
  mMark   : List (BitVec 512) := List.replicate 8 0
  s       : List SReg := List.replicate 32 {}
  vl      : Nat := 512
  /-- SPC_VU_FLAGS: bit 0 ACC_SAT, 1 CVT_OVF, 2 CVT_NAN, 3 INT_SAT, 4 EMPTY, 5 PERM_RANGE, 6 POISON_OUT, 7 VADDR, 8 PAR_ERR. -/
  flags   : BitVec 9 := 0
  fValid  : Bool := false
  fOp     : BitVec 6 := 0
  fKind   : Bool := false
  fLane   : BitVec 9 := 0
  fAddr   : W32 := 0
  busy    : W64 := 0
  ops     : W64 := 0
  parPath  : W16 := 0
  parStore : W16 := 0
  permCnt  : W32 := 0
  emptyCnt : W32 := 0
  deriving DecidableEq, Repr

/-- Where a pass stands (07 R167 to R178). -/
inductive PassPhase where
  /-- Queued: it may be started. -/
  | queued
  /-- Held: a spawn whose spawner has not committed (R178). -/
  | held
  /-- Running on a cluster. -/
  | running (c : Nat)
  /-- Discarded by WT_POISON; its reload has not ended (R173). -/
  | reloading (c : Nat)
  deriving DecidableEq, Repr

/-- The events of the present run that its completion record reports (07 R179). -/
structure RunEvents where
  empty   : Bool := false
  perm    : Bool := false
  poison  : Bool := false
  late    : Bool := false
  frozen  : Bool := false
  cvtOvf  : Bool := false
  cvtNan  : Bool := false
  sat     : Bool := false
  spawnRefused : Bool := false
  overrun : Bool := false
  overrunUs : Nat := 0
  deriving DecidableEq, Repr

/-- A pass in the dispatcher's hands (07 R157, R166, R172, R173). -/
structure PassEntry where
  /-- Submission number, the model's name of the entry. -/
  uid       : Nat
  desc      : Bytes
  prog      : List W64
  src       : PassSrc
  phase     : PassPhase := .queued
  /-- It was discarded once and placed again (R172). -/
  rerun     : Bool := false
  /-- WT_POISON reloads so far (R173). -/
  reloads   : Nat := 0
  /-- The cluster a re-run is bound to. -/
  onCluster : Option Nat := none
  /-- A spawn runs only in slots that open after this time (R178). -/
  notBefore : Nat := 0
  /-- Loft address of the scale table that the Gondola bound the pass to, 0 for none (08 R189). -/
  binding   : W64 := 0
  /-- The cluster that holds the pass's pins, from its first start to its final end (R170, R172). -/
  pinned    : Option Nat := none
  /-- Flags of discarded runs that its record still reports: LATE, OVERRUN, FROZEN and SPAWN_REFUSED (R179). -/
  kept      : RunEvents := {}
  /-- Start and cycles of its last run (R179). -/
  lastFrame : BitVec 48 := 0
  lastUs    : Nat := 0
  lastCyc   : Nat := 0
  deriving DecidableEq, Repr

/-- A matrix run accepted by a unit (07 R162, R163). -/
structure MRun where
  unit : Nat
  rec_ : RunRec
  /-- Reduction positions of the run that are not bypassed (05 R109). -/
  len  : Nat
  /-- Run-cycle counter when the unit accepted it. -/
  from_ : Nat := 0
  deriving DecidableEq, Repr

/-- The pass that runs on a cluster (07 R170). -/
structure Running where
  uid        : Nat
  startTime  : Nat
  startFrame : BitVec 48
  startUs    : Nat
  /-- Its first word has issued. -/
  begun      : Bool := false
  /-- Its program has ended. -/
  ended      : Bool := false
  ev         : RunEvents := {}
  /-- Spawns accepted in this run, oldest first (R178). -/
  spawns     : List PassEntry := []
  /-- Runs accepted and not yet drained, oldest first. -/
  runs       : List MRun := []
  /-- Units whose last run had DEST 3: the next run's chains continue (R163). -/
  chained    : BitVec 8 := 0
  /-- Units whose working half has been written in this run. -/
  touched    : BitVec 8 := 0
  /-- Its slot closed while it ran; the overrun counts from this time (02 R44). -/
  overFrom   : Option Nat := none
  /-- The slot's owner key (class, contract index). -/
  owner      : Nat × Nat
  deriving DecidableEq, Repr

/-- One sequencer (07). -/
structure Seq where
  passId     : W32 := 0
  /-- Run-cycle counter (R170), and the part of a cycle beyond it in ns × MHz. -/
  cyc        : Nat := 0
  cycFrac    : Nat := 0
  pc         : Nat := 0
  bank       : Bool := false
  prog0      : List W64 := []
  prog1      : List W64 := []
  /-- uid of the pass whose program each bank holds. -/
  load0      : Option Nat := none
  load1      : Option Nat := none
  run        : Option Running := none
  commitCnt  : W32 := 0
  discardCnt : W32 := 0
  rerunCnt   : W32 := 0
  wdogCnt    : W32 := 0
  lateCnt    : W32 := 0
  fValid     : Bool := false
  fCause     : BitVec 3 := 0
  fUnit      : BitVec 4 := 0
  fPc        : BitVec 12 := 0
  fPass      : W32 := 0
  deriving DecidableEq, Repr

/-- One interrupt controller (07 R180 to R184), with its retention registers (R183). -/
structure Ic where
  pend    : BitVec 64 := 0
  en      : BitVec 64 := 7
  busy    : Bool := false
  source  : BitVec 6 := 0
  /-- Index in the handler store of the running handler's next word (R181). -/
  pc      : Nat := 0
  taken   : W32 := 0
  retPend  : BitVec 64 := 0
  retEn    : BitVec 64 := 0
  retTaken : W32 := 0
  latched  : BitVec 64 := 0
  deriving DecidableEq, Repr

/-- The scale store of a cluster (08 R190, R191). `table` is the Loft address of the table it holds. -/
structure Sct where
  valid     : Bool := false
  loading   : Bool := false
  table     : W64 := 0
  slotCount : Nat := 0
  tableId   : W64 := 0
  loadCnt   : W32 := 0
  deriving DecidableEq, Repr

/-- The slot that is open on a cluster (02 R34, R44). -/
structure OpenSlot where
  idx      : Nat
  owner    : Nat × Nat
  kind     : BitVec 4
  openedAt : Nat
  closeAt  : Nat
  deriving DecidableEq, Repr

/-- A copy in T0 that the Reel has filled (09 R206, R214): SPACE, tile position, first byte or word, bytes, the Loft address of its source and the tenant that it is charged to. -/
structure T0Copy where
  space   : Nat
  tile    : Nat
  base    : Nat
  len     : Nat
  src     : W64
  tenant  : Nat
  /-- Within the ranges of a pass that is pinned on the cluster: counted through that pass (R206). -/
  pinned  : Bool := false
  /-- The store still holds it; lost in Array Sleep or Hold, it waits to be streamed in again (07 R183). -/
  present : Bool := true
  deriving DecidableEq, Repr

/-- One cluster. -/
structure Cluster where
  fusion    : Nat := 0
  ovfIeee   : Bool := false
  stageMib  : Nat := 0
  mask      : BitVec 8 := 0
  /-- Structure of a new image that the running pass's end brings (03 R79). -/
  next      : Option ClusterCfg := none
  tiles     : List Tile := List.replicate 8 {}
  vu        : Vu := {}
  seq       : Seq := {}
  ic        : Ic := {}
  /-- Handler store of 1,024 words (07 R181). -/
  hstore    : List W64 := []
  sct       : Sct := {}
  /-- Vector store share, byte address 0 upward (06 R131); its marks, and those of the staging, are bit by bit, 8 × address + bit. -/
  vstore     : List Host.Cell := []
  vstoreMark : Marks := []
  /-- Cluster staging, byte offset in the window, scale store included. -/
  staging     : List Host.Cell := []
  stagingMark : Marks := []
  /-- Reel writes held until the passes that have their words pinned end (05 R118; 07 R170). -/
  heldFills : List Fill := []
  /-- Copies that the Reel has filled (09 R206). -/
  copies    : List T0Copy := []
  slot      : Option OpenSlot := none
  /-- Overrun still to be taken from an owner's next work slots, ns (02 R44). -/
  owed      : List ((Nat × Nat) × Nat) := []
  /-- Times until which a guard band or closing window excludes other owners: (end, owner) (02 R42, R43). -/
  guard     : Option (Nat × (Nat × Nat)) := none
  closing   : Option Nat := none
  /-- In Array Sleep (07 R183). -/
  asleep    : Bool := false
  /-- In a cluster reset (20 R460). -/
  inReset   : Bool := false
  /-- Halted through the debug port (21 R493). -/
  halted    : Bool := false
  /-- Clock level the cluster runs at (20 R468). -/
  level     : BitVec 3 := 0
  /-- Frames since a pass last ran (20 R464). -/
  idleFrames : Nat := 0
  /-- Model whose programs and scale table the cluster holds (11 R262). -/
  model     : W64 := 0
  /-- Target of the next switch slot (11 R262). -/
  switchTo  : Option W64 := none
  deriving DecidableEq, Repr

/-- A contract's registers (11 R267). -/
structure CtEntry where
  id       : Nat := 0
  /-- FRM_NUM of the requests admitted within the window. -/
  admitted : List Nat := []
  queued   : Nat := 0
  admitCnt : W32 := 0
  refuseCnt : W32 := 0
  lateCnt  : W32 := 0
  lastLateFrame : W16 := 0
  lastLateCause : BitVec 7 := 0
  cap      : Nat := 0
  maxLat   : BitVec 13 := 0
  deriving DecidableEq, Repr

/-- A request of class A, B or C that has been accepted and not completed (11 R256, R266). -/
structure Request where
  id          : CmdId
  cls         : BitVec 2
  contract    : Nat
  tenant      : Nat
  admitFrame  : Nat
  deadline    : Nat
  stages      : Nat
  horizonMiss : Bool
  causes      : BitVec 7 := 0
  /-- Extra runs so far, for the FAULT cause (R266). -/
  extraRuns   : Nat := 0
  /-- Pieces it reads, and whether its first tick after admission has passed (09 R222). -/
  pieces      : List (W64 × Nat) := []
  placed      : Bool := false
  deriving DecidableEq, Repr

/-- The dispatcher (07 R166, R185; 11). -/
structure Sched where
  entries     : List PassEntry := []
  nextUid     : Nat := 0
  refusedCnt  : W32 := 0
  droppedCnt  : W32 := 0
  lastRefused : W32 := 0
  switchCnt   : W32 := 0
  bMissCnt    : W32 := 0
  contracts   : List CtEntry := []
  requests    : List Request := []
  /-- Fetch budget already reserved: (group frame, T2 bytes, T3 bytes) (11 R261). -/
  budget      : List (Nat × (Nat × Nat)) := []
  deriving DecidableEq, Repr

end Sys2Proof.Machine
end

