-- ==== Sys2Proof/Machine/TypesSystem.lean ====
section
/-! DEFINITION. The Drogue, parity, security, power, debug and window state (18 to 22). -/

namespace Sys2Proof.Machine

/-- Where the module stands between power and service (20 R457 to R461, 19 R444, R445). -/
inductive Phase where
  /-- No rail but the always-on domain: an input loss, or never powered. `byInput`: the input voltage caused it and PWR_EN stays asserted. -/
  | off (byInput : Bool)
  /-- PWR_EN asserted, rails rising. -/
  | sequencing
  /-- A rail stopped the sequence, or a thermal trip: it waits for PWR_EN to be deasserted. -/
  | stopped
  /-- Power-good or a reset has happened; the boot ROM has not run. -/
  | starting
  /-- ROM recovery (R445). -/
  | recovery
  /-- The firmware of a slot runs; the map is being rebuilt (R444, R327). -/
  | rebuilding
  /-- The bare state has been reached (R56). -/
  | up
  deriving DecidableEq, Repr

/-- A fault capture: FIRST or FATAL (18 R429). -/
structure Capture where
  valid  : Bool := false
  cls    : BitVec 2 := 0
  space  : BitVec 2 := 0
  access : BitVec 3 := 0
  source : Byte := 0
  master : W16 := 0
  addr   : W32 := 0
  addrHi : W32 := 0
  time   : Nat := 0
  frame  : BitVec 48 := 0
  deriving DecidableEq, Repr

/-- The action of a local-fatal fault (18 R426). -/
inductive LocalAct where
  | clusterReset (c : Nat)
  | sparReset
  | envReset (n : Nat)
  | portReset (p : Nat)
  | bridleReset
  | coreRestart (k : Nat)
  | tileWithheld (t : Nat)
  | dieRemoved (die : Nat)
  | nothing
  deriving DecidableEq, Repr

/-- The Drogue (18). -/
structure Drogue where
  /-- DRG_STATUS.STATE: 0 normal, 1 safe state, 2 latched. -/
  state       : BitVec 2 := 0
  self        : Bool := false
  entrySource : Byte := 0
  first       : Capture := {}
  fatal       : Capture := {}
  firstMore   : W16 := 0
  fatalMore   : W16 := 0
  cntCorr     : W32 := 0
  cntDefer    : W32 := 0
  cntLocal    : W32 := 0
  cntFatal    : W32 := 0
  /-- DRG_RECOVERY_COUNT.TOTAL. -/
  total       : W16 := 0
  /-- Times of the exits of the last 600 s; their number is RECENT (R435). -/
  exits       : List Nat := []
  /-- DRG_BITE_CNT of edges 0 to 4. -/
  bites       : List W32 := List.replicate 5 0
  /-- FRM_TIME at which the quiet period last began to run; none while it does not run (R434). -/
  quietFrom   : Option Nat := none
  /-- Exit steps 1 to 3 are under way (R434). -/
  exiting     : Bool := false
  /-- Local-fatal actions that wait for the exit (R433, R434). -/
  waiting     : List LocalAct := []
  /-- Local-fatal faults of the last 10 s: MASTER and time (R428). -/
  locals      : List (W16 × Nat) := []
  /-- FRM_TIME of the last heartbeat of cores 0 to 3 and of the security core, 4 (R437). -/
  hbTime      : List Nat := List.replicate 5 0
  /-- A heartbeat has been written since the start (DRG_HB_STATUS). -/
  hbSeen      : BitVec 5 := 0
  deriving DecidableEq, Repr

/-- Parity (18 R421 to R424, R438). Groups are numbered as R438 numbers them. -/
structure Parity where
  /-- PAR_FLIP_MASK of each group with a mask armed. -/
  masks      : List (Nat × W32) := []
  /-- Bytes whose parity is bad: group × 2^32 + byte number in the group's store. -/
  bad        : Marks := []
  flipCnt    : W32 := 0
  lastValid  : Bool := false
  lastGroup  : Byte := 0
  /-- PAR_POISON_CNT of each group. -/
  poisonCnt  : List (Nat × W32) := []
  deriving DecidableEq, Repr

/-- A management core (18 R437, 21 R495). -/
structure Core where
  /-- It restarts; FRM_TIME at which its last restart began. -/
  restarting : Bool := false
  restartAt  : Nat := 0
  /-- Its heartbeat watch is suspended until its first heartbeat (R437). -/
  watchOff   : Bool := false
  halted     : Bool := false
  /-- Admin commands that its restart aborts once it is over (01 R29). -/
  aborts     : List CmdId := []
  deriving DecidableEq, Repr

/-- The Gondola: identity, window registers, cores (22 R509). -/
structure Gondola where
  stepping  : Byte := 0
  uid       : Bytes := List.replicate 16 0
  fwVersion : W64 := 0
  /-- Novzeow level and Loft schema level of the running firmware (19 R442). -/
  fwGroupLevel : Nat := 0
  fwSchemaMax  : Nat := 0
  poh       : W32 := 0
  winMaster : W16 := 0
  winCause  : BitVec 4 := 0
  winValid  : Bool := false
  winBadAddr : W32 := 0
  winBadCnt  : W32 := 0
  cores     : List Core := List.replicate 4 {}
  deriving DecidableEq, Repr

/-- The key of one namespace: the model's name of the drawn key, and KEY_MODE (19 R452). -/
structure NsKey where
  nsid : Nat
  mode : Byte
  /-- Number of the draw from the DRBG that gave the key. -/
  draw : Nat
  deriving DecidableEq, Repr

/-- Where SPDM stands with the requester (19 R449, R450). -/
structure Spdm where
  /-- 0 nothing, 1 the version is given, 2 the capabilities, 3 the algorithms are agreed. -/
  stage       : Nat := 0
  /-- The exchanges of version, capabilities and algorithms, as the transcript holds them. -/
  vca         : Bytes := []
  /-- Digest and certificate exchanges since the last CHALLENGE. -/
  certs       : Bytes := []
  /-- Measurement exchanges since the last signed one. -/
  meas        : Bytes := []
  /-- What the last signature covered; none once another request followed (R450). -/
  lastSigned  : Option Bytes := none
  /-- Response waiting for Security Receive. -/
  response    : Bytes := []
  /-- A large response that CHUNK_GET fetches: what is left, its next sequence number, whole length and handle. -/
  chunk       : Bytes := []
  chunkSeq    : Nat := 0
  chunkLen    : Nat := 0
  chunkHandle : Byte := 0
  /-- A large request that CHUNK_SEND brings: bytes so far, next sequence number, handle and whole length. -/
  inBuf       : Bytes := []
  inSeq       : Nat := 0
  inHandle    : Byte := 0
  inLen       : Nat := 0
  /-- The requester's DataTransferSize. -/
  peerSize    : Nat := 4096
  deriving DecidableEq, Repr

/-- Security (19). -/
structure Sec where
  /-- Firmware slots 1 to 3 of the boot store. -/
  slots      : List (Option Bytes) := [none, none, none]
  /-- SEC_FW.NEXT. -/
  nextSlot   : BitVec 2 := 0
  /-- Slot last booted to the bare state. -/
  lastBoot   : BitVec 2 := 0
  running    : BitVec 2 := 0
  signer     : BitVec 2 := 0
  failed     : BitVec 3 := 0
  bootOk     : Bool := false
  recovery   : Bool := false
  fallback   : Bool := false
  runSvn     : BitVec 6 := 0
  minSvn     : BitVec 6 := 0
  vendorRevoked : BitVec 4 := 0
  ownerSet      : BitVec 4 := 0
  ownerRevoked  : BitVec 4 := 0
  /-- Owner slots 0 to 3: modulus and SLH-DSA key, empty when not set. -/
  ownerKeys  : List (Bytes × Bytes) := List.replicate 4 ([], [])
  /-- Image being downloaded (R443). -/
  download   : List Host.Cell := []
  downloadLen : Nat := 0
  /-- SEC_DBG_NONCE. -/
  dbgNonce   : Bytes := List.replicate 32 0
  /-- Nonce of GET_NONCE and the time it was issued (R446). -/
  nonce      : Option (Bytes × Nat) := none
  unlocked   : Bool := false
  scope      : BitVec 4 := 0
  keyKind    : Bool := false
  keySlot    : BitVec 2 := 0
  fails      : Nat := 0
  lastResult : Byte := 0
  /-- SHA-384 of the accepted token (R451). -/
  tokenHash  : Bytes := []
  keys       : List NsKey := []
  spdm       : Spdm := {}
  /-- The model's own: how many values have been drawn that the spec leaves open. -/
  draws      : Nat := 0
  deriving DecidableEq, Repr

/-- Hold (20 R465): how far an accepted request has come. -/
inductive HoldPhase where
  | none
  /-- Requested: it begins at the next tick. -/
  | asked
  /-- No pass starts; running passes, programs and erases end. -/
  | ending
  /-- Its FLUSH is being written. -/
  | flushing
  /-- In Hold. -/
  | held
  deriving DecidableEq, Repr

/-- Power, clocks and adaptive loops (20). -/
structure Power where
  /-- PWR_EN is asserted. -/
  enable     : Bool := true
  inputOk    : Bool := true
  pwrFail    : Bool := false
  holdupOk   : Bool := false
  /-- Critical Warning bit 4: the last hold-up test failed (R459). -/
  holdupBad  : Bool := false
  thermalTrip : Bool := false
  target     : BitVec 3 := 0
  softSrc    : BitVec 8 := 0
  voltage    : W16 := 0
  current    : W16 := 0
  /-- Samples in a row below 36.0 V and above 58.0 V (R457). -/
  lowRun     : Nat := 0
  highRun    : Nat := 0
  /-- Input power of the last 1,000 samples, in units of 10 µW, newest first (R468, R469). -/
  samples    : List Nat := []
  /-- FRM_TIME of the last soft step. -/
  lastStep   : Nat := 0
  frozen     : Bool := false
  frozenFrom : Nat := 0
  softCnt    : W32 := 0
  freezeCnt  : W32 := 0
  freezeNs   : W64 := 0
  droopCnt   : W32 := 0
  wakes      : W16 := 0
  rail       : BitVec 4 := 0
  cause      : BitVec 4 := 1
  tempNow    : List W16 := List.replicate 8 0
  tempHigh   : List W16 := List.replicate 8 0
  /-- Sensors whose reading stands at or above the critical threshold. -/
  overCrit   : BitVec 8 := 0
  /-- Rails outside ±8% of their set point. -/
  railBad    : BitVec 6 := 0
  avsFactory : List Byte := List.replicate 16 0
  avsTrim    : List Byte := List.replicate 16 0
  avsLearned : BitVec 16 := 0
  /-- Milliseconds in a row with a margin of at least two steps, per tile group. -/
  avsGood    : List Nat := List.replicate 16 0
  /-- Groups whose rail is 40 mV below its target: their cluster's clock stretches. -/
  drooping   : BitVec 16 := 0
  hold       : HoldPhase := .none
  holdRefused : BitVec 4 := 0
  deriving DecidableEq, Repr

/-- ACK of a debug frame (21 R490). -/
inductive Ack where
  | ok
  | wait
  | fault
  | poison
  | denied
  deriving DecidableEq, Repr

/-- The answer to one debug frame, as the module drives it (21 R488, R490). -/
structure DbgAnswer where
  ack  : Ack
  data : Option W32
  deriving DecidableEq, Repr

/-- A debug frame as the debugger sends it (21 R488): operation, width, address (0 where the frame has none), write data with its parity bit. -/
structure DbgFrame where
  op   : BitVec 4
  wide : Bool
  addr : W64
  data : W32
  par  : Bool
  deriving DecidableEq, Repr

/-- The debug port (21). -/
structure Dbg where
  fault     : BitVec 4 := 0
  /-- The access that waits for its repeat (R490). -/
  waiting   : Option DbgFrame := none
  /-- The last address and whether it was wide. -/
  lastWide  : Bool := false
  lastAddr  : W64 := 0
  /-- DBG_DIO is ignored until a line reset (R491). -/
  lineError : Bool := false
  checking  : Bool := false
  hit       : BitVec 12 := 0
  rcvLen    : W32 := 0
  /-- Words received so far, as bytes. -/
  rcv       : Bytes := []
  sqBp      : List W32 := List.replicate 32 0
  coreBp    : List W32 := List.replicate 32 0
  token     : List Host.Cell := []
  /-- Answers driven, oldest first. -/
  answers   : List DbgAnswer := []
  deriving DecidableEq, Repr

end Sys2Proof.Machine
end

