-- ==== Sys2Proof/Machine/TypesMedia.lean ====
section
/-! DEFINITION. The Envelope, its media management and the namespaces (13, 14, 15 R347 to R349). A die is numbered 8 × channel + target; a block 2,752 × die + block index. -/

namespace Sys2Proof.Machine

/-- The die service port of a controller (13 R298 to R301). -/
structure Dsp where
  busy   : Bool := false
  done   : Bool := false
  swRet  : Bool := false
  err    : BitVec 3 := 0
  phase  : BitVec 3 := 0
  sw     : W16 := 0
  cmd    : Byte := 0
  addrs  : List W32 := []
  data   : W32 := 0
  /-- FRM_TIME of the last write of the sequence. -/
  last   : Nat := 0
  /-- Result bytes from byte 0; bytes beyond read 0. -/
  buf    : Bytes := []
  deriving DecidableEq, Repr

/-- One Envelope controller (13 R311). -/
structure Ctrl where
  ready    : Bool := false
  hold     : Bool := false
  pwrFail  : Bool := false
  inReset  : Bool := false
  dsp      : Dsp := {}
  retryCnt : W32 := 0
  ueccCnt  : W32 := 0
  eraseUncCnt : W32 := 0
  bodCnt   : W32 := 0
  deriving DecidableEq, Repr

/-- One channel (13 R296, R297). -/
structure Channel where
  trained : Bool := false
  clamp   : Bool := false
  vccq    : Bool := false
  rate    : BitVec 3 := 0
  tadl    : BitVec 12 := 0x180
  twhr    : BitVec 12 := 0x100
  readPre : BitVec 4 := 8
  tccs    : BitVec 12 := 0x280
  trhw    : BitVec 12 := 0x140
  deriving DecidableEq, Repr

/-- An operation a die runs: its code in the status word (13 R302), its start, where, and the program job it carries. -/
structure DieOp where
  code  : BitVec 3
  start : Nat
  block : Nat
  job   : Option Nat
  deriving DecidableEq, Repr

/-- One die (13 R302, R303). -/
structure Die where
  calOk   : Bool := false
  calCopy : Bool := false
  failed  : Bool := false
  /-- The last status word the controller observed. -/
  sw      : W16 := 0
  op      : Option DieOp := none
  bod     : Bool := false
  /-- The factory-calibration row, factory contents. -/
  calRow  : Bytes := []
  /-- Power-on hours at which its blocks were retired (14 R338). -/
  retiredAt : List Nat := []
  deriving DecidableEq, Repr

/-- Where a block index stands (14 R319, R330, R335, R336). -/
inductive BlkState where
  | free
  | open_
  | closed
  | retired
  | uncertain
  deriving DecidableEq, Repr

/-- A block-table entry (14 R319). -/
structure Blk where
  state     : BlkState := .free
  cause     : Byte := 0
  erases    : Nat := 0
  closedPoh : Nat := 0
  /-- Power-on hours of its refreshes of the last 168 hours (14 R334, R335). -/
  refreshes : List Nat := []
  deriving DecidableEq, Repr

/-- A container: a unit's stored form and its contents (09 R215 to R217, 14 R313). `data` lists the bytes that are not zero. -/
structure Container where
  method : BitVec 2
  len    : BitVec 7
  data   : List Host.Cell
  /-- It could not be recovered: its descriptor carries LOST (14 R315). -/
  lost   : Bool := false
  deriving DecidableEq, Repr

/-- A stripe record on the media (14 R313, R317). -/
structure StripeRec where
  seq     : Nat
  stripe  : Nat
  stream  : Byte
  grouped : Bool
  die     : Nat
  block   : Nat
  cw      : Nat
  ncw     : Nat
  unit0   : Option Container
  unit1   : Option Container
  /-- A recovery rewrite carries the SEQ of the record it rewrites (14 R318). -/
  rewrites : Option Nat := none
  deriving DecidableEq, Repr

/-- A wordline of a block. -/
structure Wordline where
  die   : Nat
  block : Nat
  wl    : Nat
  deriving DecidableEq, Repr

/-- A program pass that waits or runs (13 R294, 14 R319). -/
inductive Pass where
  | slc
  | foggy
  | fine
  deriving DecidableEq, Repr

/-- A program job. -/
structure ProgJob where
  id      : Nat
  at_     : Wordline
  pass    : Pass
  running : Bool := false
  /-- Jobs that end before it begins (14 R321, R323, R326). -/
  after   : List Nat := []
  /-- Which controllers' journal dies take it, even or odd numbers, where two copies go to different controllers (14 R326). -/
  half    : Option Bool := none
  deriving DecidableEq, Repr

/-- A record of the journal (13 R304, 14 R320). -/
inductive JBody where
  | eraseStart (die block : Nat)
  | eraseEnd (die block : Nat) (fail : Bool)
  | groupCommit (first count : Nat)
  | gcCommit (entries : List (Nat × W64))
  | flag (firstSeq parts : Nat)
  | blockEvt (die block : Nat) (event cause : Byte)
  | index (indexId : W64) (shard : W16)
  | directory (what : Byte) (key : Nat)
  | parity (ch : Nat) (members : List Wordline) (pages : List Nat)
  | mapSet (entries : List (Nat × W64))
  | flush (number firstSeg firstPage : Nat) (clean : Bool)
  | checkpoint (segment : Nat)
  | tablePage (page : Nat)
  | parityPage (index : Nat)
  deriving DecidableEq, Repr

/-- A record and the job of the journal page that holds it; none once durable (14 R321). -/
structure JRec where
  seq   : Nat
  frame : BitVec 48
  body  : JBody
  job   : Option Nat
  deriving DecidableEq, Repr

/-- A parity group (14 R323, R325). -/
structure ParGroup where
  ch      : Nat
  members : List Wordline
  closed  : Bool := false
  /-- Its PARITY record is durable. -/
  durable : Bool := false
  deriving DecidableEq, Repr

/-- What waits for a group of stripe records to be durable and committed (14 R324). -/
inductive WriteFor where
  /-- A part of a host command. -/
  | host (id : CmdId)
  /-- A piece that the Reel brings into T2. -/
  | reel (addr : W64) (piece : Nat)
  | gc
  | writeBack
  | recovery
  deriving DecidableEq, Repr

/-- An atomic part of a write under way (14 R318, R324; 15 R353). -/
structure WritePart where
  first   : Nat
  count   : Nat
  for_    : WriteFor
  /-- Its records are durable and its GROUP_COMMIT record has this SEQ. -/
  commit  : Option Nat := none
  /-- Frame in which it began, for the order of overlapping parts (15 R351). -/
  grouped : Bool := true
  deriving DecidableEq, Repr

/-- Garbage collection of one block (14 R330, R331). -/
structure Gc where
  die    : Nat
  block  : Nat
  /-- Copies made: SEQ of the target record and the map word it replaces. -/
  copies : List (Nat × W64)
  /-- SEQ of its FLAG record once written. -/
  flag   : Option Nat := none
  deriving DecidableEq, Repr

/-- An entry of the Lost Data log (14 R342). -/
structure Lost where
  nsid  : Nat
  slba  : Nat
  nlb   : Nat
  frame : BitVec 48
  deriving DecidableEq, Repr

/-- A namespace (15 R347, R348). `groups` are its aligned groups of 16 slots. -/
structure Namespace where
  nsid    : Nat
  nsze    : Nat
  lbaf    : Nat
  tenant  : Nat
  shadows : Nat
  keyMode : Byte
  groups  : List Nat
  /-- Mirrors: the ranks that hold them (17 R400, R404). -/
  mirrors : List Nat := []
  /-- The create that waits for its mirrors. -/
  creating : Option CmdId := none
  /-- A Format whose record is not yet durable or whose mirrors have not followed, and the LBA format it leaves (R349; 19 R453). -/
  formatting : Option (CmdId × Nat) := none
  /-- A Delete that waits for its record and for the I/O commands in flight. -/
  deleting : Option CmdId := none
  /-- FLAG of the DIRECTORY commit, or the MAP record, that its last change waits for (14 R320, R321). -/
  commit   : Nat := 0
  deriving DecidableEq, Repr

/-- A namespace read whose flash reads are under way: the slots still to be read, and whether one was uncorrectable (13 R310, 15 R350). -/
structure HostRead where
  id    : CmdId
  nsid  : Nat
  slba  : Nat
  nlb   : Nat
  slots : List Nat
  bad   : Bool := false
  deriving DecidableEq, Repr

/-- Counters of the media, media state (14 R340, R341). -/
structure Health where
  corrected    : Nat := 0
  uncorrected  : Nat := 0
  eraseUnc     : Nat := 0
  retProgram   : Nat := 0
  retErase     : Nat := 0
  retRefresh   : Nat := 0
  rebuildMs    : Nat := 0
  parityRepairs : Nat := 0
  tempHist     : List (Nat × W32) := []
  bytesRead    : Nat := 0
  bytesWritten : Nat := 0
  hostReads    : Nat := 0
  hostWrites   : Nat := 0
  powerCycles  : Nat := 0
  unsafe_      : Nat := 0
  mediaErrors  : Nat := 0
  /-- Critical Warning bit 2 from a segment with no copy (14 R327). -/
  segmentLost  : Bool := false
  deriving DecidableEq, Repr

/-- The media. -/
structure Media where
  ctrls    : List Ctrl := List.replicate 8 {}
  channels : List (Nat × Channel) := []
  dies     : List (Nat × Die) := []
  levels   : List (Nat × List Byte) := []
  blocks   : List (Nat × Blk) := []
  /-- Map words by stripe (14 R315). -/
  map      : List (Nat × W64) := []
  records  : List StripeRec := []
  /-- The 64-bit sequence counter (14 R318). -/
  seq      : Nat := 1
  jobs     : List ProgJob := []
  nextJob  : Nat := 0
  journal  : List JRec := []
  /-- Open TLC block of each die and its next free codeword: (die, (block, codeword)). -/
  openBlk  : List (Nat × (Nat × Nat)) := []
  verified : List Wordline := []
  foggied  : List Wordline := []
  groups   : List ParGroup := []
  parts    : List WritePart := []
  reads    : List HostRead := []
  /-- Slot groups in use (14 R312). -/
  slotGroups : List Nat := []
  /-- Blocks whose erase waits for their die's erase span (14 R331, R336). -/
  eraseQueue : List (Nat × Nat) := []
  gcs      : List Gc := []
  /-- Dies on which reclamation has started and the free blocks have not reached 12 (14 R330). -/
  collecting : List Nat := []
  /-- Next victims whatever their score: (die, block) (14 R333 to R335). -/
  victims  : List (Nat × Nat) := []
  flushNum   : Nat := 0
  nextSeg    : Nat := 0
  nextPage   : Nat := 0
  flushFrame : Nat := 0
  durableBytes : Nat := 0
  /-- A flush whose index pieces are being written back, and its CLEAN (14 R326). -/
  flushing   : Option Bool := none
  /-- The newest FLUSH carries CLEAN (14 R320, R340). -/
  clean      : Bool := false
  changed    : List Nat := []
  lost       : List Lost := []
  health     : Health := {}
  namespaces : List Namespace := []
  deriving DecidableEq, Repr

end Sys2Proof.Machine
end

