-- ==== Sys2Proof/Machine/TypesStore.lean ====
section
/-! DEFINITION. The Reel's objects and moves, the model directory and the Bridle, contexts, refits, and the search structures (08 to 10, 12). -/

namespace Sys2Proof.Machine

/-- Object kinds (09 R208). -/
inductive ObjKind where
  | weight
  | scale
  | program
  | kv
  | index
  | refitState
  | work
  deriving DecidableEq, Repr

/-- A piece of an object: 1 MiB, or the shorter last one (09 R205, R208, R209). -/
structure Piece where
  /-- In T1: the primary location, or a copy. -/
  inT1    : Bool := false
  /-- In T2: it has containers. -/
  inT2    : Bool := false
  /-- The primary location is T1 (writable kinds). -/
  primT1  : Bool := false
  /-- Aligned group of 16 slots that holds its containers (14 R312). -/
  group   : Option Nat := none
  /-- Bytes stored in its containers. -/
  stored  : Nat := 0
  heat    : Nat := 0
  /-- A: units of 64 KiB read in the frame that runs. -/
  reads   : Nat := 0
  /-- Planned up to and including this group frame (R210, R221). -/
  planned : Nat := 0
  /-- Index pieces: changed since the last flush (14 R339). -/
  dirty   : Bool := false
  /-- Units of a demand read that waits for an erase: counted when it was issued, and not again when it is made (R209). -/
  early   : Nat := 0
  deriving DecidableEq, Repr

/-- An object of the Loft address space (09 R204 to R208). `data` lists its bytes that are not zero; `marks` its marked 64-byte lines. -/
structure Obj where
  /-- Offset in the module's object space. -/
  ofs    : Nat
  len    : Nat
  tenant : Nat
  kind   : ObjKind
  /-- Format specifier of its elements, for the container method (R208). -/
  fmt    : Byte := 0
  pieces : List Piece
  data   : List Host.Cell := []
  marks  : Marks := []
  deriving DecidableEq, Repr

/-- Direction of a move (09 R210). -/
inductive MoveKind where
  | t2copy
  | t2move
  | t3copy
  | down
  | toT3
  deriving DecidableEq, Repr

/-- A move or copy in flight (09 R212). -/
structure Move where
  id     : Nat
  addr   : W64
  piece  : Nat
  kind   : MoveKind
  tenant : Nat
  /-- Units charged to the destination. -/
  charge : Nat
  start  : Nat
  /-- Step 3 is over: the destination is durable. -/
  ready  : Bool := false
  /-- Stripes of the piece that are not read yet, for a move up from T2 (01 R19; 02 R40). -/
  left   : List Nat := []
  /-- What a holder delivered, for a copy of a remote piece: its bytes, its length, its marked lines. -/
  data   : List Host.Cell := []
  len    : Nat := 0
  marks  : List Nat := []
  /-- The copy that carries the piece to its holder, for a move to T3. -/
  copyId : Option Nat := none
  deriving DecidableEq, Repr

/-- A fetch of the plan (09 R220). -/
structure Fetch where
  prio     : Nat
  deadline : Nat
  addr     : W64
  piece    : Nat
  tenant   : Nat
  /-- Last group frame that needs the piece. -/
  until_   : Nat
  /-- It was in the plan of a frame that has begun. -/
  issued   : Bool := false
  deriving DecidableEq, Repr

/-- A read-only piece of another module: its heat here, and its copy in T1 where one is held (09 R209, R210). `addr` is the base of the other module's object space, `piece` counts 1 MiB from there. -/
structure Cached where
  addr   : W64
  piece  : Nat
  tenant : Nat
  heat   : Nat := 0
  reads  : Nat := 0
  /-- The copy is in T1: its length, its bytes that are not zero, its marked lines. -/
  held   : Bool := true
  len    : Nat := 1048576
  data   : List Host.Cell := []
  marks  : List Nat := []
  /-- Planned up to and including this group frame (R221). -/
  planned : Nat := 0
  deriving DecidableEq, Repr

/-- A T3 read that is retried at every tick (09 R223). Address and piece are those of its fetch. -/
structure RemoteRead where
  addr  : W64
  piece : Nat
  /-- Command that fails when the holder is declared failed and no copy exists. -/
  id    : Option CmdId
  deriving DecidableEq, Repr

/-- The Reel (09). -/
structure Reel where
  objects  : List Obj := []
  /-- The rank that the addresses of the module's objects carry: that of the last image in force, 0 before the first (R204). -/
  rank     : Nat := 0
  /-- Next free offset of the object space. -/
  nextOfs  : Nat := 0x100000
  moves    : List Move := []
  nextMove : Nat := 0
  plan     : List Fetch := []
  cache    : List Cached := []
  remote   : List RemoteRead := []
  prefetchLate : Bool := false
  /-- T0 charge of each tenant in units of 64 KiB (R206, R214). -/
  t0       : List (Nat × Nat) := []
  /-- Commands refused for quota since the image activated, by tenant (R230). -/
  refused  : List (Nat × W32) := []
  moveCnt     : W32 := 0
  abortCnt    : W32 := 0
  refetchCnt  : W32 := 0
  horizonCnt  : W32 := 0
  remoteFailCnt : W32 := 0
  demoteRefusedCnt : W32 := 0
  deriving DecidableEq, Repr

/-- An expert-table entry (10 R235). -/
structure Expert where
  version  : W32 := 1
  home     : Nat
  shadow   : Nat := 0xFFFF
  weights  : W64 := 0
  weightsShadow : W64 := 0
  refitState : W64 := 0
  params   : Nat := 0
  wFmt     : Byte := 0
  /-- The refit state's second moment is BF16, as its header records (08 R196). -/
  vBf16    : Bool := false
  /-- SERVING: the shadow serves. -/
  shadowServes : Bool := false
  deriving DecidableEq, Repr

/-- An object of a model under load, and the byte ranges written (15 R361, R362). -/
structure LoadObj where
  object : Nat
  layer  : Nat
  expert : Nat
  addr   : W64
  len    : Nat
  /-- Byte ranges written: offset and length. -/
  written : List (Nat × Nat)
  deriving DecidableEq, Repr

/-- A model directory entry with its expert table (10 R231, R235). -/
structure Model where
  id       : W64
  tenant   : Nat
  /-- STATE: 1 loading, 2 loaded, 3 unloading. -/
  state    : Nat
  kvFmt    : Byte
  layers   : Nat
  experts  : Nat
  topK     : Nat
  fusion   : Nat
  refitOk  : Bool
  kvHeads  : Nat
  headDim  : Nat
  hidden   : Nat
  weightBits : Nat
  serveScale : W64 := 0
  refitScale : W64 := 0
  programs   : W64 := 0
  expertTable : W64 := 0
  shared     : W64 := 0
  loadFrame  : Nat := 0
  table    : List (Nat × Expert) := []
  objs     : List LoadObj := []
  /-- Scale tables stored by ADD_SCALE. -/
  added    : List W64 := []
  /-- Group frame of the last DATA while loading (R362). -/
  lastData : Nat := 0
  /-- The command that waits: COMMIT (durability) or unload. -/
  waiter   : Option CmdId := none
  deriving DecidableEq, Repr

/-- A dispatch that the sender keeps until its return (10 R244). -/
structure Dispatch where
  model   : W64
  ctx     : W32
  pos     : W32
  layer   : W16
  expert  : W16
  slot    : Byte
  weight  : W32
  version : W32
  fmt     : Byte
  data    : Bytes
  marks   : List Nat
  toRank  : Nat
  /-- FRM_NUM of the tick at which it was last sent; none before the first. -/
  sent    : Option Nat := none
  resend  : Bool := false
  redirected : Bool := false
  /-- A KIND 3 record has sent it to the expert's other copy (R243). -/
  refused : Bool := false
  /-- The cluster of this module in whose staging it was placed, and that the whole token was placed in its own cluster: its layer takes one frame (01 R23). -/
  placed  : Option Nat := none
  oneFrame : Bool := false
  /-- The serving rank that the expert table showed when it was last directed (R244). -/
  shown   : Nat := 0
  /-- The cluster that routed it: it takes BRIDLE_OUT when the Bridle collects (07 R180). -/
  cluster : Nat := 0
  deriving DecidableEq, Repr

/-- A return or a KIND 3 record waiting for the next tick (10 R241, R243). -/
structure Reply where
  model   : W64
  kind    : Byte
  ctx     : W32
  pos     : W32
  layer   : W16
  expert  : W16
  slot    : Byte
  weight  : W32
  version : W32
  fmt     : Byte
  data    : Bytes
  marks   : List Nat
  toRank  : Nat
  /-- The cluster whose pass gave it, none for a refusal. -/
  cluster : Option Nat := none
  deriving DecidableEq, Repr

/-- A token-batch message sent, kept for a drop notice (10 R242). -/
structure SentMsg where
  toRank : Nat
  net    : Nat
  seq    : Nat
  /-- FRM_NUM and FRM_TIME at which it left. -/
  num    : Nat
  time   : Nat
  keys   : List (W32 × (W32 × (W16 × Byte)))
  bytes  : Bytes
  resend : Bool := false
  deriving DecidableEq, Repr

/-- A record placed in a cluster's staging: a dispatch to run or a return in slot order (10 R237, R238). -/
structure Arrived where
  cluster : Nat
  kind    : Byte
  rank    : Nat
  model   : W64
  ctx     : W32
  pos     : W32
  layer   : W16
  expert  : W16
  slot    : Byte
  weight  : W32
  version : W32
  fmt     : Byte
  data    : Bytes
  marks   : List Nat
  /-- Byte offset of the activation in the cluster's staging. -/
  ofs     : Nat := 0
  /-- FRAME of the message that brought it (R239; 11 R264). -/
  frame   : Nat := 0
  deriving DecidableEq, Repr

/-- The Bridle (10 R236 to R244, R254). -/
structure Bridle where
  unanswered : List Dispatch := []
  outbox     : List Reply := []
  sentMsgs   : List SentMsg := []
  arrived    : List Arrived := []
  /-- The cluster that an expert's records of a frame go to: FRM_NUM, model, layer, expert, cluster (R237). -/
  chosen     : List (Nat × (W64 × (W16 × (W16 × Nat)))) := []
  /-- Next SEQ toward each rank. -/
  nextSeq    : List (Nat × Nat) := []
  inReset    : Bool := false
  tx         : W64 := 0
  rx         : W64 := 0
  lateCnt    : W32 := 0
  dupCnt     : W32 := 0
  redirectCnt : W32 := 0
  staleCnt   : W32 := 0
  badCnt     : W32 := 0
  kvRepairCnt : W32 := 0
  deriving DecidableEq, Repr

/-- A token batch of a context (10 R248, 15 R361). -/
structure Batch where
  id       : CmdId
  inputs   : List W32
  generate : Nat
  seed     : W64
  temperature : W32
  topP     : W32
  deadline : Nat
  /-- Input tokens not yet appended. -/
  left     : List W32
  /-- Rewind length, until the batch starts (R253). -/
  rewind   : Option Nat := none
  /-- Tokens generated so far, and of them those emitted. -/
  tokens   : List W32 := []
  started  : Bool := false
  /-- Tokens whose completion is held for the buddy (R249). -/
  held     : Bool := false
  /-- Tokens not emitted yet, which their context's buddy holds back (R249). -/
  waiting  : List W32 := []
  /-- Its queue is gone: it stops at the next token boundary (15 R355). -/
  stop     : Bool := false
  deriving DecidableEq, Repr

/-- A context-table entry (10 R245). -/
structure Context where
  gen      : Nat := 0
  /-- STATE: 0 free, 1 open, 2 damaged, 3 closing. -/
  state    : Nat := 0
  tenant   : Nat := 0
  model    : W64 := 0
  length   : Nat := 0
  maxTokens : Nat := 0
  cls      : Nat := 0
  buddy    : Nat := 0xFFFF
  contract : Nat := 0
  extentList : W64 := 0
  /-- A marked token holds the journal back, and has bitten (09 R227). -/
  barred   : Bool := false
  journaled  : Nat := 0
  firstBad   : Nat := 0xFFFFFFFF
  openFrame  : Nat := 0
  /-- Loft addresses of its extents. -/
  extents  : List W64 := []
  batches  : List Batch := []
  /-- Open that waits for the buddy's acknowledgement, and the tick of its 16th frame (R247). -/
  opening  : Option CmdId := none
  openTicks : Nat := 0
  /-- Close that waits for its passes. -/
  closer   : Option CmdId := none
  closedTokens : Nat := 0
  /-- Tokens emitted in each of the last frames, newest first (R249). -/
  recent   : List Nat := []
  /-- The token values appended, oldest first. -/
  history  : List W32 := []
  /-- Positions sent to the buddy's journal, a truncation still to send, and whether the directory entry has been sent (17 R406). -/
  sentTo   : Nat := 0
  trunc    : Option Nat := none
  entrySent : Bool := false
  deriving DecidableEq, Repr

/-- How far a refit has come (08 R199, R200). -/
inductive RefitPhase where
  | streaming
  | steps
  | writing
  | shadow
  | flag
  | committed
  /-- The old version waits for its last invocation; `newWeights` and `newState` name it. -/
  | retiring
  deriving DecidableEq, Repr

/-- A running refit (08 R198 to R201). -/
structure Refit where
  job    : Nat
  id     : CmdId
  model  : W64
  tenant : Nat
  layer  : Nat
  expert : Nat
  steps  : Nat
  perStep : Nat
  cls    : Nat
  hyper  : List W32
  newScale : W64
  phase  : RefitPhase
  /-- The working set in T1. -/
  work   : W64 := 0
  /-- New weight object and refit state written. -/
  newWeights : W64 := 0
  newState   : W64 := 0
  /-- CVT_OVF events of g, m, v, w (R197). -/
  ovf    : List Nat := [0, 0, 0, 0]
  started : Nat := 0
  /-- SEQ of the commit's FLAG record. -/
  flagSeq : Option Nat := none
  /-- A pass of it ended FAULTED or WATCHDOG, or a poisoned element reached it (R201). -/
  poisoned : Bool := false
  deriving DecidableEq, Repr

/-- A neighbour entry (12 R272). -/
structure Nbr where
  node : Nat
  gen  : Nat
  dist : Nat
  deriving DecidableEq, Repr

/-- A node of a shard (12 R272): STATE 0 free, 1 live, 2 tombstoned. -/
structure Node where
  sketch : Bytes := []
  ident  : W64 := 0
  state  : Nat := 0
  gen    : Nat := 0
  nbrs   : List Nbr := []
  vec    : Bytes := []
  /-- Its record carries a poison mark. -/
  marked : Bool := false
  deriving DecidableEq, Repr

/-- A shard-directory entry and its graph (12 R270 to R272). -/
structure Shard where
  index   : W64
  shard   : W16
  tenant  : Nat
  /-- STATE: 1 ready, 2 recovering, 3 destroying. -/
  state   : Nat
  vecFmt  : Byte
  metric  : Nat
  degree  : Nat
  dim     : Nat
  count   : Nat
  shadowed : Bool
  entryCount : Nat
  shadowRank : Nat := 0xFFFF
  capacity : Nat
  addrs   : List W64 := []
  proj    : Bytes := []
  nodes   : List (Nat × Node) := []
  entries : List Nat := []
  /-- Commands that wait: create (shadow placement), destroy. -/
  waiter  : Option CmdId := none
  /-- It is a shadow of a shard whose home is this rank. -/
  shadowOf : Option Nat := none
  deriving DecidableEq, Repr

/-- A tombstoned node that awaits repair, and the group frame of its deletion (12 R278). -/
structure Repair where
  index : W64
  shard : W16
  node  : Nat
  frame : Nat
  deriving DecidableEq, Repr

/-- A filter (12 R285). -/
structure Filter where
  idx    : Nat
  gen    : Nat
  index  : W64
  shard  : W16
  tenant : Nat
  tag    : W32
  bits   : Marks := []
  /-- Its object. -/
  addr   : W64 := 0
  dying  : Option CmdId := none
  deriving DecidableEq, Repr

/-- A change of a filter whose journal record is not yet durable: the new bits, or the filter's birth (12 R285). -/
structure FilterChange where
  idx  : Nat
  bits : Marks
  /-- FILL_ALL: the bits are taken of the nodes live at the tick. -/
  fillAll : Bool
  seq  : Nat
  id   : CmdId
  dw0  : W32
  deriving DecidableEq, Repr

/-- Vectors inserted and not yet published (12 R275). -/
structure InsertJob where
  id     : Option CmdId
  index  : W64
  shard  : W16
  /-- SEQ of its journal record's FLAG. -/
  seq    : Nat
  count  : Nat
  /-- Slot, identifier and stored vector of each insertion. -/
  vecs   : List (Nat × (W64 × Bytes)) := []
  published : Bool := false
  deriving DecidableEq, Repr

/-- A delete whose journal record is not yet durable (12 R277). -/
structure DeleteJob where
  id    : CmdId
  index : W64
  shard : W16
  seq   : Nat
  count : Nat
  /-- The nodes that it tombstoned. -/
  nodes : List Nat := []
  deriving DecidableEq, Repr

/-- Where a query stands on one shard (12 R286). -/
inductive QStage where
  | sketch
  | waiting
  | traverse
  | rerank
  | done
  deriving DecidableEq, Repr

/-- Traversal and result of a query on one shard (12 R281 to R283). -/
structure QShard where
  shard   : W16
  stage   : QStage
  /-- Its query context in the engine, once it has one. -/
  ctx     : Option Nat := none
  filter  : Option Nat := none
  noTag   : Bool := false
  cset    : List (Nat × Nat) := []
  visited : List Nat := []
  wset    : List (Nat × Nat) := []
  expansions  : Nat := 0
  comparisons : Nat := 0
  tombs    : Nat := 0
  filtered : Nat := 0
  skipped  : Nat := 0
  nan      : Nat := 0
  waits    : Nat := 0
  budgetHit : Bool := false
  /-- Results in order: IDENT, DISTANCE. -/
  results  : List (W64 × W32) := []
  poisoned : Bool := false
  deriving DecidableEq, Repr

/-- A query (12 R280). `groupId` names a group query (12 R288, 17 R416). -/
structure Query where
  id      : CmdId
  tenant  : Nat
  index   : W64
  k       : Nat
  ef      : Nat
  rr      : Nat
  budget  : Nat
  cls     : Nat
  contract : Nat
  deadline : Nat
  qfmt    : Nat
  sketch  : Bytes
  vec     : Bytes
  shards  : List QShard
  /-- SKETCH_GIVEN. -/
  given   : Bool := false
  groupId : Option W64 := none
  /-- A group query answered for the manager of this rank. -/
  answerTo : Option Nat := none
  /-- Ranks still to answer, and answers taken: results and shard counts (17 R416). -/
  awaiting : List Nat := []
  answers  : List (W64 × (W32 × W16)) := []
  /-- Ten counts that other modules' statistics blocks added. -/
  extra    : List Nat := []
  answered : Nat := 0
  missing  : Nat := 0
  /-- Shards asked of each awaited rank. -/
  asked    : List (Nat × Nat) := []
  budgetAny : Bool := false
  resLen   : Nat := 0
  admitAt    : Nat
  /-- Its work buffer in T1. -/
  buf      : W64 := 0
  /-- Frame from which it may move on. -/
  since    : Nat := 0
  deriving DecidableEq, Repr

/-- An embedding job and its log page (12 R290 to R292, 15 R367). STATE 1 running, 2 completed, 3 stopped. -/
structure EmbedJob where
  jobId   : W16
  id      : CmdId
  tenant  : Nat
  model   : W64
  index   : W64
  shard   : W16
  cls     : Nat
  chunk   : Nat
  overlap : Nat
  src     : Bytes
  state   : Nat
  /-- Byte ranges of the source that are lost. -/
  bad     : List (Nat × Nat) := []
  /-- Where the next record begins. -/
  next    : Nat := 0
  /-- A pass of it ended FAULTED or WATCHDOG since the last record. -/
  poisoned : Bool := false
  /-- It stops with this at the next chunk boundary (R292). -/
  stopped : Bool := false
  failed  : List W64 := []
  failedCount : Nat := 0
  records : Nat := 0
  inserted : Nat := 0
  notInserted : Nat := 0
  lastRecord : W64 := 0
  deriving DecidableEq, Repr

/-- Query engine, shards, filters, jobs (12). -/
structure Search where
  shards  : List Shard := []
  filters : List Filter := []
  filterGens : List (Nat × Nat) := []
  changes : List FilterChange := []
  inserts : List InsertJob := []
  deletes : List DeleteJob := []
  repairs : List Repair := []
  queries : List Query := []
  jobs    : List EmbedJob := []
  cmp     : W64 := 0
  queryCnt : W32 := 0
  shortCnt : W32 := 0
  tombCnt  : W32 := 0
  skipCnt  : W32 := 0
  repairCnt : W32 := 0
  lateCnt   : W32 := 0
  lossCnt   : W32 := 0
  deriving DecidableEq, Repr

/-- A command that completes once objects are durable in T2, and its result. -/
structure ObjWait where
  id    : CmdId
  addrs : List W64
  dw0   : W32
  data  : Bytes
  deriving DecidableEq, Repr

/-- Models, contexts and refits. -/
structure Library where
  models   : List Model := []
  contexts : List (Nat × Context) := []
  refits   : List Refit := []
  nextJob  : Nat := 0
  waits    : List ObjWait := []
  deriving DecidableEq, Repr

end Sys2Proof.Machine
end

