-- ==== Sys2Proof/Machine/TypesLinks.lean ====
section
/-! DEFINITION. The host interface, the Tether's ports and the group (15 to 17). -/

namespace Sys2Proof.Machine

/-- A completion posted to a host (15 R357, R358, R369): status code type and status code, DNR, Dwords 0 and 1, and the data returned. -/
structure Completion where
  id   : CmdId
  sct  : BitVec 3
  sc   : Byte
  dnr  : Bool
  dw0  : W32
  dw1  : W32
  data : Bytes
  deriving DecidableEq, Repr

/-- An I/O command received and not completed, in order of submission (15 R352, 01 R18, 20 R465). `held`: its effect has not started. -/
structure OpenCmd where
  id      : CmdId
  ordered : Bool
  held    : Option Instr
  /-- Length of its result buffer; none where the transfer has no such limit (15 R357). -/
  resLen  : Option Nat := none
  /-- The tenant it belongs to, and the namespace it names, 0 for none (03 R77, 15 R349). -/
  tenant  : Nat := 0
  nsid    : Nat := 0
  deriving DecidableEq, Repr

/-- A queue of a controller: 0 is the admin queue (15 R343). -/
structure SubQueue where
  sq   : W16
  size : W16
  deriving DecidableEq, Repr

/-- A controller: one association, on one port (15 R343, R346). -/
structure HostCtrl where
  cntlid : W16
  port   : Nat
  /-- CC of the controller properties, and CSTS.RDY, CSTS.SHST. -/
  cc     : W32 := 0
  ready  : Bool := false
  shst   : BitVec 2 := 0
  /-- Keep Alive Timeout, ms. -/
  kato   : Nat
  lastKa : Nat := 0
  queues : List SubQueue
  tempThreshold : W16 := 358
  numQueues : W32 := 0x00FF00FF
  aec    : W32 := 0x061F
  aers   : List CmdId := []
  /-- Asynchronous events not yet reported, oldest first: the Dword 0 of each. -/
  events : List W32 := []
  /-- Critical Warning as its events last saw it (15 R346). -/
  warned : Byte := 0
  deriving DecidableEq, Repr

/-- An entry of the telemetry ring (15 R366). -/
structure TelEntry where
  seq    : Nat
  frame  : BitVec 48
  block  : W16
  event  : W16
  unit   : W32
  detail : W64
  deriving DecidableEq, Repr

/-- An entry of the Error Information log (15 R346). -/
structure ErrEntry where
  count  : Nat
  id     : CmdId
  status : W16
  deriving DecidableEq, Repr

/-- The NVM subsystem (15). -/
structure HostIf where
  ctrls       : List HostCtrl := []
  open_       : List OpenCmd := []
  completions : List Completion := []
  telemetry   : List TelEntry := []
  telSeq      : Nat := 0
  errors      : List ErrEntry := []
  errCount    : Nat := 0
  /-- Commands whose queue is gone: the model's own numbers for them (15 R355). -/
  orphans     : Nat := 0
  /-- Firmware activation event to raise once the bare state is reached (19 R444). -/
  fwEvent     : Bool := false
  /-- Data that the SMBus devices have answered with, oldest first (21 R483). -/
  smbus       : List Bytes := []
  deriving DecidableEq, Repr

/-- One lane (16 R375 to R383, R389). Taps in 1/64 steps, two's complement: c(-2), c(-1), c0, c(+1). -/
structure Lane where
  cdrLock   : Bool := false
  frameLock : Bool := false
  rxReady   : Bool := false
  partnerReady : Bool := false
  polInv    : Bool := false
  precodeTx : Bool := false
  logical   : BitVec 2 := 0
  bitErr    : W16 := 0
  taps      : List Byte := [0, 0, 0, 0]
  /-- The kept coefficients are tuned ones, not factory settings (R383). -/
  tuned     : Bool := false
  /-- STAT being sent for each tap (R377). -/
  stat      : List (BitVec 2) := [0, 0, 0, 0]
  /-- Control and status words last taken with a good CRC (R376). -/
  ctl       : W32 := 0
  sts       : W32 := 0
  markers   : Nat := 0
  doneSent  : Bool := false
  training  : Bool := false
  /-- Data phase: alignment markers found in a row, and AM_COUNT of the last. -/
  amSeen    : Nat := 0
  amCount   : Byte := 0
  locked    : Bool := false
  deriving DecidableEq, Repr

/-- One port (16 R370, R371, R388, R389). -/
structure Port where
  up        : Bool := false
  squelched : Bool := false
  degrade   : Bool := false
  mode      : BitVec 2 := 0
  addr      : Bool := false
  evt       : BitVec 4 := 0
  fecCorr   : W64 := 0
  fecUncorr : W32 := 0
  downCnt   : W32 := 0
  inReset   : Bool := false
  /-- It has been up since it was last set to train: used for R371's alternation. -/
  linked    : Bool := false
  /-- Link Standby (20 R463). -/
  standby   : Bool := false
  deriving DecidableEq, Repr

/-- A reliable connected queue pair (16 R384 to R386). `peer`: rank of a group peer; host queue pairs have none. Rate in Mbit/s. -/
structure QueuePair where
  num     : Nat
  peer    : Option Nat
  ctrl    : Option (W16 × W16)
  net     : Nat
  port    : Nat
  rate    : Nat
  retries : Nat := 0
  /-- FRM_TIME of the first timeout of the row of timeouts that `retries` counts (16 R384). -/
  since   : Nat := 0
  deriving DecidableEq, Repr

/-- A time-stamp taken of a PTP event message (16 R387). -/
structure Stamp where
  port   : Nat
  egress : Bool
  seq    : W16
  time   : Nat
  deriving DecidableEq, Repr

/-- The Tether (16). -/
structure Tether where
  ports  : List Port := List.replicate 8 {}
  lanes  : List Lane := List.replicate 32 {}
  qps    : List QueuePair := []
  nextQp : Nat := 0
  stamps : List Stamp := []
  deriving DecidableEq, Repr

/-- A placement entry (17 R400). -/
structure Place where
  kind    : Nat
  serving : Nat
  home    : Nat
  shadow1 : Nat
  shadow2 : Nat
  key1    : W64
  key2    : W32
  version : W32
  epoch   : Nat
  /-- Copies that the object is to have; the model's own, not in the entry's bytes. -/
  want    : Nat := 0
  deriving DecidableEq, Repr

/-- A member as this module knows it (17 R394 to R398, R407). -/
structure Member where
  rank       : Nat
  uid        : Bytes
  level      : Nat := 0
  schema     : Nat := 0
  /-- It has sent READY. -/
  ready      : Bool := false
  /-- FRM_TIME of its ADMIT. -/
  admittedAt : Nat := 0
  /-- Group frame at which it steps in, and the epoch its JOIN carried (R396, R402). -/
  stepFrame  : Nat := 0
  epoch      : Nat := 0
  /-- It has been sent the entries that R402 gives it. -/
  sentPlaces : Bool := true
  lastStatus : Nat := 0
  safe       : Bool := false
  draining   : Bool := false
  drained    : Bool := false
  /-- No queue pair to it was open at the last tick (R407, cause 3). -/
  noQp       : Bool := false
  freeContexts : Nat := 0
  freeGroups   : Nat := 0
  deriving DecidableEq, Repr

/-- A JOIN the manager holds for its next batch (17 R395, R396). -/
structure JoinReq where
  rank   : Nat
  uid    : Bytes
  level  : Nat
  schema : Nat
  period : Nat
  epoch  : Nat
  last   : Nat
  time   : Nat
  net    : Nat
  deriving DecidableEq, Repr

/-- A Novzeow message, or another message of the module, as it leaves: network, receiver's rank, bytes. -/
structure OutMsg where
  net : Nat
  toRank : Nat
  msg : Bytes
  deriving DecidableEq, Repr

/-- A PLACE sent and not acknowledged by everyone (17 R400). -/
structure PlaceOut where
  epoch    : Nat
  entries  : List Place
  /-- The deputy has acknowledged; the other members have been sent it. -/
  released : Bool
  waiting  : List Nat
  deriving DecidableEq, Repr

/-- What a copy under way is for (17 R403 to R405). -/
inductive CopyFor where
  | shadow
  | mirrorWrite (part : Nat)
  | mirrorFull
  | refit (job : Nat)
  | index
  deriving DecidableEq, Repr

/-- A COPY sent and not acknowledged (17 R393, R403 to R405). -/
structure CopyOut where
  copyId : Nat
  kind   : Nat
  key1   : W64
  key2   : W32
  toRank : Nat
  ofs    : Nat
  sent   : Nat
  for_   : CopyFor
  /-- The host command whose completion waits for it. -/
  id     : Option CmdId
  deriving DecidableEq, Repr

/-- The copy carries a refit's new version: it ends by the refit's own rules (08 R200). -/
def CopyFor.isRefit : CopyFor → Bool
  | .refit _ => true
  | _ => false

/-- A copy held for another member: shadow object, mirror, or shadow shard's commits (17 R403 to R405). -/
structure HeldCopy where
  kind    : Nat
  key1    : W64
  key2    : W32
  tenant  : Nat
  version : W32
  from_   : Nat
  /-- Whole: a full COPY has been taken. -/
  whole   : Bool
  bytes   : List Host.Cell
  len     : Nat
  /-- The object made of a whole copy of read-only data, 0 before, and an expert's refit state (08 R196). -/
  addr    : W64 := 0
  state   : W64 := 0
  /-- The version being taken: its objects while they are written, and the SEQ of the FLAG record of its commit (08 R200). -/
  inVersion : W32 := 0
  newAddr : W64 := 0
  newState : W64 := 0
  flagSeq : Option Nat := none
  /-- COPY_ID and OFFSET of the parts taken, acknowledged once the version is durable. -/
  acks    : List Bytes := []
  deriving DecidableEq, Repr

/-- A context journal held as buddy (17 R406). -/
structure JournalHeld where
  home   : Nat
  handle : W32
  model  : W64
  tenant : Nat
  length : Nat
  entry  : Bytes
  /-- KV bytes: token position × LAYERS × B + layer × B onward. -/
  bytes  : List Host.Cell
  /-- Layers durable of the token at `length`. -/
  part   : Nat := 0
  deriving DecidableEq, Repr

/-- An object moved by a recovery (17 R411). -/
structure Reloc where
  kind   : Nat
  key1   : W64
  key2   : W32
  status : Nat
  rank   : Nat
  handle : W32
  length : Nat
  deriving DecidableEq, Repr

/-- What an ADMIT told the worker and its step (17 R396). -/
structure Admission where
  stepFrame : Nat
  declared  : Bool
  members   : List Nat
  handback  : Nat
  deriving DecidableEq, Repr

/-- A drain under way: rank and the host's network (17 R419). -/
structure Drain where
  rank : Nat
  net  : Nat
  deriving DecidableEq, Repr

/-- A module that answered DISCOVER with HELLO (17 R392). -/
structure Discovered where
  net     : Nat
  uid     : Bytes
  level   : Nat
  schema  : Nat
  role    : Nat
  state   : Nat
  rank    : Nat
  nets    : Nat
  groupId : Nat
  deriving DecidableEq, Repr

/-- Group membership and placement (17). -/
structure Group where
  /-- GON_GRP_STATUS.STATE and ACT. -/
  state    : BitVec 3 := 0
  act      : BitVec 2 := 0
  running  : Bool := false
  noBeacon : Bool := false
  duplicate : Bool := false
  declared : Bool := false
  level    : Nat := 0
  schema   : Nat := 0
  pendLevel  : Nat := 0
  pendSchema : Nat := 0
  pendFrame  : Nat := 0
  epoch    : Nat := 0
  members  : List Member := []
  joins    : List JoinReq := []
  failed   : List Nat := []
  declCnt  : W32 := 0
  lastCause : BitVec 3 := 0
  lastRank  : BitVec 10 := 0
  lastFrame : W16 := 0
  /-- FRM_TIME at which the next admission batch is due (manager). -/
  batchDue : Nat := 0
  runningAt : Nat := 0
  deputy   : Nat := 0xFFFF
  expected : Nat := 0
  quorum   : Nat := 0
  managerRank : Nat := 0
  managerUid  : Bytes := []
  /-- FRM_NUM at which a BEACON was last heard on network A and on B, with our GROUP_ID. -/
  heardA   : Option Nat := none
  heardB   : Option Nat := none
  /-- The group frame of the last beacon heard: its copy on the other network is no further event (02 R46). -/
  beaconFrame : Option Nat := none
  rejected : Bool := false
  discovered : List Discovered := []
  /-- Members that refused a copy of a tenant for want of room (R401, R403). -/
  noRoom   : List (Nat × Nat) := []
  /-- QUORUM of votes reached: acting manager at the next tick (R414). -/
  elected  : Bool := false
  /-- Ranks to declare failed at the next tick, with their cause (R407). -/
  causes   : List (Nat × Nat) := []
  lastJoin : Option Nat := none
  /-- Last group frame run as a member, 0 for none. -/
  lastGroupFrame : Nat := 0
  admission : Option Admission := none
  /-- Tick at which an acting manager hands back to rank 0 (R415). -/
  handback : Nat := 0
  /-- Placement entries: the whole directory on the manager and the deputy, our own elsewhere. -/
  places   : List Place := []
  placesOut : List PlaceOut := []
  /-- PLACE received, applied at the next tick. -/
  placeIn  : List (Nat × List Place) := []
  /-- READY waits for the entries of R402: those received, and the epoch of the last message of them. -/
  unready  : Bool := false
  snapshot : List Place := []
  snapEpoch : Option Nat := none
  copies   : List CopyOut := []
  nextCopy : Nat := 0
  heldCopies : List HeldCopy := []
  journals : List JournalHeld := []
  relocs   : List Reloc := []
  votes    : List Nat := []
  round    : Nat := 0
  asking   : Bool := false
  askAt    : Nat := 0
  drain    : Option Drain := none
  seqs     : List (Nat × Nat) := []
  nextQuery : Nat := 0
  /-- The STATUS message posted in advance carries the safe-state flag when sent (18 R431). -/
  outbox   : List OutMsg := []
  deriving DecidableEq, Repr

end Sys2Proof.Machine
end

