-- ==== Sys2Proof/Machine/State.lean ====
section
/-! DEFINITION. The state of the module, the reasons a step can stop, and the state after reset. -/

namespace Sys2Proof.Machine

/-- The whole module, and the commands that wait for it, first in, first out. -/
structure State where
  /-- Commands and events that have reached the module and have not been taken up. -/
  pending  : List Instr := []
  phase    : Phase := .starting
  frame    : Frame := {}
  loft     : Loft := {}
  clusters : List Cluster := List.replicate 8 {}
  sched    : Sched := {}
  /-- A Spar reset is under way (01 R18). -/
  sparReset : Bool := false
  reel     : Reel := {}
  library  : Library := {}
  bridle   : Bridle := {}
  search   : Search := {}
  media    : Media := {}
  host     : HostIf := {}
  tether   : Tether := {}
  group    : Group := {}
  drogue   : Drogue := {}
  parity   : Parity := {}
  gondola  : Gondola := {}
  sec      : Sec := {}
  power    : Power := {}
  dbg      : Dbg := {}
  /-- The model's own: how many free values the run has drawn (not the spec's). -/
  draws    : Nat := 0
  deriving DecidableEq, Repr

/-- Why the block stops. -/
inductive Fault where
  /-- Raised by a meaning whose operands no sender can send: the term breaks `Instr.wellFormed`. Safe: the step has no effect. -/
  | illFormed
  deriving DecidableEq, Repr

/-- Why there is no meaning. -/
inductive Refusal where
  /-- Raised by an arm of `exec` whose command has no meaning yet. Safe: nothing runs. -/
  | notModelled (mnemonic : String)
  deriving DecidableEq, Repr

/-- The module right after the module reset that follows its first power-good, before its boot ROM has run (00 R10, 20 R458, R460): every register at its Reset column, nothing stored on the media. -/
def State.reset : State := {}

end Sys2Proof.Machine
end

