-- ==== Sys2Proof/Machine/Ops.lean ====
section
/-! DEFINITION. The operations every command shares: parts of the state by number, completions (15 R358, R369), the telemetry ring (15 R366), asynchronous events, free values. -/

namespace Sys2Proof.Machine

/-- Group frame number (02 R33). -/
def State.groupFrame (s : State) : BitVec 48 := s.frame.num + s.frame.grpOfs

/-- Cluster clock in MHz at a level (20 R468). -/
def clockMhz (level : BitVec 3) : Nat := 1750 - 125 * level.toNat

/-- Is a hard throttle, the safe state, a halt, sleep or a reset holding the sequencer of cluster `k` (07 R175, 18 R431, 21 R493)? -/
def State.holds (s : State) (k : Cluster) : Bool :=
  s.power.frozen || s.drogue.state != 0 || s.sparReset || k.asleep || k.inReset || k.halted || decide (s.phase ≠ .up)
def State.stopped (s : State) (c : Nat) : Bool := s.holds (s.clusters.getD c {})

/-- Cycles of a first weight load pass in a tile (05 R119). -/
def Tile.load (t : Tile) (n : Nat) : Tile :=
  if t.state = 1 then (if t.loadLeft ≤ n then { t with state := 2, loadLeft := 0 } else { t with loadLeft := t.loadLeft - n }) else t

/-- `dt` ns of a running pass: the run-cycle counter counts in cycles of the cluster clock (07 R169, R170). -/
def Cluster.runFor (k : Cluster) (dt : Nat) : Cluster :=
  let x := k.seq.cycFrac + dt * clockMhz k.level
  { k with seq := { k.seq with cyc := k.seq.cyc + x / 1000, cycFrac := x % 1000 }, tiles := k.tiles.map fun t => t.load (x / 1000) }

/-- Time goes on to `t`: FRM_TIME, and the run-cycle counters of the passes that run (07 R170). -/
def State.advance (s : State) (t : Nat) : State :=
  let dt := t - s.frame.time
  { s with
    frame := { s.frame with time := max s.frame.time t }
    clusters := if dt = 0 then s.clusters else s.clusters.map fun k => if k.seq.run.isSome && !s.holds k then k.runFor dt else k }

/-- No image is in force (03 R56). -/
def State.bare (s : State) : Bool := s.loft.image.isNone

/-- The module is in the safe state, latched or not (18 R431, R435). -/
def State.safe (s : State) : Bool := s.drogue.state != 0

/-- The rails are up. -/
def State.powered (s : State) : Bool :=
  match s.phase with
  | .off _ => false
  | .sequencing => false
  | .stopped => false
  | _ => true

/-- The module is in Hold (20 R465). -/
def State.inHold (s : State) : Bool := decide (s.power.hold = .held)

/-- Entry to Hold is past its first step, or Hold is reached (20 R465). -/
def State.holding (s : State) : Bool := decide (s.power.hold = .ending) || decide (s.power.hold = .flushing) || s.inHold

/-- RANK of the image in force, 0 for a module that runs alone (09 R204); in the bare state the rank that the stored addresses carry. -/
def State.rank (s : State) : Nat := match s.loft.image with | some i => i.rank | none => s.reel.rank

/-- Frame period in force, ns. -/
def State.periodNs (s : State) : Nat := s.frame.periodUs * 1000

def State.clusterAt (s : State) (c : Nat) : Cluster := s.clusters.getD c {}
def State.modCluster (s : State) (c : Nat) (f : Cluster → Cluster) : State :=
  { s with clusters := modifyAt f s.clusters c }

/-- Tile MTt (00 R8). -/
def State.tileAt (s : State) (t : Nat) : Tile := (s.clusterAt (t / 8)).tiles.getD (t % 8) {}
def State.modTile (s : State) (t : Nat) (f : Tile → Tile) : State :=
  s.modCluster (t / 8) fun k => { k with tiles := modifyAt f k.tiles (t % 8) }

def State.ctrlAt (s : State) (n : Nat) : Ctrl := s.media.ctrls.getD n {}
def State.modCtrl (s : State) (n : Nat) (f : Ctrl → Ctrl) : State :=
  { s with media := { s.media with ctrls := modifyAt f s.media.ctrls n } }

def State.portAt (s : State) (p : Nat) : Port := s.tether.ports.getD p {}
def State.modPort (s : State) (p : Nat) (f : Port → Port) : State :=
  { s with tether := { s.tether with ports := modifyAt f s.tether.ports p } }

def State.laneAt (s : State) (l : Nat) : Lane := s.tether.lanes.getD l {}
def State.modLane (s : State) (l : Nat) (f : Lane → Lane) : State :=
  { s with tether := { s.tether with lanes := modifyAt f s.tether.lanes l } }

def State.coreAt (s : State) (k : Nat) : Core := s.gondola.cores.getD k {}
def State.modCore (s : State) (k : Nat) (f : Core → Core) : State :=
  { s with gondola := { s.gondola with cores := modifyAt f s.gondola.cores k } }

def State.dieAt (s : State) (d : Nat) : Die := Sparse.get {} s.media.dies d
def State.modDie (s : State) (d : Nat) (f : Die → Die) : State :=
  { s with media := { s.media with dies := Sparse.set {} s.media.dies d (f (s.dieAt d)) } }

/-- A word that the spec leaves open: nothing constrains it (log 7). -/
def State.freeWord (s : State) : W32 := Config.freeWord s.draws
def State.drawn (s : State) : State := { s with draws := s.draws + 1 }

/-- A status with its DNR bit (15 R369). -/
structure Status where
  sct : BitVec 3
  sc  : Byte
  dnr : Bool
  deriving DecidableEq, Repr

def stOk : Status := ⟨0, 0x00, false⟩
def stInvalidField : Status := ⟨0, 0x02, true⟩
def stDataTransfer : Status := ⟨0, 0x04, false⟩
def stAbortRequested : Status := ⟨0, 0x07, false⟩
def stSqDeleted : Status := ⟨0, 0x08, false⟩
def stSequence : Status := ⟨0, 0x0C, false⟩
def stSgl : Status := ⟨0, 0x11, true⟩
def stWriteProtected : Status := ⟨0, 0x20, true⟩
def stInterrupted : Status := ⟨0, 0x21, false⟩
def stCapacity : Status := ⟨0, 0x81, true⟩
def stNsNotReady : Status := ⟨0, 0x82, false⟩
def stFwSlot : Status := ⟨1, 0x06, true⟩
def stFwImage : Status := ⟨1, 0x07, true⟩
def stNsIdUnavailable : Status := ⟨1, 0x16, true⟩
def stReadOnly : Status := ⟨1, 0x82, true⟩
def stUnrecovered : Status := ⟨2, 0x81, true⟩
def stNotLoaded : Status := ⟨7, 0x80, false⟩
def stImageRejected : Status := ⟨7, 0x81, true⟩
def stPoisoned : Status := ⟨7, 0x83, true⟩
def stQuota : Status := ⟨7, 0x84, false⟩
def stContract : Status := ⟨7, 0x85, true⟩
def stShort : Status := ⟨7, 0x86, false⟩
def stGroupLevel : Status := ⟨7, 0x87, true⟩

/-- Success: 0, or SHORT (15 R369). -/
def Status.good (t : Status) : Bool := decide (t = stOk) || decide (t = stShort)

/-- An entry in the Error Information log, the latest 64 (15 R346). -/
def State.logError (s : State) (id : CmdId) (t : Status) : State :=
  if t.good then s else
    let n := s.host.errCount + 1
    let e : ErrEntry := { count := n, id := id, status := BitVec.ofNat 16 (t.sct.toNat * 256 + t.sc.toNat) }
    { s with host := { s.host with errCount := n, errors := (e :: s.host.errors).take 64 } }

/-- Post the completion of an admin command that the module answers at once. -/
def State.answer (s : State) (id : CmdId) (t : Status) (dw0 : W32 := 0) (data : Bytes := []) (dw1 : W32 := 0) : State :=
  let c : Completion := { id := id, sct := t.sct, sc := t.sc, dnr := t.dnr, dw0 := dw0, dw1 := dw1, data := data }
  ({ s with host := { s.host with completions := s.host.completions ++ [c] } }).logError id t

/-- Is the command received and not completed? -/
def State.isOpen (s : State) (id : CmdId) : Bool := s.host.open_.any fun o => decide (o.id = id)

/-- A command that waits is entered in the list of open commands. -/
def State.enter (s : State) (id : CmdId) (ordered : Bool := false) (held : Option Instr := none) (resLen : Option Nat := none) (tenant nsid : Nat := 0) : State :=
  { s with host := { s.host with open_ := s.host.open_ ++ [{ id := id, ordered := ordered, held := held, resLen := resLen, tenant := tenant, nsid := nsid }] } }

/-- Length of the command's result buffer. -/
def State.resLenOf (s : State) (id : CmdId) : Option Nat :=
  match s.host.open_.find? fun o => decide (o.id = id) with
  | none => none
  | some o => o.resLen

/-- The command leaves the list of open commands. -/
def State.leave (s : State) (id : CmdId) : State :=
  { s with host := { s.host with open_ := s.host.open_.filter fun o => !decide (o.id = id) } }

/-- Post the completion of a command that waited; a command lost with its queue posts none (15 R355). A result longer than its buffer is cut, and TRUNCATED is set (15 R357). -/
def State.complete (s : State) (id : CmdId) (t : Status) (dw0 dw1 : W32 := 0) (data : Bytes := []) : State :=
  if s.isOpen id then
    let cut := match s.resLenOf id with | none => false | some n => decide (n < data.length)
    let data := match s.resLenOf id with | none => data | some n => data.take n
    let c : Completion := { id := id, sct := t.sct, sc := t.sc, dnr := t.dnr, dw0 := dw0, dw1 := if cut then dw1 ||| 0x800 else dw1, data := data }
    (({ s with host := { s.host with completions := s.host.completions ++ [c] } }).leave id).logError id t
  else s

/-- Complete the command that waits, if one does. -/
def State.completeOpt (s : State) (id : Option CmdId) (t : Status) (dw0 dw1 : W32 := 0) (data : Bytes := []) : State :=
  match id with
  | none => s
  | some i => s.complete i t dw0 dw1 data

/-- One event to one controller: it ends an outstanding request, or it waits (15 R346). -/
def HostCtrl.takeEvent (e mask : W32) (c : HostCtrl) : HostCtrl × List CmdId :=
  if c.aec &&& mask = 0 then (c, []) else
  match c.aers with
  | [] => ({ c with events := c.events ++ [e] }, [])
  | a :: r => ({ c with aers := r }, [a])

/-- An asynchronous event goes to every controller whose Asynchronous Event Configuration has a bit of `mask` set (15 R346; log 10). -/
def State.raiseEvent (s : State) (e mask : W32) : State :=
  let r := s.host.ctrls.map (HostCtrl.takeEvent e mask)
  let s := { s with host := { s.host with ctrls := r.map (·.1) } }
  (r.foldl (fun l p => l ++ p.2) []).foldl (fun s id => s.answer id stOk e) s

/-- Dword 0 of the asynchronous events (log 10): SMART, temperature, firmware activation, telemetry. -/
def evSmart : W32 := 0x00020001
def evTemperature : W32 := 0x00020101
def evFirmware : W32 := 0x00030102
def evTelemetry : W32 := 0x00C20202

/-- An entry in the telemetry ring of 4,096 (15 R366). -/
def State.telemetry (s : State) (block event unit : Nat) (detail : Nat := 0) : State :=
  let n := s.host.telSeq + 1
  let e : TelEntry := { seq := n, frame := s.groupFrame, block := BitVec.ofNat 16 block, event := BitVec.ofNat 16 event, unit := BitVec.ofNat 32 unit, detail := BitVec.ofNat 64 detail }
  let l := s.host.telemetry ++ [e]
  ({ s with host := { s.host with telSeq := n, telemetry := l.drop (l.length - 4096) } }).raiseEvent evTelemetry 0x400

/-- A FRM_EVT bit is set, and its setting recorded (02 R55). -/
def State.setFrmEvt (s : State) (n : Nat) : State :=
  ({ s with frame := { s.frame with evt := setBit s.frame.evt n true } }).telemetry 2 n 0

/-- A message leaves the module on a network, toward a rank. -/
def State.send (s : State) (net toRank : Nat) (m : Bytes) : State :=
  { s with group := { s.group with outbox := s.group.outbox ++ [{ net := net, toRank := toRank, msg := m }] } }

/-- Networks with a port up (17 R394). -/
def State.netUp (s : State) (n : Nat) : Bool :=
  s.tether.ports.zipIdx.any fun x => x.1.up && (match s.loft.image with
    | some i => (match i.ports[x.2]? with | some q => q.use && decide (q.net = n) | none => false)
    | none => decide (x.2 / 4 = n))

/-- The module stays outside its group for want of a trained link on each network: a worker that has not joined, or a manager of more than one that has admitted none (00 R4). -/
def State.outside (s : State) : Bool :=
  (match s.loft.image with
   | none => false
   | some i => if i.role = 0 then decide (1 < i.expectedSize) && decide (s.group.members.length ≤ 1) else decide (s.group.state.toNat < 3)) &&
  !(s.netUp 0 && s.netUp 1)

/-- The network of the next message to a peer: successive messages alternate between the networks that are up (16 R385; 17 R392). -/
def State.peerNet (s : State) (dst : Nat) : Nat :=
  let k := (Sparse.get 0 s.group.seqs dst + Sparse.get 0 s.bridle.nextSeq dst) % 2
  if s.netUp k then k else 1 - k

/-- One more exit counted toward a rule that looks back over a span of time: times no more than `d` before `now` are kept. -/
def recentTimes (now d : Nat) (l : List Nat) : List Nat := l.filter fun t => decide (now ≤ t + d)

end Sys2Proof.Machine
end

