-- ==== Sys2Proof/Machine/Report.lean ====
section
/-! DEFINITION. Counting, classing and capturing a fault report (18 R425 to R430). What a report makes the module do stands in Drogue. -/

namespace Sys2Proof.Machine

/-- The classes of R425. -/
inductive FaultClass where
  | corrected
  | deferred
  | localFatal
  | moduleFatal
  deriving DecidableEq, Repr

/-- CLASS of a capture: 1 deferred, 2 local-fatal, 3 module-fatal (R439). -/
def FaultClass.code : FaultClass → BitVec 2
  | .corrected => 0
  | .deferred => 1
  | .localFatal => 2
  | .moduleFatal => 3

/-- The class of a SOURCE (R426). Sources 01h and 02h stand at their discard here; a pass that ends FAULTED is reported as deferred. None: no such source. -/
def sourceClass (src : Byte) : Option FaultClass :=
  match src.toNat with
  | 0x01 | 0x02 | 0x05 | 0x06 | 0x07 => some .corrected
  | 0x08 => some .deferred
  | 0x03 | 0x04 | 0x0A | 0x0B | 0x0C | 0x0D | 0x0E | 0x11 => some .localFatal
  | 0x09 | 0x0F | 0x10 | 0x12 | 0x13 | 0x14 | 0x15 => some .moduleFatal
  | _ => none

/-- A report as a capture holds it (R429). -/
def captureOf (f : FaultIn) (c : FaultClass) (t : Nat) (n : BitVec 48) : Capture :=
  { valid := true, cls := c.code, space := f.space, access := f.access, source := f.source, master := f.master, addr := f.addr, addrHi := f.addrHi, time := t, frame := n }

/-- FIRST takes a fault of a captured class when it is empty, and counts it when it is full (R429). -/
def Drogue.takeFirst (d : Drogue) (k : Capture) : Drogue :=
  if d.first.valid then { d with firstMore := satInc d.firstMore } else { d with first := k }

/-- FATAL takes a module-fatal fault when it is empty, and counts it when it is full (R429). -/
def Drogue.takeFatal (d : Drogue) (k : Capture) : Drogue :=
  if d.fatal.valid then { d with fatalMore := satInc d.fatalMore } else { d with fatal := k }

/-- The count of the class, and the captures it goes to (R425, R429). -/
def Drogue.record (d : Drogue) (c : FaultClass) (k : Capture) : Drogue :=
  match c with
  | .corrected => { d with cntCorr := satInc d.cntCorr }
  | .deferred => ({ d with cntDefer := satInc d.cntDefer }).takeFirst k
  | .localFatal => ({ d with cntLocal := satInc d.cntLocal }).takeFirst k
  | .moduleFatal => (({ d with cntFatal := satInc d.cntFatal }).takeFatal k).takeFirst k

/-- A report recorded in a class, with the time-stamp of R429. -/
def State.record (s : State) (c : FaultClass) (f : FaultIn) : State :=
  { s with drogue := s.drogue.record c (captureOf f c s.frame.time s.frame.num) }

/-- A report with nothing but its source and master. -/
def mkFault (src : Nat) (master : Nat) (access : Nat := 4) : FaultIn :=
  { source := BitVec.ofNat 8 src, master := BitVec.ofNat 16 master, access := BitVec.ofNat 3 access, space := 1, addr := 0, addrHi := 0 }

/-- A corrected report: counted alone. -/
def State.corrected (s : State) : State := s.record .corrected (mkFault 0 0)

/-- A bite at edge `e` of 09 R227: a deferred error, counted for its edge (R426 08h, R439). -/
def State.bite (s : State) (e : Nat) (f : FaultIn) : State :=
  let s := s.record .deferred { f with source := 8 }
  { s with drogue := { s.drogue with bites := modifyAt satInc s.drogue.bites e } }

/-- A bite in a host command's buffer: SPACE 2 names the command (R429). -/
def State.biteCmd (s : State) (e : Nat) (id : CmdId) : State :=
  s.bite e { source := 8, master := 0x0400, access := 1, space := 2, addr := BitVec.ofNat 32 (id.sq.toNat * 65536 + id.cid.toNat), addrHi := id.ctrl.zeroExtend 32 }

/-- A bite at a Loft address. -/
def State.biteAt (s : State) (e : Nat) (a : W64) : State :=
  s.bite e { source := 8, master := 0x0400, access := 3, space := 0, addr := lo32 a.toNat, addrHi := hi32 a.toNat }

/-- Byte parity (R421, R423): the parity bit of byte `i` of the write, for `i` below its width in bytes, is bad exactly when the armed mask has bit `i`. `addrs` are the byte numbers in the group's store that the write carries, in its byte order. -/
def Parity.write (p : Parity) (g : Nat) (addrs : List Nat) : Parity :=
  let m := Sparse.get (0 : W32) p.masks g
  let bad := addrs.zipIdx.foldl (fun b (x : Nat × Nat) => Marks.put b (g * 2 ^ 32 + x.1) (decide (x.2 < 32) && bit m x.2)) p.bad
  if m = 0 then { p with bad := bad }
  else { p with bad := bad, masks := Sparse.set 0 p.masks g 0, flipCnt := satInc p.flipCnt }

/-- A write of `n` bytes at ascending byte numbers of group `g`. -/
def State.parWrite (s : State) (g base n : Nat) : State :=
  if Sparse.get (0 : W32) s.parity.masks g = 0 then
    { s with parity := { s.parity with bad := Sparse.clearRange s.parity.bad (g * 2 ^ 32 + base) (g * 2 ^ 32 + base + n) } }
  else { s with parity := s.parity.write g ((upTo n).map (base + ·)) }

/-- Does a byte of the run have bad parity? -/
def Parity.isBad (p : Parity) (g base n : Nat) : Bool :=
  p.bad.any fun e => decide (g * 2 ^ 32 + base ≤ e.1) && decide (e.1 < g * 2 ^ 32 + base + n) && e.2

/-- A read of a data store that fails parity is delivered with a mark, and counted (R422, R438). -/
def State.parRead (s : State) (g base n : Nat) : Bool × State :=
  if s.parity.isBad g base n then
    (true, { s with parity := { s.parity with lastValid := true, lastGroup := BitVec.ofNat 8 g, poisonCnt := Sparse.set 0 s.parity.poisonCnt g (satInc (Sparse.get (0 : W32) s.parity.poisonCnt g)) } })
  else (false, s)

/-- `n` reads of a data store were delivered with a mark from a parity error (R438). -/
def State.countParity (s : State) (g n : Nat) : State :=
  if n = 0 then s
  else { s with parity := { s.parity with lastValid := true, lastGroup := BitVec.ofNat 8 g, poisonCnt := Sparse.set 0 s.parity.poisonCnt g (satAdd (Sparse.get (0 : W32) s.parity.poisonCnt g) n) } }

/-- A read of control state that fails parity: a fault, not a mark (R422, R438). -/
def State.parTrip (s : State) (g base n : Nat) : Bool × State :=
  if s.parity.isBad g base n then (true, { s with parity := { s.parity with lastValid := true, lastGroup := BitVec.ofNat 8 g } }) else (false, s)

/-- Where a queue entry and the frame table lie in group 0xB0 (R438). -/
def parEntry (uid : Nat) : Nat := 64 * (uid % 16777216)
def parTable : Nat := 2147483648

/-- Masks of the groups with `p` are cleared (R424). -/
def State.parDisarm (s : State) (p : Nat → Bool) : State :=
  { s with parity := { s.parity with masks := s.parity.masks.filter fun e => !p e.1 } }

/-- Does R438 list the group? -/
def parListed (g : Nat) : Bool :=
  decide (g < 0x98) || decide (0x98 ≤ g ∧ g ≤ 0x9A) || decide (0xA0 ≤ g ∧ g ≤ 0xB0) || decide (0xB8 ≤ g ∧ g ≤ 0xBC) || decide (0xC0 ≤ g ∧ g ≤ 0xCF)

/-- The groups of cluster `c` (R438). -/
def parOfCluster (c g : Nat) : Bool :=
  decide (g / 8 = c ∧ g < 0x40) || decide (0x40 ≤ g ∧ g < 0x80 ∧ (g - 0x40) / 8 = c) || decide (g = 0x80 + c) || decide (g = 0x88 + c) || decide (g = 0x90 + c) || decide (g = 0xA0 + c) || decide (g = 0xA8 + c)

/-- The groups on the Spar die (R438). -/
def parOfSpar (g : Nat) : Bool := decide (g < 0x99) || decide (g = 0x9A) || decide (0xA0 ≤ g ∧ g ≤ 0xB0)

end Sys2Proof.Machine
end

