-- ==== Sys2Proof/Machine/Frame.lean ====
section
/-! DEFINITION. The frame timer and the frame table (02). What the other blocks do at a tick stands in Tick. -/

namespace Sys2Proof.Machine

/-- The owner of a slot: its class, and for class A its contract (R44). -/
def Slot.ownerKey (l : Slot) : Nat × Nat := (l.cls.toNat, if l.cls = 0 then l.owner else 0)

/-- Row `k` of the table in force. -/
def State.row? (s : State) (k : Nat) : Option Row :=
  match s.loft.image with
  | none => none
  | some i => i.rows[k]?

/-- The row that a group frame number runs (R33). -/
def Image.rowIdx (i : Image) (gf : Nat) : Nat := gf % i.rows.length

/-- The row that runs now, and the one after it. -/
def State.rowNow (s : State) : Option Row := s.row? s.frame.rowIdx
def State.rowNext (s : State) : Option Row :=
  match s.loft.image with
  | none => none
  | some i => i.rows[i.rowIdx (s.groupFrame.toNat + 1)]?

/-- Slot `k` of a row when the row has it and it covers cluster `c`. -/
def Row.slotOn (r : Row) (c k : Nat) : Option Slot :=
  match r.slots[k]? with
  | none => none
  | some l => if bit l.clusters c then some l else none

/-- Rows are started: an image is in force, the timer does not hold them, and no state of R52 stops them. -/
def State.rowsRun (s : State) : Bool :=
  !s.bare && !s.frame.held && !s.safe && !s.sparReset && !s.frame.resume && decide (s.power.hold ≠ .held) && decide (s.phase = .up)

/-- Erase and program spans go as the table says: a Spar reset does not stop them (R52). -/
def State.spansRun (s : State) : Bool :=
  !s.bare && !s.frame.held && !s.safe && decide (s.power.hold ≠ .held) && decide (s.phase = .up)

/-- FRM_STATUS.HELD (R53). -/
def State.heldBit (s : State) : Bool := !s.rowsRun

/-- PROG_TGT and ERASE_TGT of the row that runs; no target may program or erase without a row (R39, R52). -/
def State.progTgt (s : State) : BitVec 8 := match s.rowNow with | some r => if s.spansRun then r.progTgt else 0 | none => 0
def State.eraseTgt (s : State) : BitVec 8 := match s.rowNow with | some r => if s.spansRun then r.eraseTgt else 0 | none => 0

/-- A frame overrun in the frame that runs: counted once a frame, with all its clusters and causes (R45). -/
def State.frameOverrun (s : State) (cl : BitVec 8) (freeze late : Bool) : State :=
  let f := s.frame
  let first := decide (f.ovrClusters = 0)
  let c := f.ovrClusters ||| cl
  let fz := f.ovrFreeze || freeze
  let lt := f.ovrLate || late
  let f := { f with ovrClusters := c, ovrFreeze := fz, ovrLate := lt, lastOvrClusters := c, lastOvrFreeze := fz, lastOvrLate := lt, lastOvrFrame := s.groupFrame.setWidth 16 }
  if first then
    ({ s with frame := { f with ovrCnt := satInc f.ovrCnt } }).setFrmEvt 4
  else { s with frame := f }

/-- Overrun still owed by an owner on a cluster (R44). -/
def Cluster.owedBy (k : Cluster) (o : Nat × Nat) : Nat := ((k.owed.find? fun e => decide (e.1 = o)).map (·.2)).getD 0
def Cluster.setOwed (k : Cluster) (o : Nat × Nat) (n : Nat) : Cluster :=
  let r := k.owed.filter fun e => !decide (e.1 = o)
  { k with owed := if n = 0 then r else r ++ [(o, n)] }

/-- A pass that ran past its slot by `n` ends: its owner owes it on this cluster. When the owner's next work slot has been reached meanwhile, that slot opens later by it, or stays idle (R44). -/
def Cluster.oweOverrun (k : Cluster) (own : Nat × Nat) (n : Nat) : Cluster :=
  match k.slot with
  | some o =>
    if o.owner = own ∧ o.kind = 0 then
      (if o.openedAt + n < o.closeAt then { k with slot := some { o with openedAt := o.openedAt + n } }
       else { k.setOwed own (k.owedBy own + (o.openedAt + n - o.closeAt)) with slot := none })
    else k.setOwed own (k.owedBy own + n)
  | none => k.setOwed own (k.owedBy own + n)

/-- A pass's overrun ends at time `t`: it is counted and charged (R44). -/
def State.chargeOverrun (s : State) (c t : Nat) : State :=
  match (s.clusterAt c).seq.run with
  | none => s
  | some r =>
    match r.overFrom with
    | none => s
    | some f =>
      if f < t then
        let s := s.modCluster c fun k => k.oweOverrun r.owner (t - f)
        { s with frame := { s.frame with slotOvrCnt := satInc s.frame.slotOvrCnt } }
      else s

/-- A slot opens on a cluster: later by what its owner owes; an owner that owes its whole length leaves it idle (R44). A pass still running then overruns, and delays a class A or D slot (R42, R43, R45). -/
def openSlot (c k : Nat) (s : State) : State :=
  match s.rowNow with
  | none => s
  | some r =>
    match r.slotOn c k with
    | none => s
    | some l =>
      let cl := s.clusterAt c
      if !s.rowsRun || cl.asleep || cl.inReset then s else
        let own := l.ownerKey
        let owed := if l.kind = 0 then cl.owedBy own else 0
        let start := s.frame.tickTime + l.start * 1000
        let close := start + l.len * 1000
        if l.len * 1000 ≤ owed then
          s.modCluster c fun k => k.setOwed own (owed - l.len * 1000)
        else
          let t := start + owed
          let s := s.advance t
          let slot : OpenSlot := { idx := k, owner := own, kind := l.kind, openedAt := t, closeAt := close }
          let s := s.modCluster c fun q => { (if l.kind = 0 then q.setOwed own 0 else q) with slot := some slot }
          match cl.seq.run with
          | none => s
          | some run =>
            if run.owner = own then s else
              let s := s.modCluster c fun q => { q with seq := { q.seq with run := some { run with overFrom := some (run.overFrom.getD t) } } }
              if l.cls = 0 ∨ l.cls = 3 then s.frameOverrun (BitVec.ofNat 8 (2 ^ c)) false true else s

/-- The run that a closing slot finds: it begins to overrun. An overrun that already reaches from an earlier slot of the same owner has taken this slot whole (R44). -/
def Running.slotCloses (r : Running) (o : OpenSlot) : Running :=
  match r.overFrom with
  | none => { r with overFrom := some o.closeAt }
  | some f =>
    if o.owner = r.owner ∧ o.kind = 0 then
      let n := o.closeAt - o.openedAt
      { r with overFrom := some (f + n), ev := { r.ev with overrun := true, overrunUs := r.ev.overrunUs + n / 1000 } }
    else r

/-- A slot closes on a cluster; a pass that still runs begins to overrun (R44). -/
def closeSlot (c k : Nat) (s : State) : State :=
  match (s.clusterAt c).slot with
  | none => s
  | some o =>
    if o.idx = k then
      (s.advance o.closeAt).modCluster c fun q =>
        { q with slot := none, seq := { q.seq with run := q.seq.run.map fun r => r.slotCloses o } }
    else s

/-- When slot `k` of the row that runs, or of the next row when the band reaches back over the tick, opens on cluster `c` (R42). -/
def State.bandSlot (s : State) (c k span : Nat) : Option (Slot × Nat) :=
  let a := match s.rowNow with
    | none => none
    | some r => match r.slotOn c k with
      | none => none
      | some l => if span ≤ l.start then some (l, s.frame.tickTime + l.start * 1000) else none
  match a with
  | some x => some x
  | none => match s.rowNext with
    | none => none
    | some r => match r.slotOn c k with
      | none => none
      | some l => if l.start < span then some (l, s.frame.nextTick + l.start * 1000) else none

/-- The guard band of a class A slot begins (R42). -/
def guardBegin (c k : Nat) (s : State) : State :=
  match s.bandSlot c k 250 with
  | none => s
  | some (l, t) =>
    if s.rowsRun && decide (l.cls = 0) then (s.advance (t - 250000)).modCluster c fun q => { q with guard := some (t, l.ownerKey) }
    else s

/-- The closing window of a class D slot begins (R43). -/
def closingBegin (c k : Nat) (s : State) : State :=
  match s.bandSlot c k 200 with
  | none => s
  | some (l, t) =>
    if s.rowsRun && decide (l.cls = 3) then (s.advance (t - 200000)).modCluster c fun q => { q with closing := some t }
    else s

/-- May a pass of an owner start on the cluster at time `t` as guard bands and closing windows go (R42, R43)? -/
def Cluster.bandsAllow (k : Cluster) (own : Nat × Nat) (t : Nat) : Bool :=
  (match k.guard with | some (e, o) => decide (e ≤ t) || decide (o = own) | none => true) &&
  (match k.closing with | some e => decide (e ≤ t) || decide (own.1 = 3) | none => true)

/-- The expected time of the reference event nearest to `t`: a tick whose group frame number is a multiple of `div` (R46, R47). -/
def State.expected (s : State) (div t : Nat) : Nat :=
  let g := s.groupFrame.toNat
  let p := s.periodNs
  let next := s.frame.nextTick + ((div - (g + 1) % div) % div) * p
  let prev := s.frame.tickTime - (g % div) * p
  if prev ≤ t ∧ t - prev < (next - t) then prev else next

/-- An event is accepted: the rate is trimmed by it, and the expected events before it no longer count as missed. An event ahead of the coming tick is that tick's (R47, R49). -/
def State.acceptEvent (s : State) (e : Nat) (err : Int) (st : BitVec 3) : State :=
  { s with frame := { s.frame with syncState := st, phaseErr := BitVec.ofInt 32 err, residual := err, trimDue := true, missed := if s.frame.tickTime < e then -1 else 0 } }

/-- A reference event at time `t` (R47 to R49). -/
def refEvent (div t : Nat) (s : State) : State :=
  let s := s.advance t
  let f := s.frame
  let p := s.periodNs
  let e := s.expected div t
  let err : Int := (t : Int) - (e : Int)
  if f.syncState = 1 then
    match f.lastEvent with
    | none =>
      -- R48: the first event is taken as a tick; the boundary is stepped to it.
      ({ s with frame := { f with nextTick := t, lastEvent := some t, phaseErr := 0, stepping := true } }).setFrmEvt 0
    | some _ =>
      if err.natAbs ≤ 1000 then
        let s := s.acceptEvent e err 2
        { s with frame := { s.frame with startRows := true, lastEvent := none } }
      else s
  else if f.syncState = 3 ∨ (f.syncState = 2 ∧ 4 * err.natAbs ≤ p) then
    s.acceptEvent e err (if err.natAbs ≤ 1000 then 2 else 3)
  else if f.syncState = 2 then s.setFrmEvt 1
  else
    -- R49: sync is lost; eight events spaced as expected restore it, wherever their phase lies.
    let spaced := match f.lastEvent with
      | none => false
      | some l => decide (((t : Int) - ((l + div * p : Nat) : Int)).natAbs ≤ 1000)
    let n := if spaced then f.goodEvents + 1 else 1
    if 8 ≤ n then
      let s := s.acceptEvent e err 3
      ({ s with frame := { s.frame with goodEvents := 0, lastEvent := none, atLimit := true } }).setFrmEvt 3
    else { s with frame := { f with goodEvents := n, lastEvent := some t } }

/-- A SYNC_IN edge matters when the image's source is SYNC_IN (R46). -/
def syncEdge (t : Nat) (s : State) : State :=
  match s.loft.image with
  | none => s.advance t
  | some i => if i.src = 1 then refEvent i.inDiv t s else s.advance t

/-- Frames between two expected reference events: IN_DIV, 1 with the group time base (R46). -/
def Image.eventFrames (i : Image) : Nat := if i.src = 2 then 1 else i.inDiv

/-- Lock has not been confirmed within 16 expected event intervals: rows start free-running, and the timer goes on looking for the source (R48, R49). -/
def acquireTimeout (s : State) : State :=
  if s.frame.syncState = 1 ∧ s.loft.image.any (fun i => decide (16 * i.eventFrames ≤ s.frame.acqFrames)) then
    ({ s with frame := { s.frame with syncState := 0, startRows := true, goodEvents := 0, lastEvent := none } }).setFrmEvt 2
  else s

/-- Is the source lost: four expected edges, or sixteen frames of beacons, have brought nothing (R49)? -/
def State.sourceLost (s : State) : Bool :=
  match s.loft.image with
  | none => false
  | some i =>
    (decide (s.frame.syncState = 2) || decide (s.frame.syncState = 3)) &&
    (match i.src with
     | 1 => decide (5 ≤ s.frame.missed) || (decide (s.frame.missed = 4) && (decide (s.groupFrame.toNat % i.inDiv ≠ 0) || decide (s.frame.tickTime + s.periodNs / 4 < s.frame.time)))
     | 2 => decide (16 ≤ s.frame.sinceBeacon)
     | _ => false)

/-- Sync is lost: the timer goes on in holdover at its last trimmed rate (R49). -/
def syncLost (s : State) : State :=
  if s.sourceLost then
    ({ s with frame := { s.frame with syncState := 4, goodEvents := 0, lastEvent := none } }).setFrmEvt 2
  else s

/-- A number kept within two bounds. -/
def intWithin (lo hi x : Int) : Int := max lo (min x hi)

/-- How far slewing carries this boundary beyond the trimmed rate, both together at most 16 µs either way (R46, R47): toward the source, by at most the phase error; at the limit after sync was restored (R49). `move` is what the timer chooses within that. -/
def Frame.slew (f : Frame) (move : Int) : Int :=
  if f.syncState = 3 ∧ !f.stepping then
    if 0 ≤ f.residual then intWithin 0 (max 0 (min f.residual (16000 - f.rate))) (if f.atLimit then 16000 - f.rate else move)
    else intWithin (min 0 (max f.residual (-16000 - f.rate))) 0 (if f.atLimit then -16000 - f.rate else move)
  else 0

/-- The rate after a tick: trimmed to `trim` where an event was accepted, else kept, in holdover too (R47, R49). -/
def Frame.trimmed (f : Frame) (trim : Int) : Int := if f.trimDue then intWithin (-16000) 16000 trim else f.rate

/-- When the boundary of the tick now due falls (R46, R47). -/
def Frame.boundary (f : Frame) (move : Int) : Nat := ((f.nextTick : Int) + f.slew move).toNat

/-- Step 1 of R34 as the timer takes it: the counters advance, the slew proceeds, the rate is trimmed, the frame's overrun record begins anew. -/
def Frame.tick (f : Frame) (move trim : Int) : Frame :=
  let t := f.boundary move
  let res := f.residual - f.slew move
  let st : BitVec 3 := if f.syncState = 3 ∧ res.natAbs ≤ 1000 then 2 else f.syncState
  { f with
    num := f.num + 1
    tickTime := t
    nextTick := ((t + f.periodUs * 1000 : Nat) + f.trimmed trim).toNat
    rate := f.trimmed trim, trimDue := false
    residual := res
    syncState := st
    atLimit := f.atLimit && decide (st = 3)
    acqFrames := f.acqFrames + 1
    ovrClusters := 0, ovrFreeze := false, ovrLate := false
    sinceBeacon := f.sinceBeacon + 1
    stepping := false, resume := false }

/-- An expected event falls due at this tick (R46, R49). -/
def State.countExpected (s : State) : State :=
  if (s.frame.syncState = 2 ∨ s.frame.syncState = 3) ∧ s.loft.image.any (fun i => decide (s.groupFrame.toNat % i.eventFrames = 0)) then { s with frame := { s.frame with missed := s.frame.missed + 1 } } else s

/-- SYNC_OUT at a tick: high-impedance unless an image enables it; a pulse when due, none in the frame of a step (R51, R52). -/
def State.syncOutAt (s : State) (stepped : Bool) : Option Bool :=
  match s.loft.image with
  | none => none
  | some i =>
    if i.outEn then some (!stepped && decide (s.groupFrame.toNat % i.outDiv = 0)) else none

/-- FRM_EVT_CLR (R53, R55). -/
def frmEvtClear (v : W32) (s : State) : State :=
  { s with frame := { s.frame with evt := clearBits s.frame.evt (v.setWidth 5) } }

end Sys2Proof.Machine
end

