-- ==== Sys2Proof/Machine/Numfmt.lean ====
section
/-! DEFINITION. Number formats: decoding, exact arithmetic, the one rounding of R99, overflow, saturation and conversion (04). -/

namespace Sys2Proof.Machine

/-- A number as a unit sees it: NaN, an infinity, or (-1)^neg × m × 2^e (R86, R88). -/
inductive Val where
  | nan
  | inf (neg : Bool)
  | fin (neg : Bool) (m : Nat) (e : Int)
  deriving DecidableEq, Repr

/-- A floating format: widths of exponent and fraction, bias, and which special values it has: 0 infinity and NaN, 1 NaN alone (E4M3), 2 none (R86). -/
structure FloatFmt where
  ebits : Nat
  mbits : Nat
  bias  : Nat
  kind  : Nat
  deriving DecidableEq, Repr

/-- Format codes 0h to 7h (R82, R86). -/
def floatFmt (code : Nat) : Option FloatFmt :=
  match code with
  | 0 => some ⟨8, 23, 127, 0⟩
  | 1 => some ⟨8, 7, 127, 0⟩
  | 2 => some ⟨5, 10, 15, 0⟩
  | 3 => some ⟨4, 3, 7, 1⟩
  | 4 => some ⟨5, 2, 15, 0⟩
  | 5 => some ⟨3, 2, 3, 2⟩
  | 6 => some ⟨2, 3, 1, 2⟩
  | 7 => some ⟨2, 1, 1, 2⟩
  | _ => none

/-- Width of a format in bits (R82). -/
def fmtWidth (code : Nat) : Nat :=
  match code with
  | 0 => 32 | 1 => 16 | 2 => 16 | 3 => 8 | 4 => 8 | 5 => 6 | 6 => 6 | 7 => 4
  | 8 => 32 | 9 => 16 | 10 => 8 | 11 => 8 | 12 => 4 | 13 => 2 | 14 => 1 | _ => 8

def fp32 : FloatFmt := ⟨8, 23, 127, 0⟩

/-- The largest finite encoding, sign apart. -/
def FloatFmt.maxCode (f : FloatFmt) : Nat :=
  match f.kind with
  | 0 => (2 ^ f.ebits - 1) * 2 ^ f.mbits - 1
  | 1 => 2 ^ (f.ebits + f.mbits) - 2
  | _ => 2 ^ (f.ebits + f.mbits) - 1

/-- Infinity, where the format has one, and the canonical NaN (R88). -/
def FloatFmt.infCode (f : FloatFmt) : Nat := (2 ^ f.ebits - 1) * 2 ^ f.mbits
def FloatFmt.nanCode (f : FloatFmt) : Nat := if f.kind = 0 then f.infCode + 2 ^ (f.mbits - 1) else 2 ^ (f.ebits + f.mbits) - 1

/-- The value of an encoding (R86). -/
def FloatFmt.decode (f : FloatFmt) (v : Nat) : Val :=
  let mag := v % 2 ^ (f.ebits + f.mbits)
  let neg := decide (v / 2 ^ (f.ebits + f.mbits) % 2 = 1)
  let e := mag / 2 ^ f.mbits
  let m := mag % 2 ^ f.mbits
  if f.kind = 0 ∧ e = 2 ^ f.ebits - 1 then (if m = 0 then .inf neg else .nan)
  else if f.kind = 1 ∧ mag = 2 ^ (f.ebits + f.mbits) - 1 then .nan
  else if e = 0 then .fin neg m (1 - (f.bias : Int) - f.mbits)
  else .fin neg (2 ^ f.mbits + m) ((e : Int) - f.bias - f.mbits)

/-- `m × 2^k` rounded to an integer, to nearest with ties to even (R99). -/
def roundShift (m : Nat) (k : Int) : Nat :=
  match k with
  | .ofNat n => m * 2 ^ n
  | .negSucc n =>
    let d := 2 ^ (n + 1)
    let q := m / d
    let r := m % d
    if 2 * r < d then q else if 2 * r > d then q + 1 else if q % 2 = 0 then q else q + 1

/-- A finite magnitude `m × 2^e`, rounded as if the exponent range were unbounded above: its encoding, which may lie past the format's largest (R99, R100, R102). -/
def FloatFmt.roundCode (f : FloatFmt) (m : Nat) (e : Int) : Nat :=
  if m = 0 then 0 else
    let x : Int := (Nat.log2 m : Int) + e
    let emin : Int := 1 - f.bias
    let q : Int := max x emin - f.mbits
    let r := roundShift m (e - q)
    -- exponent field of q, less 1 for a subnormal quantum; the fraction carries into it
    ((q + f.mbits + f.bias - 1).toNat) * 2 ^ f.mbits + r

/-- A number put into a floating format: encoding, CVT_OVF, CVT_NAN (R100, R103). `ieee` is the cluster's OVF_IEEE. -/
def FloatFmt.encode (f : FloatFmt) (ieee : Bool) (x : Val) : Nat × (Bool × Bool) :=
  let sgn := fun (neg : Bool) => if neg then 2 ^ (f.ebits + f.mbits) else 0
  match x with
  | .nan => if f.kind = 2 then (0, (false, true)) else (f.nanCode, (false, false))
  | .inf neg => if f.kind = 0 then (sgn neg + f.infCode, (false, false)) else (sgn neg + f.maxCode, (true, false))
  | .fin neg m e =>
    let c := f.roundCode m e
    if f.maxCode < c then (sgn neg + (if ieee ∧ f.kind = 0 then f.infCode else f.maxCode), (true, false))
    else (sgn neg + c, (false, false))

/-- FP32 under IEEE 754: overflow gives infinity (R97, 06 R139). -/
def round32 (x : Val) : W32 := BitVec.ofNat 32 (fp32.encode true x).1
def dec32 (v : W32) : Val := fp32.decode v.toNat

def Val.isNan : Val → Bool
  | .nan => true
  | _ => false

def Val.neg : Val → Val
  | .nan => .nan
  | .inf n => .inf (!n)
  | .fin n m e => .fin (!n) m e

def Val.isZero : Val → Bool
  | .fin _ 0 _ => true
  | _ => false

/-- The exact product (R88). -/
def Val.mul : Val → Val → Val
  | .nan, _ => .nan
  | _, .nan => .nan
  | .inf a, y => match y with
    | .inf b => .inf (a != b)
    | .fin b m _ => if m = 0 then .nan else .inf (a != b)
    | .nan => .nan
  | .fin a m e, y => match y with
    | .inf b => if m = 0 then .nan else .inf (a != b)
    | .fin b n f => .fin (a != b) (m * n) (e + f)
    | .nan => .nan

/-- The signed integer of a magnitude. -/
def signedNat (neg : Bool) (m : Nat) : Int := if neg then -(m : Int) else m

/-- The exact sum; an exact zero takes the sign IEEE 754 gives it under round to nearest (R87). -/
def Val.add : Val → Val → Val
  | .nan, _ => .nan
  | _, .nan => .nan
  | .inf a, y => match y with
    | .inf b => if a = b then .inf a else .nan
    | _ => .inf a
  | .fin a m e, y => match y with
    | .inf b => .inf b
    | .nan => .nan
    | .fin b n f =>
      let k := min e f
      let s := signedNat a (m * 2 ^ (e - k).toNat) + signedNat b (n * 2 ^ (f - k).toNat)
      if s = 0 then .fin (a && b) 0 k else .fin (decide (s < 0)) s.natAbs k

/-- A number scaled by a power of two, exactly. -/
def Val.scale (k : Int) : Val → Val
  | .fin n m e => .fin n m (e + k)
  | x => x

/-- An integer as a number: 0 is +0 (R104). -/
def Val.ofInt (i : Int) : Val := .fin (decide (i < 0)) i.natAbs 0

/-- A finite number rounded to an integer (R99). -/
def Val.toIntRound : Val → Int
  | .fin n m e => signedNat n (roundShift m e)
  | _ => 0

/-- Is `x < y`? False with a NaN; zeros of either sign are equal. -/
def Val.lt (x y : Val) : Bool :=
  match x, y with
  | .nan, _ => false
  | _, .nan => false
  | .inf a, .inf b => a && !b
  | .inf a, _ => a
  | _, .inf b => !b
  | .fin a m e, .fin b n f =>
    let k := min e f
    decide (signedNat a (m * 2 ^ (e - k).toNat) < signedNat b (n * 2 ^ (f - k).toNat))

/-- Are they equal numbers? -/
def Val.eqv (x y : Val) : Bool := !x.isNan && !y.isNan && !Val.lt x y && !Val.lt y x

/-- FP32 operations that round once (06 R139). -/
def fadd (a b : W32) : W32 := round32 ((dec32 a).add (dec32 b))
def fmul (a b : W32) : W32 := round32 ((dec32 a).mul (dec32 b))
def fsub (a b : W32) : W32 := round32 ((dec32 a).add (dec32 b).neg)

/-- The range of an integer format (R89); UINT8 from 0. -/
def intRange (code : Nat) (tern : Bool) : Int × Int :=
  if code = 11 then (0, 255)
  else if tern ∧ code = 13 then (-1, 1)
  else (-(2 ^ (fmtWidth code - 1) : Int), 2 ^ (fmtWidth code - 1) - 1)

/-- The value of an element of format `code` (R86, R89 to R91). -/
def decodeElem (code : Nat) (v : Nat) : Val :=
  match floatFmt code with
  | some f => f.decode v
  | none =>
    if code = 14 then .ofInt (if v % 2 = 1 then 1 else -1)
    else if code = 15 then (if v % 256 = 255 then .nan else .fin false 1 ((v % 256 : Nat) - 127))
    else if code = 11 then .ofInt (v % 256)
    else
      let w := fmtWidth code
      let u := v % 2 ^ w
      .ofInt (if 2 ^ (w - 1) ≤ u then (u : Int) - 2 ^ w else u)

/-- An integer clamped to a range: value and whether it lay outside (R100). -/
def clampInt (lo hi i : Int) : Int × Bool := (max lo (min hi i), decide (i < lo) || decide (hi < i))

/-- A number put into an integer range (R104): the integer, CVT_OVF, CVT_NAN. -/
def Val.toRange (lo hi : Int) : Val → Int × (Bool × Bool)
  | .nan => (0, (false, true))
  | .inf n => (if n then lo else hi, (true, false))
  | x => let r := clampInt lo hi x.toIntRound; (r.1, (r.2, false))

/-- The `w`-bit encoding of an integer. -/
def encInt (w : Nat) (i : Int) : Nat := (i % 2 ^ w).toNat

/-- Conversion into a plain format (R99 to R104): encoding, CVT_OVF, CVT_NAN. -/
def convert (code : Nat) (tern ieee : Bool) (x : Val) : Nat × (Bool × Bool) :=
  match floatFmt code with
  | some f => f.encode ieee x
  | none =>
    if code = 14 then
      (b2n (match x with | .fin n m _ => !n && decide (m ≠ 0) | .inf n => !n | .nan => false), (false, x.isNan))
    else
      let rg := intRange code tern
      let r := x.toRange rg.1 rg.2
      (encInt (fmtWidth code) r.1, r.2)

/-- The element of an MX composition whose block scale is `xs`: its scaled value (R93, R95, R96). -/
def decodeMx (code : Nat) (xs : Nat) (v : Nat) : Val :=
  if xs = 255 then .nan
  else
    let p := if code = 10 then (decodeElem 10 v).scale (-6) else decodeElem code v
    p.scale ((xs : Int) - 127)

/-- An element scaled for an MX destination: exact, but where it leaves the FP32 range the FP32 rules apply (R104). -/
def Val.scaleMx (v : Val) (xs : Nat) : Val :=
  let y := v.scale (127 - (xs : Int))
  match dec32 (round32 y) with
  | .fin n m e => if 2 ^ 23 ≤ m then y else .fin n m e
  | z => z

/-- Conversion of a present element into an MX destination whose block scale is `xs` (R95, R96, R104). -/
def convertMx (code xs : Nat) (ieee : Bool) (v : Val) : Nat × (Bool × Bool) :=
  if xs = 255 then (0, (false, true))
  else
    let y := v.scaleMx xs
    if code = 10 then
      let r := (y.scale 6).toRange (-127) 127
      (encInt 8 r.1, r.2)
    else convert code false ieee y

/-- A format specifier (R83). -/
structure FmtSpec where
  mx   : Bool
  tern : Bool
  code : Nat
  deriving DecidableEq, Repr

def readSpec (b : Byte) : FmtSpec := { mx := bit b 7, tern := bit b 6, code := bits b 3 0 }

/-- A valid specifier, its reserved bits apart (R84). -/
def FmtSpec.valid (f : FmtSpec) : Bool :=
  (!f.mx || between' 3 f.code 7 || decide (f.code = 10)) && (!f.tern || decide (f.code = 13)) && !(f.mx && f.tern)
where
  between' (lo x hi : Nat) : Bool := decide (lo ≤ x) && decide (x ≤ hi)

/-- Element `j` of a packed row of `code` elements (R85). -/
def packedElem (code : Nat) (b : Bytes) (j : Nat) : Nat :=
  match fmtWidth code with
  | 6 => leNat b (j / 4 * 3) 3 / 2 ^ (6 * (j % 4)) % 64
  | 4 => leNat b (j / 2) 1 / 2 ^ (4 * (j % 2)) % 16
  | 2 => leNat b (j / 4) 1 / 2 ^ (2 * (j % 4)) % 4
  | 1 => leNat b (j / 8) 1 / 2 ^ (j % 8) % 2
  | w => leNat b (j * (w / 8)) (w / 8)

/-- Bytes of a packed row of `n` elements (R85). -/
def packedLen (code n : Nat) : Nat :=
  match fmtWidth code with
  | 6 => 3 * ceilDiv n 4
  | w => ceilDiv (n * w) 8

/-- A row of encodings packed under R85, the last unit padded with zero bits. -/
def packRow (code : Nat) (l : List Nat) : Bytes :=
  let w := fmtWidth code
  let v := l.zipIdx.foldl (fun (a : Nat) (x : Nat × Nat) => a + x.1 % 2 ^ w * 2 ^ (w * x.2)) 0
  toLe v (packedLen code l.length)

end Sys2Proof.Machine
end

