-- ==== Sys2Proof/Machine/Containers.lean ====
section
/-! DEFINITION. Compression containers: the forms of methods 0, 1 and 2, and how the Reel unpacks them (09 R215 to R218). -/

namespace Sys2Proof.Machine

/-- A canonical code: symbols by code length, and within one length by value; the length and the code of each (R216). -/
def canonicalCodes (lens : List Nat) : List (Nat × (Nat × Nat)) :=
  let syms := (upTo 15).foldl (fun l n => l ++ (lens.zipIdx.filter fun x => decide (x.1 = n + 1))) []
  (syms.foldl (fun (a : (Nat × Nat) × List (Nat × (Nat × Nat))) x =>
    let code := a.1.1 * 2 ^ (x.1 - a.1.2)
    ((code + 1, x.1), a.2 ++ [(x.1, (code, x.2))])) ((0, match syms with | x :: _ => x.1 | [] => 0), [])).2

/-- A LENGTHS table that names a code: some symbol occurs, no code runs over, and one symbol alone has length 1 (R216). -/
def lengthsOk (lens : List Nat) : Bool :=
  let l := lens.filter fun n => decide (0 < n)
  !l.isEmpty && decide (sumBy (fun n => 2 ^ (15 - n)) l ≤ 2 ^ 15) && (decide (1 < l.length) || decide (l = [1]))

/-- The next symbol of the exponent bitstream, at most `fuel` bits away (R216). -/
def nextSymbol (t : List (Nat × (Nat × Nat))) (fuel code len : Nat) (s : List Bool) : Option (Nat × List Bool) :=
  match fuel, s with
  | 0, _ => none
  | _ + 1, [] => none
  | f + 1, b :: r =>
    let c := 2 * code + b2n b
    match t.find? fun x => decide (x.1 = len + 1) && decide (x.2.1 = c) with
    | some x => some (x.2.2, r)
    | none => nextSymbol t f c (len + 1) r

/-- The exponents of `n` elements; the bitstream ends with the last (R216). -/
def symbols (t : List (Nat × (Nat × Nat))) : Nat → List Bool → Option (List Nat)
  | 0, [] => some []
  | 0, _ :: _ => none
  | n + 1, s => match nextSymbol t 15 0 0 s with
    | none => none
    | some x => (symbols t n x.2).map fun l => x.1 :: l

/-- Bits of a byte from bit 7 down (R216). -/
def bitsDown (b : Byte) : List Bool := (upTo 8).map fun i => bit b (7 - i)

/-- A method 1 container of elements of format `fmt` (R216). None: a decode error. -/
def unpack1 (fmt : Byte) (b : Bytes) : Option Bytes :=
  let f := readSpec fmt
  match floatFmt f.code with
  | none => none
  | some k =>
    let w := fmtWidth f.code
    let r := w - k.ebits
    let nl := 2 ^ k.ebits / 2
    let n := 65536 * 8 / w
    let rest := 65536 * r / w
    let lens := (upTo (2 ^ k.ebits)).map fun i => leNat b (8 + i / 2) 1 / 16 ^ (i % 2) % 16
    let expBits := leNat b 4 4
    let atExp := 8 + nl + rest
    let atEnd := atExp + ceilDiv expBits 8
    if byteAt b 0 = 1 ∧ byteAt b 1 = fmt ∧ f.code ≤ 4 ∧ (f.mx = false ∨ 3 ≤ f.code) ∧ fmt.toNat / 16 % 8 = 0 ∧ zeros b 2 2 ∧ lengthsOk lens ∧ atEnd ≤ b.length ∧ zeros b atEnd (b.length - atEnd) then
      let s := ((slice b atExp (ceilDiv expBits 8)).foldl (fun l x => l ++ bitsDown x) []).take expBits
      match symbols (canonicalCodes lens) n s with
      | none => none
      | some es =>
        let plane := leNat b (8 + nl) rest
        some (es.zipIdx.foldl (fun l x =>
          let v := plane / 2 ^ (r * x.2) % 2 ^ r
          l ++ toLe (v / 2 ^ (r - 1) * 2 ^ (w - 1) + x.1 * 2 ^ (r - 1) + v % 2 ^ (r - 1)) (w / 8)) [])
    else none

/-- The tokens of a method 2 container: words decoded so far, the newest first (R217). -/
def tokens (dict : List Nat) (fuel : Nat) (t : Bytes) (out : List Nat) : Option (List Nat) :=
  match fuel, t with
  | _, [] => some out.reverse
  | 0, _ :: _ => none
  | f + 1, x :: r =>
    let k := x.toNat
    if k < 64 then (match dict[k]? with | some d => tokens dict f r (d :: out) | none => none)
    else if k < 128 then (match out with | [] => none | d :: _ => tokens dict f r (List.replicate (k - 63) d ++ out))
    else if r.length < 2 * (k - 127) then none
    else tokens dict f (r.drop (2 * (k - 127))) (((upTo (k - 127)).map fun i => leNat r (2 * i) 2).reverse ++ out)

/-- A method 2 container (R217). None: a decode error. -/
def unpack2 (b : Bytes) : Option Bytes :=
  let n := leNat b 1 1
  let body := leNat b 4 4
  let atEnd := 8 + 2 * n + body
  if byteAt b 0 = 2 ∧ n ≤ 64 ∧ zeros b 2 2 ∧ atEnd ≤ b.length then
    match tokens ((upTo n).map fun i => leNat b (8 + 2 * i) 2) body (slice b (8 + 2 * n) body) [] with
    | some l => if l.length = 32768 then some (l.foldl (fun b w => b ++ toLe w 2) []) else none
    | none => none
  else none

/-- What a container of method `m` decodes to (R215 to R218). None: the read of its unit is uncorrectable. -/
def unpackUnit (m : BitVec 2) (fmt : Byte) (b : Bytes) : Option Bytes :=
  match m.toNat with
  | 0 => if b.length = 65536 then some b else none
  | 1 => unpack1 fmt b
  | 2 => unpack2 b
  | _ => none

/-- The container that the Reel writes for a unit: of method 1 or 2 only where it decodes to the unit and takes at most 65,024 bytes, otherwise the unit unchanged (R215). The choice of code lengths and of the dictionary is the Reel's (log 5). -/
def storedForm (m : BitVec 2) (fmt : Byte) (data : Bytes) : BitVec 2 × Bytes :=
  let b := Config.container m fmt data
  if m ≠ 0 ∧ 0 < b.length ∧ b.length % 512 = 0 ∧ b.length ≤ 65024 ∧ unpackUnit m fmt b = some data then (m, b) else (0, data)

end Sys2Proof.Machine
end

