-- ==== Sys2Proof/Machine/Image.lean ====
section
/-! DEFINITION. The Loft image, byte by byte, and the checks that rest on its bytes alone (02 R35 to R37, 03 R62 to R76, 11 R258, R259). The checks against the running module stand in Loft. -/

namespace Sys2Proof.Machine

/-- A rejection: its reason code and its detail (R80). -/
structure Rej where
  reason : Nat
  detail : Nat
  deriving DecidableEq, Repr

/-- A failure when the condition does not hold. -/
def need (c : Bool) (reason detail : Nat) : Option Rej := if c then none else some ⟨reason, detail⟩

/-- The first failure of a list of checks. -/
def firstOf (l : List (Option Rej)) : Option Rej := l.findSome? id

/-- The first failure over `0` to `n - 1`. -/
def firstOver (n : Nat) (f : Nat → Option Rej) : Option Rej := (upTo n).findSome? f

def between (lo x hi : Nat) : Bool := decide (lo ≤ x) && decide (x ≤ hi)

/-- Step 1: the header, then the extent of the staging buffer (R62, R76). -/
def checkHeader (b : Bytes) (extent : Nat) : Option Rej :=
  let len := leNat b 8 4
  let sig := leNat b 0x0C 4
  firstOf [
    need (leNat b 0 4 = 0x54464F4C) 1 0,
    need (between 7 (leNat b 6 2) 8) 1 6,
    need (len % 8 = 0 && between 128 len 524288) 1 8,
    need (sig = 0 || (decide (128 ≤ sig) && decide (len = sig + 16624))) 1 0x0C,
    need (decide (len ≤ extent)) 1 8]

/-- Where the body ends: SIG_OFS, or IMAGE_LEN without a signature block (R62). -/
def bodyEnd (b : Bytes) : Nat := if leNat b 0x0C 4 = 0 then leNat b 8 4 else leNat b 0x0C 4

def sectionCount (b : Bytes) : Nat := leNat b 6 2

/-- Fields of directory entry `i` (R63). -/
def dirType (b : Bytes) (i : Nat) : Nat := leNat b (0x80 + 16 * i) 2
def dirVersion (b : Bytes) (i : Nat) : Nat := leNat b (0x82 + 16 * i) 2
def dirOfs (b : Bytes) (i : Nat) : Nat := leNat b (0x88 + 16 * i) 4
def dirLen (b : Bytes) (i : Nat) : Nat := leNat b (0x8C + 16 * i) 4

/-- LENGTH of a section of a type whose first byte lies at `o` (R63). -/
def sectionLen (b : Bytes) (t o : Nat) : Nat :=
  match t with
  | 1 => 136
  | 2 => 32 + 136 * leNat b (o + 2) 2
  | 3 => 8 + 32 * leNat b o 2
  | 4 => 8 + 40 * leNat b o 2
  | 5 => 16
  | 6 => 24
  | 7 => 8
  | _ => 16 + 8 * leNat b (o + 8) 2

/-- Directory entry `i` against R63 and R64, and against the entries before it. -/
def dirOk (b : Bytes) (i : Nat) : Bool :=
  let t := dirType b i
  let o := dirOfs b i
  let n := dirLen b i
  between 1 t 8 && (upTo i).all (fun j => decide (dirType b j ≠ t)) && decide (dirVersion b i = 1) &&
  decide (o % 8 = 0) && decide (0x80 + 16 * sectionCount b ≤ o) && decide (o + n ≤ bodyEnd b) &&
  decide (n = sectionLen b t o) &&
  (upTo i).all (fun j => decide (o + n ≤ dirOfs b j) || decide (dirOfs b j + dirLen b j ≤ o))

/-- Offset of the section of a type. -/
def secOfs (b : Bytes) (t : Nat) : Option Nat :=
  (upTo (sectionCount b)).findSome? fun i => if dirType b i = t then some (dirOfs b i) else none

/-- Step 6: the section directory (R63, R76). -/
def checkDirectory (b : Bytes) : Option Rej :=
  firstOf [
    firstOver (sectionCount b) (fun i => need (dirOk b i) 7 i),
    [1, 2, 4, 5, 6, 7, 8].findSome? fun t => need (secOfs b t).isSome 7 (0x100 + t)]

/-- Reserved fields of one frame-table row: of its header, of its used slot entries, and the unused entries whole (R35, R36). -/
def rowReserved (b : Bytes) (o : Nat) : Bool :=
  let h := leNat b o 8
  let n := h / 2 ^ 16 % 32
  decide (h / 2 ^ 40 = 0) && decide (h / 2 ^ 21 % 8 = 0) && decide (h % 2 ^ 16 = 0) &&
  (upTo 16).all fun i =>
    let e := leNat b (o + 8 + 8 * i) 8
    if i < n then decide (e % 2 ^ 16 = 0) else decide (e = 0)

/-- Reserved fields of the section of type `t` at offset `o` (R65 to R74). -/
def sectionReserved (b : Bytes) (t o : Nat) : Bool :=
  match t with
  | 1 => decide (leNat b (o + 3) 1 < 2) && zeros b (o + 4) 4 &&
      (upTo 8).all fun c => decide (leNat b (o + 0x0A + 16 * c) 1 < 2) && zeros b (o + 0x0B + 16 * c) 13
  | 2 => zeros b (o + 0x0C) 20 && (upTo (leNat b (o + 2) 2)).all fun r => rowReserved b (o + 32 + 136 * r)
  | 3 => zeros b (o + 2) 6 && (upTo (leNat b o 2)).all fun i => zeros b (o + 8 + 32 * i + 0x16) 10
  | 4 => zeros b (o + 2) 6 && (upTo (leNat b o 2)).all fun i => zeros b (o + 8 + 40 * i + 4) 4
  | 5 => (upTo 8).all (fun p => decide (leNat b (o + p) 1 < 16)) && zeros b (o + 10) 6
  | 6 => zeros b (o + 1) 1 && zeros b (o + 0x10) 8
  | 7 => zeros b (o + 4) 4
  | _ => decide (leNat b (o + 6) 2 < 2) && zeros b (o + 0x0A) 6 && (upTo (leNat b (o + 8) 2)).all fun i => zeros b (o + 0x15 + 8 * i) 3

/-- Step 7: reserved fields, the header and the directory first (R11, R76). -/
def checkReserved (b : Bytes) : Option Rej :=
  firstOf [
    need (zeros b 0x28 8 && zeros b 0x60 32 && (upTo (sectionCount b)).all fun i => zeros b (0x84 + 16 * i) 4) 8 0,
    [1, 2, 3, 4, 5, 6, 7, 8].findSome? fun t =>
      match secOfs b t with
      | none => none
      | some o => need (sectionReserved b t o) 8 t]

/-- FIELD_RANGE: section type and entry index (R80). -/
def rangeRej (c : Bool) (t i : Nat) : Option Rej := need c 9 (t * 256 + i % 256)

/-- A contract entry (R67). -/
def readContract (b : Bytes) (o : Nat) : Contract :=
  { id := leNat b o 2, maxPassUs := leNat b (o + 2) 2, tenant := leNat b (o + 4) 4, lat := leNat b (o + 8) 2, horizon := leNat b (o + 0x0A) 2,
    window := leNat b (o + 0x0C) 2, maxReq := leNat b (o + 0x0E) 2, workCus := leNat b (o + 0x10) 4, maxContexts := leNat b (o + 0x14) 2 }

/-- A tenant entry (R68). -/
def readTenant (b : Bytes) (o : Nat) : Tenant :=
  { id := leNat b o 4, qT0 := leNat b (o + 8) 8, qT1 := leNat b (o + 0x10) 8, qT2 := leNat b (o + 0x18) 8, qT3 := leNat b (o + 0x20) 8 }

/-- A slot entry (R36). -/
def readSlot (e : Nat) : Slot :=
  { start := e / 2 ^ 51 % 2 ^ 13, len := e / 2 ^ 38 % 2 ^ 13, cls := BitVec.ofNat 2 (e / 2 ^ 36), clusters := BitVec.ofNat 8 (e / 2 ^ 28), owner := e / 2 ^ 20 % 256, kind := BitVec.ofNat 4 (e / 2 ^ 16) }

/-- A row with its used slots (R35). -/
def readRow (b : Bytes) (o : Nat) : Row :=
  let h := leNat b o 8
  { progTgt := BitVec.ofNat 8 (h / 2 ^ 32), eraseTgt := BitVec.ofNat 8 (h / 2 ^ 24), slots := (upTo (min 16 (h / 2 ^ 16 % 32))).map fun i => readSlot (leNat b (o + 8 + 8 * i) 8) }

def contractOk (k : Contract) : Bool :=
  decide (1 ≤ k.id) && between 20 k.maxPassUs 200 && between 1 k.lat 4096 && decide (k.horizon ≤ 64) && between 1 k.window 4096 && decide (1 ≤ k.maxReq) && decide (1 ≤ k.workCus) && between 1 k.maxContexts 3072

/-- Field ranges of the section of type `t` at `o` (R65 to R74). -/
def sectionRange (b : Bytes) (t o : Nat) : Option Rej :=
  match t with
  | 1 => firstOf [
      rangeRej (decide (leNat b o 1 ≤ 32) && decide (4 ≤ leNat b (o + 1) 1) && decide (4 ≤ leNat b (o + 2) 1)) 1 0,
      firstOver 8 fun c => rangeRej (decide (leNat b (o + 8 + 16 * c) 1 ≤ 2) && decide (2 ≤ leNat b (o + 9 + 16 * c) 1)) 1 c]
  | 2 =>
      let pm := leNat b (o + 4) 2
      firstOf [
      rangeRej (between 500 (leNat b o 2) 8000 && between 1 (leNat b (o + 2) 2) 1024 && (decide (pm = 0) || between 20 pm 500) && decide (leNat b (o + 6) 1 ≤ 2) && decide (leNat b (o + 7) 1 ≤ 1) && between 1 (leNat b (o + 8) 2) 1024 && between 1 (leNat b (o + 0x0A) 2) 1024) 2 0,
      firstOver (leNat b (o + 2) 2) fun r => rangeRej (decide (leNat b (o + 32 + 136 * r) 8 / 2 ^ 16 % 32 ≤ 16) && (readRow b (o + 32 + 136 * r)).slots.all fun l => decide (l.kind.toNat ≤ 1)) 2 r]
  | 3 =>
      let k := fun i => readContract b (o + 8 + 32 * i)
      firstOf [
      rangeRej (between 1 (leNat b o 2) 256) 3 0,
      firstOver (leNat b o 2) fun i => rangeRej (contractOk (k i) && (upTo i).all fun j => decide ((k j).id ≠ (k i).id)) 3 i]
  | 4 =>
      let k := fun i => leNat b (o + 8 + 40 * i) 4
      firstOf [
      rangeRej (between 1 (leNat b o 2) 4096) 4 0,
      firstOver (leNat b o 2) fun i => rangeRej (between 1 (k i) 0xFFFFFFFE && (upTo i).all fun j => decide (k j ≠ k i)) 4 i]
  | 5 => firstOf [
      firstOver 8 fun p => rangeRej (decide (leNat b (o + p) 1 / 4 % 4 ≤ 1)) 5 p,
      rangeRej (between 1500 (leNat b (o + 8) 2) 9216) 5 0]
  | 6 =>
      let role := leNat b o 1
      let rank := leNat b (o + 2) 2
      let size := leNat b (o + 4) 2
      let q := leNat b (o + 6) 2
      rangeRej (decide (role ≤ 1) && between 1 size 1024 && decide (leNat b (o + 8) 8 ≠ 0) &&
        (if role = 0 then decide (rank = 0) && between 1 q size else between 1 rank 1023 && decide (q = 0))) 6 0
  | 7 =>
      let cap := leNat b o 2
      let q := leNat b (o + 2) 2
      rangeRej ((decide (cap = 0) || between 600 cap 1400) && (decide (q = 0) || between 100 q 60000)) 7 0
  | _ =>
      let v := leNat b o 2
      let a := leNat b (o + 2) 2
      let w := leNat b (o + 4) 2
      firstOf [
      rangeRej ((if v = 0 then decide (a = 0) && decide (w = 0) else between 100 v 1000) && decide (a ≤ 1000) && decide (w ≤ 1000) && decide (leNat b (o + 8) 2 ≤ 1024)) 8 0,
      firstOver (leNat b (o + 8) 2) fun i => rangeRej (between 1 (leNat b (o + 0x14 + 8 * i) 1) 2) 8 i]

/-- Step 8: field ranges, sections in ascending type (R76). -/
def checkRanges (b : Bytes) : Option Rej :=
  [1, 2, 3, 4, 5, 6, 7, 8].findSome? fun t =>
    match secOfs b t with
    | none => none
    | some o => sectionRange b t o

/-- The image that the bytes describe; absent sections give empty lists (R62 to R75). -/
def readImage (b : Bytes) (owned : Bool) : Image :=
  let o := fun t => (secOfs b t).getD 0
  let k3 := match secOfs b 3 with | none => 0 | some p => leNat b p 2
  let v := leNat b (o 8) 2
  let a := leNat b (o 8 + 2) 2
  let w := leNat b (o 8 + 4) 2
  let pm := leNat b (o 2 + 4) 2
  let cap := leNat b (o 7) 2
  let q := leNat b (o 7 + 2) 2
  { schema := leNat b 4 2
    imageId := leNat b 0x10 8
    bodyDigest := slice b 0x30 48
    signed := owned
    keySlot := if leNat b 0x0C 4 = 0 then 0 else leNat b (leNat b 0x0C 4) 1
    qryStage := leNat b (o 1) 1
    brdStage := leNat b (o 1 + 1) 1
    relStage := leNat b (o 1 + 2) 1
    m2bf16 := decide (leNat b (o 1 + 3) 1 % 2 = 1)
    clusters := (upTo 8).map fun c => { fusion := leNat b (o 1 + 8 + 16 * c) 1, stageMib := leNat b (o 1 + 9 + 16 * c) 1, ovfIeee := decide (leNat b (o 1 + 10 + 16 * c) 1 % 2 = 1) }
    periodUs := leNat b (o 2) 2
    bgSharePm := if pm = 0 then 50 else pm
    src := leNat b (o 2 + 6) 1
    outEn := decide (leNat b (o 2 + 7) 1 = 1)
    inDiv := leNat b (o 2 + 8) 2
    outDiv := leNat b (o 2 + 10) 2
    rows := (upTo (leNat b (o 2 + 2) 2)).map fun r => readRow b (o 2 + 32 + 136 * r)
    contracts := (upTo k3).map fun i => readContract b (o 3 + 8 + 32 * i)
    tenants := (upTo (leNat b (o 4) 2)).map fun i => readTenant b (o 4 + 8 + 40 * i)
    ports := (upTo 8).map fun p => { use := decide (leNat b (o 5 + p) 1 % 2 = 1), net := leNat b (o 5 + p) 1 / 2 % 2, mode := leNat b (o 5 + p) 1 / 4 % 4 }
    mtu := leNat b (o 5 + 8) 2
    role := leNat b (o 6) 1
    rank := leNat b (o 6 + 2) 2
    expectedSize := leNat b (o 6 + 4) 2
    quorum := leNat b (o 6 + 6) 2
    groupId := leNat b (o 6 + 8) 8
    powerCapW := if cap = 0 then 1400 else cap
    quietMs := if q = 0 then 2000 else q
    wV := if v = 0 then 600 else v
    wA := if v = 0 then 300 else a
    wW := if v = 0 then 100 else w
    openAll := decide (leNat b (o 8 + 6) 2 % 2 = 1)
    nsOpen := (upTo (leNat b (o 8 + 8) 2)).map fun i => { nsid := leNat b (o 8 + 0x10 + 8 * i) 4, mode := leNat b (o 8 + 0x14 + 8 * i) 1 } }

/-- Slots of a row that cover cluster `c`. -/
def Row.on (r : Row) (c : Nat) : List Slot := r.slots.filter fun l => bit l.clusters c

def popcount {w : Nat} (v : BitVec w) : Nat := sumBy (fun i => b2n (bit v i)) (upTo w)

/-- Do two slots of one row overlap in time? -/
def Slot.overlaps (a b : Slot) : Bool := decide (a.start < b.start + b.len) && decide (b.start < a.start + a.len)

/-- Class A slots on a cluster over the whole table: row, opening and closing, in µs from the first row's tick, in order. -/
def aSlots (i : Image) (c : Nat) : List (Nat × (Nat × Nat)) :=
  i.rows.zipIdx.foldl (fun l x =>
    l ++ (sortBy (fun (a b : Slot) => decide (a.start < b.start)) ((x.1.on c).filter fun s => decide (s.cls = 0))).map
      fun s => (x.2, (x.2 * i.periodUs + s.start, x.2 * i.periodUs + s.start + s.len))) []

/-- Rule 6: each class A slot on the cluster that opens less than 250 µs after the one before it, cyclically; their rows. -/
def rule6Rows (i : Image) (c : Nat) : List Nat :=
  match aSlots i c with
  | [] => []
  | x :: r =>
    let all := x :: r
    let last := all.getLast (by simp [all])
    let prevEnds := ((last.2.2 : Int) - (i.rows.length * i.periodUs : Nat)) :: all.map fun y => (y.2.2 : Int)
    (all.zip prevEnds).filterMap fun p => if (p.1.2.1 : Int) < p.2 + 250 then some p.1.1 else none

/-- Time of `[a, b)` inside guard bands on cluster `c` of row `k` (R42). -/
def guardTime (i : Image) (c k a b : Nat) : Nat :=
  let here := match i.rows[k]? with
    | none => []
    | some r => ((r.on c).filter fun s => decide (s.cls = 0)).map fun s => (s.start - 250, s.start)
  let next := match i.rows[(k + 1) % i.rows.length]? with
    | none => []
    | some r => ((r.on c).filter fun s => decide (s.cls = 0) && decide (s.start < 250)).map fun s => (i.periodUs + s.start - 250, i.periodUs)
  sumBy (fun g => min b g.2 - max a g.1) (here ++ next)

/-- Rule 7: class D work-slot time outside guard bands in row `k`, over all clusters. -/
def dTime (i : Image) (k : Nat) : Nat :=
  match i.rows[k]? with
  | none => 0
  | some r => sumBy (fun c => sumBy (fun l => if l.cls = 3 ∧ l.kind = 0 then l.len - guardTime i c k l.start (l.start + l.len) else 0) (r.on c)) (upTo 8)

/-- Is the target in ERASE_TGT of row `k`, cyclically? -/
def erases (i : Image) (t k : Nat) : Bool := match i.rows[k % i.rows.length]? with | none => false | some r => bit r.eraseTgt t
def programs (i : Image) (t k : Nat) : Bool := match i.rows[k % i.rows.length]? with | none => false | some r => bit r.progTgt t

/-- Row `k` begins a maximal run of erase rows of the target (rule 10). -/
def runStart (i : Image) (t k : Nat) : Bool := erases i t k && !erases i t (k + i.rows.length - 1)

/-- Rule `n` of R37 in row `k`; the row that breaks it is reported. -/
def tableRule (i : Image) (n k : Nat) : Bool :=
  match i.rows[k]? with
  | none => true
  | some r =>
    let p := i.periodUs
    match n with
    | 2 => r.slots.all fun l => decide (l.start + l.len ≤ p - 16)
    | 3 => r.slots.all fun l => decide (20 ≤ l.len) && (decide (l.cls ≠ 0) || decide (200 ≤ l.len))
    | 4 => (upTo 8).all fun c => (r.on c).zipIdx.all fun x => (r.on c).zipIdx.all fun y => decide (y.2 ≤ x.2) || !x.1.overlaps y.1
    | 5 => r.slots.all fun l => if l.cls = 0 then decide (l.owner < i.contracts.length) else decide (l.owner = 0)
    | 6 => (upTo 8).all fun c => !(rule6Rows i c).contains k
    | 7 => decide (8 * p * i.bgSharePm ≤ 1000 * dTime i k)
    | 8 => decide (popcount r.eraseTgt ≤ 2) && between 1 (popcount r.progTgt) 2 && decide (r.eraseTgt &&& r.progTgt = 0)
    | 10 => (upTo 8).all fun t => !runStart i t k || (upTo (ceilDiv 3210 (p - 16))).all fun j => erases i t (k + j)
    | 11 => (upTo 8).all fun t => !runStart i t (k + 1) || !programs i t k
    | _ => true

/-- Rules of R37, in ascending number, each over the rows in ascending order; rule 9 is over the table (R76 step 9, R80). -/
def checkTable (i : Image) : Option Rej :=
  let n := i.rows.length
  let ruleRows := fun rule => firstOver n fun k => need (tableRule i rule k) 0x0A (rule * 2048 + k)
  firstOf [
    need (between 1 n 1024) 0x0A 2048,
    ruleRows 2, ruleRows 3, ruleRows 4, ruleRows 5, ruleRows 6, ruleRows 7, ruleRows 8,
    need ((upTo 8).all fun t => (upTo n).any (fun k => erases i t k) && (upTo n).any fun k => !erases i t k) 0x0A (9 * 2048),
    ruleRows 10, ruleRows 11]

/-- Step 9: cross-section rules. `absentT2` is the T2 usage, in units, of tenants that own objects and are absent from the image (R69). -/
def checkCross (i : Image) (absentT2 : Nat) : Option Rej :=
  let staging := i.qryStage + i.brdStage + i.relStage + sumBy (·.stageMib) i.clusters
  firstOf [
    checkTable i,
    need (decide (sumBy (·.qT1) i.tenants ≤ 5767168)) 0x0C 0,
    need (decide (sumBy (·.qT2) i.tenants + absentT2 ≤ 7516192768)) 0x0D 0,
    firstOver 8 fun p => match i.ports[p]? with
      | none => none
      | some q => need (!q.use || decide (q.net = p / 4)) 0x0E p,
    need (decide (staging = 64)) 0x0B staging,
    firstOver i.contracts.length fun k => match i.contracts[k]? with
      | none => none
      | some c => need (i.tenants.any fun t => decide (t.id = c.tenant)) 0x0F k]

/-- cap(r) of contract index `k` (11 R258). -/
def capRow (k : Nat) (c : Contract) (r : Row) : Nat :=
  sumBy (fun l => if l.cls = 0 ∧ l.kind = 0 ∧ l.owner = k then (l.len - c.maxPassUs) * popcount l.clusters else 0) r.slots

/-- Cap(s, t): cap over `t` consecutive rows from row `s`, cyclically (11 R258). -/
def capOver (caps : List Nat) (s t : Nat) : Nat :=
  let n := caps.length
  (t / n) * sumBy id caps + sumBy (fun j => caps.getD ((s + j) % n) 0) (upTo (t % n))

/-- The first test of R259 that contract index `k` fails. -/
def contractTest (i : Image) (k : Nat) (c : Contract) : Option Nat :=
  let caps := i.rows.map (capRow k c)
  let r := i.rows.length
  let work := c.workCus + c.maxPassUs
  let dl := c.lat - c.horizon
  let j := ceilDiv (r + dl) c.window
  if !(i.rows.any fun w => w.slots.any fun l => decide (l.cls = 0) && decide (l.kind = 0) && decide (l.owner = k)) then some 1
  else if c.lat ≤ c.horizon then some 2
  else if c.window * capOver caps 0 r < c.maxReq * work * r then some 3
  else if (upTo j).all (fun q => (upTo r).all fun s => decide ((q + 1) * c.maxReq * work ≤ capOver caps s (dl + q * c.window))) then none
  else some 4

/-- Step 10: contracts in index order (11 R259): index and test of the first that fails. -/
def checkContracts (i : Image) : Option (Nat × Nat) :=
  i.contracts.zipIdx.findSome? fun x => (contractTest i x.2 x.1).map fun t => (x.2, t)

end Sys2Proof.Machine
end

