-- ==== Sys2Proof/Machine/Objects.lean ====
section
/-! DEFINITION. Objects of the Loft address space: addresses, contents, allocation, charges and quotas (09 R204 to R208, R211; 03 R70, R78; 14 R312). -/

namespace Sys2Proof.Machine

/-- Rank and offset of a Loft address (R204). -/
def rankOf (a : W64) : Nat := a.toNat / 2 ^ 54
def ofsOf (a : W64) : Nat := a.toNat % 2 ^ 54

/-- The Loft address of a local offset: the module supplies its own rank (R204). -/
def State.addrOf (s : State) (ofs : Nat) : W64 := BitVec.ofNat 64 (s.rank * 2 ^ 54 + ofs)

def Obj.holds (o : Obj) (ofs : Nat) : Bool := decide (o.ofs ≤ ofs) && decide (ofs < o.ofs + o.len)

/-- The local object that an address names (R207). -/
def State.objFor (s : State) (a : W64) : Option Obj :=
  if rankOf a = s.rank then s.reel.objects.find? fun o => o.holds (ofsOf a) else none

/-- Does the run of `n` bytes at `a` lie in one object of the tenant (R207)? -/
def State.objNames (s : State) (a : W64) (n tenant : Nat) : Bool :=
  match s.objFor a with
  | none => false
  | some o => decide (o.tenant = tenant) && decide (ofsOf a + n ≤ o.ofs + o.len)

def State.modObj (s : State) (ofs : Nat) (f : Obj → Obj) : State :=
  { s with reel := { s.reel with objects := s.reel.objects.map fun o => if o.ofs = ofs then f o else o } }

/-- Read-only kinds (R208). -/
def ObjKind.readOnly : ObjKind → Bool
  | .weight => true
  | .scale => true
  | .program => true
  | _ => false

/-- Does the kind migrate by heat (R208)? -/
def ObjKind.migrates : ObjKind → Bool
  | .refitState => false
  | .work => false
  | _ => true

/-- Container method of an object's units in T2 and T3 (R208). -/
def Obj.method (o : Obj) : BitVec 2 :=
  let f := readSpec o.fmt
  let floating := decide (f.code ≤ 4) && (!f.mx || decide (3 ≤ f.code))
  match o.kind with
  | .weight => if floating then 1 else 0
  | .kv => 2
  | .refitState => if floating then 1 else 0
  | _ => 0

/-- Length of piece `i` (R205). -/
def Obj.pieceLen (o : Obj) (i : Nat) : Nat := min 1048576 (o.len - i * 1048576)

/-- The bytes of an object. -/
def Obj.read (o : Obj) (rel n : Nat) : Bytes := Sparse.getRun 0 o.data rel n

/-- Does a marked line touch the run? -/
def Obj.marked (o : Obj) (rel n : Nat) : Bool :=
  o.marks.any fun m => m.2 && decide (m.1 * 64 < rel + n) && decide (rel < m.1 * 64 + 64)

/-- A write: a line overwritten in full loses its mark (R228). -/
def Obj.write (o : Obj) (rel : Nat) (b : Bytes) : Obj :=
  { o with
    data := Sparse.setRun 0 o.data rel b
    marks := o.marks.filter fun m => !(decide (rel ≤ m.1 * 64) && decide (m.1 * 64 + 64 ≤ rel + b.length)) }

/-- Every line that the run touches is marked (R225). -/
def Obj.mark (o : Obj) (rel n : Nat) : Obj :=
  { o with marks := if n = 0 then o.marks else Marks.putRun o.marks (rel / 64) true ((rel + n - 1) / 64 + 1 - rel / 64) }

/-- Base of the object space of an address's module, and of a cached piece within it. -/
def spaceOf (a : W64) : W64 := BitVec.ofNat 64 (rankOf a * 2 ^ 54)
def Cached.base (c : Cached) : Nat := ofsOf c.addr + c.piece * 1048576

/-- Does the run lie in a copy that T1 holds of a remote piece (R210)? -/
def Cached.covers (c : Cached) (a : W64) (n : Nat) : Bool := c.held && decide (rankOf c.addr = rankOf a) && decide (c.base ≤ ofsOf a) && decide (ofsOf a + n ≤ c.base + c.len)
def State.cachedFor (s : State) (a : W64) (n : Nat) : Option Cached := s.reel.cache.find? fun c => c.covers a n

/-- The bytes of a run: of an object of this module, or of a remote piece that T1 holds. -/
def State.readObj (s : State) (a : W64) (n : Nat) : Bytes :=
  match s.objFor a with
  | some o => o.read (ofsOf a - o.ofs) n
  | none => match s.cachedFor a n with
    | some c => Sparse.getRun 0 c.data (ofsOf a - c.base) n
    | none => List.replicate n 0

def State.markedObj (s : State) (a : W64) (n : Nat) : Bool :=
  match s.objFor a with
  | some o => o.marked (ofsOf a - o.ofs) n
  | none => match s.cachedFor a n with
    | some c => c.marks.any fun m => decide (c.base + 64 * m < ofsOf a + n) && decide (ofsOf a < c.base + 64 * m + 64)
    | none => false

/-- A write into an object; nothing where the address names none. -/
def State.writeObj (s : State) (a : W64) (b : Bytes) : State :=
  match s.objFor a with
  | none => s
  | some o => s.modObj o.ofs fun o => o.write (ofsOf a - o.ofs) b

def State.markObj (s : State) (a : W64) (n : Nat) : State :=
  match s.objFor a with
  | none => s
  | some o => s.modObj o.ofs fun o => o.mark (ofsOf a - o.ofs) n

/-- Units charged in T1 for an object's pieces and copies there (R206). -/
def Obj.t1 (o : Obj) : Nat := sumBy (fun x => if x.1.inT1 then units (o.pieceLen x.2) else 0) o.pieces.zipIdx

/-- Bytes stored in an object's containers, and the units charged for them in T2 (R206). -/
def Obj.stored (o : Obj) : Nat := sumBy (fun p => if p.inT2 then p.stored else 0) o.pieces
def Obj.t2 (o : Obj) : Nat := units o.stored

def MoveKind.toT1 : MoveKind → Bool
  | .down => false
  | .toT3 => false
  | _ => true

/-- The tenant's charge in T0, T1, T2 and T3 in units of 64 KiB, moves in flight included (R206, R212). -/
def T0Copy.charge (x : T0Copy) (t : Nat) : Nat := if x.tenant = t ∧ x.present ∧ !x.pinned then units x.len else 0
def State.t0Of (s : State) (t : Nat) : Nat := Sparse.get 0 s.reel.t0 t + sumBy (fun (k : Cluster) => sumBy (fun x => x.charge t) k.copies) s.clusters
def State.t1Of (s : State) (t : Nat) : Nat :=
  sumBy (fun (o : Obj) => if o.tenant = t then o.t1 else 0) s.reel.objects +
  sumBy (fun (c : Cached) => if c.tenant = t ∧ c.held then units c.len else 0) s.reel.cache +
  sumBy (fun (m : Move) => if m.tenant = t ∧ m.kind.toT1 then m.charge else 0) s.reel.moves
/-- What a stop leaves of a copy: a version whose flag is durable is the copy, any other in the making is garbage (08 R201). -/
def HeldCopy.kept (alive : Nat → Bool) (h : HeldCopy) : Option HeldCopy :=
  if h.kind = 2 ∨ h.kind = 3 then some h else
    let h := match h.flagSeq with
      | some q => if alive q then { h with addr := h.newAddr, state := h.newState, version := h.inVersion, whole := true } else h
      | none => h
    if h.addr = 0 then none else some { h with bytes := [], newAddr := 0, newState := 0, flagSeq := none, acks := [] }

def HeldCopy.stored (h : HeldCopy) : Nat := if h.newAddr ≠ 0 ∨ (h.addr ≠ 0 ∧ h.bytes = []) then 0 else h.len
def JournalHeld.stored (j : JournalHeld) : Nat := match j.bytes.getLast? with | some c => c.1 + 1 | none => 0
def State.t2Of (s : State) (t : Nat) : Nat :=
  sumBy (fun (o : Obj) => if o.tenant = t then o.t2 else 0) s.reel.objects +
  sumBy (fun (h : HeldCopy) => if h.tenant = t then units h.stored else 0) s.group.heldCopies +
  sumBy (fun (j : JournalHeld) => if j.tenant = t then units j.stored else 0) s.group.journals +
  sumBy (fun (m : Move) => if m.tenant = t ∧ m.kind = .down then m.charge else 0) s.reel.moves

/-- Element bytes of KV_FMT, B, S and the length of an extent (10 R251). -/
def Model.kvElem (m : Model) : Nat := fmtWidth (m.kvFmt.toNat % 16) / 8
def Model.kvB (m : Model) : Nat := 2 * m.kvHeads * m.headDim * m.kvElem
def Model.kvS (m : Model) : Nat := ceilDiv (1024 * m.kvB) 65536 * 65536
def Model.extentLen (m : Model) : Nat := m.layers * m.kvS

/-- Units that an object of this module stores, for its copy elsewhere. -/
def State.placedUnits (s : State) (a : W64) : Nat := match (if a = 0 then none else s.objFor a) with | some o => o.t2 | none => 0

/-- Units of a namespace that the map holds: each is a container of 64 KiB (R208, 14 R315). -/
def State.mappedUnits (s : State) (n : Namespace) : Nat :=
  sumBy (fun (e : Nat × W64) => if n.groups.contains (e.1 / 8) then b2n (bit e.2 12) + b2n (bit e.2 25) else 0) s.media.map

/-- A tenant's charge in T3: what this module places elsewhere of its home experts, its shadowed namespaces and its contexts' journals, and the copies on their way (R206, R212). -/
def State.t3Of (s : State) (t : Nat) : Nat :=
  sumBy (fun (m : Model) => if m.tenant = t then sumBy (fun (x : Nat × Expert) => if x.2.home = s.rank ∧ x.2.shadow ≠ 0xFFFF then s.placedUnits x.2.weights + s.placedUnits x.2.refitState else 0) m.table else 0) s.library.models +
  sumBy (fun (n : Namespace) => if n.tenant = t then n.mirrors.length * s.mappedUnits n else 0) s.media.namespaces +
  sumBy (fun (e : Nat × Context) => if e.2.tenant = t ∧ e.2.state ≠ 0 ∧ e.2.buddy ≠ 0xFFFF then (match s.library.models.find? fun m => decide (m.id = e.2.model) with | some m => units (e.2.journaled * m.layers * m.kvB) | none => 0) else 0) s.library.contexts +
  sumBy (fun (m : Move) => if m.tenant = t ∧ m.kind = .toT3 then m.charge else 0) s.reel.moves

/-- The tenant's entry of an image. -/
def Image.tenant? (i : Image) (t : Nat) : Option Tenant := i.tenants.find? fun e => decide (e.id = t)
def Image.quota (i : Image) (t tier : Nat) : Nat :=
  match i.tenant? t with
  | none => 0
  | some e => match tier with | 0 => e.qT0 | 1 => e.qT1 | 2 => e.qT2 | _ => e.qT3

def State.chargeOf (s : State) (t tier : Nat) : Nat :=
  match tier with
  | 0 => s.t0Of t
  | 1 => s.t1Of t
  | 2 => s.t2Of t
  | _ => s.t3Of t

/-- Is the tenant in the image in force (R70)? -/
def State.hasTenant (s : State) (t : Nat) : Bool :=
  match s.loft.image with
  | none => false
  | some i => (i.tenant? t).isSome

/-- Does an allocation of `n` units fit the tenant's quota under the image in force and the pending image (R211, 03 R78)? -/
def State.fits (s : State) (t tier n : Nat) : Bool :=
  (match s.loft.image with | none => false | some i => decide (s.chargeOf t tier + n ≤ i.quota t tier)) &&
  (match s.loft.pending with | none => true | some p => decide (s.chargeOf t tier + n ≤ p.image.quota t tier))

/-- Controller of a die, its channel and target; a die is 8 × channel + target. -/
def dieCtrl (d : Nat) : Nat := d / 256
def dieChan (d : Nat) : Nat := d / 8
def dieTarget (d : Nat) : Nat := d % 8

/-- Journal dies: those of the first two channels of each controller (13 R308). -/
def isJournalDie (d : Nat) : Bool := decide (dieChan d % 32 < 2)

/-- The die or its channel is failed (13 R296, R303, 14 R338). -/
def State.dieFailed (s : State) (d : Nat) : Bool := (s.dieAt d).failed

/-- SPARE(n) and the spare percentage (R337). -/
def State.goodIndices (s : State) (n : Nat) : Nat :=
  let tlc (d : Nat) := if isJournalDie d then 2624 else 2752
  702464 - sumBy (fun (e : Nat × Die) => if dieCtrl e.1 = n ∧ e.2.failed then tlc e.1 else 0) s.media.dies -
    (s.media.blocks.filter fun (e : Nat × Blk) => decide (dieCtrl (e.1 / 2752) = n) && decide (e.2.state = .retired) && !s.dieFailed (e.1 / 2752) && (!isJournalDie (e.1 / 2752) || decide (128 ≤ e.1 % 2752))).length
def State.spare (s : State) (n : Nat) : Nat := s.goodIndices n - 622592
def State.sparePct (s : State) : Nat := ((upTo 8).map fun n => 100 * s.spare n / 79872).foldl min 100
def State.spareLow (s : State) : Nat := ((upTo 8).map s.spare).foldl min 79872

/-- Media are read-only (R337; 20 R459). -/
def State.mediaReadOnly (s : State) : Bool := decide (s.sparePct = 0) || s.power.holdupBad

/-- Free slot groups of 16 slots, of 448 TiB (14 R312); none while media are read-only (14 R337). -/
def State.freeGroups (s : State) : Nat := if s.mediaReadOnly then 0 else 469762048 - s.media.slotGroups.length

/-- The `n` lowest free groups, from `c` upward; `used` rises. -/
def takeGroups (fuel n c : Nat) (used : List Nat) : List Nat :=
  match fuel, n with
  | 0, _ => []
  | _, 0 => []
  | f + 1, n + 1 =>
    match used with
    | [] => c :: takeGroups f n (c + 1) []
    | u :: r => if u = c then takeGroups f (n + 1) (c + 1) r else c :: takeGroups f n (c + 1) (u :: r)

def State.pickGroups (s : State) (n : Nat) : List Nat := takeGroups (n + s.media.slotGroups.length) n 0 s.media.slotGroups

/-- Groups enter or leave the list of groups in use. -/
def State.useGroups (s : State) (l : List Nat) : State :=
  { s with media := { s.media with slotGroups := sortBy (fun a b => decide (a < b)) (s.media.slotGroups ++ l) } }
def State.freeGroupList (s : State) (l : List Nat) : State :=
  { s with media := { s.media with slotGroups := s.media.slotGroups.filter fun g => !l.contains g } }

/-- Bytes of an object's length: a multiple of 64 KiB (R205). -/
def objLen (n : Nat) : Nat := units n * 65536

/-- Pieces of an object of `len` bytes. -/
def pieceCount (len : Nat) : Nat := ceilDiv len 1048576

/-- Put in containers of method `m`, the bytes that a unit stores (R215). -/
def unitStored (m : BitVec 2) (fmt : Byte) (data : Bytes) : Nat :=
  if m = 0 then 65536 else let c := storedForm m fmt data; if c.1 = 0 then 65536 else c.2.length

/-- The Gondola allocates an object in T1 (R205, R211). -/
def State.allocT1 (s : State) (tenant : Nat) (k : ObjKind) (fmt : Byte) (n : Nat) : W64 × State :=
  let len := objLen n
  let o : Obj := { ofs := s.reel.nextOfs, len := len, tenant := tenant, kind := k, fmt := fmt, pieces := List.replicate (pieceCount len) { inT1 := true, primT1 := true } }
  (s.addrOf o.ofs, { s with reel := { s.reel with objects := s.reel.objects ++ [o], nextOfs := o.ofs + pieceCount len * 1048576 } })

/-- The Gondola allocates an object in T2; until its containers are written each unit counts its logical size (R211, R212). -/
def State.allocT2 (s : State) (tenant : Nat) (k : ObjKind) (fmt : Byte) (n : Nat) : W64 × State :=
  let len := objLen n
  let c := pieceCount len
  let g := s.pickGroups c
  let o : Obj := { ofs := s.reel.nextOfs, len := len, tenant := tenant, kind := k, fmt := fmt, pieces := g.zipIdx.map fun x => { inT2 := true, group := some x.1, stored := min 1048576 (len - x.2 * 1048576) } }
  (s.addrOf o.ofs, ({ s with reel := { s.reel with objects := s.reel.objects ++ [o], nextOfs := o.ofs + c * 1048576 } }).useGroups g)

/-- An object is freed: its slots, its pieces, its moves (R213). -/
def State.freeObj (s : State) (a : W64) : State :=
  match s.objFor a with
  | none => s
  | some o =>
    let g := o.pieces.filterMap (·.group)
    ({ s with reel := { s.reel with
        objects := s.reel.objects.filter fun p => !decide (p.ofs = o.ofs)
        moves := s.reel.moves.filter fun m => !decide (m.addr = s.addrOf o.ofs)
        abortCnt := (s.reel.moves.filter fun (m : Move) => decide (m.addr = s.addrOf o.ofs)).foldl (fun n _ => satInc n) s.reel.abortCnt
        plan := s.reel.plan.filter fun f => !decide (f.addr = s.addrOf o.ofs) } }).freeGroupList g

/-- Free several. -/
def State.freeObjs (s : State) (l : List W64) : State := l.foldl State.freeObj s

/-- The containers of an object are written: its charge falls to its stored size (R206, R212). -/
def State.trimObj (s : State) (a : W64) : State :=
  match s.objFor a with
  | none => s
  | some o => s.modObj o.ofs fun o =>
    { o with pieces := o.pieces.zipIdx.map fun x =>
        if x.1.inT2 then { x.1 with stored := sumBy (fun u => unitStored o.method o.fmt (o.read (x.2 * 1048576 + u * 65536) 65536)) (upTo (units (o.pieceLen x.2))) } else x.1 }

/-- A command of the tenant is refused for quota (R230). -/
def State.quotaRefused (s : State) (t : Nat) : State :=
  { s with reel := { s.reel with refused := Sparse.set 0 s.reel.refused t (satInc (Sparse.get (0 : W32) s.reel.refused t)) } }

/-- Units of 64 KiB of piece `i` that the run `[lo, lo + n)` of its object reads. -/
def unitsRead (i lo n : Nat) : Nat :=
  let b := max lo (i * 1048576)
  let e := min (lo + n) ((i + 1) * 1048576)
  if b < e then (e + 65535) / 65536 - b / 65536 else 0

/-- Reads of a piece; a demand read that waited was counted when it was issued (R209). -/
def Piece.note (p : Piece) (u : Nat) : Piece := { p with reads := p.reads + (u - min p.early u), early := p.early - min p.early u }

/-- Bytes of an expert's weight object. -/
def Expert.bytes (e : Expert) : Nat :=
  let f := readSpec e.wFmt
  objLen (ceilDiv (e.params * fmtWidth f.code) 8 + if f.mx then e.params / 32 else 0)

/-- The tenant of a read-only object of another module, as the model directory shows it; none where the address is not known to be one (R204, R210). -/
def State.remoteOwner (s : State) (a : W64) : Option Nat :=
  let within := fun (b : W64) (n : Nat) => decide (b ≠ 0) && decide (rankOf a = rankOf b) && decide (ofsOf b ≤ ofsOf a) && decide (ofsOf a < ofsOf b + n)
  if rankOf a = s.rank then none else
    (s.library.models.find? fun m =>
      ([m.shared, m.programs, m.serveScale, m.refitScale, m.expertTable].any fun b => within b (((m.objs.find? fun x => decide (x.addr = b)).map (·.len)).getD 1048576)) ||
      m.table.any fun x => within x.2.weights x.2.bytes || within x.2.weightsShadow x.2.bytes).map (·.tenant)

/-- Reads of `u` units of a remote read-only piece (R209). -/
def State.noteFar (s : State) (t : Nat) (a : W64) (i u : Nat) : State :=
  let mine := fun (c : Cached) => decide (c.addr = a) && decide (c.piece = i)
  let l := if (s.reel.cache.any mine) = true then s.reel.cache.map (fun c => if mine c then { c with reads := c.reads + u } else c) else s.reel.cache ++ [{ addr := a, piece := i, tenant := t, reads := u, held := false, len := 0 }]
  { s with reel := { s.reel with cache := l } }

/-- Pieces of 1 MiB that a run of a module's object space meets. -/
def piecesOf (lo n : Nat) : List Nat := (upTo ((lo + max 1 n + 1048575) / 1048576 - lo / 1048576)).map (lo / 1048576 + ·)

/-- Reads of a run count toward its pieces' heat in this frame (R209). -/
def State.noteRead (s : State) (a : W64) (n : Nat) : State :=
  match s.objFor a with
  | some o => s.modObj o.ofs fun o => { o with pieces := o.pieces.zipIdx.map fun x => x.1.note (unitsRead x.2 (ofsOf a - o.ofs) n) }
  | none => match s.remoteOwner a with
    | none => s
    | some t => (piecesOf (ofsOf a) n).foldl (fun s i => s.noteFar t (spaceOf a) i (unitsRead i (ofsOf a) n)) s

/-- A rank is a member of the group, or our own (R207). -/
def State.memberRank (s : State) (r : Nat) : Bool := decide (r = s.rank) || s.group.members.any fun m => decide (m.rank = r)

end Sys2Proof.Machine
end

