-- ==== Sys2Proof/Machine/Requests.lean ====
section
/-! DEFINITION. Requests of classes A to C and their completion (11 R256, R266, R267; 15 R358, R359). -/

namespace Sys2Proof.Machine

def State.requestOf (s : State) (id : CmdId) : Option Request := s.sched.requests.find? fun r => decide (r.id = id)

/-- Is the request late at this frame (R266)? -/
def State.lateNow (s : State) (r : Request) : Bool := decide (r.cls.toNat ≤ 1) && decide (r.deadline < s.groupFrame.toNat)

/-- The cause bits of a late request: OTHER where none of the named causes is known (R266). -/
def Request.causeBits (r : Request) : BitVec 7 :=
  let c := if r.horizonMiss then r.causes ||| 0x10 else r.causes
  if c = 0 then 0x40 else c

/-- A contract's registers at the completion of one of its requests (R267). -/
def CtEntry.finish (e : CtEntry) (late : Bool) (gf admitAt : Nat) (cause : BitVec 7) : CtEntry :=
  let e := { e with queued := e.queued - 1, maxLat := if e.maxLat.toNat < gf - admitAt then BitVec.ofNat 13 (min (gf - admitAt) 0x1FFF) else e.maxLat }
  if late then { e with lateCnt := satInc e.lateCnt, lastLateFrame := BitVec.ofNat 16 gf, lastLateCause := cause } else e

def State.modContract (s : State) (id : Nat) (f : CtEntry → CtEntry) : State :=
  { s with sched := { s.sched with contracts := s.sched.contracts.map fun e => if e.id = id then f e else e } }

/-- The request leaves the dispatcher's books, and its lateness is counted (R266, R257). -/
def State.closeRequest (s : State) (id : CmdId) : State :=
  match s.requestOf id with
  | none => s
  | some r =>
    let late := s.lateNow r
    let s := { s with sched := { s.sched with
      requests := s.sched.requests.filter fun q => !decide (q.id = id)
      bMissCnt := if late && decide (r.cls = 1) then satInc s.sched.bMissCnt else s.sched.bMissCnt } }
    if r.cls = 0 then s.modContract r.contract fun e => e.finish late s.groupFrame.toNat r.admitFrame r.causeBits else s

/-- Dword 1 of a request's completion (R358). -/
def State.requestFlags (s : State) (id : CmdId) : W32 :=
  match s.requestOf id with
  | none => 0
  | some r =>
    let late := s.lateNow r
    BitVec.ofNat 32 (b2n r.horizonMiss + (if late then 2 + 4 * r.causeBits.toNat else 0))

/-- Complete a request. -/
def State.finishRequest (s : State) (id : CmdId) (t : Status) (dw0 : W32 := 0) (data : Bytes := []) (flags : W32 := 0) : State :=
  let dw1 := s.requestFlags id ||| flags
  (s.closeRequest id).complete id t dw0 dw1 data

/-- A cause bit is noted against the requests that a predicate picks (R263, R264, R266). -/
def State.noteCause (s : State) (bit_ : Nat) (p : Request → Bool) : State :=
  { s with sched := { s.sched with requests := s.sched.requests.map fun r => if p r then { r with causes := setBit r.causes bit_ true } else r } }

/-- An extra run of a request's pass: beyond the first it is beyond the reserve (R258, R263, R266). -/
def Request.extraRun (r : Request) : Request := { r with extraRuns := r.extraRuns + 1, causes := if 1 ≤ r.extraRuns then setBit r.causes 5 true else r.causes }
def State.noteExtraRun (s : State) (id : Option CmdId) : State :=
  { s with sched := { s.sched with requests := s.sched.requests.map fun r => if id = some r.id then r.extraRun else r } }

/-- A pass of a refit or of an embedding job ended FAULTED or WATCHDOG (08 R201, 12 R292). -/
def State.notePoisonedPass (s : State) (id : Option CmdId) : State :=
  let s : State := { s with search := { s.search with jobs := s.search.jobs.map fun (j : EmbedJob) => if id = some j.id then { j with poisoned := true } else j } }
  { s with library := { s.library with refits := s.library.refits.map fun (j : Refit) => if id = some j.id then { j with poisoned := true } else j } }

end Sys2Proof.Machine
end

