-- ==== Sys2Proof/Machine/Media.lean ====
section
/-! DEFINITION. The media: stripe records, the map, program jobs, die parity, the journal, erases, garbage collection, failed dies (13 R294, R302 to R308; 14 R312 to R339). -/

namespace Sys2Proof.Machine

/-- A block's entry of the block table, by die and block index. -/
def blkKey (d b : Nat) : Nat := 2752 * d + b
def State.blkAt (s : State) (d b : Nat) : Blk := Sparse.get {} s.media.blocks (blkKey d b)
def State.modBlk (s : State) (d b : Nat) (f : Blk → Blk) : State :=
  { s with media := { s.media with blocks := Sparse.set {} s.media.blocks (blkKey d b) (f (s.blkAt d b)) } }

def State.chanAt (s : State) (c : Nat) : Channel := Sparse.get {} s.media.channels c
def State.modChan (s : State) (c : Nat) (f : Channel → Channel) : State :=
  { s with media := { s.media with channels := Sparse.set {} s.media.channels c (f (s.chanAt c)) } }

/-- Level offsets of a block: seven TLC offsets and one SLC offset (13 R309). -/
def State.levelsAt (s : State) (d b : Nat) : List Byte := Sparse.get (List.replicate 8 0) s.media.levels (blkKey d b)
def State.setLevels (s : State) (d b : Nat) (l : List Byte) : State :=
  { s with media := { s.media with levels := Sparse.set (List.replicate 8 0) s.media.levels (blkKey d b) l } }

/-- The status word a die reports (13 R302). -/
def State.statusWord (s : State) (d : Nat) : W16 :=
  let x := s.dieAt d
  let fail := bit x.sw 7
  let old := bits x.sw 14 12
  match x.op with
  | some o => BitVec.ofNat 16 (o.code.toNat * 4096 + 0xF00 + b2n fail * 128 + b2n (x.bod && isJournalDie d) * 64 + min 31 ((s.frame.time - o.start) / 128000))
  | none => BitVec.ofNat 16 (32768 + old * 4096 + b2n fail * 128 + b2n (x.bod && isJournalDie d) * 64)

/-- The journal (14 R320): a record takes the next sequence number; its page is an SLC program job. -/
def State.takeSeq (s : State) : Nat × State := (s.media.seq, { s with media := { s.media with seq := s.media.seq + 1 } })

def State.addJob (s : State) (w : Wordline) (p : Pass) (after : List Nat := []) (half : Option Bool := none) : State :=
  { s with media := { s.media with jobs := s.media.jobs ++ [{ id := s.media.nextJob, at_ := w, pass := p, after := after, half := half }], nextJob := s.media.nextJob + 1 } }

/-- Records written on one journal page, after the jobs `after`; the SEQ of the last (log 20). -/
def State.journalAll (s : State) (l : List JBody) (after : List Nat := []) (half : Option Bool := none) : Nat × State :=
  let job := s.media.nextJob
  let s := s.addJob { die := 0, block := 0, wl := 0 } .slc after half
  let s := l.foldl (fun s b =>
    { s with media := { s.media with journal := s.media.journal ++ [{ seq := s.media.seq, frame := s.groupFrame, body := b, job := some job }], seq := s.media.seq + 1 } }) s
  (s.media.seq - 1, s)

def State.journal (s : State) (b : JBody) : Nat × State := s.journalAll [b]

/-- A commit of parts and their FLAG (R321): the FLAG is written once every part is durable; it takes effect when it is durable itself. Its SEQ names the commit. -/
def State.commitParts (s : State) (parts : List JBody) : Nat × State :=
  let job := s.media.nextJob
  let r := s.journalAll parts
  r.2.journalAll [.flag (r.1 + 1 - parts.length) parts.length] [job]

/-- Map words as they stand now, as a MAP record (R320); none where no stripe is named. -/
def State.journalMap (s : State) (l : List Nat) : State := if l.isEmpty then s else (s.journal (.mapSet (l.map fun t => (t, Sparse.get 0 s.media.map t)))).2

/-- A record is durable once its journal page has been programmed (R321). -/
def State.durable (s : State) (seq : Nat) : Bool := s.media.journal.all fun r => !decide (r.seq = seq) || r.job.isNone

/-- The controller of slot `l`, and of stripe `t` (R312). -/
def stripeCtrl (t : Nat) : Nat := t % 8

/-- Descriptor of a unit (R315): LOST, METHOD and LEN of a mapped unit, 0 for an unmapped one. -/
def descOf (c : Option Container) : Nat :=
  match c with
  | none => 0
  | some k => 4096 + b2n k.lost * 2048 + k.method.toNat * 512 + k.len.toNat * 4

/-- The map word of a record (R315). -/
def StripeRec.word (r : StripeRec) : W64 :=
  let ch := dieChan r.die % 32
  if r.unit0.isNone ∧ r.unit1.isNone then 0
  else BitVec.ofNat 64 (dieTarget r.die * 2 ^ 61 + ch * 2 ^ 56 + r.block * 2 ^ 44 + r.cw * 2 ^ 29 + descOf r.unit1 * 2 ^ 13 + descOf r.unit0)

/-- The map word of stripe `t`. -/
def State.mapAt (s : State) (t : Nat) : W64 := Sparse.get 0 s.media.map t
def State.setMap (s : State) (t : Nat) (w : W64) : State :=
  { s with media := { s.media with map := Sparse.set 0 s.media.map t w, changed := if s.media.changed.contains t then s.media.changed else s.media.changed ++ [t] } }

/-- Fields of a map word. -/
def wordDie (t : Nat) (w : W64) : Nat := 8 * (32 * stripeCtrl t + bits w 60 56) + bits w 63 61
def wordBlock (w : W64) : Nat := bits w 55 44
def wordCw (w : W64) : Nat := bits w 43 29
def wordDesc (w : W64) (u : Nat) : Nat := if u = 0 then bits w 12 0 else bits w 25 13
def descMapped (d : Nat) : Bool := d.testBit 12
def descLost (d : Nat) : Bool := d.testBit 11

/-- The record that a map word names. -/
def State.recordAt (s : State) (t : Nat) (w : W64) : Option StripeRec :=
  if w = 0 then none else s.media.records.find? fun r => decide (r.stripe = t) && decide (r.die = wordDie t w) && decide (r.block = wordBlock w) && decide (r.cw = wordCw w)

/-- A unit's container as the map holds it, a lost one included. -/
def State.unitAt (s : State) (l : Nat) : Option Container :=
  match s.recordAt (l / 2) (s.mapAt (l / 2)) with
  | none => none
  | some r => if l % 2 = 0 then r.unit0 else r.unit1

def State.slotMapped (s : State) (l : Nat) : Bool := descMapped (wordDesc (s.mapAt (l / 2)) (l % 2))
def State.slotLost (s : State) (l : Nat) : Bool := descLost (wordDesc (s.mapAt (l / 2)) (l % 2))

/-- The 65,536 bytes of a unit; an unmapped unit reads as zero (R315). -/
def State.readSlot (s : State) (l : Nat) : Bytes :=
  match s.unitAt l with
  | none => List.replicate 65536 0
  | some c => if c.lost then List.replicate 65536 0 else Sparse.getRun 0 c.data 0 65536

/-- A unit in its container (09 R215 to R217). -/
def packUnit (m : BitVec 2) (fmt : Byte) (data : Bytes) : Container :=
  let c := if m = 0 then (0, data) else storedForm m fmt data
  { method := c.1, len := if c.1 = 0 then 127 else BitVec.ofNat 7 (c.2.length / 512 - 1), data := cellsOf 0 data }

def Container.bytes (c : Container) : Nat := (c.len.toNat + 1) * 512
def unitBytes : Option Container → Nat
  | none => 0
  | some c => c.bytes

/-- Wordlines that a run of codewords lies in (R314). -/
def wlsOf (die block cw n : Nat) : List Wordline := (upTo ((cw + n - 1) / 48 + 1 - cw / 48)).map fun i => { die := die, block := block, wl := cw / 48 + i }

/-- A block index that may be opened for TLC data: good, erased, outside the journal region (R319, R335, R336). -/
def State.freeTlc (s : State) (d b : Nat) : Bool := decide ((s.blkAt d b).state = .free) && (!isJournalDie d || decide (128 ≤ b))

/-- Number of free TLC blocks of a die: its block indices less those listed otherwise. -/
def State.freeCount (s : State) (d : Nat) : Nat :=
  let used := (s.media.blocks.filter fun e => decide (e.1 / 2752 = d) && decide (e.2.state ≠ .free) && (!isJournalDie d || decide (128 ≤ e.1 % 2752))).length
  (if isJournalDie d then 2624 else 2752) - used

/-- The lowest free block of a die. -/
def State.pickBlock (s : State) (d : Nat) : Option Nat := (upTo 2752).find? fun b => s.freeTlc d b

/-- The die, block and first codeword where a record of `n` codewords of controller `k` goes: an open block with room, otherwise a free block of the lowest numbered die that has one (log 20). -/
def State.place (s : State) (k n : Nat) : Option (Nat × (Nat × Nat)) :=
  match s.media.openBlk.find? fun o => decide (dieCtrl o.1 = k) && !s.dieFailed o.1 && decide (o.2.2 + n ≤ 24576) with
  | some o => some (o.1, o.2)
  | none => match (upTo 256).find? fun i => !s.dieFailed (256 * k + i) && (s.pickBlock (256 * k + i)).isSome && s.media.openBlk.all fun o => decide (o.1 ≠ 256 * k + i) with
    | none => none
    | some i => (s.pickBlock (256 * k + i)).map fun b => (256 * k + i, (b, 0))

/-- The latest form of a unit: that of the newest record not yet in the map, otherwise the map's (R313). -/
def State.latestUnit (s : State) (l : Nat) : Option Container :=
  match (s.media.records.filter fun r => decide (r.stripe = l / 2) && s.media.parts.any fun p => decide (p.first ≤ r.seq) && decide (r.seq < p.first + p.count)).getLast? with
  | some r => if l % 2 = 0 then r.unit0 else r.unit1
  | none => s.unitAt l

/-- The place of a record in block `b` of die `d`, where that is open with room, or free. -/
def State.placeIn (s : State) (d b n : Nat) : Option (Nat × (Nat × Nat)) :=
  match s.media.openBlk.find? fun o => decide (o.1 = d) && decide (o.2.1 = b) with
  | some o => if o.2.2 + n ≤ 24576 then some (o.1, o.2) else none
  | none => if s.freeTlc d b && !s.dieFailed d then some (d, (b, 0)) else none

/-- One stripe record is formed and its wordlines are given to the die (R313, R314, R317), in block `at_` where one is named (R333) and has room. Returns false where no block is free. -/
def State.writeStripeAt (s : State) (at_ : Option (Nat × Nat)) (stream : Nat) (grouped : Bool) (t : Nat) (u0 u1 : Option Container) : Bool × State :=
  let n := max 1 (ceilDiv (unitBytes u0 + unitBytes u1) 4096)
  match (match at_ with | none => s.place (stripeCtrl t) n | some a => match s.placeIn a.1 a.2 n with | some p => some p | none => s.place (stripeCtrl t) n) with
  | none => (false, s)
  | some (d, (b, cw)) =>
    let q := s.takeSeq
    let old := if stream = 3 then (s.recordAt t (s.mapAt t)).map fun o => o.rewrites.getD o.seq else none
    let r : StripeRec := { seq := q.1, stripe := t, stream := BitVec.ofNat 8 stream, grouped := grouped, die := d, block := b, cw := cw, ncw := n, unit0 := u0, unit1 := u1, rewrites := old }
    let s := q.2
    let s := if (s.blkAt d b).state = .free then ((s.journal (.blockEvt d b 1 0)).2).modBlk d b fun x => { x with state := .open_ } else s
    let next := ((cw + n - 1) / 48 + 1) * 48
    let s := { s with media := { s.media with
      records := s.media.records ++ [r]
      openBlk := (s.media.openBlk.filter fun o => !(decide (o.1 = d) && decide (o.2.1 = b))) ++ (if next < 24576 then [(d, (b, next))] else []) } }
    (true, (wlsOf d b cw n).foldl (fun s w => s.addJob w .foggy) s)

def State.writeStripe (s : State) (stream : Nat) (grouped : Bool) (t : Nat) (u0 u1 : Option Container) : Bool × State := s.writeStripeAt none stream grouped t u0 u1

/-- A write part: records with consecutive SEQ, one per stripe (R318, R324). -/
def State.writePart (s : State) (stream : Nat) (grouped : Bool) (for_ : WriteFor) (l : List (Nat × (Option Container × Option Container))) : Bool × State :=
  let first := s.media.seq
  let r := l.foldl (fun (a : Bool × State) x => if a.1 then a.2.writeStripe stream grouped x.1 x.2.1 x.2.2 else a) (true, s)
  if r.1 then (true, { r.2 with media := { r.2.media with parts := r.2.media.parts ++ [{ first := first, count := r.2.media.seq - first, for_ := for_, grouped := grouped }] } })
  else (false, s)

/-- The records of a part: those whose stripes were written since `first`, in order. -/
def State.partRecords (s : State) (p : WritePart) : List StripeRec := s.media.records.filter fun r => decide (p.first ≤ r.seq) && decide (r.seq < p.first + p.count)

/-- A wordline holds data safely: verified, or a member of a group whose PARITY record is durable (R324). -/
def State.wlDurable (s : State) (w : Wordline) : Bool :=
  s.media.verified.contains w || decide ((s.blkAt w.die w.block).state = .closed) || s.media.groups.any fun g => g.durable && g.members.contains w

def State.recDurable (s : State) (r : StripeRec) : Bool := (wlsOf r.die r.block r.cw r.ncw).all s.wlDurable

/-- A record takes effect: its map word is set (R315). -/
def State.applyRec (s : State) (r : StripeRec) : State :=
  { (s.setMap r.stripe r.word) with media := { (s.setMap r.stripe r.word).media with durableBytes := s.media.durableBytes + unitBytes r.unit0 + unitBytes r.unit1 } }

/-- An earlier part that wrote the same stripe is still under way: the later one takes effect after it (15 R351, R353). -/
def State.partWaits (s : State) (p : WritePart) : Bool :=
  s.media.parts.any fun q => decide (q.first < p.first) && (s.partRecords q).any fun r => (s.partRecords p).any fun x => decide (x.stripe = r.stripe)

/-- A mark has come to the writable piece that a part writes down: the commit is stopped (09 R229). -/
def State.partMarked (s : State) (p : WritePart) : Bool :=
  match p.for_ with
  | .reel a i => (match s.objFor a with | some o => !o.kind.readOnly && o.marked (i * 1048576) (o.pieceLen i) | none => false)
  | _ => false

/-- One part goes as far as it can: commit once its records are durable, effect once the commit is (R324). The second value says whether it is over. -/
def State.stepPart (s : State) (p : WritePart) : Bool × State :=
  match p.commit with
  | none =>
    if (s.partRecords p).all s.recDurable && !s.partWaits p && !s.partMarked p then
      if p.grouped then
        let q := s.journal (.groupCommit p.first p.count)
        (false, { q.2 with media := { q.2.media with parts := q.2.media.parts.map fun x => if x = p then { x with commit := some q.1 } else x } })
      else (true, (s.partRecords p).foldl State.applyRec s)
    else (false, s)
  | some c => if s.durable c then (true, (s.partRecords p).foldl State.applyRec s) else (false, s)

/-- All parts, in the order in which they began (15 R351). The parts that are over. -/
def State.stepParts (s : State) : List WritePart × State :=
  s.media.parts.foldl (fun a p =>
    let r := a.2.stepPart p
    if r.1 then (a.1 ++ [p], { r.2 with media := { r.2.media with parts := r.2.media.parts.filter fun x => !decide (x.first = p.first) } }) else (a.1, r.2)) ([], s)

/-- Do journal records and parts of a durable commit or PARITY record take effect (R321, R323)? -/
def State.settleParity (s : State) : State :=
  { s with media := { s.media with groups := s.media.groups.map fun g =>
      if g.closed ∧ !g.durable ∧ s.media.journal.any (fun r => r.job.isNone && (match r.body with | .parity ch m _ => decide (ch = g.ch) && decide (m = g.members) | _ => false)) then { g with durable := true } else g } }

/-- Maximum time of a program, ns (13 R294). -/
def passNs : Pass → Nat
  | .slc => 100000
  | .foggy => 300000
  | .fine => 150000

def passCode : Pass → BitVec 3
  | .slc => 2
  | .foggy => 3
  | .fine => 5

/-- May die `d` begin a program now (02 R39; 13 R306, R308; 14 R322)? -/
def State.dieMayProgram (s : State) (d : Nat) (p : Pass) : Bool :=
  let k := s.ctrlAt (dieCtrl d)
  k.ready && !k.hold && !k.pwrFail && !k.inReset && !s.dieFailed d && (s.dieAt d).op.isNone && bit s.progTgt (dieTarget d) &&
  decide (s.frame.time + passNs p ≤ s.frame.nextTick) &&
  (upTo 8).all fun t => match (s.dieAt (8 * dieChan d + t)).op with | some o => decide (o.code = 4) | none => true

/-- The order of the passes of a block (13 R294): what must have gone before a pass of wordline `w`. -/
def State.passReady (s : State) (w : Wordline) : Pass → Bool
  | .slc => true
  | .foggy => (decide (w.wl = 0) || s.media.foggied.contains { w with wl := w.wl - 1 }) && (decide (w.wl < 2) || s.media.verified.contains { w with wl := w.wl - 2 })
  | .fine => s.media.foggied.contains w && (decide (w.wl = 511) || s.media.foggied.contains { w with wl := w.wl + 1 })

/-- The die of a journal job: one that may program now; the lowest numbered (02 R39; log 20), of the controllers with even or odd numbers where the job names them. -/
def State.journalDie (s : State) (half : Option Bool) : Option Nat :=
  ((upTo 16).foldl (fun l i => l ++ (upTo 8).map fun t => 8 * (32 * (i / 2) + i % 2) + t) []).find? fun d => s.dieMayProgram d .slc && half.all fun h => h == decide (dieCtrl d % 2 = 1)

/-- A job begins on its die. -/
def State.beginJob (s : State) (j : ProgJob) : State :=
  let d? := match j.pass with
    | .slc => if s.media.jobs.any fun x => j.after.contains x.id then none else s.journalDie j.half
    | _ => if s.dieMayProgram j.at_.die j.pass && s.passReady j.at_ j.pass then some j.at_.die else none
  match d? with
  | none => s
  | some d =>
    let s := s.modDie d fun x => { x with op := some { code := passCode j.pass, start := s.frame.time, block := j.at_.block, job := some j.id } }
    { s with media := { s.media with jobs := s.media.jobs.map fun x => if x.id = j.id then { x with running := true, at_ := { x.at_ with die := d } } else x } }

/-- Controllers start every program that the frame allows, in order (R39, R322). -/
def State.kick (s : State) : State := (s.media.jobs.filter fun j => !j.running).foldl State.beginJob s

/-- A wordline passed FOGGY joins its channel's parity group (R323). -/
def State.joinGroup (s : State) (w : Wordline) : State :=
  let ch := dieChan w.die
  let fits := fun (g : ParGroup) => decide (g.ch = ch) && !g.closed && decide (g.members.length < 16) && g.members.all fun m => !(decide (m.die = w.die) && decide (m.block = w.block) && decide (w.wl < m.wl + 3) && decide (m.wl < w.wl + 3))
  match s.media.groups.find? fits with
  | some g => { s with media := { s.media with groups := s.media.groups.map fun x => if x = g then { x with members := x.members ++ [w] } else x } }
  | none => { s with media := { s.media with groups := s.media.groups ++ [{ ch := ch, members := [w] }] } }

/-- Groups that are full, and at the end of a frame every group that gained a member, close: three parity pages and the PARITY record (R323). -/
def State.closeGroups (s : State) (all : Bool) : State :=
  s.media.groups.foldl (fun s g =>
    if !g.closed && (all || decide (16 ≤ g.members.length)) then
      let n := s.media.nextJob
      let first := s.media.seq
      let s := (upTo 3).foldl (fun (s : State) i => (s.journal (.parityPage i)).2) s
      let q := s.journalAll [.parity g.ch g.members [first, first + 1, first + 2]] [n, n + 1, n + 2]
      { q.2 with media := { q.2.media with groups := q.2.media.groups.map fun x => if x = g then { x with closed := true } else x } }
    else s) s

/-- Groups whose members are all verified are released (R325). -/
def State.releaseGroups (s : State) : State :=
  { s with media := { s.media with groups := s.media.groups.filter fun g => !g.members.all fun m => s.media.verified.contains m || decide ((s.blkAt m.die m.block).state = .closed) } }

/-- A block is retired (R335). -/
def State.retire (s : State) (d b cause : Nat) : State :=
  let s := (s.journal (.blockEvt d b 3 (BitVec.ofNat 8 cause))).2
  let s := s.modBlk d b fun x => { x with state := .retired, cause := BitVec.ofNat 8 cause }
  let poh := s.gondola.poh.toNat
  let s := s.modDie d fun x => { x with retiredAt := (poh :: x.retiredAt).filter fun t => decide (poh ≤ t + 168) }
  let s := { s with media := { s.media with
    openBlk := s.media.openBlk.filter fun o => !(decide (o.1 = d) && decide (o.2.1 = b))
    eraseQueue := s.media.eraseQueue.filter fun e => !decide (e = (d, b))
    victims := if s.media.records.any (fun r => decide (r.die = d) && decide (r.block = b)) then (d, b) :: (s.media.victims.filter fun v => !decide (v = (d, b))) else s.media.victims } }
  let h := s.media.health
  { s with media := { s.media with health := match cause with | 1 => { h with retProgram := h.retProgram + 1 } | 2 => { h with retErase := h.retErase + 1 } | _ => { h with retRefresh := h.retRefresh + 1 } } }

/-- A record is written elsewhere (13 R306; 14 R329): the same stripe, under the same part; a recovery rewrite where the map names it. -/
def State.rewriteRec (s : State) (r : StripeRec) : State :=
  match s.place (stripeCtrl r.stripe) r.ncw with
  | none => s
  | some (d, (b, cw)) =>
    let next := ((cw + r.ncw - 1) / 48 + 1) * 48
    let s := if (s.blkAt d b).state = .free then ((s.journal (.blockEvt d b 1 0)).2).modBlk d b fun x => { x with state := .open_ } else s
    let named := decide (s.mapAt r.stripe = r.word)
    let moved : StripeRec := { r with die := d, block := b, cw := cw, stream := if named then 3 else r.stream, rewrites := if named then some (r.rewrites.getD r.seq) else r.rewrites }
    let s := { s with media := { s.media with
      records := s.media.records.map fun x => if x = r then moved else x
      openBlk := (s.media.openBlk.filter fun o => !(decide (o.1 = d) && decide (o.2.1 = b))) ++ (if next < 24576 then [(d, (b, next))] else []) } }
    let s := if named then s.setMap r.stripe moved.word else s
    (wlsOf d b cw r.ncw).foldl (fun s w => s.addJob w .foggy) s

/-- A collection whose copies went to a block that is lost to it begins anew from its source, which is intact (14 R332). -/
def State.dropGcs (s : State) (hit : StripeRec → Bool) : State :=
  let l := s.media.gcs.filter fun g => g.flag.isNone && s.media.records.any fun r => hit r && g.copies.any fun c => decide (c.1 = r.seq)
  let seqs := l.foldl (fun (x : List Nat) (g : Gc) => x ++ g.copies.map (·.1)) []
  { s with media := { s.media with
    gcs := s.media.gcs.filter fun g => !l.contains g
    records := s.media.records.filter fun r => !seqs.contains r.seq
    victims := l.map (fun g => (g.die, g.block)) ++ s.media.victims } }

/-- What a block holds in unverified wordlines is written elsewhere, and no pass of it comes (13 R306, R307; 14 R332, R335). -/
def State.evacuate (s : State) (d b : Nat) : State :=
  let s := s.dropGcs fun r => decide (r.die = d) && decide (r.block = b)
  let s : State := { s with media := { s.media with jobs := s.media.jobs.filter fun j => !(decide (j.at_.die = d) && decide (j.at_.block = b) && decide (j.pass ≠ Pass.slc)) } }
  (s.media.records.filter fun r => decide (r.die = d) && decide (r.block = b) && !(wlsOf r.die r.block r.cw r.ncw).all s.media.verified.contains).foldl State.rewriteRec s

/-- A program pass ends (13 R306, R307; 14 R319, R323, R325). -/
def State.passEnds (s : State) (j : ProgJob) (fail : Bool) : State :=
  let s := s.modDie j.at_.die fun x => { x with op := none, sw := BitVec.ofNat 16 (32768 + (passCode j.pass).toNat * 4096 + b2n fail * 128 + b2n (x.bod && isJournalDie j.at_.die) * 64) }
  let s := { s with media := { s.media with jobs := s.media.jobs.filter fun x => !decide (x.id = j.id) } }
  match j.pass with
  | .slc =>
    if fail then
      -- the journal page is written again, on the next die that may program
      { s with media := { s.media with jobs := s.media.jobs ++ [{ j with running := false }] } }
    else { s with media := { s.media with journal := s.media.journal.map fun r => if r.job = some j.id then { r with job := none } else r } }
  | .foggy =>
    if fail then (s.retire j.at_.die j.at_.block 1).evacuate j.at_.die j.at_.block
    else
      let w := j.at_
      let s := ({ s with media := { s.media with foggied := s.media.foggied ++ [w] } }).joinGroup w
      let s := if 0 < w.wl then s.addJob { w with wl := w.wl - 1 } .fine else s
      let s := if w.wl = 511 then s.addJob w .fine else s
      s.closeGroups false
  | .fine =>
    if fail then (s.retire j.at_.die j.at_.block 1).evacuate j.at_.die j.at_.block
    else
      let w := j.at_
      let s := { s with media := { s.media with foggied := s.media.foggied.filter fun x => !decide (x = w), verified := s.media.verified ++ [w] } }
      let s := if w.wl = 511 then
          let s := (s.journal (.blockEvt w.die w.block 2 0)).2
          let s := s.modBlk w.die w.block fun x => { x with state := .closed, closedPoh := s.gondola.poh.toNat }
          { s with media := { s.media with verified := s.media.verified.filter fun x => !(decide (x.die = w.die) && decide (x.block = w.block)) } }
        else s
      s.releaseGroups

/-- An erase pulse train begins (13 R304; 14 R336: each start counts). -/
def State.eraseStart (s : State) (d b : Nat) : State :=
  let s := s.modDie d fun x => { x with op := some { code := 4, start := s.frame.time, block := b, job := none } }
  let s := s.modBlk d b fun x => { x with erases := x.erases + 1 }
  { s with media := { s.media with eraseQueue := s.media.eraseQueue.filter fun e => !decide (e = (d, b)) } }

/-- The first frame of an erase span of target `t` (02 R38): the row before did not erase it. -/
def State.spanStarts (s : State) (t : Nat) : Bool :=
  bit s.eraseTgt t &&
  match s.loft.image with
  | none => false
  | some i => !erases i t (s.frame.rowIdx + i.rows.length - 1)

/-- At a tick: at most one erase on each die of a target whose span starts (02 R34 step 5, R38). The erase-start records go to one journal page, whose program runs before a pulse train begins (13 R304). -/
def State.startErases (s : State) : State :=
  let l := (s.media.eraseQueue.map (·.1)).eraseDups.filterMap fun d =>
    let k := s.ctrlAt (dieCtrl d)
    if s.spanStarts (dieTarget d) && k.ready && !k.hold && !k.pwrFail && !k.inReset && !s.dieFailed d && (s.dieAt d).op.isNone then s.media.eraseQueue.find? fun e => decide (e.1 = d) else none
  if l.isEmpty || (s.journalDie none).isNone then s else
    let n := s.media.nextJob
    let s := (s.journalAll (l.map fun e => .eraseStart e.1 e.2)).2
    let s := (s.media.jobs.filter fun j => decide (j.id = n)).foldl State.beginJob s
    l.foldl (fun s e => s.eraseStart e.1 e.2) s

/-- An erase ends: its record goes to the journal, a failed one retires the block (13 R304, R305, R309; 14 R335, R336). -/
def State.eraseEnds (s : State) (d : Nat) (fail : Bool) : State :=
  match (s.dieAt d).op with
  | none => s
  | some o =>
    if o.code ≠ 4 then s else
      let unc := decide ((s.blkAt d o.block).state = .uncertain)
      let s := s.modDie d fun x => { x with op := none, sw := BitVec.ofNat 16 (0xC000 + b2n fail * 128 + b2n (x.bod && isJournalDie d) * 64) }
      let s := (s.journal (.eraseEnd d o.block fail)).2
      let s := s.setLevels d o.block (List.replicate 8 0)
      let s := if unc then { s with media := { s.media with health := { s.media.health with eraseUnc := s.media.health.eraseUnc + 1 } } } else s
      let s := { s with media := { s.media with records := s.media.records.filter fun r => !(decide (r.die = d) && decide (r.block = o.block)) } }
      if fail then s.retire d o.block 2 else s.modBlk d o.block fun x => { x with state := .free, closedPoh := 0 }

/-- Can a die be read now (13 R302; 01 R15, R18, R29)? -/
def State.dieReads (s : State) (d : Nat) : Bool :=
  let k := s.ctrlAt (dieCtrl d)
  s.powered && k.ready && !k.inReset && !k.pwrFail && !s.sparReset && !s.inHold && (s.dieAt d).op.isNone

/-- May a fetch of the running frame's plan count on a die: it reads now, and the row leaves its target alone (02 R40)? A die whose erase or program runs on over an activation does not read (R41). -/
def State.diePlanned (s : State) (d : Nat) : Bool := s.dieReads d && !bit s.eraseTgt (dieTarget d) && !bit s.progTgt (dieTarget d)

/-- Stored bytes of a block that the map names (R330). -/
def State.validBytes (s : State) (d b : Nat) : Nat :=
  sumBy (fun (r : StripeRec) => if decide (r.die = d) && decide (r.block = b) && decide (s.mapAt r.stripe = r.word) then unitBytes r.unit0 + unitBytes r.unit1 else 0) s.media.records

/-- Rated cycles of a die, from its calibration row (13 R303). -/
def State.peTlc (s : State) (d : Nat) : Nat := max 1 (leNat (s.dieAt d).calRow 0x18 2)

/-- The score of a victim (R330). -/
def State.score (s : State) (d b : Nat) : Int :=
  let x := s.blkAt d b
  let w := match s.loft.image with | some i => (i.wV, (i.wA, i.wW)) | none => (600, (300, 100))
  let inv := 1000 * (100663296 - s.validBytes d b) / 100663296
  let age := min 1000 (1000 * (s.gondola.poh.toNat - x.closedPoh) / 168)
  let wear := min 1000 (1000 * x.erases / s.peTlc d)
  (w.1 * inv + w.2.1 * age : Nat) - (w.2.2 * wear : Nat)

/-- A block that waits for its erase or is under it. -/
def State.erasing (s : State) (d b : Nat) : Bool := s.media.eraseQueue.contains (d, b) || (match (s.dieAt d).op with | some o => decide (o.code = 4) && decide (o.block = b) | none => false)

/-- May a closed block be a victim (R330)? Retired ones come first of all (R335). -/
def State.victimOk (s : State) (d b : Nat) : Bool :=
  decide ((s.blkAt d b).state = .closed) && !s.erasing d b && !(s.media.groups.any fun g => g.members.any fun m => decide (m.die = d) && decide (m.block = b)) && !(s.media.gcs.any fun g => decide (g.die = d) && decide (g.block = b))

/-- Closed blocks of a controller. -/
def State.closedOf (s : State) (k : Nat) : List (Nat × Nat) := (s.media.blocks.filter fun e => decide (e.2.state = .closed) && decide (dieCtrl (e.1 / 2752) = k)).map fun e => (e.1 / 2752, e.1 % 2752)

/-- The victim that wear levelling names on a die (R333). -/
def State.wearVictim (s : State) (d : Nat) : Option (Nat × Nat) :=
  let good := s.media.blocks.filter fun e => decide (e.1 / 2752 = d) && decide (e.2.state ≠ .retired) && (!isJournalDie d || decide (128 ≤ e.1 % 2752))
  let closed := good.filter fun e => decide (e.2.state = .closed)
  match closed.filter fun e => !s.erasing d (e.1 % 2752) && !(s.media.gcs.any fun g => decide (g.die = d) && decide (g.block = e.1 % 2752)) with
  | [] => none
  | c :: r =>
    let hi := good.foldl (fun m e => max m e.2.erases) 0
    let lo := r.foldl (fun b e => if e.2.erases < b.2.erases then e else b) c
    if lo.2.erases + s.peTlc d / 10 < hi then some (d, lo.1 % 2752) else none

/-- The next victim of a die's controller (R330, R333 to R335). -/
def State.nextVictim (s : State) (d : Nat) : Option (Nat × Nat) :=
  let k := dieCtrl d
  match s.media.victims.find? fun v => decide (dieCtrl v.1 = k) && !s.erasing v.1 v.2 && !(s.media.gcs.any fun g => decide (g.die = v.1) && decide (g.block = v.2)) with
  | some v => some v
  | none => match s.wearVictim d with
    | some v => some v
    | none =>
      if 6 ≤ s.freeCount d ∧ !s.media.collecting.contains d then none
      else match (s.closedOf k).filter fun v => s.victimOk v.1 v.2 with
        | [] => none
        | v :: r => some (r.foldl (fun b x => if s.score b.1 b.2 < s.score x.1 x.2 then x else b) v)

/-- The record with unit `u` LOST. -/
def StripeRec.lose (r : StripeRec) (u : Nat) : StripeRec :=
  if u = 0 then { r with unit0 := r.unit0.map fun c => { c with lost := true } } else { r with unit1 := r.unit1.map fun c => { c with lost := true } }

/-- A unit that becomes LOST counts as a media error (R340), and a namespace's range enters the lost data log (R342). -/
def State.noteLost (s : State) (l : Nat) : State :=
  let s : State := { s with media := { s.media with health := { s.media.health with mediaErrors := s.media.health.mediaErrors + 1 } } }
  match s.media.namespaces.find? fun n => n.groups.contains (l / 16) with
  | none => s
  | some n =>
    let i := n.groups.idxOf (l / 16)
    let per := 65536 / (if n.lbaf = 1 then 65536 else 4096)
    let e : Lost := { nsid := n.nsid, slba := (16 * i + l % 16) * per, nlb := per, frame := s.groupFrame }
    { s with media := { s.media with lost := (s.media.lost ++ [e]).drop (s.media.lost.length + 1 - 4096) } }

/-- A unit is marked LOST (R338). -/
def State.markLost (s : State) (l : Nat) : State :=
  if !s.slotMapped l || s.slotLost l then s else
    (match s.recordAt (l / 2) (s.mapAt (l / 2)) with
      | none => s
      | some r =>
        let q := r.lose (l % 2)
        let s : State := { s with media := { s.media with records := s.media.records.map fun x => if x = r then q else x } }
        s.setMap (l / 2) q.word).noteLost l

/-- Has an object another copy: of an expert the shadow or the home, of a model's shared objects and of a shard likewise, of a context the buddy; a copy held for another module has its home (R226, R332, R338)? -/
def State.objHasCopy (s : State) (o : Obj) : Bool :=
  let a := s.addrOf o.ofs
  (s.library.models.any fun m =>
    (m.table.any fun x => (decide (x.2.weights = a) || decide (x.2.weightsShadow = a) || decide (x.2.refitState = a)) && (decide (x.2.home ≠ s.rank) || decide (x.2.shadow ≠ 0xFFFF))) ||
    ([m.shared, m.programs, m.expertTable, m.serveScale, m.refitScale].contains a &&
      s.group.places.any fun p => decide (p.kind = 5) && decide (p.key1 = m.id) && decide (p.home ≠ 0xFFFF) && (decide (p.home ≠ s.rank) || decide (p.shadow1 ≠ 0xFFFF)))) ||
  (s.search.shards.any fun x => (decide (x.shadowRank ≠ 0xFFFF) || x.shadowOf.isSome) && (x.addrs.contains a || s.search.filters.any fun f => decide (f.addr = a) && decide (f.index = x.index) && decide (f.shard = x.shard))) ||
  (s.library.contexts.any fun e => decide (e.2.state ≠ 0) && decide (e.2.buddy ≠ 0xFFFF) && e.2.extents.contains a) ||
  s.group.heldCopies.any fun h => decide (h.addr = a) || decide (h.state = a)

/-- Has a unit another copy: a mirror of its namespace, a copy of its object on another module or in T1 (R226, R332, R338)? -/
def State.hasCopy (s : State) (l : Nat) : Bool :=
  (s.media.namespaces.any fun n => n.groups.contains (l / 16) && !n.mirrors.isEmpty) ||
  s.reel.objects.any fun o => (o.pieces.any fun p => decide (p.group = some (l / 16))) &&
    (s.objHasCopy o || o.pieces.any (fun p => decide (p.group = some (l / 16)) && p.inT1))

/-- A block is refreshed: it becomes the next victim; twice within 168 power-on hours retires it (R334, R335). One that already waits to be reclaimed is not refreshed again. -/
def State.refresh (s : State) (d b : Nat) : State :=
  let poh := s.gondola.poh.toNat
  if s.media.victims.contains (d, b) || s.media.eraseQueue.contains (d, b) || s.media.gcs.any (fun g => decide (g.die = d) && decide (g.block = b)) then s else
  let again := (s.blkAt d b).refreshes.any fun t => decide (poh ≤ t + 168)
  let s := s.modBlk d b fun x => { x with refreshes := poh :: x.refreshes.filter fun t => decide (poh ≤ t + 168) }
  if again then s.retire d b 3
  else { s with media := { s.media with victims := s.media.victims ++ [(d, b)] } }

def State.modHealth (s : State) (f : Health → Health) : State := { s with media := { s.media with health := f s.media.health } }

/-- The ladder's outcome for a read of a block (13 R309, R310): `step` is 0 to 4 for steps 1 to 5, 5 for uncorrectable. Levels learned at a shifted step are the read's (log 7). -/
def State.ladder (s : State) (d b : Nat) (step : Nat) : State :=
  let n := dieCtrl d
  let s := if 1 ≤ step then (s.modCtrl n fun k => { k with retryCnt := satInc k.retryCnt }).modHealth fun h => { h with corrected := h.corrected + 1 } else s
  let s := if 2 ≤ step ∧ step ≤ 4 then (s.setLevels d b ((upTo 8).map fun i => Config.freeByte s.draws i)).drawn else s
  let s := if 2 ≤ step ∧ (s.blkAt d b).state = .closed then s.refresh d b else s
  if step = 5 then (s.modCtrl n fun k => { k with ueccCnt := satInc k.ueccCnt }).modHealth fun h => { h with uncorrected := h.uncorrected + 1, mediaErrors := h.mediaErrors + 1 } else s
/-- The step can come about: step 2 is skipped where the offsets are all 0 (13 R310). -/
def State.ladderOk (s : State) (d b step : Nat) : Bool := decide (step ≠ 1) || (s.levelsAt d b).any fun x => decide (x ≠ 0)

/-- Where the records of a wear-levelling victim go: the free block of its die with the highest erase count, the lowest numbered of equals (R333). -/
def State.wearTarget (s : State) (d : Nat) : Option (Nat × Nat) :=
  match s.media.blocks.filter fun e => decide (e.1 / 2752 = d) && s.freeTlc d (e.1 % 2752) with
  | [] => (s.pickBlock d).map fun b => (d, b)
  | c :: r => some (d, (r.foldl (fun b e => if b.2.erases < e.2.erases then e else b) c).1 % 2752)

/-- Units of a record that codeword `i` of it touches (13 R294; 14 R313). -/
def StripeRec.unitsAt (r : StripeRec) (i : Nat) : List Nat :=
  let a := unitBytes r.unit0
  let b := a + unitBytes r.unit1
  (if r.unit0.isSome ∧ i * 4096 < a then [0] else []) ++ (if r.unit1.isSome ∧ a < (i + 1) * 4096 ∧ i * 4096 < b then [1] else [])

/-- A record as its copy holds it: a unit with an uncorrectable codeword, and no other copy, carries LOST (R332). `bad` lists codewords of its block. -/
def State.copyOf (s : State) (bad : List Nat) (r : StripeRec) : StripeRec :=
  (((upTo r.ncw).filter fun i => bad.contains (r.cw + i)).foldl (fun (l : List Nat) i => l ++ r.unitsAt i) []).eraseDups.foldl (fun (q : StripeRec) u => if s.hasCopy (2 * r.stripe + u) then q else q.lose u) r

/-- Garbage collection begins: the records that the map names are copied to a free block (R331 step 1). `bad` lists the victim's codewords that prove uncorrectable (R332). -/
def State.gcBegin (s : State) (d : Nat) (bad : List Nat) : State :=
  match s.nextVictim d with
  | none => s
  | some v =>
    let live := s.media.records.filter fun r => decide (r.die = v.1) && decide (r.block = v.2) && decide (s.mapAt r.stripe = r.word)
    let to_ := if !s.media.victims.contains v && decide (s.wearVictim d = some v) then s.wearTarget d else none
    let r := live.foldl (fun (a : Bool × (List (Nat × W64) × State)) y =>
      if a.1 then
        let x := s.copyOf bad y
        let w := a.2.2.writeStripeAt to_ 2 true x.stripe x.unit0 x.unit1
        (w.1, (a.2.1 ++ [(w.2.media.seq - 1, y.word)], if (upTo y.ncw).any fun i => bad.contains (y.cw + i) then w.2.ladder v.1 v.2 5 else w.2))
      else a) (true, ([], s))
    if r.1 then
      let s := r.2.2
      { s with media := { s.media with gcs := s.media.gcs ++ [{ die := v.1, block := v.2, copies := r.2.1 }], victims := s.media.victims.filter fun x => !decide (x = v) } }
    else s

/-- Every copy of a collection lies in verified wordlines (R331 step 2). -/
def State.gcVerified (s : State) (g : Gc) : Bool :=
  g.copies.all fun c => match s.media.records.find? fun r => decide (r.seq = c.1) with
    | none => true
    | some r => (wlsOf r.die r.block r.cw r.ncw).all fun w => s.media.verified.contains w || decide ((s.blkAt w.die w.block).state = .closed)

/-- GC_COMMIT parts and their FLAG (R331 step 3). -/
def State.gcWriteFlag (s : State) (g : Gc) : State :=
  let q := s.commitParts [.gcCommit g.copies]
  { q.2 with media := { q.2.media with gcs := q.2.media.gcs.map fun x => if x = g then { x with flag := some q.1 } else x } }

/-- A durable FLAG: each entry whose map word still equals SRC takes effect; the source waits for its erase (R328, R331 step 4, R332). -/
def State.gcFinish (s : State) (g : Gc) : State :=
  let s := g.copies.foldl (fun s c =>
    match s.media.records.find? fun r => decide (r.seq = c.1) with
    | none => s
    | some r =>
      if s.mapAt r.stripe = c.2 then (upTo 2).foldl (fun (s : State) u => if descLost (wordDesc r.word u) && !descLost (wordDesc c.2 u) then s.noteLost (2 * r.stripe + u) else s) (s.setMap r.stripe r.word)
      else s) s
  { s with media := { s.media with
    gcs := s.media.gcs.filter fun x => !decide (x = g)
    eraseQueue := if (s.blkAt g.die g.block).state = .retired then s.media.eraseQueue else s.media.eraseQueue ++ [(g.die, g.block)] } }

def State.settleGc (s : State) : State :=
  s.media.gcs.foldl (fun s g => match g.flag with | some f => if s.durable f then s.gcFinish g else s | none => s) s

/-- A flush goes on once its index pieces are written back and committed (R326 steps 2 to 5): changed map words, the next 32 segments and the next block-table page twice each, on journal dies of different controllers, then the FLUSH record. -/
def State.flushRest (s : State) : State :=
  match s.media.flushing with
  | none => s
  | some clean =>
    if s.media.parts.any fun p => decide (p.for_ = .writeBack) then s else
      let n := s.media.nextJob
      let s := s.journalMap s.media.changed
      let pages := (upTo 32).map (fun i => JBody.checkpoint ((s.media.nextSeg + i) % 458752)) ++ [.tablePage s.media.nextPage]
      let s := pages.foldl (fun (s : State) b => (((s.journalAll [b] [] (some false)).2).journalAll [b] [] (some true)).2) s
      let s := (s.journalAll [.flush (s.media.flushNum + 1) s.media.nextSeg s.media.nextPage clean] ((upTo (s.media.nextJob - n)).map (n + ·))).2
      { s with media := { s.media with
        flushNum := s.media.flushNum + 1, nextSeg := (s.media.nextSeg + 32) % 458752, nextPage := (s.media.nextPage + 1) % 1376
        changed := [], clean := clean, flushing := none
        journal := s.media.journal.filter fun r => r.job.isSome } }

/-- What the journal's progress brings about, to a fixed depth: parity groups durable, parts committed, collections finished; then the programs that may start. The parts that are over. -/
def State.settleMedia (s : State) : List WritePart × State :=
  let s := s.settleParity
  let r := s.stepParts
  (r.1, (r.2.settleGc).flushRest.kick)

/-- A die is failed (14 R338): its operation is dropped, its data is served from copies and rewritten, or LOST. -/
def State.failDie (s : State) (d : Nat) : State :=
  let s := (s.modDie d fun x => { x with failed := true, op := none }).dropGcs fun r => decide (r.die = d)
  let cut := s.media.records.filter fun (r : StripeRec) => decide (r.die = d) && decide ((s.blkAt d r.block).state = .open_) && !(wlsOf r.die r.block r.cw r.ncw).all s.media.verified.contains
  let s := cut.foldl State.rewriteRec s
  let s := { s with media := { s.media with
    jobs := (s.media.jobs.filter fun (j : ProgJob) => !decide (j.at_.die = d) || decide (j.pass = Pass.slc)).map fun (j : ProgJob) => if j.at_.die = d then { j with running := false } else j
    openBlk := s.media.openBlk.filter fun o => !decide (o.1 = d)
    eraseQueue := s.media.eraseQueue.filter fun e => !decide (e.1 = d) } }
  let hit : List StripeRec := s.media.records.filter fun r => decide (r.die = d) && decide (s.mapAt r.stripe = r.word)
  let lost := fun (s : State) (r : StripeRec) => descLost (wordDesc (s.mapAt r.stripe) 0) || descLost (wordDesc (s.mapAt r.stripe) 1)
  let s := hit.foldl (fun (s : State) (r : StripeRec) =>
    let each := fun (s : State) (u : Nat) (c : Option Container) => if c.isSome ∧ !s.hasCopy (2 * r.stripe + u) then s.markLost (2 * r.stripe + u) else s
    let s := each (each s 0 r.unit0) 1 r.unit1
    match s.recordAt r.stripe (s.mapAt r.stripe) with
    | none => s
    | some q => if s.hasCopy (2 * r.stripe) || s.hasCopy (2 * r.stripe + 1) then (s.writePart 3 false .recovery [(r.stripe, (q.unit0, q.unit1))]).2 else s) s
  s.journalMap ((hit.filter (lost s)).map (·.stripe))

/-- Is any unit LOST (R338)? -/
def State.anyLost (s : State) : Bool := s.media.map.any fun e => descLost (wordDesc e.2 0) || descLost (wordDesc e.2 1)
def State.lostUnits (s : State) : Nat := sumBy (fun (e : Nat × W64) => b2n (descLost (wordDesc e.2 0)) + b2n (descLost (wordDesc e.2 1))) s.media.map

/-- The slots of a released group leave the map. -/
def State.clearGroupMap (s : State) (g : Nat) : State := (upTo 8).foldl (fun s i => if s.mapAt (8 * g + i) = 0 then s else s.setMap (8 * g + i) 0) s

/-- A flush begins (R326): the dirty index pieces are written back. -/
def State.flushMedia (s : State) (clean : Bool) : State :=
  let dirty := s.reel.objects.foldl (fun l (o : Obj) => l ++ o.pieces.zipIdx.filterMap fun x => if x.1.dirty && x.1.group.isSome then some (o, x.2) else none) []
  let s := dirty.foldl (fun s x =>
    match x.1.pieces[x.2]? with
    | none => s
    | some p => match p.group with
      | none => s
      | some g =>
        -- nothing of a marked unit is written: its container stays, and the piece stays dirty (09 R227, R229)
        let bad := (upTo (units (x.1.pieceLen x.2))).filter fun u => x.1.marked (x.2 * 1048576 + u * 65536) 65536
        let us := (upTo (units (x.1.pieceLen x.2))).map fun u => if bad.contains u then s.latestUnit (16 * g + u) else some (packUnit x.1.method x.1.fmt (x.1.read (x.2 * 1048576 + u * 65536) 65536))
        let s := bad.foldl (fun (s : State) u => s.biteAt 3 (s.addrOf (x.1.ofs + x.2 * 1048576 + u * 65536))) s
        let l := (upTo (ceilDiv us.length 2)).map fun i => (8 * g + i, ((us[2 * i]?).join, (us[2 * i + 1]?).join))
        let w := s.writePart 4 true .writeBack l
        if !w.1 then s else
        let s := w.2
        s.modObj x.1.ofs fun o => { o with pieces := modifyAt (fun p => { p with dirty := !bad.isEmpty }) o.pieces x.2 }) s
  ({ s with media := { s.media with flushFrame := s.frame.num.toNat, durableBytes := 0, flushing := some clean } } : State).flushRest

/-- A module stop's effect on the media (13 R305, R306, R308; 14 R328, R332): journal programs that run end whole; every other program is cut; erases in progress leave their blocks erase-uncertain; commits that are not durable never take effect. `cut` is a power loss. -/
def State.stopMedia (s : State) (cut : Bool) : State :=
  let run : List ProgJob := s.media.jobs.filter (·.running)
  let s := run.foldl (fun (s : State) (j : ProgJob) => if j.pass = Pass.slc ∨ !cut then s.passEnds j false else s) s
  let s := s.settleMedia.2
  let s := s.media.dies.foldl (fun (s : State) (e : Nat × Die) => match e.2.op with
    | none => s
    | some o => (if o.code = 4 then s.modBlk e.1 o.block fun x => { x with state := .uncertain } else s).modDie e.1 fun x => { x with op := none, sw := 0 }) s
  -- an erase whose end record is not durable leaves its block erase-uncertain (13 R305)
  let s := (s.media.journal.filter fun r => r.job.isSome).foldl (fun (s : State) r => match r.body with | .eraseEnd d b _ => s.modBlk d b fun x => { x with state := .uncertain } | _ => s) s
  let keep := fun (r : StripeRec) => decide (s.mapAt r.stripe = r.word)
  { s with media := { s.media with
    jobs := [], parts := [], gcs := [], groups := [], foggied := [], verified := s.media.verified.filter (fun w => decide ((s.blkAt w.die w.block).state = .open_)), reads := [], openBlk := [], flushing := none
    journal := [], records := s.media.records.filter keep
    levels := if cut then [] else s.media.levels
    dies := (s.media.dies.map fun (e : Nat × Die) => (e.1, { e.2 with calOk := false, calCopy := false, failed := false, sw := 0 })).filter fun e => decide (e.2 ≠ {})
    ctrls := s.media.ctrls.map fun k => { k with ready := false, dsp := if k.dsp.busy || decide (k.dsp.phase ≠ 0) then { err := 6 } else {} }
    eraseQueue := [] } }

end Sys2Proof.Machine
end

