-- ==== Sys2Proof/Machine/Dsp.lean ====
section
/-! DEFINITION. The die service port and the channels' wait states (13 R295 to R303). -/

namespace Sys2Proof.Machine

def State.modDsp (s : State) (n : Nat) (f : Dsp → Dsp) : State := s.modCtrl n fun k => { k with dsp := f k.dsp }
def State.dspAt (s : State) (n : Nat) : Dsp := (s.ctrlAt n).dsp

/-- The die that a DIE word names on controller `n` (R295). -/
def dieOfWord (n : Nat) (w : W32) : Nat := 8 * (32 * n + bits w 4 0) + bits w 7 5

/-- BLOCK of a ROW word. -/
def blockOfRow (w : W32) : Nat := bits w 22 11

/-- Address words that a command takes; none for an undefined code (R300). -/
def dspWords (cmd : Nat) : Option Nat :=
  match cmd with
  | 1 => some 1
  | 2 => some 3
  | 3 => some 1
  | 4 => some 2
  | 16 => some 2
  | 17 => some 2
  | 18 => some 2
  | 19 => some 1
  | _ => none

/-- Does the register door take the command (R300)? -/
def dspRegister (cmd : Nat) : Bool := decide (1 ≤ cmd) && decide (cmd ≤ 4)

/-- A sequence fault: the port returns to step 1 (R301). A command that runs goes on. -/
def State.dspFault (s : State) (n : Nat) (e : BitVec 3) : State := s.modDsp n fun d => { d with phase := 0, addrs := if d.busy then d.addrs else [], err := e }

/-- A write more than 100 µs after the one before, in a sequence (R301). -/
def Dsp.stale (d : Dsp) (t : Nat) : Bool := decide (d.phase ≠ 0) && decide (d.last + 100000 < t)

/-- ENV_DSP_KEY (R299, R301). The first key clears what the last command left in DONE, SW_RET and ERR (log 21). -/
def dspKey (n : Nat) (v : W32) (t : Nat) (s : State) : State :=
  let s := s.advance t
  let d := s.dspAt n
  if d.busy then s else
    let s := if d.stale t then s.dspFault n 3 else s
    let p := if d.stale t then 0 else d.phase
    if p = 0 ∧ v = 0xA5C3 then s.modDsp n fun d => { d with phase := 1, last := t, done := false, swRet := false, err := 0, addrs := [] }
    else if p = 1 ∧ v = 0x5A3C then s.modDsp n fun d => { d with phase := 2, last := t }
    else s.dspFault n 1

/-- ENV_DSP_CMD (R299 to R301). -/
def dspCmd (n : Nat) (v : W32) (t : Nat) (s : State) : State :=
  let s := s.advance t
  let d := s.dspAt n
  if d.stale t then s.dspFault n 3
  else if d.phase ≠ 2 then s.dspFault n 2
  else if dspRegister v.toNat then s.modDsp n fun d => { d with phase := 3, cmd := v.setWidth 8, addrs := [], last := t }
  else s.dspFault n 4

/-- ENV_DSP_ADDR (R299, R301). -/
def dspAddr (n : Nat) (v : W32) (t : Nat) (s : State) : State :=
  let s := s.advance t
  let d := s.dspAt n
  if d.stale t then s.dspFault n 3
  else if (d.phase = 3 ∨ d.phase = 4) ∧ some (d.addrs.length) ≠ dspWords d.cmd.toNat then
    s.modDsp n fun d => { d with phase := 4, addrs := d.addrs ++ [v], last := t }
  else s.dspFault n 2

/-- A command is launched: a failed die is refused, an erase waits for its span, a program starts on its die (R300, R301, R304). -/
def dspLaunch (n cmd : Nat) (addrs : List W32) (data : W32) (s : State) : State :=
  let die := dieOfWord n (addrs.getD 0 0)
  let block := blockOfRow (addrs.getD 1 0)
  if s.dieFailed die then s.modDsp n fun d => { d with phase := 0, addrs := [], err := 5 }
  else
    let s := s.modDsp n fun d => { d with busy := true, done := false, phase := 0, cmd := BitVec.ofNat 8 cmd, addrs := addrs, data := data }
    if cmd = 16 then s.modDie die fun x => { x with op := some { code := 2, start := s.frame.time, block := block, job := none } }
    else if cmd = 17 then s.modDie die fun x => { x with op := some { code := if bit data 0 then 5 else 3, start := s.frame.time, block := block, job := none } }
    else if cmd = 18 then { s with media := { s.media with eraseQueue := s.media.eraseQueue ++ [(die, block)] } }
    else s

/-- ENV_DSP_DATA: the write that launches the command (R299). -/
def dspData (n : Nat) (v : W32) (t : Nat) (s : State) : State :=
  let s := s.advance t
  let d := s.dspAt n
  if d.stale t then s.dspFault n 3
  else if d.phase = 4 ∧ some d.addrs.length = dspWords d.cmd.toNat then dspLaunch n d.cmd.toNat d.addrs v s
  else s.dspFault n 2

/-- The firmware door: one command, while the port runs none (R298). -/
def dspFirmware (n cmd : Nat) (addrs : List W32) (data : W32) (s : State) : State :=
  if (s.dspAt n).busy || decide ((s.dspAt n).phase ≠ 0) then s else dspLaunch n cmd addrs data s

/-- A command through either door; a data write that launches another command is not this one. -/
def dspDoor (n cmd : Nat) (door : DspDoor) (s : State) : State :=
  match door with
  | .register data t => if (s.dspAt n).phase = 4 ∧ (s.dspAt n).cmd.toNat ≠ cmd then s else dspData n data t s
  | .firmware die row col data => dspFirmware n cmd ([die, row, col].take ((dspWords cmd).getD 0)) data s

/-- A die that runs a program or an erase answers a read with its status word (R302). -/
def State.dieBusy (s : State) (die : Nat) : Bool := match (s.dieAt die).op with | some o => decide (2 ≤ o.code) | none => false

/-- `len` bytes fill the port's buffer, 64 at a time, in the parity group of the controller's data buffers (18 R423, R438). -/
def dspByte (i : Nat) : Nat := 0x8000 + i
def State.fillBuf (s : State) (n len : Nat) : State :=
  let k := min 64 len
  if len = 0 then s else (s.parWrite (0xC0 + n) (dspByte 0) k).parWrite (0xC0 + n) (dspByte k) (len - k)

/-- The launched command ends (R300, R302); a READ_PAGE with RAW = 0 at step `step` of the ladder (R310). -/
def dspDone (n : Nat) (page : Bytes) (step : Nat) (s : State) : State :=
  let d := s.dspAt n
  if !d.busy then s else
    let die := dieOfWord n (d.addrs.getD 0 0)
    let block := blockOfRow (d.addrs.getD 1 0)
    let w := s.statusWord die
    let fin := fun (s : State) (f : Dsp → Dsp) => s.modDsp n fun d => f { d with busy := false, done := true, addrs := [] }
    let returned := fin (s.modDie die fun x => { x with sw := w }) fun d => { d with swRet := true, sw := w }
    let ended := fun (s : State) (code : BitVec 3) => s.modDie die fun x => { x with op := none, sw := BitVec.ofNat 16 (32768 + code.toNat * 4096 + b2n (x.bod && isJournalDie die) * 64) }
    match d.cmd.toNat with
    | 1 => fin (s.modDie die fun x => { x with sw := w }) fun d => { d with sw := w }
    | 2 =>
      if s.dieBusy die then returned
      else if !bit d.data 16 && !s.ladderOk die block step then s
      else if !bit d.data 16 && decide (step = 5) then fin (s.ladder die block 5) fun d => { d with err := 7 }
      else
        let k := min (bits d.data 15 0) (18560 - bits (d.addrs.getD 2 0) 14 0)
        fin ((if bit d.data 16 then s else s.ladder die block step).fillBuf n k) fun q => { q with buf := (upTo k).map (byteAt page) }
    | 3 =>
      let k := min (bits d.data 15 0) 4096
      if s.dieBusy die then returned else fin (s.fillBuf n k) fun q => { q with buf := (upTo k).map (byteAt (s.dieAt die).calRow) }
    | 4 => fin (s.fillBuf n (s.levelsAt die block).length) fun q => { q with buf := s.levelsAt die block }
    | 16 => fin (ended s 2) id
    | 17 => fin (ended s (if bit d.data 0 then 5 else 3)) id
    | 18 => if s.dieBusy die || s.media.eraseQueue.contains (die, block) then s else fin s id
    | 19 => if (s.dieAt die).op.isSome then s else fin (s.modDie die fun x => { x with op := none, sw := 0x8000 }) id
    | _ => s

/-- More than 100 µs pass in a sequence (R301). -/
def dspTimeout (n : Nat) (s : State) : State :=
  let d := s.dspAt n
  if decide (d.phase ≠ 0) && !d.busy then (s.advance (d.last + 100001)).dspFault n 3 else s

/-- A sequence or command in progress is abandoned (R301). -/
def State.dspAbandon (s : State) (n : Nat) : State :=
  let d := s.dspAt n
  if d.busy || decide (d.phase ≠ 0) then
    let die := dieOfWord n (d.addrs.getD 0 0)
    let s := if d.busy && (decide (d.cmd = 16) || decide (d.cmd = 17)) then s.modDie die fun x => { x with op := none } else s
    let s : State := if d.busy && decide (d.cmd = 18) then { s with media := { s.media with eraseQueue := s.media.eraseQueue.filter fun e => !decide (e = (die, blockOfRow (d.addrs.getD 1 0))) } } else s
    s.modDsp n fun d => { d with busy := false, phase := 0, addrs := [], err := 6 }
  else s

/-- Least wait-state values of a setting: TADL, TWHR, TRHW, TCCS, READ_PRE (R297). -/
def waitRow (rate : BitVec 3) (vccq : Bool) : Nat × (Nat × (Nat × (Nat × Nat))) :=
  match rate.toNat, vccq with
  | 5, _ => (384, (256, (320, (640, 8))))
  | 4, _ => (288, (192, (240, (480, 6))))
  | 3, false => (192, (128, (160, (320, 4))))
  | 3, true => (240, (160, (192, (400, 4))))
  | 2, _ => (120, (80, (96, (200, 2))))
  | 1, _ => (60, (40, (48, (100, 2))))
  | _, _ => (0, (0, (0, (0, 0))))

/-- Every field below the setting's value is raised to it (R297). -/
def Channel.raised (c : Channel) : Channel :=
  let w := waitRow c.rate c.vccq
  { c with
    tadl := BitVec.ofNat 12 (max w.1 c.tadl.toNat)
    twhr := BitVec.ofNat 12 (max w.2.1 c.twhr.toNat)
    trhw := BitVec.ofNat 12 (max w.2.2.1 c.trhw.toNat)
    tccs := BitVec.ofNat 12 (max w.2.2.2.1 c.tccs.toNat)
    readPre := BitVec.ofNat 4 (max w.2.2.2.2 c.readPre.toNat) }

/-- A wait-state register is written: values below the table are raised, and WS_CLAMP says so (R297). -/
def waitWrite (ch : Nat) (second : Bool) (v : W32) (s : State) : State :=
  s.modChan ch fun c =>
    let w := if second then { c with readPre := BitVec.ofNat 4 (bits v 31 28), tccs := BitVec.ofNat 12 (bits v 27 16), trhw := BitVec.ofNat 12 (bits v 11 0) }
             else { c with tadl := BitVec.ofNat 12 (bits v 27 16), twhr := BitVec.ofNat 12 (bits v 11 0) }
    { w.raised with clamp := decide (w.raised ≠ w) }

/-- A channel takes the setting at which it trained, by its order number (R296): RATE and VCCQ. -/
def settingOf (order : Nat) : BitVec 3 × Bool :=
  match order with
  | 1 => (5, false)
  | 2 => (4, false)
  | 3 => (3, false)
  | 4 => (3, true)
  | 5 => (2, true)
  | 6 => (1, true)
  | _ => (0, false)

/-- Training of controller `n`'s channels (R296). -/
def State.trainCtrl (s : State) (n : Nat) (rates : List (BitVec 3)) : State :=
  (upTo 32).foldl (fun s k =>
    let ch := 32 * n + k
    let q := settingOf (rates.getD k 0).toNat
    s.modChan ch fun c => ({ c with trained := decide (q.1 ≠ 0), rate := q.1, vccq := q.2 } : Channel).raised) s

/-- Channels of controller `n` below 6.4 GT/s, and failed ones (R311). -/
def State.slowChannels (s : State) (n : Nat) : Nat := sumBy (fun k => b2n ((s.chanAt (32 * n + k)).trained && decide ((s.chanAt (32 * n + k)).rate ≠ 5))) (upTo 32)
def State.failedChannels (s : State) (n : Nat) : Nat := if (s.ctrlAt n).ready then sumBy (fun k => b2n (!(s.chanAt (32 * n + k)).trained)) (upTo 32) else 0

end Sys2Proof.Machine
end

