-- ==== Sys2Proof/Machine/Addresses.lean ====
section
/-! DEFINITION. A change of the module's rank: the addresses of its own objects change with it (09 R204; 03 R77). -/

namespace Sys2Proof.Machine

/-- An address of rank `o` as rank `n` has it; 0 names no object. -/
def readdr (o n : Nat) (a : W64) : W64 := if a = 0 ∨ rankOf a ≠ o then a else BitVec.ofNat 64 (n * 2 ^ 54 + ofsOf a)

/-- A rank that was `o`. -/
def rerank (o n r : Nat) : Nat := if r = o then n else r

/-- An address within a block of bytes. -/
def readdrAt (o n at_ : Nat) (b : Bytes) : Bytes := if b.length < at_ + 8 then b else b.take at_ ++ toLe (readdr o n (le 64 b at_)).toNat 8 ++ b.drop (at_ + 8)

def Expert.readdr (o n : Nat) (e : Expert) : Expert :=
  let f := Sys2Proof.Machine.readdr o n
  { e with home := rerank o n e.home, shadow := rerank o n e.shadow, weights := f e.weights, weightsShadow := f e.weightsShadow, refitState := f e.refitState }

def Model.readdr (o n : Nat) (m : Model) : Model :=
  let f := Sys2Proof.Machine.readdr o n
  { m with
    serveScale := f m.serveScale, refitScale := f m.refitScale, programs := f m.programs, expertTable := f m.expertTable, shared := f m.shared
    table := m.table.map fun x => (x.1, x.2.readdr o n), objs := m.objs.map fun x => { x with addr := f x.addr }, added := m.added.map f }

def PassEntry.readdr (o n : Nat) (e : PassEntry) : PassEntry :=
  { e with desc := readdrAt o n 0x28 (readdrAt o n 0x10 e.desc), binding := Sys2Proof.Machine.readdr o n e.binding }

def Cluster.readdr (o n : Nat) (k : Cluster) : Cluster :=
  let f := Sys2Proof.Machine.readdr o n
  { k with
    sct := { k.sct with table := f k.sct.table }
    copies := k.copies.map fun x => { x with src := f x.src }
    heldFills := k.heldFills.map fun x => { x with src := f x.src } }

def Reel.readdr (o n : Nat) (r : Reel) : Reel :=
  let f := Sys2Proof.Machine.readdr o n
  { r with rank := n, moves := r.moves.map fun m => { m with addr := f m.addr }, plan := r.plan.map fun x => { x with addr := f x.addr } }

def Library.readdr (o n : Nat) (l : Library) : Library :=
  let f := Sys2Proof.Machine.readdr o n
  { l with
    models := l.models.map (Model.readdr o n)
    contexts := l.contexts.map fun e => (e.1, { e.2 with extentList := f e.2.extentList, extents := e.2.extents.map f })
    refits := l.refits.map fun j => { j with newScale := f j.newScale, work := f j.work, newWeights := f j.newWeights, newState := f j.newState }
    waits := l.waits.map fun w => { w with addrs := w.addrs.map f } }

def Search.readdr (o n : Nat) (h : Search) : Search :=
  let f := Sys2Proof.Machine.readdr o n
  { h with
    shards := h.shards.map fun x => { x with addrs := x.addrs.map f, shadowRank := rerank o n x.shadowRank }
    filters := h.filters.map fun x => { x with addr := f x.addr }
    queries := h.queries.map fun q => { q with buf := f q.buf } }

def HeldCopy.readdr (o n : Nat) (h : HeldCopy) : HeldCopy :=
  let f := Sys2Proof.Machine.readdr o n
  { h with addr := f h.addr, state := f h.state, newAddr := f h.newAddr, newState := f h.newState }

/-- A place of the directory: its ranks, and in a context's key the rank of its module (17 R400). -/
def Place.readdr (o n : Nat) (p : Place) : Place :=
  { p with
    home := rerank o n p.home, shadow1 := rerank o n p.shadow1, shadow2 := rerank o n p.shadow2
    key1 := if p.kind = 4 ∧ p.key1.toNat / 2 ^ 32 = o then BitVec.ofNat 64 (n * 2 ^ 32 + p.key1.toNat % 2 ^ 32) else p.key1 }

/-- The module takes rank `n`, that of the image that activates. -/
def State.readdress (s : State) (n : Nat) : State :=
  let o := s.reel.rank
  if o = n then s else { s with
    clusters := s.clusters.map (Cluster.readdr o n)
    sched := { s.sched with
      entries := s.sched.entries.map (PassEntry.readdr o n)
      requests := s.sched.requests.map fun r => { r with pieces := r.pieces.map fun x => (readdr o n x.1, x.2) } }
    reel := s.reel.readdr o n
    library := s.library.readdr o n
    search := s.search.readdr o n
    media := { s.media with parts := s.media.parts.map fun p => { p with for_ := match p.for_ with | .reel a i => .reel (readdr o n a) i | w => w } }
    group := { s.group with heldCopies := s.group.heldCopies.map (HeldCopy.readdr o n), places := s.group.places.map (Place.readdr o n) } }

end Sys2Proof.Machine
end

