-- ==== Sys2Proof/Machine/Contexts.lean ====
section
/-! DEFINITION. Models by identifier, the context table, KV extents, emitting a token, rewinding (10 R231, R235, R245 to R253). What commands do with contexts stands in ContextCmds. -/

namespace Sys2Proof.Machine

def State.modelFor (s : State) (id : W64) : Option Model := s.library.models.find? fun m => decide (m.id = id)
def State.modModel (s : State) (id : W64) (f : Model → Model) : State :=
  { s with library := { s.library with models := s.library.models.map fun m => if m.id = id then f m else m } }

/-- An entry of the expert table (R235). -/
def Expert.entry (e : Expert) : Bytes :=
  toLe e.version.toNat 4 ++ toLe e.home 2 ++ toLe e.shadow 2 ++ toLe e.weights.toNat 8 ++ toLe e.weightsShadow.toNat 8 ++ toLe e.refitState.toNat 8 ++ toLe e.params 8 ++ toLe e.wFmt.toNat 1 ++ toLe (b2n e.shadowServes) 1 ++ List.replicate 22 0

/-- The expert table as its object in T2 holds it (R235). -/
def State.writeTable (s : State) (id : W64) : State :=
  match s.modelFor id with
  | none => s
  | some m => if m.expertTable = 0 then s else m.table.foldl (fun (s : State) x => s.writeObj (m.expertTable + BitVec.ofNat 64 (64 * x.1)) x.2.entry) s

/-- Expert `e` of layer `l` (R235). -/
def Model.expertAt (m : Model) (l e : Nat) : Option Expert := (m.table.find? fun x => decide (x.1 = l * m.experts + e)).map (·.2)

/-- The rank that serves an expert (R237). -/
def Expert.serving (e : Expert) : Nat := if e.shadowServes ∧ e.shadow ≠ 0xFFFF then e.shadow else e.home

def State.ctxAt (s : State) (i : Nat) : Context := Sparse.get {} s.library.contexts i
def State.modCtx (s : State) (i : Nat) (f : Context → Context) : State :=
  { s with library := { s.library with contexts := Sparse.set {} s.library.contexts i (f (s.ctxAt i)) } }

/-- The table index that a handle names, while its generation stands (R245). -/
def State.ctxIndex (s : State) (h : W32) : Option Nat :=
  let i := bits h 11 0
  if i < 3072 ∧ (s.ctxAt i).state ≠ 0 ∧ (s.ctxAt i).gen = bits h 31 12 then some i else none

/-- The handle of entry `i` (R245). -/
def State.handleOf (s : State) (i : Nat) : W32 := BitVec.ofNat 32 ((s.ctxAt i).gen % 1048576 * 4096 + i)

/-- Extents that a length of `n` tokens needs. -/
def extentsFor (n : Nat) : Nat := ceilDiv n 1024

/-- A token's KV entry of one layer is written (R251); what the model's programs write there is open (log 7). -/
def State.writeKv (s : State) (m : Model) (ext : W64) (t draw : Nat) : State :=
  (upTo m.layers).foldl (fun s l =>
    s.writeObj (ext + BitVec.ofNat 64 (l * m.kvS + t * m.kvB)) ((upTo m.kvB).map fun j => Config.freeByte draw (l * m.kvB + j))) s

/-- The result of a token batch: EMITTED, LENGTH and the generated tokens (15 R361). -/
def Batch.emitted (b : Batch) : Nat := b.inputs.length - b.left.length + b.tokens.length
def batchResult (b : Batch) (length : Nat) : Bytes :=
  toLe b.emitted 4 ++ toLe length 4 ++ List.replicate 8 0 ++ b.tokens.foldl (fun l t => l ++ toLe t.toNat 4) []

/-- A batch of a context completes and leaves its queue. -/
def State.finishBatch (s : State) (i : Nat) (b : Batch) (t : Status) (flags : W32 := 0) : State :=
  let c := s.ctxAt i
  let s := s.modCtx i fun c => { c with batches := c.batches.filter fun x => !decide (x.id = b.id) }
  s.finishRequest b.id t (BitVec.ofNat 32 b.emitted) (batchResult b c.length) flags

/-- The first batch of the queue starts: its rewind is applied, and the extents it needs are allocated (R248, R251, R253). -/
def State.rewindCtx (s : State) (i l : Nat) : State :=
  let c := s.ctxAt i
  match s.modelFor c.model with
  | none => s
  | some m =>
    let keep := extentsFor l
    let drop := c.extents.drop keep
    let s := s.freeObjs drop
    let s := match c.extents[l / 1024]? with
      | none => s
      | some x =>
        if l % 1024 = 0 then s else
          (upTo m.layers).foldl (fun s y =>
            s.writeObj (x + BitVec.ofNat 64 (y * m.kvS + l % 1024 * m.kvB)) (List.replicate ((1024 - l % 1024) * m.kvB) 0)) s
    let s := s.writeObj (c.extentList + BitVec.ofNat 64 (8 * keep)) (List.replicate (8 * drop.length) 0)
    s.modCtx i fun c => { c with length := l, extents := c.extents.take keep, history := c.history.take l, state := 1, firstBad := 0xFFFFFFFF, journaled := min c.journaled l, sentTo := min c.sentTo l, trunc := if l < c.sentTo then some l else c.trunc }

/-- One more extent, in T1, entered in the extent list (R251). -/
def State.addExtent (s : State) (i : Nat) : State :=
  let c := s.ctxAt i
  match s.modelFor c.model with
  | none => s
  | some m =>
    let r := s.allocT1 c.tenant .kv m.kvFmt m.extentLen
    let s := r.2.writeObj (c.extentList + BitVec.ofNat 64 (8 * c.extents.length)) (toLe (ofsOf r.1) 8)
    s.modCtx i fun c => { c with extents := c.extents ++ [r.1] }

def State.addExtents (s : State) (i : Nat) : Nat → State
  | 0 => s
  | n + 1 => (s.addExtent i).addExtents i n

/-- Extents that a batch needs beyond those its context holds. -/
def Context.short (c : Context) (b : Batch) : Nat := extentsFor (c.length + b.inputs.length + b.generate) - c.extents.length

/-- The batch at the head of the queue starts; one whose extents the T1 quota has no room for any more completes with QUOTA_EXCEEDED and changes nothing (09 R211). -/
def State.startHead (s : State) (i : Nat) : State :=
  match (s.ctxAt i).batches with
  | [] => s
  | b :: _ =>
    if b.started then s else
      let r := match b.rewind with | none => s | some l => s.rewindCtx i l
      let c := r.ctxAt i
      let size := match s.modelFor c.model with | some m => units m.extentLen | none => 0
      if c.short b ≠ 0 && !r.fits c.tenant 1 (c.short b * size) then (s.quotaRefused c.tenant).finishBatch i b stQuota
      else
        let s := r.addExtents i (c.short b)
        s.modCtx i fun c => { c with batches := match c.batches with | [] => [] | b :: r => { b with started := true, rewind := none } :: r }

/-- The first batch of the queue that its tenant has room for starts. -/
def State.startBatch (s : State) (i : Nat) : State := (s.ctxAt i).batches.foldl (fun s _ => s.startHead i) s

/-- The lowest position with a marked KV line, or 0xFFFF_FFFF (R245, R251, R252). -/
def State.firstMarked (s : State) (i : Nat) : Nat :=
  let c := s.ctxAt i
  match s.modelFor c.model with
  | none => 0xFFFFFFFF
  | some m =>
    c.extents.zipIdx.foldl (fun n x =>
      match s.objFor x.1 with
      | none => n
      | some o => o.marks.foldl (fun n k => if k.2 then min n (1024 * x.2 + k.1 * 64 % max 1 m.kvS / max 1 m.kvB) else n) n) 0xFFFFFFFF

/-- LENGTH stands further ahead of JOURNALED than the tokens of the last 8 frames (R249). -/
def Context.ahead (c : Context) (more : Nat := 0) : Bool :=
  decide (c.buddy ≠ 0xFFFF) && decide (c.journaled + (c.recent.take 8).foldl (· + ·) more < c.length + more)

/-- The batch at the head has appended every token; it completes unless its completion is held for the buddy (R249), and the next starts. One whose queue is gone stops here (15 R355). -/
def State.settleBatch (s : State) (i : Nat) : State :=
  let c := s.ctxAt i
  match c.batches with
  | [] => s
  | b :: _ =>
    if (b.stop || (b.left.isEmpty && decide (b.generate ≤ b.tokens.length))) && b.started then
      if c.ahead && !b.stop then (s.modCtx i fun c => { c with batches := match c.batches with | [] => [] | b :: r => { b with held := true } :: r }).noteCause 3 fun r => decide (r.id = b.id)
      else (s.finishBatch i b stOk).startBatch i
    else s

/-- The context is damaged: its lowest marked position is kept, and its batches complete with POISONED (R250, R252). -/
def State.damageCtx (s : State) (i : Nat) : State :=
  let pos := s.firstMarked i
  let s := s.modCtx i fun c => { c with state := if c.state = 1 then 2 else c.state, firstBad := min c.firstBad pos }
  (s.ctxAt i).batches.foldl (fun s b => s.finishBatch i b stPoisoned) s

/-- The batch at the head of a context's queue. -/
def State.modHead (s : State) (i : Nat) (f : Batch → Batch) : State :=
  s.modCtx i fun c => { c with batches := match c.batches with | [] => [] | b :: r => f b :: r }

/-- A batch has tokens left to append. -/
def Batch.wants (b : Batch) : Bool := b.started && (!b.left.isEmpty || decide (b.tokens.length < b.generate))

/-- A token takes effect: its KV entries are written and LENGTH advances (R248). -/
def State.appendToken (s : State) (i : Nat) (tok : W32) : State :=
  let c := s.ctxAt i
  match c.batches, s.modelFor c.model with
  | b :: _, some m =>
    if !b.wants then s else
      let s := s.writeKv m (c.extents.getD (c.length / 1024) 0) (c.length % 1024) s.draws
      let v := match b.left with | t :: _ => t | [] => tok
      let s := s.drawn.modHead i fun b => match b.left with | _ :: l => { b with left := l } | [] => { b with tokens := b.tokens ++ [tok] }
      let s := s.modCtx i fun c => { c with
        length := c.length + 1, history := c.history ++ [v]
        recent := match c.recent with | [] => [1] | n :: q => (n + 1) :: q }
      s.settleBatch i
  | _, _ => s

/-- A token would run more than 8 frames ahead of the buddy, or others already wait: it is held (R249; 11 R264). -/
def State.holdToken (s : State) (i : Nat) (tok : W32) : State :=
  let s := s.modHead i fun b => { b with held := true, waiting := b.waiting ++ [tok] }
  match (s.ctxAt i).batches with
  | [] => s
  | b :: _ => s.noteCause 3 fun r => decide (r.id = b.id)

/-- A token is emitted to its context (R227, R248, R249). A marked one is not appended, and bites. -/
def State.emitToken (s : State) (h tok : W32) (marked : Bool) : State :=
  match s.ctxIndex h with
  | none => s
  | some i =>
    let c := s.ctxAt i
    match c.batches with
    | [] => s
    | b :: _ =>
      if c.state ≠ 1 ∨ !b.wants then s
      else if marked then ((s.biteAt 2 (c.extents.getD (c.length / 1024) 0)).damageCtx i)
      else if !b.waiting.isEmpty || c.ahead 1 then s.holdToken i tok
      else s.appendToken i tok

/-- The buddy has acknowledged: tokens held are emitted as far as it allows (R249). -/
def State.releaseHeld (s : State) (i : Nat) : Nat → State
  | 0 => s
  | n + 1 =>
    match (s.ctxAt i).batches with
    | [] => s
    | b :: _ => match b.waiting with
      | [] => s
      | t :: w =>
        if (s.ctxAt i).ahead 1 then s else
          ((s.modHead i fun b => { b with waiting := w, held := !w.isEmpty }).appendToken i t).releaseHeld i n

/-- As many tokens as the head of a context's queue holds. -/
def State.releaseTokens (s : State) (i : Nat) : State :=
  match (s.ctxAt i).batches with
  | [] => s
  | b :: _ => s.releaseHeld i b.waiting.length

/-- The batch of a context fails with a status: its emitted tokens stay (R236, R243, 15 R359). -/
def State.failBatch (s : State) (h : W32) (t : Status) (flags : W32 := 0) : State :=
  match s.ctxIndex h with
  | none => s
  | some i =>
    match (s.ctxAt i).batches with
    | [] => s
    | b :: _ => (s.finishBatch i b t flags).startBatch i

end Sys2Proof.Machine
end

