-- ==== Sys2Proof/Machine/Interrupts.lean ====
section
/-! DEFINITION. Sequencer interrupts: pending and enable bits, entering and ending a handler (07 R180 to R184). -/

namespace Sys2Proof.Machine

/-- The sources that exist (R180). -/
def icSources : BitVec 64 := 0xFFFF000000FFFFFF

/-- Sources 0 to 23: what the always-on logic latches while the cluster sleeps (R183). -/
def icLatched : BitVec 64 := 0xFFFFFF

/-- Pending bits set by an event: a sleeping cluster latches them (R183). -/
def Cluster.pend (k : Cluster) (m : BitVec 64) : Cluster :=
  if k.asleep then { k with ic := { k.ic with latched := k.ic.latched ||| (m &&& icLatched) } }
  else { k with ic := { k.ic with pend := k.ic.pend ||| (m &&& icSources) } }

/-- Source `n` becomes pending on cluster `c` (R180). -/
def State.raise (s : State) (c n : Nat) : State := s.modCluster c fun k => k.pend (BitVec.ofNat 64 (2 ^ n))

/-- On every cluster. -/
def State.raiseAll (s : State) (n : Nat) : State :=
  { s with clusters := s.clusters.map fun k => k.pend (BitVec.ofNat 64 (2 ^ n)) }

/-- The lowest pending and enabled source (R180). -/
def Ic.next (i : Ic) : Option Nat := (upTo 64).find? fun n => bit (i.pend &&& i.en) n

/-- The controller enters the handler of the lowest pending and enabled source (R181). The handlers of SW0 to SW15 record their source in the telemetry log. -/
def enterHandler (c : Nat) (s : State) : State :=
  let k := s.clusterAt c
  if s.stopped c || k.ic.busy then s else
    match k.ic.next with
    | none => s
    | some n =>
      let s := s.modCluster c fun k => { k with ic := { k.ic with pend := setBit k.ic.pend n false, busy := true, source := BitVec.ofNat 6 n, pc := 16 * n, taken := satInc k.ic.taken } }
      if 48 ≤ n then s.telemetry 4 n c k.seq.passId.toNat else s

/-- A handler ends with HRET, the word at its place in the handler store (R181). -/
def hretWord : W64 := 0xA000000000000000
def leaveHandler (c : Nat) (s : State) : State :=
  let k := s.clusterAt c
  if s.stopped c || !k.ic.busy || decide (k.hstore[k.ic.pc]? ≠ some hretWord) || decide (16 * k.ic.source.toNat + 16 ≤ k.ic.pc) then s
  else s.modCluster c fun k => { k with ic := { k.ic with busy := false } }

/-- Word `i` of the handler store among the bytes of its parity group, above the controller's registers (18 R438). -/
def handlerByte (i : Nat) : Nat := 4096 + 8 * i

/-- The handler store is loaded from the firmware image that runs, at each Spar start (R181), word 0 first (18 R438). -/
def State.loadHandlers (s : State) : State :=
  let img := ((s.sec.slots.getD (s.sec.running.toNat - 1) none).getD [])
  let s : State := { s with clusters := s.clusters.map fun k => { k with hstore := (upTo 1024).map (Config.handlerWord img) } }
  (upTo 8).foldl (fun (s : State) c => (s.parWrite (0xA8 + c) (handlerByte 0) 8).parWrite (0xA8 + c) (handlerByte 1) (8 * 1023)) s

/-- A word in the low or the high half. -/
def half (hi : Bool) (v : W32) : BitVec 64 := if hi then v.setWidth 64 <<< 32 else v.setWidth 64

/-- Writes to the set and clear addresses (R182, R184): the set address ignores locked and reserved bits. A Spar reset makes the registers unavailable (22 R506). -/
def icPendSet (c : Nat) (hi : Bool) (v : W32) (s : State) : State := s.modCluster c fun k => { k with ic := { k.ic with pend := k.ic.pend ||| (half hi v &&& icSources &&& ~~~7) } }
def icPendClr (c : Nat) (hi : Bool) (v : W32) (s : State) : State := s.modCluster c fun k => { k with ic := { k.ic with pend := k.ic.pend &&& ~~~ half hi v } }
def icEnSet (c : Nat) (hi : Bool) (v : W32) (s : State) : State := s.modCluster c fun k => { k with ic := { k.ic with en := k.ic.en ||| (half hi v &&& icSources) } }
/-- Sources 0 to 2 are locked (R182). -/
def icEnClr (c : Nat) (hi : Bool) (v : W32) (s : State) : State := s.modCluster c fun k => { k with ic := { k.ic with en := (k.ic.en &&& ~~~ half hi v) ||| 7 } }

end Sys2Proof.Machine
end

