-- ==== Sys2Proof/Machine/Operands.lean ====
section
/-! DEFINITION. Operand forms of the Spar: pass descriptors and range entries (07 R157 to R160), vector words (06 R134 to R137), sequencer words and run records (07 R162, R163), fusion shapes and rate classes (05 R106, R112, R116, R117), scale tables (08 R187, R188). -/

namespace Sys2Proof.Machine

/-- A range entry (R159). -/
structure RangeEntry where
  valid : Bool
  out   : Bool
  space : Nat
  tile  : Nat
  base  : Nat
  len   : Nat
  deriving DecidableEq, Repr

/-- A pass descriptor (R157, R158). -/
structure PassDesc where
  progLen   : Nat
  maxUs     : Nat
  wtRo      : Bool
  vecOnly   : Bool
  fusion    : Nat
  units     : Nat
  clusters  : Nat
  owner     : Nat
  cls       : Nat
  version   : Nat
  passId    : Nat
  tenant    : Nat
  progAddr  : W64
  deadline  : Nat
  depId     : Nat
  cmplAddr  : W64
  ranges    : List RangeEntry
  deriving DecidableEq, Repr

def readRange (v : Nat) : RangeEntry :=
  { valid := decide (v / 2 ^ 63 % 2 = 1), out := decide (v / 2 ^ 62 % 2 = 1), space := v / 2 ^ 59 % 8, tile := v / 2 ^ 56 % 8, base := v / 2 ^ 30 % 2 ^ 26, len := v / 2 ^ 4 % 2 ^ 26 }

def readDesc (b : Bytes) : PassDesc :=
  let c := leNat b 0 8
  { progLen := c % 4096, maxUs := c / 2 ^ 16 % 256, wtRo := decide (c / 2 ^ 26 % 2 = 1), vecOnly := decide (c / 2 ^ 27 % 2 = 1),
    fusion := c / 2 ^ 28 % 4, units := c / 2 ^ 30 % 256, clusters := c / 2 ^ 38 % 256, owner := c / 2 ^ 46 % 256, cls := c / 2 ^ 54 % 4, version := c / 2 ^ 56,
    passId := leNat b 8 4, tenant := leNat b 0x0C 4, progAddr := le 64 b 0x10, deadline := leNat b 0x18 6, depId := leNat b 0x20 4, cmplAddr := le 64 b 0x28,
    ranges := (upTo 8).map fun r => readRange (leNat b (0x40 + 8 * r) 8) }

def PassEntry.d (e : PassEntry) : PassDesc := readDesc e.desc

/-- OWNER of a descriptor, bits [53:46] of PD_CTL (R158). -/
def setOwner (b : Bytes) (o : Nat) : Bytes :=
  let c := leNat b 0 8
  toLe (c - c / 2 ^ 46 % 256 * 2 ^ 46 + o % 256 * 2 ^ 46) 8 ++ b.drop 8

/-- Class B, which has no OWNER, with a deadline (R158; 11 R264). -/
def setClassB (b : Bytes) (due : Nat) : Bytes :=
  let c := leNat (setOwner b 0) 0 8
  toLe (c - c / 2 ^ 54 % 4 * 2 ^ 54 + 2 ^ 54) 8 ++ (b.drop 8).take 0x10 ++ toLe due 6 ++ b.drop 0x1E

/-- Owner key of a pass: its class, and for class A its contract (02 R44). -/
def PassDesc.ownerKey (d : PassDesc) : Nat × Nat := (d.cls, if d.cls = 0 then d.owner else 0)

def PassDesc.onCluster (d : PassDesc) (c : Nat) : Bool := d.clusters.testBit c
def PassDesc.usesUnit (d : PassDesc) (u : Nat) : Bool := d.units.testBit u

/-- Footprint of a pass in units of 64 KiB (09 R214): a word of SPACE 2 stands in all 128 banks. -/
def PassDesc.footprint (d : PassDesc) : Nat := sumBy (fun (g : RangeEntry) => if g.valid then Sys2Proof.Machine.units (if g.space = 2 then 512 * g.len else g.len) else 0) d.ranges

/-- Units of a fusion shape in a cluster, tiles and depth of a unit, its cell columns (R112). -/
def unitsOf (f : Nat) : Nat := match f with | 0 => 8 | 1 => 2 | _ => 1
def tilesPer (f : Nat) : Nat := match f with | 0 => 1 | 1 => 4 | _ => 8
def depthOf (f : Nat) : Nat := if f = 1 then 256 else 128
def cellCols (f : Nat) : Nat := match f with | 0 => 128 | 1 => 256 | _ => 1024

/-- Tile of the cluster at a position of unit `u` (R112), and the unit and position of a tile. -/
def tileOf (f u pos : Nat) : Nat := match f with | 0 => u | 1 => 4 * u + pos | _ => pos
def unitOfTile (f t : Nat) : Nat := match f with | 0 => t | 1 => t / 4 | _ => 0
def posOfTile (f t : Nat) : Nat := match f with | 0 => 0 | 1 => t % 4 | _ => t

/-- Rate class of an operand format: 0 FP32, 1 16-bit, 2 8-bit, 3 4-bit, 4 2-bit; none where the tiles take no such operand (R106). -/
def rateClass (f : FmtSpec) : Option Nat :=
  match f.code with
  | 0 => some 0
  | 1 | 2 => some 1
  | 3 | 4 | 10 | 11 => some 2
  | 5 | 6 | 7 | 12 => some 3
  | 13 | 14 => some 4
  | _ => none

/-- Weights per cell P, and cycles per activation row, of a rate class (R106). -/
def weightsPer (k : Nat) : Nat := match k with | 3 => 2 | 4 => 4 | _ => 1

/-- Bits of a cell's weight group G (R116), and of an activation's slot S (R117). -/
def groupBits (n : Nat) : Nat := if n ≤ 8 then 8 else if n ≤ 16 then 16 else 32

/-- A specifier whose reserved bits are zero and whose flags fit its code (R83, R84). -/
def specOk (b : Byte) : Bool := decide (bits b 5 4 = 0) && (readSpec b).valid

/-- A vector operation word (R134). -/
structure VWord where
  op  : Nat
  fa  : Byte
  fd  : Byte
  d   : Nat
  a   : Nat
  b   : Nat
  c   : Nat
  pm  : Nat
  k   : Nat
  sub : Nat
  imm : Nat
  deriving DecidableEq, Repr

def readVWord (w : W64) : VWord :=
  { op := bits w 63 58, fa := BitVec.ofNat 8 (bits w 57 50), fd := BitVec.ofNat 8 (bits w 49 42), d := bits w 41 37, a := bits w 36 32, b := bits w 31 27,
    c := bits w 26 22, pm := bits w 21 19, k := bits w 18 16, sub := bits w 15 12, imm := bits w 11 0 }

/-- The arithmetic formats of R135: encoding of the specifier, and its kind (false floating, true integer). -/
def arith (b : Byte) : Option Bool :=
  match b.toNat with
  | 0 | 1 | 2 => some false
  | 8 | 9 | 10 | 11 => some true
  | _ => none

/-- The fields an operation leaves unused are zero (R136, R137): which of FA, FD, D, A, B, C, PM, K it uses, the largest SUB and whether it uses IMM. -/
def VWord.uses (w : VWord) (fa fd d a b c pm k : Bool) (sub : Nat) (imm : Bool) : Bool :=
  (fa || decide (w.fa = 0)) && (fd || decide (w.fd = 0)) && (d || decide (w.d = 0)) && (a || decide (w.a = 0)) && (b || decide (w.b = 0)) &&
  (c || decide (w.c = 0)) && (pm || decide (w.pm = 0)) && (k || decide (w.k = 0)) && decide (w.sub ≤ sub) && (imm || decide (w.imm = 0))

/-- Formats of the element-wise arithmetic (R135). -/
def VWord.arithPair (w : VWord) : Bool :=
  match arith w.fa, arith w.fd with
  | some x, some y => x == y
  | _, _ => false

/-- A valid vector word (R137). -/
def VWord.valid (w : VWord) : Bool :=
  match w.op with
  | 0x00 => w.uses false false false false false false false false 0 false
  | 0x01 => w.uses false false false true false false false false 0 true
  | 0x02 => w.uses false true true false false true true false 0 true && specOk w.fd
  | 0x03 => w.uses false true false true false true true false 0 true && specOk w.fd
  | 0x04 => w.uses false true true true false true true false 0 false && specOk w.fd && !(readSpec w.fd).mx && !(readSpec w.fd).tern && decide (8 ≤ fmtWidth (readSpec w.fd).code)
  | 0x05 => w.uses true false true true true false true false 0 false && specOk w.fa
  | 0x06 => w.uses false true true true false false true false 0 false && specOk w.fd
  | 0x07 => w.uses true true true true ((readSpec w.fa).mx || (readSpec w.fd).mx) false true false 0 false && specOk w.fa && specOk w.fd && decide ((readSpec w.fd).code ≠ 15) && (decide ((readSpec w.fa).code ≠ 15) || decide (w.fd = 0))
  | 0x08 => w.uses true true true true true false true false 1 false && w.arithPair
  | 0x09 => w.uses true true true true true false true false 0 false && w.arithPair
  | 0x0A => w.uses true true true true true true true false 1 false && w.arithPair
  | 0x0B => w.uses true false true true true false true false 5 false && (arith w.fa).isSome && decide (w.d ≤ 7)
  | 0x0C => w.uses true false true true true false true true 0 false && specOk w.fa
  | 0x0D => w.uses true true true true true false true false 0 false && w.arithPair
  | 0x0E => w.uses true true true true true false true false 0 false && w.arithPair
  | 0x0F => w.uses false false true true true false true false 3 false && decide (w.d ≤ 7) && decide (w.a ≤ 7) && decide (w.b ≤ 7)
  | 0x10 => w.uses true false true true false (decide (4 ≤ w.sub % 8)) true false 15 false && (arith w.fa).isSome && decide (w.sub % 8 ≤ 5) && (decide (w.sub % 8 < 4) || decide (w.d ≤ 30))
  | _ => false

/-- The word of SLI leaves bits [57:42] and [36:32] zero (R162). -/
def sliOk (w : W64) : Bool := decide (bits w 57 42 = 0) && decide (bits w 36 32 = 0)

/-- A valid sequencer word of a program of `len` words with the units of `units`; HRET is none (R162, R165). MRUN is checked with its record. -/
def seqOk (w : W64) (len units : Nat) : Bool :=
  let f := readVWord w
  match f.op with
  | 0x21 => f.uses false false false false false false false false 0 true && decide (f.imm < 256) && (upTo 8).all fun u => !f.imm.testBit u || units.testBit u
  | 0x22 => sliOk w
  | 0x23 => f.uses false false true true true false false false 0 true && decide (f.a ≤ 30)
  | 0x24 => f.uses false false true true false false false false 0 true
  | 0x25 => f.uses false false false true true false false false 6 true && decide (f.imm < len)
  | 0x26 => f.uses false false true true false false false false 1 false && decide (f.a ≤ 30)
  | 0x27 => f.uses false false false false false false false false 0 true && decide (f.imm < 16)
  | 0x3F => f.uses false false false false false false false false 0 false
  | _ => false

/-- A run record (R163). -/
structure Run where
  unit : Nat
  fx   : Byte
  fw   : Byte
  fo   : Byte
  m    : Nat
  s    : Nat
  dest : Nat
  init : Bool
  wBase : Nat
  wStride : Nat
  wsBase : Nat
  wsStride : Nat
  aBase : Nat
  aStride : Nat
  asBase : Nat
  asStride : Nat
  aTile : Nat
  aSpread : Nat
  dBase : Nat
  dPitch : Nat
  slot : Nat
  deriving DecidableEq, Repr

def readRun (r : RunRec) : Run :=
  { unit := bits r.w0 57 55, fx := BitVec.ofNat 8 (bits r.w0 54 47), fw := BitVec.ofNat 8 (bits r.w0 46 39), fo := BitVec.ofNat 8 (bits r.w0 38 31),
    m := bits r.w0 30 21, s := bits r.w0 20 13, dest := bits r.w0 12 11, init := bit r.w0 10,
    wBase := bits r.w1 63 52, wStride := bits r.w1 51 40, wsBase := bits r.w1 39 28, wsStride := bits r.w1 27 16,
    aBase := bits r.w2 63 52, aStride := bits r.w2 51 40, asBase := bits r.w2 39 28, asStride := bits r.w2 27 16, aTile := bits r.w2 15 13, aSpread := bits r.w2 12 9,
    dBase := bits r.w3 63 38, dPitch := bits r.w3 37 22, slot := bits r.w3 21 10 }

/-- Rate class of a run: that of its slower operand (R106). -/
def Run.cls (r : Run) : Nat := min ((rateClass (readSpec r.fx)).getD 0) ((rateClass (readSpec r.fw)).getD 0)
def Run.p (r : Run) : Nat := weightsPer r.cls
/-- Output columns of the unit (R112), and of one tile. -/
def Run.cols (r : Run) (f : Nat) : Nat := cellCols f * r.p
def Run.tileCols (r : Run) : Nat := 128 * r.p
/-- Bits of a weight group (R116) and of an activation slot (R117). -/
def Run.g (r : Run) : Nat := groupBits (r.p * fmtWidth (readSpec r.fw).code)
def Run.slotBits (r : Run) : Nat := groupBits (fmtWidth (readSpec r.fx).code)
/-- Is the product an integer product (R107)? -/
def Run.intProduct (r : Run) : Bool :=
  let plainInt := fun (b : Byte) => !(readSpec b).mx && (match (readSpec b).code with | 10 | 11 | 12 | 13 | 14 => true | _ => false)
  plainInt r.fx && plainInt r.fw

/-- Words of a weight panel, its scale strip, an activation panel and its scale strip (R116, R117). -/
def Run.wPanel (r : Run) : Nat := 128 * r.g / 32
def Run.wStrip (r : Run) : Nat := if (readSpec r.fw).mx then r.p else 0
def Run.aPanel (r : Run) : Nat := ceilDiv ((r.m + 127) * r.slotBits) 32
def Run.aStrip (r : Run) : Nat := if (readSpec r.fx).mx then ceilDiv (r.m + 96) 4 else 0

/-- Chunks of a run, and the tile of chunk `j` with the word of its panel or strip (R163). -/
def Run.chunks (r : Run) (f : Nat) : Nat := r.s * (depthOf f / 128)
def Run.chunkTile (r : Run) (f j : Nat) : Nat := tileOf f r.unit ((r.aTile + j % r.aSpread) % tilesPer f)

/-- Bytes from one row of an output to the next element position (R85): offset of element `n`'s first byte, and the bytes a row takes. -/
def Run.rowBytes (r : Run) (f : Nat) : Nat := packedLen (readSpec r.fo).code (r.cols f)

/-- How far the ranges of a list cover addresses without a gap from `a` upward. -/
def coveredTo (l : List RangeEntry) : Nat → Nat → Nat
  | 0, a => a
  | f + 1, a => match l.find? fun g => decide (g.base ≤ a) && decide (a < g.base + g.len) with
    | none => a
    | some g => coveredTo l f (g.base + g.len)

/-- Every one of `n` bytes or words from `lo` lies in a range of the direction, space and tile; several ranges may cover a run together (R165; 06 R143). -/
def inputHolds (d : PassDesc) (space tile lo n : Nat) (out : Bool) : Bool :=
  decide (n = 0) ||
    (let l := d.ranges.filter fun g => g.valid && (g.out == out) && decide (g.space = space) && (decide (space ≠ 2) || decide (g.tile = tile))
     decide (lo + n ≤ coveredTo l l.length lo))

/-- Every word that the run reads lies in an input range of its tile (R165). -/
def Run.readsOk (r : Run) (f : Nat) (d : PassDesc) : Bool :=
  ((upTo (tilesPer f)).all fun p => (upTo r.s).all fun k =>
    inputHolds d 2 (tileOf f r.unit p) (r.wBase + k * r.wStride) r.wPanel false && inputHolds d 2 (tileOf f r.unit p) (r.wsBase + k * r.wsStride) r.wStrip false) &&
  (upTo (r.chunks f)).all fun j =>
    inputHolds d 2 (r.chunkTile f j) (r.aBase + j / r.aSpread * r.aStride) r.aPanel false && inputHolds d 2 (r.chunkTile f j) (r.asBase + j / r.aSpread * r.asStride) r.aStrip false

/-- Panels of a run with DEST 2: tile and word of panel `q` (R163); words of an output panel of `m` rows. -/
def Run.outPanel (r : Run) (q : Nat) : Nat × Nat := ((r.dBase / 4096 % 8 + q) % 8, r.dBase % 4096 + q / 8 * r.dPitch)
def Run.outWords (r : Run) : Nat := ceilDiv ((r.m + 127) * groupBits (fmtWidth (readSpec r.fo).code)) 32

/-- The run's destination lies in output ranges of the matching space (R165). -/
def Run.destOk (r : Run) (f : Nat) (d : PassDesc) : Bool :=
  match r.dest with
  | 0 | 1 => (upTo r.m).all fun m => inputHolds d r.dest 0 (r.dBase + m * r.dPitch) (r.rowBytes f) true
  | 2 => (upTo (r.cols f / 128)).all fun q => inputHolds d 2 (r.outPanel q).1 (r.outPanel q).2 r.outWords true
  | _ => true

/-- A slot record of a scale table (08 R188). -/
structure SlotRec where
  outScale : W32
  kind     : Nat
  bsIndex  : Nat
  bsCount  : Nat
  dsOfs    : Nat
  dsPitch  : Nat
  deriving DecidableEq, Repr

def readSlotRec (b : Bytes) (o : Nat) : SlotRec :=
  { outScale := le 32 b o, kind := leNat b (o + 4) 1, bsIndex := leNat b (o + 8) 4, bsCount := leNat b (o + 0x0C) 2, dsOfs := leNat b (o + 0x10) 4, dsPitch := leNat b (o + 0x14) 4 }

/-- A scale table breaks neither R187 nor R188. -/
def scaleTableOk (b : Bytes) : Bool :=
  let n := leNat b 6 2
  let bs := leNat b 8 4
  decide (leNat b 0 4 = 0x4C435353) && decide (leNat b 4 2 = 1) && between 1 n 4095 && decide (bs ≤ 131072) && zeros b 0x0C 4 && decide (leNat b 0x10 8 ≠ 0) && zeros b 0x18 40 &&
  (upTo n).all fun i =>
    let o := 0x40 + 32 * i
    let r := readSlotRec b o
    zeros b (o + 5) 3 && zeros b (o + 0x0E) 2 && zeros b (o + 0x18) 8 &&
    (match r.kind with
     | 0 => decide (r.bsIndex = 0) && decide (r.bsCount = 0)
     | 1 => between 1 r.bsCount 4096 && decide (r.bsIndex + r.bsCount ≤ bs)
     | _ => false)

/-- Length of a scale table. -/
def scaleTableLen (b : Bytes) : Nat := 0x40 + 32 * leNat b 6 2 + leNat b 8 4

/-- Destination scale writes of a run through slot `k` lie in output ranges (08 R192, R194). -/
def Run.scalesOk (r : Run) (f : Nat) (d : PassDesc) (k : SlotRec) : Bool :=
  let nb := ceilDiv (r.cols f) 32
  if !(readSpec r.fo).mx then true else
    match r.dest with
    | 0 | 1 => (upTo r.m).all fun m => inputHolds d r.dest 0 (k.dsOfs + m * k.dsPitch) nb true
    | 2 => (upTo (r.cols f / 128)).all fun q => inputHolds d 2 (r.outPanel q).1 (k.dsOfs % 4096 + q / 8 * k.dsPitch) (ceilDiv (r.m + 96) 4) true
    | _ => true

/-- Which conditions of R165 and R192 a run record fails at its MRUN word. `table` is the bound table as the Reel holds it in T1. -/
def Run.ok (r : Run) (f : Nat) (d : PassDesc) (table : Option Bytes) : Bool :=
  d.usesUnit r.unit && specOk r.fx && specOk r.fw && (rateClass (readSpec r.fx)).isSome && (rateClass (readSpec r.fw)).isSome &&
  (if r.dest = 3 then decide (r.fo = 0) && decide (r.dBase = 0) && decide (r.dPitch = 0) && decide (r.slot = 0)
   else specOk r.fo && decide ((readSpec r.fo).code ≠ 15)) &&
  between 1 r.m (512 / r.p) && decide (1 ≤ r.s) && between 1 r.aSpread (tilesPer f) &&
  r.readsOk f d && r.destOk f d &&
  (match table with
   | none => decide (r.slot = 0) && !(readSpec r.fo).mx
   | some b =>
     decide (r.slot ≤ leNat b 6 2) &&
     (if r.slot = 0 then !(readSpec r.fo).mx
      else
        let k := readSlotRec b (0x40 + 32 * (r.slot - 1))
        (!(readSpec r.fo).mx || decide (k.kind = 1)) && (decide (k.kind = 0) || decide (ceilDiv (r.cols f) 32 ≤ k.bsCount)) && r.scalesOk f d k))

/-- Reserved and unused fields of a run record: the word that holds a nonzero one (R163, R165). -/
def runReserved (r : RunRec) : Option Nat :=
  let plainW := !(readSpec (BitVec.ofNat 8 (bits r.w0 46 39))).mx
  let plainX := !(readSpec (BitVec.ofNat 8 (bits r.w0 54 47))).mx
  if bits r.w0 9 0 ≠ 0 then some 0
  else if bits r.w1 15 0 ≠ 0 ∨ (plainW ∧ bits r.w1 39 16 ≠ 0) then some 1
  else if bits r.w2 8 0 ≠ 0 ∨ (plainX ∧ bits r.w2 39 16 ≠ 0) then some 2
  else if bits r.w3 9 0 ≠ 0 ∨ (bits r.w0 12 11 = 2 ∧ 32768 ≤ bits r.w3 63 38) then some 3
  else none

/-- The check of a program from word `i` on: the first failing word (R165). `f` is the shape in force. -/
def checkWords (d : PassDesc) (f : Nat) (table : Option Bytes) : List W64 → Nat → Option Nat
  | [], _ => none
  | w :: r, i =>
    let op := bits w 63 58
    if op < 0x20 then (if (readVWord w).valid then checkWords d f table r (i + 1) else some i)
    else if op = 0x20 then
      match r with
      | w1 :: w2 :: w3 :: q =>
        let rec_ : RunRec := ⟨w, w1, w2, w3⟩
        if !d.vecOnly && (readRun rec_).ok f d table then
          match runReserved rec_ with
          | some k => some (i + k)
          | none => checkWords d f table q (i + 4)
        else some i
      | _ => some i
    else if seqOk w d.progLen d.units then checkWords d f table r (i + 1) else some i

end Sys2Proof.Machine
end

