-- ==== Sys2Proof/Machine/Flags.lean ====
section
/-! DEFINITION. Status flags of tiles and vector units and the counts that go with them (05 R130; 06 R154, R155; 07 R179). -/

namespace Sys2Proof.Machine

/-- Bits of SPC_MT_FLAGS (R130) and SPC_VU_FLAGS (R154). -/
def mtAccSat : BitVec 6 := 1
def mtCvtOvf : BitVec 6 := 2
def mtCvtNan : BitVec 6 := 4
def mtWtPoison : BitVec 6 := 8
def mtPoisonOut : BitVec 6 := 16
def mtParErr : BitVec 6 := 32

def vuAccSat : BitVec 9 := 1
def vuCvtOvf : BitVec 9 := 2
def vuCvtNan : BitVec 9 := 4
def vuIntSat : BitVec 9 := 8
def vuEmpty : BitVec 9 := 16
def vuPermRange : BitVec 9 := 32
def vuPoisonOut : BitVec 9 := 64
def vuVaddr : BitVec 9 := 128
def vuParErr : BitVec 9 := 256

/-- What an operation raises in a unit. -/
structure Raised where
  accSat : Bool := false
  cvtOvf : Bool := false
  cvtNan : Bool := false
  intSat : Bool := false
  empty  : Bool := false
  perm   : Bool := false
  poison : Bool := false
  deriving DecidableEq, Repr

def Raised.join (a b : Raised) : Raised :=
  { accSat := a.accSat || b.accSat, cvtOvf := a.cvtOvf || b.cvtOvf, cvtNan := a.cvtNan || b.cvtNan, intSat := a.intSat || b.intSat, empty := a.empty || b.empty, perm := a.perm || b.perm, poison := a.poison || b.poison }

/-- As SPC_VU_FLAGS bits. -/
def Raised.vu (r : Raised) : BitVec 9 :=
  (if r.accSat then vuAccSat else 0) ||| (if r.cvtOvf then vuCvtOvf else 0) ||| (if r.cvtNan then vuCvtNan else 0) ||| (if r.intSat then vuIntSat else 0) |||
  (if r.empty then vuEmpty else 0) ||| (if r.perm then vuPermRange else 0) ||| (if r.poison then vuPoisonOut else 0)

/-- As SPC_MT_FLAGS bits. -/
def Raised.mt (r : Raised) : BitVec 6 :=
  (if r.accSat then mtAccSat else 0) ||| (if r.cvtOvf then mtCvtOvf else 0) ||| (if r.cvtNan then mtCvtNan else 0) ||| (if r.poison then mtPoisonOut else 0)

/-- The events of the run that its completion record reports (07 R179). -/
def RunEvents.note (e : RunEvents) (r : Raised) : RunEvents :=
  { e with empty := e.empty || r.empty, perm := e.perm || r.perm, poison := e.poison || r.poison, cvtOvf := e.cvtOvf || r.cvtOvf, cvtNan := e.cvtNan || r.cvtNan, sat := e.sat || r.accSat || r.intSat }

/-- The running pass of a cluster records events. -/
def Cluster.noteRun (k : Cluster) (f : Running → Running) : Cluster := { k with seq := { k.seq with run := k.seq.run.map f } }

/-- A vector operation's flags are set (R155). -/
def Cluster.raiseVu (k : Cluster) (r : Raised) : Cluster :=
  ({ k with vu := { k.vu with flags := k.vu.flags ||| r.vu } }).noteRun fun x => { x with ev := x.ev.note r }

/-- A tile's flags are set by its output stage (05 R123). -/
def Cluster.raiseMt (k : Cluster) (t : Nat) (r : Raised) : Cluster :=
  ({ k with tiles := modifyAt (fun x => { x with flags := x.flags ||| r.mt }) k.tiles t }).noteRun fun x => { x with ev := x.ev.note r }

/-- SPC_MT_FLAGS_CLR (05 R130) and SPC_VU_FLAGS_CLR (06 R155). -/
def mtFlagsClear (t : Nat) (v : W32) (s : State) : State := s.modTile t fun x => { x with flags := clearBits x.flags (v.setWidth 6) }
def vuFlagsClear (c : Nat) (v : W32) (s : State) : State := s.modCluster c fun k => { k with vu := { k.vu with flags := clearBits k.vu.flags (v.setWidth 9) } }

end Sys2Proof.Machine
end

