-- ==== Sys2Proof/Machine/Tiles.lean ====
section
/-! DEFINITION. The stores of a cluster and the matrix runs: operand fetch, accumulation, poison, output stage (05 R106 to R124; 08 R190, R194). -/

namespace Sys2Proof.Machine

/-- A 32-bit word with one byte replaced. -/
def setWordByte (w : W32) (i : Nat) (b : Byte) : W32 := (w &&& ~~~ (0xFF#32 <<< (8 * i))) ||| (b.setWidth 32 <<< (8 * i))

/-- One byte into an operand store; `k` is (word × 128 + bank) × 4 + byte (05 R115). -/
def Tile.putByte (t : Tile) (k : Nat) (b : Byte) (mark : Bool) : Tile :=
  { t with store := Sparse.set 0 t.store (k / 4) (setWordByte (Sparse.get (0 : W32) t.store (k / 4)) (k % 4) b), storeMark := Marks.put t.storeMark k mark }

/-- A run of bytes into an operand store. -/
def Tile.putRun (t : Tile) (k : Nat) : List (Byte × Bool) → Tile
  | [] => t
  | x :: r => (t.putByte k x.1 x.2).putRun (k + 1) r

/-- Parity group and byte number of a place in SPACE `sp` of cluster `c` (18 R438). -/
def spaceGroup (c sp tile : Nat) : Nat := match sp with | 0 => 0x80 + c | 1 => 0x90 + c | _ => 8 * c + tile

/-- The marks of a list of bytes, bit by bit. -/
def bitMarks (l : List Byte) : List Bool := l.foldr (fun m r => (upTo 8).foldr (fun i r => bit m i :: r) r) []

/-- Bytes with the marks of their bits into a store of cluster `c`; in SPACE 2 `base` counts bytes of the store, and a byte is marked as a whole. Their parity is apart. -/
def State.putBits (s : State) (c sp tile base : Nat) (l : List (Byte × Byte)) : State :=
  s.modCluster c fun k =>
    match sp with
    | 0 => { k with vstore := Sparse.setRun 0 k.vstore base (l.map (·.1)), vstoreMark := Sparse.setRun false k.vstoreMark (8 * base) (bitMarks (l.map (·.2))) }
    | 1 => { k with staging := Sparse.setRun 0 k.staging base (l.map (·.1)), stagingMark := Sparse.setRun false k.stagingMark (8 * base) (bitMarks (l.map (·.2))) }
    | _ => { k with tiles := modifyAt (fun t => t.putRun base (l.map fun x => (x.1, decide (x.2 ≠ 0)))) k.tiles tile }

/-- A mark on a whole byte. -/
def byteMark (m : Bool) : Byte := if m then 0xFF else 0

/-- One write of a run of bytes into a store of cluster `c` (18 R438). -/
def State.writeBits (s : State) (c sp tile base : Nat) (l : List (Byte × Byte)) : State :=
  (s.putBits c sp tile base l).parWrite (spaceGroup c sp tile) base l.length
def State.writeSpace (s : State) (c sp tile base : Nat) (l : List (Byte × Bool)) : State :=
  s.writeBits c sp tile base (l.map fun x => (x.1, byteMark x.2))

/-- Bytes of the vector store share or the staging. -/
def State.readSpace (s : State) (c sp base n : Nat) : Bytes :=
  let k := s.clusterAt c
  if sp = 0 then Sparse.getRun 0 k.vstore base n else Sparse.getRun 0 k.staging base n

/-- Does a read of the run deliver a mark, from a stored mark or from bad parity (09 R224)? -/
def State.spaceMarked (s : State) (c sp tile base n : Nat) : Bool :=
  let k := s.clusterAt c
  (match sp with
   | 0 => Marks.anyRun k.vstoreMark (8 * base) (8 * n)
   | 1 => Marks.anyRun k.stagingMark (8 * base) (8 * n)
   | _ => Marks.anyRun (k.tiles.getD tile {}).storeMark base n) || s.parity.isBad (spaceGroup c sp tile) base n

/-- A field of `w` bits at bit `b` of word `word` of bank `bank` in an operand store, and its mark. -/
def State.opField (s : State) (c tile word bank b w : Nat) : Nat × Bool :=
  let t := (s.clusterAt c).tiles.getD tile {}
  let key := word * 128 + bank
  ((Sparse.get (0 : W32) t.store key).toNat / 2 ^ b % 2 ^ w, s.spaceMarked c 2 tile (4 * key + b / 8) ((b % 8 + w + 7) / 8))

/-- An operand of a run as the cell sees it: its value and its mark (05 R110, R116, R117, R124). -/
structure Operand where
  v    : Val
  mark : Bool
  deriving DecidableEq, Repr

/-- Activation x[m][k] of chunk `j` (R117). -/
def State.actAt (s : State) (c f : Nat) (r : Run) (j m k : Nat) : Operand :=
  let spec := readSpec r.fx
  let w := fmtWidth spec.code
  let p := m + k
  let t := r.chunkTile f j
  let e := s.opField c t (r.aBase + j / r.aSpread * r.aStride + p * r.slotBits / 32) k (p * r.slotBits % 32) w
  if spec.mx then
    let b := m + 32 * (k / 32)
    let x := s.opField c t (r.asBase + j / r.aSpread * r.asStride + b / 4) (k / 32) (8 * (b % 4)) 8
    ⟨decodeMx spec.code x.1 e.1, e.2 || x.2⟩
  else ⟨decodeElem spec.code e.1, e.2⟩

/-- Weight w[k][n] of weight set `ws`, with `a` the tile row of its chunk in the unit (R116). -/
def State.weightAt (s : State) (c f : Nat) (r : Run) (ws a k n : Nat) : Operand :=
  let spec := readSpec r.fw
  let w := fmtWidth spec.code
  let col := n / r.p
  let j := n % r.p
  let pos := match f with | 0 => 0 | 1 => 2 * a + col / 128 | _ => col / 128
  let t := tileOf f r.unit pos
  let e := s.opField c t (r.wBase + ws * r.wStride + k * r.g / 32) (col % 128) (k * r.g % 32 + j * w) w
  if spec.mx then
    let b := 4 * j + k / 32
    let x := s.opField c t (r.wsBase + ws * r.wsStride + b / 4) (col % 128) (8 * (b % 4)) 8
    ⟨decodeMx spec.code x.1 e.1, e.2 || x.2⟩
  else ⟨decodeElem spec.code e.1, e.2⟩

/-- An accumulator: value, mark, and whether an INT32 step saturated. -/
structure Accum where
  v    : W32
  mark : Bool
  sat  : Bool := false
  deriving DecidableEq, Repr

/-- One accumulation step (05 R107, R108; 04 R97, R98). -/
def Accum.step (int : Bool) (a : Accum) (x w : Operand) : Accum :=
  let m := a.mark || x.mark || w.mark
  if int then
    let r := clampInt (-2147483648) 2147483647 (sgn a.v + (x.v.mul w.v).toIntRound)
    ⟨BitVec.ofInt 32 r.1, m, a.sat || r.2⟩
  else ⟨round32 ((dec32 a.v).add (x.v.mul w.v)), m, a.sat⟩

/-- Positions of chunk `j` that are not bypassed, in a run whose operands hold `len` reduction positions (R109; 04 R94). -/
def stepsOf (len j : Nat) : Nat := min 128 (len - 128 * j)

/-- The chain of entry (m, n) over one chunk, k ascending, bypassed positions left out (R108, R109). -/
def State.chunkChain (s : State) (c f : Nat) (r : Run) (len m n : Nat) (a : Accum) (j : Nat) : Accum :=
  let per := depthOf f / 128
  (upTo (stepsOf len j)).foldl (fun a k => a.step r.intProduct (s.actAt c f r j m k) (s.weightAt c f r (j / per) (j % per) k n)) a

/-- Tile position that holds output column `n`, and the entry's index in a half (R112, R120). -/
def Run.outPos (r : Run) (f n : Nat) : Nat := match f with | 0 => 0 | 1 => 2 + n / r.tileCols | _ => n / r.tileCols
def Run.outIdx (r : Run) (m n : Nat) : Nat := m * r.tileCols + n % r.tileCols

/-- An entry of a half of an accumulator store, and its mark (R120). -/
def State.accAt (s : State) (c tile : Nat) (half : Bool) (i : Nat) : W32 × Bool :=
  let t := (s.clusterAt c).tiles.getD tile {}
  let key := b2n half * 65536 + i
  (Sparse.get 0 t.acc key, Marks.has t.accMark key || s.parity.isBad (0x40 + 8 * c + tile) (4 * key) 4)

/-- Initial value of an entry (R108, R121): the working half where the chain continues, the committed half, or zero. -/
def State.initAt (s : State) (c f : Nat) (r : Run) (chained : Bool) (m n : Nat) : Accum :=
  let t := tileOf f r.unit (r.outPos f n)
  let half := ((s.clusterAt c).tiles.getD t {}).committed
  if chained then (let x := s.accAt c t (!half) (r.outIdx m n); ⟨x.1, x.2, false⟩)
  else if r.init then (let x := s.accAt c t half (r.outIdx m n); ⟨x.1, x.2, false⟩)
  else ⟨0, false, false⟩

/-- The result of every chain of a run: tile, index, row, column and value. -/
structure Entry where
  tile : Nat
  idx  : Nat
  m    : Nat
  n    : Nat
  a    : Accum
  deriving DecidableEq, Repr

def State.runEntries (s : State) (c f : Nat) (r : Run) (len : Nat) (chained : Bool) : List Entry :=
  (upTo r.m).foldr (fun m l => (upTo (r.cols f)).foldr (fun n l =>
    { tile := tileOf f r.unit (r.outPos f n), idx := r.outIdx m n, m := m, n := n,
      a := (upTo (r.chunks f)).foldl (fun a j => s.chunkChain c f r len m n a j) (s.initAt c f r chained m n) } :: l) l) []

/-- Where the scale store of a cluster begins, as an offset in its staging (08 R190). -/
def Cluster.sctBase (k : Cluster) : Nat := k.stageMib * 1048576 - 0x40000

/-- Slot record and block-scale byte in the scale store (R190). -/
def State.sctSlot (s : State) (c n : Nat) : SlotRec :=
  readSlotRec (s.readSpace c 1 ((s.clusterAt c).sctBase + 32 * n) 32) 0
def State.sctByte (s : State) (c b : Nat) : Nat := (byteAt (s.readSpace c 1 ((s.clusterAt c).sctBase + 0x20000 + b) 1) 0).toNat

/-- One output element (08 R194): encoding, CVT_OVF, CVT_NAN. -/
def outputOf (fo : FmtSpec) (ieee int : Bool) (slot : Option SlotRec) (x : Nat) (a : W32) : Nat × (Bool × Bool) :=
  let v := if int then Val.ofInt (sgn a) else dec32 a
  match slot with
  | none => convert fo.code fo.tern ieee v
  | some k =>
    let p := dec32 (round32 (v.mul (dec32 k.outScale)))
    if fo.mx then convertMx fo.code x ieee p else convert fo.code fo.tern ieee p

/-- An output element in hand: row, column, encoding, mark. -/
structure OutElem where
  tile : Nat
  m    : Nat
  n    : Nat
  enc  : Nat
  mark : Bool
  raised : Raised
  deriving DecidableEq, Repr

def State.outElems (s : State) (c : Nat) (r : Run) (l : List Entry) : List OutElem :=
  let k := s.clusterAt c
  let fo := readSpec r.fo
  let slot := if r.slot = 0 then none else some (s.sctSlot c r.slot)
  l.map fun e =>
    let x := match slot with | some q => if fo.mx then s.sctByte c (q.bsIndex + e.n / 32) else 0 | none => 0
    let o := outputOf fo k.ovfIeee r.intProduct slot x e.a.v
    { tile := e.tile, m := e.m, n := e.n, enc := o.1, mark := e.a.mark, raised := { accSat := e.a.sat, cvtOvf := o.2.1, cvtNan := o.2.2, poison := e.a.mark } }

/-- The marks of the bits of a packed row: those of the elements that hold them (R124; 04 R85). -/
def rowMarks (code n : Nat) (mark : Nat → Bool) : List Byte :=
  let w := fmtWidth code
  (upTo (packedLen code n)).map fun b => BitVec.ofNat 8 (sumBy (fun i => if (8 * b + i) / w < n && mark ((8 * b + i) / w) then 2 ^ i else 0) (upTo 8))

/-- Row `m` of the output elements. -/
def rowOf (l : List OutElem) (m : Nat) : List OutElem := l.filter fun e => decide (e.m = m)

/-- The output stage writes rows to the vector store share or the staging (R163), with the scales of an MX destination (R194). -/
def State.drainRows (s : State) (c f : Nat) (r : Run) (l : List OutElem) : State :=
  let fo := readSpec r.fo
  (upTo r.m).foldl (fun s m =>
    let row := rowOf l m
    let bytes := packRow fo.code (row.map (·.enc))
    let marks := rowMarks fo.code row.length fun j => match row[j]? with | some e => e.mark | none => false
    let s := s.writeBits c r.dest 0 (r.dBase + m * r.dPitch) (bytes.zip marks)
    if fo.mx then
      let k := s.sctSlot c r.slot
      s.writeSpace c r.dest 0 (k.dsOfs + m * k.dsPitch) ((upTo (ceilDiv (r.cols f) 32)).map fun g => (BitVec.ofNat 8 (s.sctByte c (k.bsIndex + g)), false))
    else s) s

/-- The output stage writes activation panels (R117, R163), zeros outside the skewed positions, with their scale strips (R194). -/
def State.drainPanels (s : State) (c f : Nat) (r : Run) (l : List OutElem) : State :=
  let fo := readSpec r.fo
  let sb := groupBits (fmtWidth fo.code)
  (upTo (r.cols f / 128)).foldl (fun s q =>
    let pw := r.outPanel q
    let cols := l.filter fun e => decide (e.n / 128 = q)
    let words := (upTo r.outWords).foldr (fun w acc => (upTo 128).foldr (fun bank acc =>
      let here := cols.filter fun e => decide (e.n % 128 = bank) && decide ((e.m + bank) * sb / 32 = w)
      let v := sumBy (fun e => e.enc * 2 ^ ((e.m + bank) * sb % 32)) here
      (upTo 4).foldr (fun i acc =>
        (BitVec.ofNat 8 (v / 2 ^ (8 * i)), here.any fun e => e.mark && decide ((e.m + bank) * sb % 32 / 8 ≤ i) && decide (i < ((e.m + bank) * sb % 32 + sb) / 8)) :: acc) acc) acc) []
    let s := s.writeSpace c 2 pw.1 (512 * pw.2) words
    if fo.mx then
      let k := s.sctSlot c r.slot
      let base := k.dsOfs % 4096 + q / 8 * k.dsPitch
      (upTo r.m).foldl (fun s m => (upTo 4).foldl (fun s g =>
        let b := m + 32 * g
        s.writeSpace c 2 pw.1 (((base + b / 4) * 128 + g) * 4 + b % 4) [(BitVec.ofNat 8 (s.sctByte c (k.bsIndex + 4 * q + g)), false)]) s) s
    else s) s

/-- The results go to the working half (R122); a tile's entries are one write, in ascending index (18 R438). -/
def State.storeEntries (s : State) (c : Nat) (l : List Entry) : State :=
  let s := l.foldl (fun (s : State) e => s.modCluster c fun k => { k with tiles := modifyAt (fun t =>
      let key := b2n (!t.committed) * 65536 + e.idx
      { t with acc := Sparse.set 0 t.acc key e.a.v, accMark := Marks.put t.accMark key e.a.mark }) k.tiles e.tile }) s
  (upTo 8).foldl (fun s t =>
    let n := (l.filter fun e => decide (e.tile = t)).length
    if n = 0 then s else s.parWrite (0x40 + 8 * c + t) (4 * (b2n (!((s.clusterAt c).tiles.getD t {}).committed) * 65536)) (4 * n)) s

/-- Does the working half's entry have bad parity? -/
def State.accBad (s : State) (c : Nat) (half : Bool) (e : Entry) : Bool := s.parity.isBad (0x40 + 8 * c + e.tile) (4 * (b2n half * 65536 + e.idx)) 4

/-- The entries as the output stage reads them: bad parity delivers a mark (R124; 18 R438). -/
def State.rereadEntries (s : State) (c : Nat) (l : List Entry) : List Entry :=
  l.map fun e => { e with a := { e.a with mark := e.a.mark || s.accBad c (!((s.clusterAt c).tiles.getD e.tile {}).committed) e } }

/-- Accumulator-store reads delivered with a mark are counted by tile, those of bad parity by group too (R130; 18 R438). `half` tells which half of a tile is read. -/
def State.countAcc (s : State) (c : Nat) (half : Tile → Bool) (l : List Entry) : State :=
  (upTo 8).foldl (fun s t =>
    let h := half ((s.clusterAt c).tiles.getD t {})
    let here := l.filter fun e => decide (e.tile = t) && (s.accAt c t h e.idx).2
    if here.isEmpty then s
    else (s.modCluster c fun k => { k with tiles := modifyAt (fun x => { x with parStore := satAdd x.parStore here.length }) k.tiles t }).countParity (0x40 + 8 * c + t) (here.filter fun e => s.accBad c h e).length) s

/-- Does a weight read of the run, or a scale-store read, deliver a mark (R125, 08 R193)? The tile that sees it. -/
def State.roPoison (s : State) (c f : Nat) (r : Run) : Option Nat :=
  (upTo (tilesPer f)).findSome? fun p =>
    let t := tileOf f r.unit p
    if (upTo r.s).any (fun k => s.spaceMarked c 2 t (512 * (r.wBase + k * r.wStride)) (512 * r.wPanel) || s.spaceMarked c 2 t (512 * (r.wsBase + k * r.wsStride)) (512 * r.wStrip))
    then some t else none
def State.sctPoison (s : State) (c : Nat) (r : Run) : Bool :=
  decide (r.slot ≠ 0) &&
    (let b := (s.clusterAt c).sctBase
     let k := s.sctSlot c r.slot
     s.spaceMarked c 1 0 (b + 32 * r.slot) 32 || s.spaceMarked c 1 0 (b + 0x20000 + k.bsIndex) k.bsCount)

/-- Words of a tile's operand store delivered with a mark to a run, for SPC_MT_PAR_CNT.STORE (R130). -/
def State.markedReads (s : State) (c f : Nat) (r : Run) (p : Nat) : Nat :=
  let t := tileOf f r.unit p
  let cnt := fun w n => sumBy (fun i => b2n (s.spaceMarked c 2 t (4 * (128 * w + i)) 4)) (upTo (128 * n))
  sumBy (fun k => cnt (r.wBase + k * r.wStride) r.wPanel + cnt (r.wsBase + k * r.wsStride) r.wStrip) (upTo r.s) +
  sumBy (fun j => if r.chunkTile f j = t then cnt (r.aBase + j / r.aSpread * r.aStride) r.aPanel + cnt (r.asBase + j / r.aSpread * r.asStride) r.aStrip else 0) (upTo (r.chunks f))

/-- Words of a tile's operand store that a run reads with bad parity (18 R438). -/
def State.badReads (s : State) (c f : Nat) (r : Run) (p : Nat) : Nat :=
  let t := tileOf f r.unit p
  let bad := fun w n => sumBy (fun i => b2n (s.parity.isBad (8 * c + t) (4 * (128 * w + i)) 4)) (upTo (128 * n))
  sumBy (fun k => bad (r.wBase + k * r.wStride) r.wPanel + bad (r.wsBase + k * r.wsStride) r.wStrip) (upTo r.s) +
  sumBy (fun j => if r.chunkTile f j = t then bad (r.aBase + j / r.aSpread * r.aStride) r.aPanel + bad (r.asBase + j / r.aSpread * r.asStride) r.aStrip else 0) (upTo (r.chunks f))

/-- Operand-store reads delivered with a mark are counted by tile, those of bad parity by group too (R130; 18 R438). -/
def State.countStore (s : State) (c f : Nat) (r : Run) : State :=
  (upTo (tilesPer f)).foldl (fun s p =>
    let t := tileOf f r.unit p
    let n := s.markedReads c f r p
    let b := s.badReads c f r p
    if n = 0 then s
    else (s.modCluster c fun k => { k with tiles := modifyAt (fun x => { x with parStore := satAdd x.parStore n }) k.tiles t }).countParity (8 * c + t) b) s

/-- Tile row, in its unit, of a position (R112). -/
def rowOfPos (f pos : Nat) : Nat := if f = 1 then pos / 2 else 0

/-- Products of a run in the tile at position `pos` of its unit, bypassed positions left out (R109, R130). -/
def Run.products (r : Run) (f len pos : Nat) : Nat :=
  r.m * 128 * r.p * sumBy (fun j => if j % (depthOf f / 128) = rowOfPos f pos then stepsOf len j else 0) (upTo (r.chunks f))

/-- The groups that a weight panel at word `base` puts into the cells (R116, R119). -/
def Tile.weightSet (t : Tile) (base g : Nat) : List (Nat × W32) :=
  (t.store.filter fun e => decide (base ≤ e.1 / 128) && decide (e.1 / 128 < base + 128 * g / 32)).foldl (fun m e =>
    (upTo (32 / g)).foldl (fun m i => Sparse.set 0 m (((e.1 / 128 - base) * (32 / g) + i) * 128 + e.1 % 128) (BitVec.ofNat 32 (e.2.toNat / 2 ^ (i * g) % 2 ^ g))) m) []

/-- A weight set goes to the shadow registers; shadow and active registers change places (R119). -/
def Tile.loadShadow (t : Tile) (w : List (Nat × W32)) : Tile := if t.activeReg then { t with reg0 := w } else { t with reg1 := w }
def Tile.swapRegs (t : Tile) : Tile := { t with activeReg := !t.activeReg }

/-- Weight set `k` of a run is loaded into a tile (R119). -/
def Run.loadSet (r : Run) (t : Tile) (k : Nat) : Tile := t.loadShadow (t.weightSet (r.wBase + k * r.wStride) r.g)

/-- A run streams its weight sets through the registers of a tile: each set swaps in, and the next one is loaded behind it (R119). -/
def Run.sweep (r : Run) (t : Tile) : Tile :=
  (upTo r.s).foldl (fun t k => let t := t.swapRegs; if k + 1 < r.s then r.loadSet t (k + 1) else t) t

/-- A run's products are counted in a tile of its unit, and its weight sets pass through the registers (R119, R130). -/
def Run.countTile (r : Run) (f len pos : Nat) (t : Tile) : Tile :=
  let t := r.sweep t
  { t with prod := t.prod + BitVec.ofNat 64 (r.products f len pos) }

/-- A run drains through its output stage (R108, R122, R123, R194). -/
def State.drainRun (s : State) (c : Nat) (r : Run) (len : Nat) (chained : Bool) : State :=
  let f := (s.clusterAt c).fusion
  let l := s.runEntries c f r len chained
  let s := s.countStore c f r
  let s := if chained then s.countAcc c (fun t => !t.committed) l else if r.init then s.countAcc c (fun t => t.committed) l else s
  let s := s.storeEntries c l
  let s := s.modCluster c fun k => { k with tiles := k.tiles.zipIdx.map fun x => if unitOfTile f x.2 = r.unit then r.countTile f len (posOfTile f x.2) x.1 else x.1 }
  if r.dest = 3 then
    (l.foldl (fun s e => s.modCluster c fun k => k.raiseMt e.tile { accSat := e.a.sat }) s)
  else
    let l := s.rereadEntries c l
    let s := s.countAcc c (fun t => !t.committed) l
    let o := s.outElems c r l
    let s := o.foldl (fun s e => s.modCluster c fun k => k.raiseMt e.tile e.raised) s
    if r.dest = 2 then s.drainPanels c f r o else s.drainRows c f r o

end Sys2Proof.Machine
end

