-- ==== Sys2Proof/Machine/Vector.lean ====
section
/-! DEFINITION. The vector unit: registers, lanes, masks, arithmetic, loads and stores, permutes, conversions, reductions, poison (06 R131 to R152). -/

namespace Sys2Proof.Machine

/-- What a vector operation comes to: it completes, or it faults (06 R143, 07 R164). -/
inductive VOut where
  | done (s : State)
  | vaddr (lane addr : Nat)
  | poisonCtrl
  deriving DecidableEq, Repr

/-- Byte numbers of the registers in the register file's parity group (18 R438): V0 to V31, then M0 to M7, then S0 to S31. -/
def vByte (r i : Nat) : Nat := (r * 512 + i) * 4
def mByte (m : Nat) : Nat := 65536 + 64 * m
def sByte (n : Nat) : Nat := 66048 + 4 * n

/-- Lane `i` of V register `r`, and whether its read delivers poison (R151, R152). -/
def State.vLane (s : State) (c r i : Nat) : W32 × Bool :=
  let u := (s.clusterAt c).vu
  (Sparse.get 0 u.v (r * 512 + i), Marks.has u.vMark (r * 512 + i) || s.parity.isBad (0x88 + c) (vByte r i) 4)

/-- Mask bit `i` of M register `m`; M0 reads as all ones, unpoisoned (R132). -/
def State.mBit (s : State) (c m i : Nat) : Bool × Bool :=
  if m = 0 then (true, false) else
    let u := (s.clusterAt c).vu
    (bit (u.m.getD m 0) i, bit (u.mMark.getD m 0) i || s.parity.isBad (0x88 + c) (mByte m + i / 8) 1)

/-- Scalar S[n]; S0 reads 0, absent (R132). -/
def State.sReg (s : State) (c n : Nat) : SReg :=
  if n = 0 then {} else
    let r := (s.clusterAt c).vu.s.getD n {}
    { r with poison := r.poison || s.parity.isBad (0x88 + c) (sByte n) 4 }

/-- A scalar is written; writes to S0 are ignored (R132). -/
def State.putS (s : State) (c n : Nat) (r : SReg) : State :=
  if n = 0 then s else
    (s.modCluster c fun k => { k with vu := { k.vu with s := setAt k.vu.s n r } }).parWrite (0x88 + c) (sByte n) 4

/-- Is lane `i` present, and does its predicate bit carry poison (R133, R142, R151)? -/
def State.present (s : State) (c pm i : Nat) : Bool × Bool :=
  let b := s.mBit c pm i
  (decide (i < (s.clusterAt c).vu.vl) && (b.1 || b.2), b.2)

/-- The present lanes in order. -/
def State.lanes (s : State) (c pm : Nat) : List Nat := (upTo 512).filter fun i => (s.present c pm i).1

/-- A result lane: number, contents, mark. -/
structure LaneOut where
  i    : Nat
  v    : W32
  mark : Bool
  raised : Raised := {}
  deriving DecidableEq, Repr

/-- Parity of a register write: bytes of absent lanes are not written and take no flip (18 R438). -/
def State.parLanes (s : State) (c r : Nat) (l : List LaneOut) : State :=
  let g := 0x88 + c
  let m := Sparse.get (0 : W32) s.parity.masks g
  if l.isEmpty then s else
    let bad := l.foldl (fun b x => (upTo 4).foldl (fun b j => Marks.put b (g * 2 ^ 32 + vByte r x.i + j) (decide (4 * x.i + j < 32) && bit m (4 * x.i + j))) b) s.parity.bad
    if m = 0 then { s with parity := { s.parity with bad := bad } }
    else { s with parity := { s.parity with bad := bad, masks := Sparse.set 0 s.parity.masks g 0, flipCnt := satInc s.parity.flipCnt } }

/-- Result lanes go to V register `r`. -/
def State.putV (s : State) (c r : Nat) (l : List LaneOut) : State :=
  let s := s.modCluster c fun k => { k with vu := { k.vu with
    v := l.foldl (fun v x => Sparse.set 0 v (r * 512 + x.i) x.v) k.vu.v
    vMark := l.foldl (fun v x => Marks.put v (r * 512 + x.i) x.mark) k.vu.vMark } }
  let s := s.parLanes c r l
  s.modCluster c fun k => k.raiseVu (l.foldl (fun a x => a.join { x.raised with poison := x.raised.poison || x.mark }) {})

/-- Result bits go to M register `r`; writes to M0 are ignored (R132). -/
def State.putM (s : State) (c r : Nat) (l : List LaneOut) : State :=
  if r = 0 || l.isEmpty then s else
    let s := s.modCluster c fun k => { k with vu := { k.vu with
      m := modifyAt (fun w => l.foldl (fun w x => setBit w x.i (decide (x.v ≠ 0))) w) k.vu.m r
      mMark := modifyAt (fun w => l.foldl (fun w x => setBit w x.i x.mark) w) k.vu.mMark r } }
    let s := s.parWrite (0x88 + c) (mByte r) 64
    s.modCluster c fun k => k.raiseVu { poison := l.any (·.mark) }

/-- Cycles in which the unit issued, and present-lane operations (R138, R154). -/
def State.countVu (s : State) (c n : Nat) (cycles : Nat := 1) : State :=
  s.modCluster c fun k => { k with vu := { k.vu with busy := k.vu.busy + BitVec.ofNat 64 cycles, ops := k.vu.ops + BitVec.ofNat 64 n } }

/-- Reads for present lanes that failed parity in group `g` are counted (R151, R152, 18 R438). -/
def State.countBad (s : State) (c g n : Nat) : State :=
  if n = 0 then s else (s.modCluster c fun k => { k with vu := { k.vu with parStore := satAdd k.vu.parStore n } }).countParity g n

/-- Those of V registers, and of the bits of M registers, for the lanes `l`. -/
def State.countReads (s : State) (c : Nat) (regs masks l : List Nat) : State :=
  let g := 0x88 + c
  s.countBad c g (sumBy (fun r => sumBy (fun i => b2n (s.parity.isBad g (vByte r i) 4)) l) regs +
    sumBy (fun m => if m = 0 then 0 else sumBy (fun i => b2n (s.parity.isBad g (mByte m + i / 8) 1)) l) masks)

/-- The descriptor of the pass that runs on the cluster. -/
def State.runDesc (s : State) (c : Nat) : PassDesc :=
  match (s.clusterAt c).seq.run with
  | none => readDesc []
  | some r => match s.sched.entries.find? fun e => decide (e.uid = r.uid) with
    | none => readDesc []
    | some e => e.d

/-- SPACE and offset of a byte of the unit's windows (R131). -/
def Cluster.window (k : Cluster) (a : Nat) : Option (Nat × Nat) :=
  if a < 0x400000 then some (0, a)
  else if 0x1000000 ≤ a ∧ a < 0x1000000 + k.stageMib * 1048576 then some (1, a - 0x1000000)
  else none

/-- May the running pass touch byte `a` (R143)? -/
def State.byteOk (s : State) (c a : Nat) (out : Bool) : Bool :=
  match (s.clusterAt c).window a with
  | none => false
  | some (sp, o) => inputHolds (s.runDesc c) sp 0 o 1 out

def State.bytesOk (s : State) (c a n : Nat) (out : Bool) : Bool := (upTo n).all fun j => s.byteOk c (a + j) out

/-- One byte of the windows, and its mark. -/
def State.winByte (s : State) (c a : Nat) : Byte × Bool :=
  match (s.clusterAt c).window a with
  | none => (0, false)
  | some (sp, o) => (byteAt (s.readSpace c sp o 1) 0, s.spaceMarked c sp 0 o 1)

/-- The marks of the bits of one byte of the windows; a byte of bad parity is marked whole. -/
def State.winMarks (s : State) (c a : Nat) : Byte :=
  let k := s.clusterAt c
  match k.window a with
  | none => 0
  | some (sp, o) =>
    if s.parity.isBad (spaceGroup c sp 0) o 1 then 0xFF
    else BitVec.ofNat 8 (sumBy (fun i => if Marks.has (if sp = 0 then k.vstoreMark else k.stagingMark) (8 * o + i) then 2 ^ i else 0) (upTo 8))

/-- An element of `w` bits at bit `b` past byte `a`: its encoding and its own bits' marks. -/
def State.winElem (s : State) (c a b w : Nat) : Nat × Bool :=
  let n := (b % 8 + w + 7) / 8
  let l := (upTo n).map fun j => s.winByte c (a + b / 8 + j)
  let m := (upTo n).map fun j => s.winMarks c (a + b / 8 + j)
  (leNat (l.map (·.1)) 0 n / 2 ^ (b % 8) % 2 ^ w, decide (leNat m 0 n / 2 ^ (b % 8) % 2 ^ w ≠ 0))

/-- Elements read from the windows with bad parity are counted: each is a first byte and a byte count. -/
def State.countWindow (s : State) (c : Nat) (els : List (Nat × Nat)) : State :=
  let bad := fun (sp : Nat) => sumBy (fun (e : Nat × Nat) => match (s.clusterAt c).window e.1 with
    | none => 0
    | some (q, o) => if q = sp then b2n (s.parity.isBad (spaceGroup c sp 0) o e.2) else 0) els
  (s.countBad c (spaceGroup c 0 0) (bad 0)).countBad c (spaceGroup c 1 0) (bad 1)

/-- First byte and byte count of element `i` of a packed array (04 R85). -/
def elemByte (w i : Nat) : Nat := w * i / 8
def elemBytes (w i : Nat) : Nat := (w * i + w - 1) / 8 + 1 - w * i / 8

/-- The first position of a list whose access breaks R143. -/
def State.firstBad (s : State) (c base w : Nat) (l : List Nat) (out : Bool) : Option Nat :=
  l.find? fun i => (decide (w = 6) && decide (base % 3 ≠ 0)) || !s.bytesOk c (base + elemByte w i) (elemBytes w i) out

/-- VLD (R136, R143). -/
def vLoad (c : Nat) (w : VWord) (s : State) : VOut :=
  let b := s.sReg c w.c
  if b.poison then .poisonCtrl else
    let base := b.val.toNat + 64 * w.imm
    let wd := fmtWidth (readSpec w.fd).code
    let l := s.lanes c w.pm
    match s.firstBad c base wd l false with
    | some i => .vaddr i (base + elemByte wd i)
    | none =>
      .done ((((s.countReads c [] [w.pm] l).countWindow c (l.map fun i => (base + elemByte wd i, elemBytes wd i))).putV c w.d (l.map fun i =>
        let e := s.winElem c base (wd * i) wd
        { i := i, v := BitVec.ofNat 32 e.1, mark := e.2 || (s.present c w.pm i).2 })).countVu c l.length)

/-- A byte that a list of elements writes: its new contents and the marks of its bits; bits that they do not fill keep what they had (R133, R151). -/
def State.storeByte (s : State) (c base w : Nat) (els : List (Nat × (Nat × Bool))) (a : Nat) : Byte × Byte :=
  let old := s.winByte c (base + a)
  let here := els.filter fun e => decide (elemByte w e.1 ≤ a) && decide (a < elemByte w e.1 + elemBytes w e.1)
  let set := fun (v : Nat) (e : Nat × (Nat × Bool)) => (upTo w).foldl (fun v j =>
    let p := w * e.1 + j
    if p / 8 = a then (let v := v - v / 2 ^ (p % 8) % 2 * 2 ^ (p % 8); v + e.2.1 / 2 ^ j % 2 * 2 ^ (p % 8)) else v) v
  (BitVec.ofNat 8 (here.foldl set old.1.toNat), BitVec.ofNat 8 ((here.map fun e => (e.1, (if e.2.2 then 2 ^ w - 1 else 0, e.2.2))).foldl set (s.winMarks c (base + a)).toNat))

/-- Elements are written to the windows (R136, R144); the bytes that reach one SRAM are one write, at ascending addresses (18 R438). -/
def State.storeElems (s : State) (c base w : Nat) (els : List (Nat × (Nat × Bool))) : State :=
  let bytes := sortBy (fun a b => decide (a < b)) ((els.foldl (fun l e => l ++ (upTo (elemBytes w e.1)).map (elemByte w e.1 + ·)) []).eraseDups)
  let vals := bytes.map fun a => (a, s.storeByte c base w els a)
  let win := (s.clusterAt c).window
  let put := vals.foldl (fun (s : State) x => match win (base + x.1) with
    | none => s
    | some (sp, o) => s.putBits c sp 0 o [x.2]) s
  [0, 1].foldl (fun (s : State) sp =>
    let l := vals.filterMap fun x => match win (base + x.1) with
      | some (q, o) => if q = sp then some o else none
      | none => none
    if l.isEmpty then s else { s with parity := s.parity.write (spaceGroup c sp 0) l }) put

/-- Elements of a unit: an MX block (04 R94), or the packing unit of elements narrower than a byte (04 R85). -/
def rowUnit (mx : Bool) (w : Nat) : Nat := if mx then 32 else match w with | 6 => 4 | 4 => 2 | 2 => 4 | 1 => 8 | _ => 1

/-- VST (R136, R143, R144), with the pad positions of the last unit written as zero (04 R85, R94). -/
def vStore (c : Nat) (w : VWord) (s : State) : VOut :=
  let b := s.sReg c w.c
  if b.poison then .poisonCtrl else
    let base := b.val.toNat + 64 * w.imm
    let wd := fmtWidth (readSpec w.fd).code
    let l := s.lanes c w.pm
    let vl := (s.clusterAt c).vu.vl
    let u := rowUnit (readSpec w.fd).mx wd
    let pads := (upTo (ceilDiv vl u * u)).filter fun i => decide (vl ≤ i)
    match s.firstBad c base wd (l ++ pads) true with
    | some i => .vaddr i (base + elemByte wd i)
    | none =>
      let els := l.map (fun i => let x := s.vLane c w.a i; (i, (x.1.toNat % 2 ^ wd, x.2 || (s.present c w.pm i).2))) ++ pads.map fun i => (i, (0, false))
      .done ((((s.countReads c [w.a] [w.pm] l).storeElems c base wd els).modCluster c fun k => k.raiseVu { poison := els.any fun e => e.2.2 }).countVu c l.length)

/-- VGATHER (R136, R143, R151). An index lane that carries poison makes no access, and the spec states no value for its lane (log 7). -/
def vGather (c : Nat) (w : VWord) (s : State) : VOut :=
  let b := s.sReg c w.c
  if b.poison then .poisonCtrl else
    let wd := fmtWidth (readSpec w.fd).code
    let l := s.lanes c w.pm
    let addr := fun i => b.val.toNat + (s.vLane c w.a i).1.toNat
    let used := l.filter fun i => !(s.vLane c w.a i).2
    match used.find? fun i => decide (addr i % (wd / 8) ≠ 0) || !s.bytesOk c (addr i) (wd / 8) false with
    | some i => .vaddr i (addr i)
    | none =>
      .done ((((((s.countReads c [w.a] [w.pm] l).countWindow c (used.map fun i => (addr i, wd / 8))).putV c w.d (l.map fun i =>
        if (s.vLane c w.a i).2 then { i := i, v := BitVec.ofNat 32 (s.freeWord.toNat % 2 ^ wd), mark := true }
        else
          let e := s.winElem c (addr i) 0 wd
          { i := i, v := BitVec.ofNat 32 e.1, mark := e.2 || (s.present c w.pm i).2 })).drawn).countVu c l.length (max 1 (ceilDiv (s.clusterAt c).vu.vl 64))))

/-- A lane-by-lane operation on V registers. -/
def laneOp (c : Nat) (w : VWord) (regs : List Nat) (f : State → Nat → LaneOut) (s : State) : State :=
  let l := s.lanes c w.pm
  (((s.countReads c regs [w.pm] l).putV c w.d (l.map fun i => let o := f s i; { o with i := i, mark := o.mark || (s.present c w.pm i).2 }))).countVu c l.length

/-- The element of a lane read in a format: its low bits (R133). -/
def lowBits (fa : Byte) (v : W32) : W32 := BitVec.ofNat 32 (v.toNat % 2 ^ fmtWidth (readSpec fa).code)

/-- VPERM (R145). -/
def vPerm (c : Nat) (w : VWord) (s : State) : State :=
  let vl := (s.clusterAt c).vu.vl
  let idx := (s.lanes c w.pm).map fun i => (s.vLane c w.b i).1.toNat
  let n := (idx.filter fun j => decide (vl ≤ j)).length
  let s' := laneOp c w [w.b] (fun s i =>
    let j := s.vLane c w.b i
    if j.1.toNat < vl then (let x := s.vLane c w.a j.1.toNat; { i := i, v := lowBits w.fa x.1, mark := x.2 || j.2 })
    else { i := i, v := 0, mark := j.2, raised := { perm := true } }) (s.countReads c [w.a] [] (idx.filter fun j => decide (j < vl)))
  s'.modCluster c fun k => { k with vu := { k.vu with permCnt := satAdd k.vu.permCnt n } }

/-- VBCAST (R136). -/
def vBcast (c : Nat) (w : VWord) (s : State) : State :=
  let a := s.sReg c w.a
  let wd := fmtWidth (readSpec w.fd).code
  laneOp c w [] (fun _ i => { i := i, v := BitVec.ofNat 32 (a.val.toNat % 2 ^ wd), mark := a.poison }) s

/-- VCVT (R146). -/
def vCvt (c : Nat) (w : VWord) (s : State) : State :=
  let fa := readSpec w.fa
  let fd := readSpec w.fd
  let ieee := (s.clusterAt c).ovfIeee
  let blocks := if fa.mx || fd.mx then ((s.lanes c w.pm).map fun i => i / 32).eraseDups else []
  laneOp c w [w.a] (fun s i =>
    let x := s.vLane c w.a i
    let q := s.vLane c w.b (i / 32)
    let sc := q.1.toNat % 256
    let mx := fa.mx || fd.mx
    let e := x.1.toNat % 2 ^ fmtWidth fa.code
    let v := if fa.mx then decodeMx fa.code sc e else decodeElem fa.code e
    let o := if fd.mx then convertMx fd.code sc ieee v else convert fd.code fd.tern ieee v
    { i := i, v := BitVec.ofNat 32 o.1, mark := x.2 || (mx && q.2), raised := { cvtOvf := o.2.1, cvtNan := o.2.2 } }) (s.countReads c [w.b] [] blocks)

/-- A floating result put into FD (R139), or an integer one (R140). -/
def putResult (fd : Nat) (ieee : Bool) (x : Val) : Nat × Raised :=
  if fd = 0 then ((round32 x).toNat, {})
  else if fd < 8 then (let o := convert fd false ieee x; (o.1, { cvtOvf := o.2.1 }))
  else
    let rg := intRange fd false
    let o := x.toRange rg.1 rg.2
    (encInt (fmtWidth fd) o.1, { intSat := o.2.1 })

/-- An element-wise arithmetic operation on two or three sources (R135, R139, R140). -/
def vArith (c : Nat) (w : VWord) (regs : List Nat) (f : List Val → Val) (s : State) : State :=
  let fa := (readSpec w.fa).code
  let fd := (readSpec w.fd).code
  let ieee := (s.clusterAt c).ovfIeee
  laneOp c w regs (fun s i =>
    let xs := regs.map fun r => s.vLane c r i
    let o := putResult fd ieee (f (xs.map fun x => decodeElem fa (x.1.toNat % 2 ^ fmtWidth fa)))
    { i := i, v := BitVec.ofNat 32 o.1, mark := xs.any (·.2), raised := o.2 }) s

/-- s of VADD and VFMA (R136). -/
def signed (w : VWord) (v : Val) : Val := if w.sub % 2 = 1 then v.neg else v

def vAdd (c : Nat) (w : VWord) (s : State) : State := vArith c w [w.a, w.b] (fun l => (l.getD 0 .nan).add (signed w (l.getD 1 .nan))) s
def vMul (c : Nat) (w : VWord) (s : State) : State := vArith c w [w.a, w.b] (fun l => (l.getD 0 .nan).mul (l.getD 1 .nan)) s
def vFma (c : Nat) (w : VWord) (s : State) : State := vArith c w [w.a, w.b, w.c] (fun l => ((l.getD 0 .nan).mul (l.getD 1 .nan)).add (signed w (l.getD 2 .nan))) s

def Val.isNeg : Val → Bool
  | .nan => false
  | .inf n => n
  | .fin n _ _ => n

/-- The order of VMIN, VMAX and the reductions: −0 is less than +0 (R141). -/
def Val.below (x y : Val) : Bool := x.lt y || (x.isZero && y.isZero && x.isNeg && !y.isNeg)

/-- The lesser or the greater; NaN from a NaN (R141). -/
def pick (max_ : Bool) (x y : Val) : Val :=
  if x.isNan || y.isNan then .nan
  else if max_ then (if x.below y then y else x) else (if y.below x then y else x)

def vMin (c : Nat) (w : VWord) (s : State) : State := vArith c w [w.a, w.b] (fun l => pick false (l.getD 0 .nan) (l.getD 1 .nan)) s
def vMax (c : Nat) (w : VWord) (s : State) : State := vArith c w [w.a, w.b] (fun l => pick true (l.getD 0 .nan) (l.getD 1 .nan)) s

/-- rel of VCMP (R136, R141). -/
def relHolds (rel : Nat) (x y : Val) : Bool :=
  match rel with
  | 0 => x.eqv y
  | 1 => !x.eqv y
  | 2 => x.lt y
  | 3 => x.lt y || x.eqv y
  | 4 => y.lt x
  | _ => y.lt x || x.eqv y

/-- A lane-by-lane operation whose result is a mask. -/
def maskOp (c : Nat) (w : VWord) (regs masks : List Nat) (f : State → Nat → Bool × Bool) (s : State) : State :=
  let l := s.lanes c w.pm
  ((s.countReads c regs (w.pm :: masks) l).putM c w.d (l.map fun i => let o := f s i; { i := i, v := if o.1 then 1 else 0, mark := o.2 || (s.present c w.pm i).2 })).countVu c l.length

def vCmp (c : Nat) (w : VWord) (s : State) : State :=
  let fa := (readSpec w.fa).code
  maskOp c w [w.a, w.b] [] (fun s i =>
    let x := s.vLane c w.a i
    let y := s.vLane c w.b i
    (relHolds w.sub (decodeElem fa (x.1.toNat % 2 ^ fmtWidth fa)) (decodeElem fa (y.1.toNat % 2 ^ fmtWidth fa)), x.2 || y.2)) s

/-- VSEL: the selected encoding, bit for bit (R136, R141, R151). -/
def vSel (c : Nat) (w : VWord) (s : State) : State :=
  let pick := fun (b : Bool) => (s.lanes c w.pm).filter fun i => (s.mBit c w.k i).1 == b
  laneOp c w [] (fun s i =>
    let q := s.mBit c w.k i
    let x := s.vLane c (if q.1 then w.a else w.b) i
    { i := i, v := lowBits w.fa x.1, mark := x.2 || q.2 }) ((s.countReads c [w.a] [w.k] (pick true)).countReads c [w.b] [w.k] (pick false))

def vMlog (c : Nat) (w : VWord) (s : State) : State :=
  maskOp c w [] [w.a, w.b] (fun s i =>
    let x := s.mBit c w.a i
    let y := s.mBit c w.b i
    ((match w.sub with | 0 => x.1 && y.1 | 1 => x.1 || y.1 | 2 => x.1 != y.1 | _ => x.1 && !y.1), x.2 || y.2)) s

/-- VSETVL (R136). -/
def vSetVl (c : Nat) (w : VWord) (s : State) : VOut :=
  let a := s.sReg c w.a
  if a.poison then .poisonCtrl
  else .done ((s.modCluster c fun k => { k with vu := { k.vu with vl := min (a.val.toNat + w.imm) 512 } }).countVu c 0)

/-- A node of the reduction tree: FP32 or INT32 encoding, and the winning lane (R147, R148). -/
structure RNode where
  v   : W32
  idx : Nat
  sat : Bool := false
  deriving DecidableEq, Repr

/-- A tree value as a number. -/
def treeVal (int : Bool) (v : W32) : Val := if int then Val.ofInt (sgn v) else dec32 v

/-- combine(a, b) (R148). -/
def combine (op : Nat) (int : Bool) (a b : RNode) : RNode :=
  let x := treeVal int a.v
  let y := treeVal int b.v
  let sat := a.sat || b.sat
  match op with
  | 0 | 1 =>
    if int then
      let r := clampInt (-2147483648) 2147483647 (if op = 0 then sgn a.v + sgn b.v else sgn a.v * sgn b.v)
      ⟨BitVec.ofInt 32 r.1, 0, sat || r.2⟩
    else ⟨if op = 0 then fadd a.v b.v else fmul a.v b.v, 0, sat⟩
  | 2 | 3 => if !int && (x.isNan || y.isNan) then ⟨round32 .nan, 0, sat⟩
    else if (if op = 3 then x.below y else y.below x) then ⟨b.v, 0, sat⟩ else ⟨a.v, 0, sat⟩
  | _ =>
    if x.isNan then ⟨a.v, a.idx, sat⟩
    else if y.isNan then ⟨b.v, b.idx, sat⟩
    else if (if op = 5 then x.below y else y.below x) then ⟨b.v, b.idx, sat⟩ else ⟨a.v, a.idx, sat⟩

/-- Two nodes under the absent rule of R147. -/
def combineOpt (op : Nat) (int : Bool) : Option RNode → Option RNode → Option RNode
  | none, y => y
  | x, none => x
  | some a, some b => some (combine op int a b)

/-- One level of the tree. -/
def treeLevel (op : Nat) (int : Bool) : List (Option RNode) → List (Option RNode)
  | a :: b :: r => combineOpt op int a b :: treeLevel op int r
  | l => l

/-- Nine levels (R147). -/
def treeLevels (op : Nat) (int : Bool) : Nat → List (Option RNode) → List (Option RNode)
  | 0, l => l
  | n + 1, l => treeLevels op int n (treeLevel op int l)

/-- The identity of an empty reduction (R150). -/
def identityOf (op : Nat) (fa : Nat) : W32 :=
  let int := decide (8 ≤ fa)
  match op with
  | 0 => 0
  | 1 => if int then 1 else 0x3F800000
  | 2 | 4 => if int then BitVec.ofInt 32 (intRange fa false).2 else 0x7F800000
  | _ => if int then BitVec.ofInt 32 (intRange fa false).1 else 0xFF800000

/-- A lane widened to the tree (R148); a NaN enters as the canonical one (04 R88). -/
def widen (fa : Nat) (v : W32) : W32 :=
  if fa = 0 then (if (dec32 v).isNan then round32 .nan else v)
  else
    let x := decodeElem fa (v.toNat % 2 ^ fmtWidth fa)
    if 8 ≤ fa then BitVec.ofInt 32 x.toIntRound else round32 x

/-- A carried scalar as the tree takes it: a NaN is the canonical one (04 R88). -/
def canonical (int : Bool) (v : W32) : W32 := if !int && (dec32 v).isNan then round32 .nan else v

/-- VRED (R147 to R150). -/
def vRed (c : Nat) (w : VWord) (s : State) : State :=
  let fa := (readSpec w.fa).code
  let int := decide (8 ≤ fa)
  let op := w.sub % 8
  let arg := decide (4 ≤ op)
  let carry := decide (8 ≤ w.sub)
  let l := s.lanes c w.pm
  let leaves := (upTo 512).map fun i => if l.contains i then some (⟨widen fa (s.vLane c w.a i).1, i, false⟩ : RNode) else none
  let base := if arg then (s.sReg c w.c).val.toNat else 0
  let root := ((treeLevels op int 9 leaves).getD 0 none).map fun n => { n with idx := (n.idx + base) % 2 ^ 32 }
  let pv := s.sReg c (if arg then w.d + 1 else w.d)
  let pi := s.sReg c w.d
  let held := carry && pv.present && (!arg || pi.present)
  let prior : Option RNode := if held then some ⟨canonical int pv.val, pi.val.toNat, false⟩ else none
  let mark := (l.any fun i => (s.vLane c w.a i).2 || (s.present c w.pm i).2) || (held && (pv.poison || (arg && pi.poison)))
  let res := combineOpt op int prior root
  let val := match res with | some n => n.v | none => identityOf op fa
  let idx := match res with | some n => BitVec.ofNat 32 n.idx | none => 0xFFFFFFFF
  let pr := res.isSome
  let s := s.countReads c [w.a] [w.pm] l
  let s := if arg then (s.putS c w.d ⟨idx, mark, pr⟩).putS c (w.d + 1) ⟨val, mark, pr⟩ else s.putS c w.d ⟨val, mark, pr⟩
  let wrote := arg || decide (w.d ≠ 0)
  let s := s.modCluster c fun k => { k with vu := { k.vu with emptyCnt := if pr then k.vu.emptyCnt else satInc k.vu.emptyCnt } }
  let s := s.modCluster c fun k => k.raiseVu { empty := !pr, accSat := (match res with | some n => n.sat | none => false), poison := mark && wrote }
  s.countVu c l.length

/-- One operation word (R136). -/
def vecOp (c : Nat) (w : VWord) (s : State) : VOut :=
  match w.op with
  | 0x00 => .done (s.countVu c 0)
  | 0x01 => vSetVl c w s
  | 0x02 => vLoad c w s
  | 0x03 => vStore c w s
  | 0x04 => vGather c w s
  | 0x05 => .done (vPerm c w s)
  | 0x06 => .done (vBcast c w s)
  | 0x07 => .done (vCvt c w s)
  | 0x08 => .done (vAdd c w s)
  | 0x09 => .done (vMul c w s)
  | 0x0A => .done (vFma c w s)
  | 0x0B => .done (vCmp c w s)
  | 0x0C => .done (vSel c w s)
  | 0x0D => .done (vMin c w s)
  | 0x0E => .done (vMax c w s)
  | 0x0F => .done (vMlog c w s)
  | _ => .done (vRed c w s)

end Sys2Proof.Machine
end

