-- ==== Sys2Proof/Machine/Bridle.lean ====
section
/-! DEFINITION. The Bridle: routing records, dispatches and returns, messages, drop notices, redirects (10 R236 to R244). -/

namespace Sys2Proof.Machine

/-- A slot of a routing record (R236). -/
def routeSlot (b : Bytes) (i : Nat) : Nat × (Bool × W32) := (leNat b (8 * i) 2, (decide (leNat b (8 * i + 2) 2 = 0), le 32 b (8 * i + 4)))

/-- A routing record keeps R236: experts in range, rank order, none repeated, no NaN weight. -/
def routeOk (b : Bytes) (topK experts : Nat) : Bool :=
  (upTo topK).all fun i =>
    let x := routeSlot b i
    decide (x.1 < experts) && x.2.1 && !(dec32 x.2.2).isNan && (upTo i).all (fun j => decide ((routeSlot b j).1 ≠ x.1)) &&
    (if i = 0 then true else
      let y := routeSlot b (i - 1)
      (dec32 x.2.2).lt (dec32 y.2.2) || ((dec32 x.2.2).eqv (dec32 y.2.2) && decide (y.1 < x.1)))

/-- Offsets within an activation of its marked 64-byte lines. -/
def markedLines (l : List Bool) : List Nat := (upTo (ceilDiv l.length 64)).filter fun i => (l.drop (64 * i)).take 64 |>.any id

/-- A committed routing record becomes the token's dispatches, which leave at the next tick, in place of those of an earlier run of the token and layer (R237, R250, 07 R176). A record that breaks R236 ends the token's batch; a marked one bites as the token does (09 R227). -/
def State.routeOut (s : State) (c : Nat) (model : W64) (ctx pos : W32) (layer : W16) (fmt : Byte) (rt : Bytes) (rtMarked : Bool) (data : Bytes) (marks : List Nat) : State :=
  match s.modelFor model with
  | none => s
  | some m =>
    if rtMarked then (match s.ctxIndex ctx with | none => s | some i => (s.biteAt 2 ((s.ctxAt i).extents.getD (pos.toNat / 1024) 0)).damageCtx i)
    else if !routeOk rt m.topK m.experts then s.failBatch ctx stInvalidField
    else
      { s with bridle := { s.bridle with unanswered := (s.bridle.unanswered.filter fun d => !(decide (d.ctx = ctx) && decide (d.pos = pos) && decide (d.layer = layer))) ++ (upTo m.topK).map fun i =>
          let x := routeSlot rt i
          let e : Expert := (m.expertAt layer.toNat x.1).getD { home := s.rank }
          { model := model, ctx := ctx, pos := pos, layer := layer, expert := BitVec.ofNat 16 x.1, slot := BitVec.ofNat 8 i, weight := x.2.2, version := e.version, fmt := fmt, data := data, marks := marks, toRank := e.serving, shown := e.serving, cluster := c } } }

/-- A reply waits for the next tick (R241, R243). -/
def State.replyLater (s : State) (r : Reply) : State := { s with bridle := { s.bridle with outbox := s.bridle.outbox ++ [r] } }

/-- A record with its activation, in hand. -/
structure BRec where
  ctx : W32
  pos : W32
  layer : W16
  expert : W16
  kind : Byte
  fmt : Byte
  slot : Byte
  weight : W32
  version : W32
  data : Bytes
  marks : List Nat
  deriving DecidableEq, Repr

def Dispatch.brec (d : Dispatch) : BRec := ⟨d.ctx, d.pos, d.layer, d.expert, 1, d.fmt, d.slot, d.weight, d.version, d.data, d.marks⟩
def Reply.brec (d : Reply) : BRec := ⟨d.ctx, d.pos, d.layer, d.expert, d.kind, d.fmt, d.slot, d.weight, d.version, d.data, d.marks⟩

/-- A length rounded up to a multiple of 64. -/
def up64 (n : Nat) : Nat := ceilDiv n 64 * 64

/-- The token-batch message of R239 and R240. -/
def brdMessage (src dst frame : Nat) (model : W64) (seq : Nat) (l : List BRec) : Bytes :=
  let h := 64 + 32 * l.length
  let base := up64 h
  let lens := l.map fun r => up64 r.data.length
  let ofsOf := fun i => base + (lens.take i).foldl (· + ·) 0
  let bmo := base + lens.foldl (· + ·) 0
  let lines := fun n => up64 (ceilDiv n 8)
  let n0 := bmo / 64
  let bm := lines n0
  let total := bmo + up64 (ceilDiv ((bmo + bm) / 64) 8)
  let recs := l.zipIdx.foldl (fun b x =>
    let r := x.1
    b ++ toLe r.ctx.toNat 4 ++ toLe r.pos.toNat 4 ++ toLe r.layer.toNat 2 ++ toLe r.expert.toNat 2 ++ [r.kind, r.fmt, r.slot, 0] ++ toLe r.weight.toNat 4 ++ toLe r.version.toNat 4 ++
      (if r.kind = 3 then List.replicate 8 0 else toLe (ofsOf x.2) 4 ++ toLe r.data.length 4)) []
  let data := l.foldl (fun b r => b ++ slice r.data 0 (up64 r.data.length)) []
  let marked := l.zipIdx.foldl (fun m x => m ++ x.1.marks.map fun k => ofsOf x.2 / 64 + k) []
  let bytes := (upTo (total - bmo)).map fun i => mkBits 8 fun j => marked.contains (8 * i + j)
  toLe 0x4C445242 4 ++ [1, 0] ++ toLe l.length 2 ++ toLe src 2 ++ toLe dst 2 ++ toLe total 4 ++ toLe frame 8 ++ toLe model.toNat 8 ++ toLe seq 4 ++ toLe bmo 4 ++ List.replicate 24 0 ++
    recs ++ List.replicate (base - h) 0 ++ data ++ bytes

/-- A drop notice (R242). -/
def brdNotice (src dst frame : Nat) (model : W64) (seq : Nat) : Bytes :=
  toLe 0x4C445242 4 ++ [1, 0] ++ toLe 0 2 ++ toLe src 2 ++ toLe dst 2 ++ toLe 64 4 ++ toLe frame 8 ++ toLe model.toNat 8 ++ toLe seq 4 ++ toLe 0 4 ++ List.replicate 24 0

/-- Next SEQ toward a rank, and the count advanced (R239). -/
def Bridle.seqTo (b : Bridle) (r : Nat) : Nat := Sparse.get 0 b.nextSeq r
def Bridle.bump (b : Bridle) (r : Nat) : Bridle := { b with nextSeq := Sparse.set 0 b.nextSeq r ((b.seqTo r + 1) % 2 ^ 32) }

/-- Records for one rank and model, cut into messages of at most 4,096 records and 4 MiB (R239). -/
def cutRecs (l : List BRec) (cur : List BRec) (n size : Nat) : List (List BRec) :=
  match l with
  | [] => if cur.isEmpty then [] else [cur]
  | r :: q =>
    let add := 33 + up64 r.data.length
    if !cur.isEmpty && (decide (4096 ≤ n) || decide (4100000 < size + add)) then cur :: cutRecs q [r] 1 (192 + add)
    else cutRecs q (cur ++ [r]) (n + 1) (size + add)

/-- One message leaves for a rank. -/
def State.brdSend (s : State) (rank : Nat) (model : W64) (l : List BRec) : State :=
  let gf := s.groupFrame.toNat
  let q := s.bridle.seqTo rank
  let m := brdMessage s.rank rank gf model q l
  let k := (l.filter fun r => decide (r.kind = 1)).map fun r => (r.ctx, (r.pos, (r.layer, r.slot)))
  let net := s.peerNet rank
  let s := s.send net rank m
  { s with bridle := { (s.bridle.bump rank) with tx := s.bridle.tx + 1, sentMsgs := s.bridle.sentMsgs ++ [{ toRank := rank, net := net, seq := q, num := s.frame.num.toNat, time := s.frame.tickTime, keys := k, bytes := m }] } }

/-- Clusters that may run the model (R237, R243). -/
def State.fitsFusion (s : State) (m : Model) : List Nat := (upTo 8).filter fun c => decide ((s.clusterAt c).fusion = m.fusion)

/-- Pass time queued for a cluster (R237). -/
def State.queuedUs (s : State) (c : Nat) : Nat := sumBy (fun (e : PassEntry) => if e.d.onCluster c then e.d.maxUs else 0) s.sched.entries

/-- A cluster holds a part of an expert's weights in T0 (R237). -/
def State.holdsWeights (s : State) (e : Expert) (c : Nat) : Bool :=
  let a := if e.home = s.rank then e.weights else e.weightsShadow
  match s.objFor a with
  | none => false
  | some o => (s.clusterAt c).copies.any fun k => k.present && decide (k.src.toNat < a.toNat + o.len) && decide (a.toNat < k.src.toNat + k.len)

/-- The cluster that takes an expert's records of a frame: the one that has taken records of it in this frame; else one that holds the expert's weights in T0; else the one with the least pass time queued; the lowest numbered of equals. Clusters in reset are passed over (R237; 02 R52). -/
def State.clusterFor (s : State) (m : Model) (layer expert : W16) : Nat :=
  match s.bridle.chosen.find? fun a => decide (a.1 = s.frame.num.toNat) && decide (a.2.1 = m.id) && decide (a.2.2.1 = layer) && decide (a.2.2.2.1 = expert) with
  | some a => a.2.2.2.2
  | none =>
    let up := (s.fitsFusion m).filter fun c => !(s.clusterAt c).inReset
    let l := if up.isEmpty then s.fitsFusion m else up
    let warm := match m.expertAt layer.toNat expert.toNat with | some e => l.filter (s.holdsWeights e) | none => []
    match if warm.isEmpty then l else warm with
    | [] => 0
    | c :: r => r.foldl (fun b x => if s.queuedUs x < s.queuedUs b then x else b) c

/-- Byte offset in a cluster's staging, below its scale store, of `n` bytes that the Bridle places at a 64-byte line of its own choice (R238, R241). -/
def State.stageOfs (s : State) (c line n : Nat) : Nat :=
  line % ((s.clusterAt c).stageMib * 16384 - 4096 - ceilDiv n 64 + 1) * 64

/-- A record's activation is written into a cluster's staging, its marked lines with it (R225, R241). -/
def State.stageRec (s : State) (a : Arrived) : State :=
  s.writeSpace a.cluster 1 0 a.ofs (a.data.zipIdx.map fun x => (x.1, a.marks.contains (x.2 / 64)))

/-- Records of a message from `rank` are placed: dispatches in one cluster's staging, or answered with KIND 3 where this module cannot serve them (R237, R241, R243). -/
def State.placeDispatch (s : State) (rank : Nat) (model : W64) (r : BRec) (gf : Nat := 0) : State :=
  let refuse := s.replyLater { model := model, kind := 3, ctx := r.ctx, pos := r.pos, layer := r.layer, expert := r.expert, slot := r.slot, weight := r.weight, version := r.version, fmt := r.fmt, data := [], marks := [], toRank := rank }
  match s.modelFor model with
  | none => refuse
  | some m =>
    let held := match m.expertAt r.layer.toNat r.expert.toNat with
      | none => false
      | some e => decide (e.home = s.rank) || decide (e.shadow = s.rank)
    if (s.fitsFusion m).isEmpty || !held then refuse else
      let c := s.clusterFor m r.layer r.expert
      let a : Arrived := { cluster := c, kind := 1, rank := rank, model := model, ctx := r.ctx, pos := r.pos, layer := r.layer, expert := r.expert, slot := r.slot, weight := r.weight, version := r.version, fmt := r.fmt, data := r.data, marks := r.marks, ofs := s.stageOfs c (Config.recordLine s.draws) r.data.length, frame := gf }
      let now := s.frame.num.toNat
      let s : State := { s.drawn with bridle := { s.bridle with
        arrived := s.bridle.arrived ++ [a]
        chosen := (s.bridle.chosen.filter fun x => decide (x.1 = now) && decide (x.2 ≠ (model, (r.layer, (r.expert, c))))) ++ [(now, (model, (r.layer, (r.expert, c))))]
        unanswered := s.bridle.unanswered.map fun d => if rank = s.rank ∧ d.ctx = r.ctx ∧ d.pos = r.pos ∧ d.layer = r.layer ∧ d.slot = r.slot then { d with placed := some c } else d } }
      (s.stageRec a).raise c 20

/-- Is it the dispatch that a record answers (R244)? -/
def Dispatch.matches_ (d : Dispatch) (r : BRec) : Bool := decide (d.ctx = r.ctx) && decide (d.pos = r.pos) && decide (d.layer = r.layer) && decide (d.slot = r.slot)

/-- A return (R244): used once, with the dispatch's version or, from a server that no longer holds it, the version served. Returns of one token and layer stand in slot order in the routing cluster's staging (R238). -/
def State.takeReturn (s : State) (rank : Nat) (model : W64) (r : BRec) : State :=
  match s.ctxIndex r.ctx with
  | none => { s with bridle := { s.bridle with staleCnt := satInc s.bridle.staleCnt } }
  | some _ =>
    match s.bridle.unanswered.find? fun d => d.matches_ r with
    | none => { s with bridle := { s.bridle with dupCnt := satInc s.bridle.dupCnt } }
    | some d =>
      if r.version ≠ d.version ∧ !d.redirected then { s with bridle := { s.bridle with dupCnt := satInc s.bridle.dupCnt } }
      else
        let k := match s.modelFor model with | some m => m.topK | none => 1
        let n := up64 r.data.length
        let base := s.stageOfs d.cluster (Config.returnLine r.ctx r.pos r.layer) (k * n)
        let a : Arrived := { cluster := d.cluster, kind := 2, rank := rank, model := model, ctx := r.ctx, pos := r.pos, layer := r.layer, expert := r.expert, slot := r.slot, weight := r.weight, version := r.version, fmt := r.fmt, data := r.data, marks := r.marks, ofs := base + r.slot.toNat * n }
        let s : State := { s with bridle := { s.bridle with
          unanswered := s.bridle.unanswered.filter fun x => !x.matches_ r
          arrived := insertBy (fun x y => decide (x.kind = 2) && decide (y.kind = 2) && decide (x.ctx = y.ctx) && decide (x.pos = y.pos) && decide (x.layer = y.layer) && decide (x.slot < y.slot)) a s.bridle.arrived } }
        (s.stageRec a).raise d.cluster 20

/-- The output of a dispatched record: it goes at once where the whole token runs in the cluster that routed it, else at the next tick (01 R23; R241). -/
def State.replyOut (s : State) (r : Reply) : State :=
  if decide (r.toRank = s.rank) && s.bridle.unanswered.any fun d => d.matches_ r.brec && d.oneFrame then s.takeReturn s.rank r.model r.brec
  else s.replyLater r

/-- A dispatch is sent again, to another rank (R243, R244). `shown` is what the expert table shows then. -/
def State.redirect (s : State) (d : Dispatch) (rank shown : Nat) : State :=
  { s with bridle := { s.bridle with
      redirectCnt := satInc s.bridle.redirectCnt
      unanswered := s.bridle.unanswered.map fun x => if x = d then { x with toRank := rank, shown := shown, redirected := true, sent := none } else x } }

/-- No copy of the expert serves the token: it is not appended, and its batch fails (R243). -/
def State.dropToken (s : State) (d : Dispatch) : State :=
  ({ s with bridle := { s.bridle with unanswered := s.bridle.unanswered.filter fun x => !(decide (x.ctx = d.ctx) && decide (x.pos = d.pos)) } }).failBatch d.ctx stDataTransfer

/-- A KIND 3 record from `rank` (R243): the dispatch goes once to the expert's other copy, or the token fails; the refusal is entered in the telemetry log. A refusal of a server that the dispatch has been taken from since is that one resend. -/
def State.takeRefusal (s : State) (rank : Nat) (model : W64) (r : BRec) : State :=
  match s.bridle.unanswered.find? fun d => d.matches_ r with
  | none => s
  | some d =>
    let s := s.telemetry 9 0 0
    let other := match s.modelFor model with
      | none => none
      | some m => match m.expertAt r.layer.toNat r.expert.toNat with
        | none => none
        | some e => if rank = e.home then (if e.shadow = 0xFFFF then none else some e.shadow) else some e.home
    let once := fun (s : State) => { s with bridle := { s.bridle with unanswered := s.bridle.unanswered.map fun x => if x.matches_ r then { x with refused := true } else x } }
    match other with
    | some k =>
      if d.refused then s.dropToken d
      else if d.toRank ≠ rank then once s
      else once (s.redirect d k d.shown)
    | none => s.dropToken d

def State.placeRec (s : State) (rank : Nat) (model : W64) (r : BRec) (gf : Nat := 0) : State :=
  match r.kind.toNat with
  | 1 => s.placeDispatch rank model r gf
  | 2 => s.takeReturn rank model r
  | _ => s.takeRefusal rank model r

/-- Record `i` of a message (R240). -/
def readBRec (b : Bytes) (i : Nat) : BRec :=
  let o := 64 + 32 * i
  let ofs := leNat b (o + 0x18) 4
  let len := leNat b (o + 0x1C) 4
  let bmo := leNat b 0x24 4
  { ctx := le 32 b o, pos := le 32 b (o + 4), layer := le 16 b (o + 8), expert := le 16 b (o + 0x0A), kind := byteAt b (o + 0x0C), fmt := byteAt b (o + 0x0D), slot := byteAt b (o + 0x0E), weight := le 32 b (o + 0x10), version := le 32 b (o + 0x14),
    data := slice b ofs len, marks := (upTo (ceilDiv len 64)).filter fun k => bit (byteAt b (bmo + (ofs / 64 + k) / 8)) ((ofs / 64 + k) % 8) }

/-- A message's header and records keep R239 and R240. -/
def brdOk (b : Bytes) : Bool :=
  let n := leNat b 6 2
  let bmo := leNat b 0x24 4
  decide (leNat b 0 4 = 0x4C445242) && decide (leNat b 4 1 = 1) && zeros b 5 1 && between 1 n 4096 && decide (leNat b 0x0C 4 = b.length) && decide (b.length % 64 = 0) && decide (b.length ≤ 4194304) &&
  zeros b 0x16 2 && decide (bmo % 64 = 0) && zeros b 0x28 24 && decide (bmo + up64 (ceilDiv (b.length / 64) 8) = b.length) && decide (64 + 32 * n ≤ bmo) &&
  (upTo n).all fun i =>
    let o := 64 + 32 * i
    let k := leNat b (o + 0x0C) 1
    let ofs := leNat b (o + 0x18) 4
    let len := leNat b (o + 0x1C) 4
    decide (leNat b (o + 4) 4 < 1048576) && between 1 k 3 && decide (byteAt b (o + 0x0D) = 1 ∨ byteAt b (o + 0x0D) = 3 ∨ byteAt b (o + 0x0D) = 0x83) && zeros b (o + 0x0F) 1 &&
    (if k = 3 then decide (ofs = 0) && decide (len = 0) else decide (ofs % 64 = 0) && decide (64 + 32 * n ≤ ofs) && decide (ofs + len ≤ bmo) && decide (0 < len))

/-- The lengths of activations fit the model's HIDDEN where this module holds the model's entry (R240). -/
def State.brdLens (s : State) (b : Bytes) : Bool :=
  match s.modelFor (le 64 b 0x18) with
  | none => true
  | some m => (upTo (leNat b 6 2)).all fun i =>
    let r := readBRec b i
    decide (r.slot.toNat < m.topK) && decide (r.expert.toNat < m.experts) && decide (r.layer.toNat < m.layers) &&
    (decide (r.kind = 3) || decide (r.data.length = packedLen (r.fmt.toNat % 16) m.hidden + if r.fmt = 0x83 then m.hidden / 32 else 0))

/-- A record whose first line of data was spoiled in the Bridle's staging (18 R422, R423). -/
def BRec.spoil (r : BRec) : BRec := if r.data.isEmpty || r.marks.contains 0 then r else { r with marks := 0 :: r.marks }

/-- A whole message arrives on network `net` at time `t` (R241); one that breaks R239 or R240 is dropped, and its notice leaves on the queue pair it came by (R242). `bad`: its first record fails parity in the Bridle's staging. -/
def State.brdTake (s : State) (net : Nat) (b : Bytes) (t : Nat) (bad : Bool) : State :=
  let s := s.advance t
  let src := leNat b 8 2
  if s.bridle.inReset then s
  else if brdOk b && decide (leNat b 0x0A 2 = s.rank) && s.memberRank src && s.brdLens b then
    let late := decide (leNat b 0x10 6 < s.groupFrame.toNat) || decide (s.frame.tickTime + 250000 < t)
    let s := { s with bridle := { s.bridle with rx := s.bridle.rx + 1, lateCnt := if late then satInc s.bridle.lateCnt else s.bridle.lateCnt } }
    (upTo (leNat b 6 2)).foldl (fun s i => s.placeRec src (le 64 b 0x18) (if bad && decide (i = 0) then (readBRec b i).spoil else readBRec b i) (leNat b 0x10 6)) s
  else
    let s := { s with bridle := { s.bridle with badCnt := satInc s.bridle.badCnt } }
    if s.memberRank src ∧ src ≠ s.rank then
      let s := s.send net src (brdNotice s.rank src (leNat b 0x10 6) (le 64 b 0x18) (leNat b 0x20 4))
      { s with bridle := { s.bridle with tx := s.bridle.tx + 1 } }
    else s

/-- A drop notice: the named message goes again at the next tick (R242). -/
def State.brdNoticed (s : State) (b : Bytes) : State :=
  let ok := decide (b.length = 64) && decide (leNat b 0 4 = 0x4C445242) && decide (leNat b 4 1 = 1) && zeros b 5 1 && decide (leNat b 6 2 = 0) && decide (leNat b 0x0C 4 = 64) && decide (leNat b 0x24 4 = 0) && zeros b 0x28 24 && zeros b 0x16 2 && decide (leNat b 0x0A 2 = s.rank)
  if ok then { s with bridle := { s.bridle with sentMsgs := s.bridle.sentMsgs.map fun m => if m.toRank = leNat b 8 2 ∧ m.seq = leNat b 0x20 4 then { m with resend := true } else m } }
  else s

/-- The transport reports the loss of what has left for a rank on a network since a time: each such message goes again at the next tick (R244). -/
def State.lostOn (s : State) (rank net since : Nat) : State :=
  { s with bridle := { s.bridle with sentMsgs := s.bridle.sentMsgs.map fun m => if m.toRank = rank ∧ m.net = net ∧ since ≤ m.time then { m with resend := true } else m } }

/-- 64 frames have passed since the dispatch was last sent (00 R13). -/
def Dispatch.overdue (d : Dispatch) (num : Nat) : Bool := match d.sent with | some t => decide (t + 64 ≤ num) | none => false

/-- A dispatch with neither return nor notice 64 frames after its sending tick is sent again (R242). -/
def State.brdTimeout (s : State) (ctx pos : W32) (layer : W16) (slot : Byte) : State :=
  { s with bridle := { s.bridle with unanswered := s.bridle.unanswered.map fun d =>
      if d.ctx = ctx ∧ d.pos = pos ∧ d.layer = layer ∧ d.slot = slot ∧ d.overdue s.frame.num.toNat then { d with resend := true } else d } }

/-- Distinct (rank, model) pairs of records to send, in order. -/
def destsOf (l : List (Nat × (W64 × BRec))) : List (Nat × W64) := (l.map fun x => (x.1, x.2.1)).eraseDups

/-- The Bridle exchanges at ticks: an image is active, and no state of 02 R52 stops it (R254). -/
def State.exchanges (s : State) : Bool :=
  !s.bare && !s.safe && !s.sparReset && decide (s.power.hold ≠ .held) && decide (s.phase = .up) && !s.bridle.inReset

/-- Tokens whose dispatches were all placed in the cluster that routed them (01 R23). -/
def State.markOneFrame (s : State) : State :=
  let u := s.bridle.unanswered
  { s with bridle := { s.bridle with unanswered := u.map fun d => { d with oneFrame := u.all fun x => !(decide (x.ctx = d.ctx) && decide (x.pos = d.pos) && decide (x.layer = d.layer)) || decide (x.placed = some x.cluster) } } }

/-- The exchange at a tick (01 R21, 07 R176, R237 to R244): dispatches and replies of the frame before leave, those for this module through the Bridle's staging; messages named in drop notices, and those the transport lost, leave again with a new SEQ. What a cluster in reset has to send waits (02 R52). -/
def State.brdExchange (s : State) : State :=
  if s.bridle.inReset then s else
    let gf := s.groupFrame.toNat
    let num := s.frame.num.toNat
    let lives := fun c => !(s.clusterAt c).inReset
    -- dispatches follow the expert table as it stands at this tick (R235, R244)
    let s := s.bridle.unanswered.foldl (fun s d =>
      match s.modelFor d.model with
      | none => s
      | some m => match m.expertAt d.layer.toNat d.expert.toNat with
        | none => s
        | some e =>
          let aim := fun (s : State) (v : W32) => { s with bridle := { s.bridle with unanswered := s.bridle.unanswered.map fun x => if x = d then { x with toRank := e.serving, shown := e.serving, version := v } else x } }
          if d.sent.isNone && !d.redirected then aim s e.version
          else if d.shown = e.serving then s
          else if d.toRank = e.serving then aim s d.version
          else s.redirect d e.serving e.serving) s
    -- a dispatch to a rank that is no member is held until its admission (17 R398)
    let goes := fun (d : Dispatch) => (d.sent.isNone || d.resend) && s.memberRank d.toRank && lives d.cluster
    let due := s.bridle.unanswered.filter goes
    let replies := s.bridle.outbox.filter fun r => r.cluster.all lives
    let out := due.map (fun d => (d.toRank, (d.model, d.brec))) ++ replies.map fun r => (r.toRank, (r.model, r.brec))
    let s := (due.filter fun d => d.sent.isNone).foldl (fun s d => s.raise d.cluster 21) s
    let s := replies.foldl (fun s r => match r.cluster with | some c => s.raise c 21 | none => s) s
    let again := s.bridle.sentMsgs.filter (·.resend)
    let s := { s with bridle := { s.bridle with
      outbox := s.bridle.outbox.filter fun r => !r.cluster.all lives, sentMsgs := s.bridle.sentMsgs.filter fun m => !m.resend && decide (num ≤ m.num + 128)
      unanswered := s.bridle.unanswered.map fun d => if goes d then { d with sent := some num, resend := false } else d } }
    let s := again.foldl (fun s m =>
      let q := s.bridle.seqTo m.toRank
      let b := m.bytes.take 0x10 ++ toLe gf 6 ++ (m.bytes.drop 0x16).take 10 ++ toLe q 4 ++ m.bytes.drop 0x24
      let net := s.peerNet m.toRank
      let s := s.send net m.toRank b
      { s with bridle := { (s.bridle.bump m.toRank) with
        tx := s.bridle.tx + 1, sentMsgs := s.bridle.sentMsgs ++ [{ m with net := net, seq := q, num := num, time := s.frame.tickTime, bytes := b, resend := false }]
        unanswered := s.bridle.unanswered.map fun d => if m.keys.contains (d.ctx, (d.pos, (d.layer, d.slot))) then { d with sent := some num } else d } }) s
    ((destsOf out).foldl (fun s k =>
      let l := (out.filter fun x => decide (x.1 = k.1) && decide (x.2.1 = k.2)).map fun x => x.2.2
      if k.1 = s.rank then l.foldl (fun s r => s.placeRec s.rank k.2 r s.groupFrame.toNat) s
      else (cutRecs l [] 0 192).foldl (fun s g => s.brdSend k.1 k.2 g) s) s).markOneFrame

end Sys2Proof.Machine
end

