-- ==== Sys2Proof/Machine/Reel.lean ====
section
/-! DEFINITION. The Reel: heat, moves between tiers, the fetch plan, the horizon, remote reads, refetches, KV repair (09 R209 to R213, R218 to R226; 10 R252; 14 R339). -/

namespace Sys2Proof.Machine

def State.modReel (s : State) (f : Reel → Reel) : State := { s with reel := f s.reel }

/-- Piece `i` of the object at offset `ofs` changes. -/
def State.modPiece (s : State) (ofs i : Nat) (f : Piece → Piece) : State := s.modObj ofs fun o => { o with pieces := modifyAt f o.pieces i }

/-- The module follows a T1 quota in 16ths: is the tenant's charge, `n` units more, above `k` of them? -/
def State.t1Above (s : State) (t k n : Nat) : Bool :=
  match s.loft.image with
  | none => false
  | some i => decide (k * i.quota t 1 < 16 * (s.t1Of t + n))

/-- A tenant over a quota starts no move (R212). -/
def State.overQuota (s : State) (t : Nat) : Bool := (upTo 4).any fun n => !s.fits t n 0

/-- The extent to which a context appends stays in T1 (10 R251). -/
def State.appending (s : State) (a : W64) : Bool :=
  s.library.contexts.any fun e => decide (e.2.state ≠ 0) && (e.2.extents.drop (e.2.length / 1024)).contains a

/-- Planned for the next frame (R210). -/
def State.isPlanned (s : State) (o : Obj) (i : Nat) : Bool :=
  (match o.pieces[i]? with | some p => decide (s.groupFrame.toNat < p.planned) | none => false) ||
  s.reel.plan.any fun f => decide (f.addr = s.addrOf o.ofs) && decide (f.piece = i)

def State.isMoving (s : State) (o : Obj) (i : Nat) : Bool := s.reel.moves.any fun m => decide (m.addr = s.addrOf o.ofs) && decide (m.piece = i)

/-- A move or copy begins; its destination is charged an upper bound (R212 step 1). -/
def State.addMove (s : State) (a : W64) (i : Nat) (k : MoveKind) (tenant charge : Nat) (ready : Bool) (left : List Nat := []) (copyId : Option Nat := none) : State :=
  s.modReel fun r => { r with moves := r.moves ++ [{ id := r.nextMove, addr := a, piece := i, kind := k, tenant := tenant, charge := charge, start := s.frame.num.toNat, ready := ready, left := left, copyId := copyId }], nextMove := r.nextMove + 1 }

/-- Is a member reachable: admitted, and over a queue pair on at least one network (R222, R223)? -/
def State.reaches (s : State) (r : Nat) : Bool := decide (r ≠ s.rank) && s.memberRank r && s.tether.qps.any fun q => decide (q.peer = some r)

/-- The other copy of a read-only object: of an expert home for shadow and shadow for home, of a model's shared weights the copy that this module holds (R223, R226). -/
def State.otherCopy (s : State) (a : W64) : Option W64 :=
  let holds := fun (b : W64) (n : Nat) => decide (b ≠ 0) && decide (rankOf a = rankOf b) && decide (ofsOf b ≤ ofsOf a) && decide (ofsOf a < ofsOf b + n)
  let expert := fun (e : Expert) =>
    if e.weights ≠ 0 ∧ e.weightsShadow ≠ 0 then
      (if holds e.weights e.bytes then some (e.weightsShadow + (a - e.weights)) else if holds e.weightsShadow e.bytes then some (e.weights + (a - e.weightsShadow)) else none)
    else none
  s.library.models.findSome? fun m =>
    match m.table.findSome? fun x => expert x.2 with
    | some b => some b
    | none => s.group.heldCopies.findSome? fun h => if h.kind = 5 ∧ h.key1 = m.id ∧ h.addr ≠ 0 ∧ h.addr ≠ m.shared ∧ holds m.shared h.len then some (h.addr + (a - m.shared)) else none

/-- The other copy, where this module or a member that can be reached holds it. -/
def State.liveCopy (s : State) (a : W64) : Option W64 := (s.otherCopy a).filter fun b => decide (rankOf b = s.rank) || s.reaches (rankOf b)

/-- Stripes of 128 KiB of piece `i` (R205). -/
def Obj.stripeCount (o : Obj) (i : Nat) : Nat := ceilDiv (o.pieceLen i) 131072

/-- The die that holds stripe `k` of slot group `g` (14 R312, R315). -/
def State.stripeDie (s : State) (g k : Nat) : Option Nat :=
  if s.mapAt (8 * g + k) = 0 then none else some (wordDie (8 * g + k) (s.mapAt (8 * g + k)))

/-- Can stripe `k` of piece `i` be read: its die reads now, with `plan` by the rules of the frame plan (01 R19; 02 R40, R41)? A stripe on a stopped controller comes from the object's other copy (01 R29). -/
def State.stripeReads (s : State) (o : Obj) (i : Nat) (plan : Bool) (k : Nat) : Bool :=
  match (o.pieces[i]?).bind fun p => p.group.bind fun g => s.stripeDie g k with
  | none => true
  | some d =>
    let c := s.ctrlAt (dieCtrl d)
    (if plan then s.diePlanned d else s.dieReads d) || ((c.inReset || !c.ready) && (s.liveCopy (s.addrOf (o.ofs + i * 1048576))).isSome)

/-- Stripes of a piece, of those in `l`, that are not read yet once those that can be read are. -/
def State.unread (s : State) (o : Obj) (i : Nat) (plan : Bool) (l : List Nat) : List Nat := l.filter fun k => !s.stripeReads o i plan k

/-- A piece starts on its way up from T2, where quotas allow (R210 to R212). -/
def State.startUp (s : State) (o : Obj) (i : Nat) : State :=
  match o.pieces[i]? with
  | none => s
  | some p =>
    let n := units (o.pieceLen i)
    if !p.inT2 || p.inT1 || s.isMoving o i || s.overQuota o.tenant || !s.fits o.tenant 1 n then s
    else s.addMove (s.addrOf o.ofs) i (if o.kind.readOnly then .t2copy else .t2move) o.tenant n false (s.unread o i true (upTo (o.stripeCount i)))

/-- A remote read-only piece starts on its way into T1, where quotas allow (R210 to R212). -/
def State.startRemote (s : State) (a : W64) (i : Nat) : State :=
  match s.remoteOwner (a + BitVec.ofNat 64 (i * 1048576)) with
  | none => s
  | some t =>
    if s.reel.moves.any (fun m => decide (m.addr = a) && decide (m.piece = i)) || (s.reel.cache.any fun c => decide (c.addr = a) && decide (c.piece = i) && c.held) || s.overQuota t || !s.fits t 1 16 then s
    else s.addMove a i .t3copy t 16 false

/-- The units of piece `i` in their containers, as stripes of slot group `g` (14 R312, R313). -/
def Obj.stripes (o : Obj) (i g : Nat) : List (Nat × (Option Container × Option Container)) :=
  let us := (upTo (units (o.pieceLen i))).map fun u => packUnit o.method o.fmt (o.read (i * 1048576 + u * 65536) 65536)
  (upTo (ceilDiv us.length 2)).map fun k => (8 * g + k, (us[2 * k]?, us[2 * k + 1]?))

/-- Marks of a piece's lines go with the copy that carried them (R225, R226). -/
def State.clearMarks (s : State) (o : Obj) (i : Nat) : State :=
  s.modObj o.ofs fun o => { o with marks := o.marks.filter fun m => !(decide (i * 1048576 ≤ m.1 * 64) && decide (m.1 * 64 < i * 1048576 + o.pieceLen i)) }

/-- A demotion that a mark holds back: refused, and the mark bites (R213, R227, R228). -/
def State.refuseDown (s : State) (o : Obj) (i : Nat) : State :=
  (s.modReel fun r => { r with demoteRefusedCnt := satInc r.demoteRefusedCnt }).biteAt 3 (s.addrOf (o.ofs + i * 1048576))

/-- A piece leaves T1: a copy is dropped, with its marks; a writable piece moves down, unless a mark holds it (R210, R213, R228; 14 R339). -/
def State.startDown (s : State) (o : Obj) (i : Nat) : State :=
  match o.pieces[i]? with
  | none => s
  | some p =>
    if !p.inT1 || s.isMoving o i || p.dirty || s.appending (s.addrOf o.ofs) || !o.kind.migrates then s
    else if o.kind.readOnly then (if p.inT2 then (s.modPiece o.ofs i fun p => { p with inT1 := false }).clearMarks o i else s)
    else if o.marked (i * 1048576) (o.pieceLen i) then s.refuseDown o i
    else
      let n := units (o.pieceLen i)
      if s.overQuota o.tenant || !s.fits o.tenant 2 n then s
      else match p.group with
        | some _ => s.addMove (s.addrOf o.ofs) i .down o.tenant n true
        | none => match s.pickGroups 1 with
          | [] => s
          | g :: _ =>
            let r := s.writePart 1 true (.reel (s.addrOf o.ofs) i) (o.stripes i g)
            if r.1 then (((r.2.useGroups [g]).modPiece o.ofs i fun p => { p with group := some g }).addMove (s.addrOf o.ofs) i .down o.tenant n false) else s

/-- A copy of a remote piece stands in T1 (R210, R212 step 4). -/
def State.cachePiece (s : State) (m : Move) : State :=
  let mine := fun (c : Cached) => decide (c.addr = m.addr) && decide (c.piece = m.piece)
  let planned := ((s.reel.plan.filter fun f => decide (f.addr = m.addr) && decide (f.piece = m.piece)).map (·.until_)).foldl max s.groupFrame.toNat
  let put := fun (c : Cached) => { c with held := true, len := m.len, data := m.data, marks := m.marks, planned := max c.planned planned }
  let l := s.reel.cache
  let l := if (l.any mine) = true then l.map (fun c => if mine c then put c else c) else l ++ [put { addr := m.addr, piece := m.piece, tenant := m.tenant }]
  s.modReel fun r => { r with cache := l }

/-- A cached copy of a remote piece leaves T1. -/
def State.dropCached (s : State) (a : W64) (i : Nat) : State :=
  s.modReel fun r => { r with cache := r.cache.map fun c => if c.addr = a ∧ c.piece = i then { c with held := false, len := 0, data := [], marks := [] } else c }

/-- A move is abandoned: its destination is released (R213). -/
def State.abortMove (s : State) (m : Move) (count : Bool) : State :=
  let s := s.modReel fun r => { r with moves := r.moves.filter fun x => !decide (x.id = m.id), abortCnt := if count then satInc r.abortCnt else r.abortCnt }
  match m.kind with
  | .down =>
    (match s.objFor m.addr with
    | none => s
    | some o => match o.pieces[m.piece]? with
      | none => s
      | some p => match p.group with
        | none => s
        | some g =>
          if o.kind = .index then s else
          let s := { s with media := { s.media with parts := s.media.parts.filter fun (x : WritePart) => !decide (x.for_ = WriteFor.reel m.addr m.piece) } }
          ((s.clearGroupMap g).freeGroupList [g]).modPiece o.ofs m.piece fun p => { p with group := none })
  | .t2copy => (match s.objFor m.addr with | some o => s.clearMarks o m.piece | none => s)
  | .toT3 => { s with group := { s.group with copies := s.group.copies.filter fun c => !decide (m.copyId = some c.copyId) || c.for_.isRefit } }
  | _ => s

/-- A move ends at a tick: readers switch, the source is released (R212 step 4). A mark that came to the piece on its way down stops it (R213, R229). -/
def State.commitMove (s : State) (m : Move) : State :=
  let held := decide (m.kind = .down) && (match s.objFor m.addr with | some o => o.marked (m.piece * 1048576) (o.pieceLen m.piece) | none => false)
  if held then (match s.objFor m.addr with | some o => (s.abortMove m true).refuseDown o m.piece | none => s) else
  let s := s.modReel fun r => { r with moves := r.moves.filter fun x => !decide (x.id = m.id), moveCnt := satInc r.moveCnt }
  if m.kind = .t3copy then s.cachePiece m else
  match s.objFor m.addr with
  | none => s
  | some o =>
    match o.pieces[m.piece]? with
    | none => s
    | some p =>
      match m.kind with
      | .t2copy => s.modPiece o.ofs m.piece fun p => { p with inT1 := true }
      | .t3copy => s
      | .toT3 => s
      | .t2move =>
        let s := s.modPiece o.ofs m.piece fun p => { p with inT1 := true, primT1 := true, inT2 := false, stored := 0, group := if o.kind = .index then p.group else none }
        if o.kind = .index then s else match p.group with
          | none => s
          | some g => (s.clearGroupMap g).freeGroupList [g]
      | .down => s.modPiece o.ofs m.piece fun p => { p with
          inT1 := false, primT1 := false, inT2 := true
          stored := sumBy (fun u => unitStored o.method o.fmt (o.read (m.piece * 1048576 + u * 65536) 65536)) (upTo (units (o.pieceLen m.piece))) }

/-- A write reaches an object: moves of the pieces that it touches are abandoned (R213), and an index piece comes to T1 and is dirty (14 R339). -/
def State.touchWrite (s : State) (a : W64) (n : Nat) : State :=
  match s.objFor a with
  | none => s
  | some o =>
    let lo := (ofsOf a - o.ofs) / 1048576
    let hi := (ofsOf a - o.ofs + n + 1048575) / 1048576
    let s := (s.reel.moves.filter fun m => decide (m.addr = s.addrOf o.ofs) && decide (lo ≤ m.piece) && decide (m.piece < hi)).foldl (fun s m => s.abortMove m true) s
    if o.kind = .index then
      s.modObj o.ofs fun o => { o with pieces := o.pieces.zipIdx.map fun x =>
        if lo ≤ x.2 ∧ x.2 < hi then { x.1 with inT1 := true, primT1 := true, inT2 := false, stored := 0, dirty := true } else x.1 }
    else s

/-- The heat of a piece after a frame in which `a` units of it were read (R209). -/
def heatNext (h a : Nat) : Nat := min 65535 (h - h / 16 + 16 * min a 255)

def State.heatTick (s : State) : State :=
  s.modReel fun r => { r with
    objects := r.objects.map fun o => if o.kind.migrates then { o with pieces := o.pieces.map fun p => { p with heat := heatNext p.heat p.reads, reads := 0 } } else o
    cache := r.cache.map fun c => { c with heat := heatNext c.heat c.reads, reads := 0 } }

/-- Every piece with its object. -/
def State.allPieces (s : State) : List (Obj × (Nat × Piece)) := s.reel.objects.foldl (fun l o => l ++ o.pieces.zipIdx.map fun x => (o, (x.2, x.1))) []

/-- A piece, or the copy of a remote one, leaves T1 (R210). -/
def State.sink (s : State) (x : W64 × Nat) : State :=
  match s.objFor x.1 with
  | some o => s.startDown o x.2
  | none => s.dropCached x.1 x.2

/-- Is a copy of a remote piece planned (R210, R221)? -/
def State.cachePlanned (s : State) (c : Cached) : Bool :=
  decide (s.groupFrame.toNat < c.planned) || s.reel.plan.any fun f => decide (f.addr = c.addr) && decide (f.piece = c.piece)

/-- What lies in T1 and may leave it, with its heat and its tenant (R210). -/
def State.movable (s : State) : List (Nat × (Nat × (W64 × Nat))) :=
  ((s.allPieces.filter fun x => x.1.kind.migrates && x.2.2.inT1 && !s.isPlanned x.1 x.2.1 && !s.isMoving x.1 x.2.1).map fun x => (x.2.2.heat, (x.1.tenant, (s.addrOf x.1.ofs, x.2.1)))) ++
  ((s.reel.cache.filter fun c => c.held && !s.cachePlanned c).map fun c => (c.heat, (c.tenant, (c.addr, c.piece))))

/-- Units of a tenant's T1 charge that moves under way take with them. -/
def State.leaving (s : State) (t : Nat) : Nat := sumBy (fun (m : Move) => if m.tenant = t ∧ m.kind = .down then m.charge else 0) s.reel.moves

/-- Pressure: the coldest unplanned pieces of a tenant go down until its charge, moves away apart, is at most 7/8 of Q_T1 (R210). -/
def State.relieve (s : State) (t : Nat) : State :=
  match s.loft.image with
  | none => s
  | some i =>
    if !s.t1Above t 15 0 then s else
      let l := sortBy (fun (a b : Nat × (Nat × (W64 × Nat))) => decide (a.1 < b.1)) (s.movable.filter fun x => decide (x.2.1 = t))
      l.foldl (fun s x => if 8 * (s.t1Of t - s.leaving t) ≤ 7 * i.quota t 1 then s else s.sink x.2.2) s

/-- The Reel moves for class D: not in the safe state, nor in the bare state. -/
def State.reelMoves (s : State) : Bool := !s.safe && !s.bare

/-- Pressure demotions at a tick (R210, R221). -/
def State.pressure (s : State) : State :=
  if !s.reelMoves then s else (match s.loft.image with | some i => i.tenants.map (fun (e : Tenant) => e.id) | none => []).foldl State.relieve s

/-- Promotions by heat (R210; R220 item 5). -/
def State.promote (s : State) : State :=
  if !s.reelMoves then s else
    let s := (s.allPieces.filter fun x => x.1.kind.migrates && x.2.2.inT2 && !x.2.2.inT1 && decide (256 ≤ x.2.2.heat)).foldl (fun s x =>
      if s.t1Above x.1.tenant 15 (units (x.1.pieceLen x.2.1)) then s else s.startUp x.1 x.2.1) s
    (s.reel.cache.filter fun c => !c.held && decide (256 ≤ c.heat)).foldl (fun (s : State) (c : Cached) => if s.t1Above c.tenant 15 16 then s else s.startRemote c.addr c.piece) s

/-- Cold pieces go down at a tick (R210). -/
def State.coldMoves (s : State) : State :=
  if !s.reelMoves then s else (s.movable.filter fun x => decide (x.1 < 16)).foldl (fun s x => s.sink x.2.2) s

/-- A fetch enters the plan, or joins the one that the plan holds for its piece (R220). -/
def State.enterFetch (s : State) (f : Fetch) : State :=
  let mine := fun (g : Fetch) => decide (g.addr = f.addr) && decide (g.piece = f.piece)
  let join := fun (g : Fetch) => { g with
    prio := min g.prio f.prio
    deadline := if f.prio < g.prio then f.deadline else if g.prio = f.prio then min g.deadline f.deadline else g.deadline
    until_ := max g.until_ f.until_ }
  let l := s.reel.plan
  let l := if (l.any mine) = true then l.map (fun g => if mine g then join g else g) else l ++ [f]
  s.modReel fun r => { r with plan := l }

/-- A demand read of a piece that waits for a die is counted when it is issued (R209). -/
def State.noteWait (s : State) (o : Obj) (i lo n : Nat) : State :=
  if (s.unread o i true (upTo (o.stripeCount i))).isEmpty then s else
    s.modPiece o.ofs i fun p => { p with reads := p.reads + unitsRead i lo n, early := p.early + unitsRead i lo n }

/-- Fetches for a run of bytes enter the plan: one for each piece not in T1 (R220, R221). -/
def State.planFetch (s : State) (prio deadline tenant until_ : Nat) (id : Option CmdId) (x : W64 × Nat) : State :=
  if rankOf x.1 = s.rank then
    match s.objFor x.1 with
    | none => s
    | some o =>
      let lo := ofsOf x.1 - o.ofs
      (piecesOf lo x.2).foldl (fun s i =>
        let s := s.modPiece o.ofs i fun p => { p with planned := max p.planned until_ }
        match o.pieces[i]? with
        | none => s
        | some p =>
          if p.inT1 then s else
            let s := if prio = 6 then s.noteWait o i lo x.2 else s
            s.enterFetch { prio := prio, deadline := deadline, addr := s.addrOf o.ofs, piece := i, tenant := tenant, until_ := until_ }) s
  else
    (piecesOf (ofsOf x.1) x.2).foldl (fun s i =>
      let mine := fun (c : Cached) => decide (c.addr = spaceOf x.1) && decide (c.piece = i) && c.held
      if s.reel.cache.any mine then s.modReel fun r => { r with cache := r.cache.map fun c => if mine c then { c with planned := max c.planned until_ } else c }
      else
        let s := s.modReel fun r => { r with remote := r.remote ++ [{ addr := spaceOf x.1, piece := i, id := id }] }
        s.enterFetch { prio := prio, deadline := deadline, addr := spaceOf x.1, piece := i, tenant := tenant, until_ := until_ }) s

/-- A stripe of a piece lies on a die whose target is one of `e` (02 R40). -/
def State.onTargets (s : State) (e : BitVec 8) (a : W64) (i : Nat) : Bool :=
  match (s.objFor a).bind fun o => (o.pieces[i]?).bind (·.group) with
  | none => false
  | some g => (upTo 8).any fun k => match s.stripeDie g k with | some d => bit e (dieTarget d) | none => false

/-- A stripe of the piece lies on a die that the next frame's row erases or programs (R220 item 1). -/
def State.spanNext (s : State) (f : Fetch) : Bool :=
  match s.rowNext with
  | some r => s.onTargets (r.eraseTgt ||| r.progTgt) f.addr f.piece
  | none => false

/-- A piece that a run reads lies in T2 alone, on a die of the span that runs, and no fetch brings it up: the pass that needs it is planned after the span (R221). -/
def State.spanHolds (s : State) (x : W64 × Nat) : Bool :=
  match s.objFor x.1 with
  | none => false
  | some o => (piecesOf (ofsOf x.1 - o.ofs) x.2).any fun i => match o.pieces[i]? with
    | none => false
    | some p => !p.inT1 && !s.isMoving o i && s.onTargets (s.eraseTgt ||| s.progTgt) x.1 i

/-- A fetch of the plan is issued: its piece starts on its way into T1, where quotas allow. -/
def State.issueFetch (s : State) (f : Fetch) : State :=
  match s.objFor f.addr with
  | some o => s.startUp o f.piece
  | none => s.startRemote f.addr f.piece

/-- The order of the plan (R220). -/
def Fetch.before (a b : Fetch) : Bool := decide (a.prio < b.prio) || (decide (a.prio = b.prio) && decide (a.prio ≤ 3) && decide (a.deadline < b.deadline))

/-- Moves up from T2 read what the frame lets them read (01 R19; 02 R40). -/
def State.readStripes (s : State) : State :=
  s.modReel fun r => { r with moves := r.moves.map fun m => if m.left.isEmpty then m else match s.objFor m.addr with | some o => { m with left := s.unread o m.piece true m.left } | none => m }

/-- The plan of the next frame is put in order and issued, promotions by heat between its items 4 and 6; a fetch of items 1 to 4 that an earlier frame left is late (R220, R221). -/
def State.planTick (s : State) : State :=
  let late := s.reel.plan.any fun f => decide (f.prio ≤ 4) && f.issued
  let s := s.readStripes.pressure
  let l := sortBy Fetch.before (s.reel.plan.map fun f => { f with prio := if s.spanNext f then 1 else f.prio, issued := true })
  let s := s.modReel fun r => { r with plan := l, prefetchLate := late }
  let s := ((l.filter fun f => decide (f.prio ≤ 4)).foldl State.issueFetch s).promote
  (l.filter fun f => decide (4 < f.prio)).foldl State.issueFetch s

/-- Is a member declared failed? -/
def State.declaredFailed (s : State) (r : Nat) : Bool := s.group.failed.contains r

/-- A run lies in a copy that T0 holds. -/
def State.inT0 (s : State) (a : W64) (n : Nat) : Bool :=
  s.clusters.any fun k => k.copies.any fun x => x.present && decide (rankOf x.src = rankOf a) && decide (ofsOf x.src ≤ ofsOf a) && decide (ofsOf a + n ≤ ofsOf x.src + x.len)

/-- A piece within the prefetch horizon of a contract (R222). -/
def State.inHorizon (s : State) (horizon : Nat) (x : W64 × Nat) : Bool :=
  s.inT0 x.1 x.2 ||
  if rankOf x.1 = s.rank then
    match s.objFor x.1 with
    | none => false
    | some o => (piecesOf (ofsOf x.1 - o.ofs) x.2).all fun i => match o.pieces[i]? with | some p => p.inT1 || (p.inT2 && decide (1 ≤ horizon)) | none => false
  else
    (piecesOf (ofsOf x.1) x.2).all fun i =>
      (s.reel.cache.any fun c => c.held && decide (c.addr = spaceOf x.1) && decide (c.piece = i)) || (decide (2 ≤ horizon) && s.reaches (rankOf x.1) && !s.declaredFailed (rankOf x.1))

/-- The first tick after a class A request's admission: its pieces against the horizon (R222). -/
def State.horizonTick (s : State) : State :=
  s.sched.requests.foldl (fun s r =>
    if r.placed then s else
      let h := match s.loft.image with | none => 0 | some i => match i.contracts.find? fun k => decide (k.id = r.contract) with | some k => k.horizon | none => 0
      let miss := decide (r.cls = 0) && r.pieces.any fun x => !s.inHorizon h x
      let s := if miss && !r.horizonMiss then s.modReel fun x => { x with horizonCnt := satInc x.horizonCnt } else s
      { s with sched := { s.sched with requests := s.sched.requests.map fun q => if q.id = r.id then { q with placed := true, horizonMiss := q.horizonMiss || miss } else q } }) s

/-- A T3 read leaves the list, and its fetch the plan. -/
def State.dropRemote (s : State) (x : RemoteRead) : State :=
  s.modReel fun r => { r with
    remote := r.remote.filter fun y => !decide (y = x)
    plan := r.plan.filter fun f => !(decide (f.addr = x.addr) && decide (f.piece = x.piece)) }

/-- T3 reads at a tick: one whose holder cannot be reached goes to the other copy of its piece, waits for it, or, with none and the holder declared failed, fails its command (R223). -/
def State.remoteTick (s : State) : State :=
  s.reel.remote.foldl (fun s x =>
    let gone := s.declaredFailed (rankOf x.addr)
    if !gone && s.reaches (rankOf x.addr) then s else
      let a := x.addr + BitVec.ofNat 64 (x.piece * 1048576)
      match s.liveCopy a with
      | some b =>
        let f := s.reel.plan.find? fun f => decide (f.addr = x.addr) && decide (f.piece = x.piece)
        (s.dropRemote x).planFetch ((f.map (·.prio)).getD 6) ((f.map (·.deadline)).getD 0) ((f.map (·.tenant)).getD 0) ((f.map (·.until_)).getD s.groupFrame.toNat) x.id (b, 1)
      | none =>
        if !gone || (s.otherCopy a).isSome then s else
          let s := (s.dropRemote x).modReel fun r => { r with remoteFailCnt := satInc r.remoteFailCnt }
          match x.id with
          | none => s
          | some id => match s.requestOf id with
            | some _ => s.finishRequest id stDataTransfer
            | none => s.complete id stDataTransfer) s

/-- Moves down whose pieces took a mark before their commit are abandoned (R213, R229). -/
def State.stopMarked (s : State) : State :=
  (s.reel.moves.filter fun m => decide (m.kind = .down) && !m.ready).foldl (fun s m => match s.objFor m.addr with
    | none => s
    | some o => if o.marked (m.piece * 1048576) (o.pieceLen m.piece) then (s.abortMove m true).refuseDown o m.piece else s) s

/-- What the Reel does at a tick (R34 step 7, R209, R210, R212, R220, R222, R223). -/
def State.reelTick (s : State) : State :=
  let s := ((s.reel.moves.filter (·.ready)).foldl State.commitMove s).stopMarked
  ((((s.heatTick).horizonTick).remoteTick).planTick).coldMoves

/-- Units of a piece that its fetch from T2 finds uncorrectable: those whose containers fail to decode, `bad`, and those that the map holds LOST; of a read-only piece not where its other copy serves them (R218, R224, R226; 14 R338). -/
def State.badUnits (s : State) (o : Obj) (i : Nat) (bad : List Nat) : List Nat :=
  let lost := match (o.pieces[i]?).bind (·.group) with
    | none => []
    | some g => if o.kind.readOnly && (s.liveCopy (s.addrOf (o.ofs + i * 1048576))).isSome then [] else (upTo (units (o.pieceLen i))).filter fun u => s.slotLost (16 * g + u)
  (bad ++ lost).eraseDups

/-- Units of a piece that were read from flash past the first step of the ladder (13 R310): unit and step. Answers those that no step decoded. -/
def State.fetchSteps (s : State) (o : Obj) (i : Nat) (l : List (Nat × Fin 6)) : List Nat × State :=
  match (o.pieces[i]?).bind (·.group) with
  | none => ([], s)
  | some g => l.foldl (fun (a : List Nat × State) x =>
      let t := (16 * g + x.1) / 2
      match a.2.recordAt t (a.2.mapAt t) with
      | none => a
      | some r =>
        if 16 ≤ x.1 ∨ !a.2.ladderOk r.die r.block x.2.val then a else
          let s := a.2.ladder r.die r.block x.2.val
          if x.2.val = 5 then (a.1 ++ [x.1], s) else (a.1, if x.2.val = 0 then s else s.corrected)) ([], s)

/-- A fetch of a piece of this module ends, once every stripe of it is read (01 R19): its bad units are marked, and the move is ready (R212 step 3, R218, R224). Of a remote piece the holder has delivered the bytes `data`, with the lines `marks` marked and the units `bad` undecodable: its copy is ready, where one is made (R210, R224). -/
def fetchEnds (a : W64) (i : Nat) (bad : List Nat) (steps : List (Nat × Fin 6)) (data : Bytes) (marks : List Nat) (s : State) : State :=
  let drop := fun (s : State) => s.modReel fun r => { r with
    plan := r.plan.filter fun f => !(decide (f.addr = a) && decide (f.piece = i))
    remote := r.remote.filter fun x => !(decide (x.addr = a) && decide (x.piece = i)) }
  if rankOf a = s.rank then
    match s.objFor a with
    | none => s
    | some o =>
      if s.reel.moves.any fun m => decide (m.addr = a) && decide (m.piece = i) && m.kind.toT1 && !m.ready && (s.unread o i false m.left).isEmpty then
        let r := s.fetchSteps o i steps
        let s := (r.2.badUnits o i (bad ++ r.1)).foldl (fun s u => s.markObj (a + BitVec.ofNat 64 (i * 1048576 + u * 65536)) (min 65536 (o.pieceLen i - u * 65536))) s
        (drop s).modReel fun r => { r with moves := r.moves.map fun m => if m.addr = a ∧ m.piece = i ∧ m.kind.toT1 then { m with ready := true } else m }
      else s
  else
    let lines := marks ++ bad.foldl (fun (l : List Nat) u => l ++ (upTo 1024).map fun j => 1024 * u + j) []
    (drop s).modReel fun r => { r with moves := r.moves.map fun m => if m.addr = a ∧ m.piece = i ∧ m.kind = .t3copy then { m with ready := true, len := data.length, data := cellsOf 0 data, marks := lines } else m }

/-- A die is failed: moves whose destination lies on it are abandoned, then its data is served from copies or lost (R213; 14 R338). -/
def State.removeDie (s : State) (d : Nat) : State :=
  let hit := fun (m : Move) => decide (m.kind = .down) && s.media.parts.any fun p => decide (p.for_ = .reel m.addr m.piece) && (s.partRecords p).any fun r => decide (r.die = d)
  ((s.reel.moves.filter hit).foldl (fun (s : State) m => s.abortMove m true) s).failDie d

/-- A T3 holder that does not acknowledge within 64 frames: the move is abandoned (R213). -/
def moveTimeout (mv : Nat) (s : State) : State :=
  match s.reel.moves.find? fun m => decide (m.id = mv) with
  | none => s
  | some m => if m.start + 64 ≤ s.frame.num.toNat ∧ !m.ready then s.abortMove m true else s

/-- A marked line of a read-only object is fetched from the next source that is whole, and the damaged copy is rewritten (R226). -/
def refetchUnit (a : W64) (t1Ok t2Ok t3Ok : Bool) (s : State) : State :=
  match s.objFor a with
  | none => s
  | some o =>
    let rel := (ofsOf a - o.ofs) / 65536 * 65536
    match o.pieces[rel / 1048576]? with
    | none => s
    | some p =>
      let from3 := t3Ok && (s.otherCopy a).isSome
      if o.kind.readOnly && o.marked rel 65536 && ((t1Ok && p.inT1) || (t2Ok && p.inT2) || from3) then
        let s := s.modObj o.ofs fun o => { o with marks := o.marks.filter fun m => !(decide (rel ≤ m.1 * 64) && decide (m.1 * 64 < rel + 65536)) }
        let s := (s.modReel fun r => { r with refetchCnt := satInc r.refetchCnt }).corrected
        -- the T2 container was uncorrectable: a fresh one is written
        if !(t1Ok && p.inT1) && !t2Ok && p.inT2 then
          match p.group with
          | none => s
          | some g => (s.writePart 1 true (.reel (s.addrOf o.ofs) (rel / 1048576)) ((o.stripes (rel / 1048576) g).filter fun x => decide (x.1 = 8 * g + rel % 1048576 / 131072))).2
        else s
      else s

/-- A marked KV unit is refetched from the buddy's journal when every token of it lies below JOURNALED; its marks clear (10 R252). Unit `u` counts 64 KiB units over the context's extents. -/
def kvRepair (h : W32) (u : Nat) (s : State) : State :=
  match s.ctxIndex h with
  | none => s
  | some i =>
    let c := s.ctxAt i
    match s.modelFor c.model with
    | none => s
    | some m =>
      let per := m.extentLen / 65536
      let x := u / max 1 per
      let rel := u % max 1 per * 65536
      -- the highest token that a byte of the unit belongs to
      let top := 1024 * x + min 1023 ((rel % max 1 m.kvS + 65535) / max 1 m.kvB)
      match c.extents[x]? with
      | none => s
      | some a =>
        if s.markedObj (a + BitVec.ofNat 64 rel) 65536 && decide (c.buddy ≠ 0xFFFF) && decide (top < c.journaled) then
          match s.objFor a with
          | none => s
          | some o =>
            let s := s.modObj o.ofs fun o => { o with marks := o.marks.filter fun k => !(decide (rel ≤ k.1 * 64) && decide (k.1 * 64 < rel + 65536)) }
            { s with bridle := { s.bridle with kvRepairCnt := satInc s.bridle.kvRepairCnt } }
        else s

/-- Ended write parts of the Reel make their moves ready (R212 step 3). -/
def State.reelParts (s : State) (l : List WritePart) : State :=
  l.foldl (fun s p => match p.for_ with
    | .reel a i => s.modReel fun r => { r with moves := r.moves.map fun m => if m.addr = a ∧ m.piece = i ∧ m.kind = .down then { m with ready := true } else m }
    | _ => s) s

end Sys2Proof.Machine
end

