-- ==== Sys2Proof/Machine/Passes.lean ====
section
/-! DEFINITION. Passes: submission and its check, program load, eligibility, start, commit, discard and re-run, reload, watchdog, spawn, completion records, cluster and Spar resets (07 R156 to R179; 05 R118, R125, R126, R128; 06 R153; 08 R191 to R193). -/

namespace Sys2Proof.Machine

/-- STATUS of a completion record (R179). -/
def psCommitted : Nat := 0
def psFaulted : Nat := 1
def psWatchdog : Nat := 2
def psRefusedDesc : Nat := 3
def psRefusedProg : Nat := 4
def psSparReset : Nat := 5
def psDropped : Nat := 6

/-- Overlap of two range entries of one space (R160). -/
def RangeEntry.overlaps (a b : RangeEntry) : Bool :=
  decide (a.space = b.space) && decide (a.tile = b.tile) && decide (a.base < b.base + b.len) && decide (b.base < a.base + a.len)

/-- The conditions of a range entry (R159, R160, 08 R190). `raw` is the entry, `stage` the smallest staging below the scale store of the clusters named. -/
def rangeOk (raw : Nat) (stage : Nat) : Bool :=
  let g := readRange raw
  if !g.valid then decide (raw = 0)
  else decide (raw % 16 = 0) && decide (g.space ≤ 2) && (decide (g.space = 2) || decide (g.tile = 0)) && decide (1 ≤ g.len) &&
    decide (g.base + g.len ≤ (match g.space with | 0 => 4194304 | 1 => stage | _ => 4096))

/-- FUSION and STAGE_MIB that the image in force sets on a cluster: a structure that waits for the running pass to end is the image's (R160; 03 R79). -/
def Cluster.shape (k : Cluster) : Nat × Nat := match k.next with | some c => (c.fusion, c.stageMib) | none => (k.fusion, k.stageMib)

/-- Does an address of a descriptor name `n` bytes of the tenant's object: on this module its directory says, elsewhere the rank is a member's (09 R207)? -/
def State.addrNames (s : State) (a : W64) (n tenant : Nat) : Bool := if rankOf a = s.rank then s.objNames a n tenant else s.memberRank (rankOf a)

/-- Staging below the scale store of the cluster with the smallest STAGE_MIB among those named (R160). -/
def State.stageLimit (s : State) (d : PassDesc) : Nat :=
  match (upTo 8).filter d.onCluster with
  | [] => 0
  | c :: r => r.foldl (fun m x => min m ((s.clusterAt x).shape.2 * 1048576 - 0x40000)) ((s.clusterAt c).shape.2 * 1048576 - 0x40000)

/-- DETAIL of every condition of R160 that the descriptor fails. `i` is the image in force. -/
def State.descFails (s : State) (b : Bytes) (firmware : Bool) (i : Option Image) : List Nat :=
  let d := readDesc b
  let ctl := leNat b 0 8
  let chk := fun (ok : Bool) (o : Nat) => if ok then [] else [o]
  let ks := match i with | none => [] | some i => i.contracts
  let stage := s.stageLimit d
  let g := fun r => readRange (leNat b (0x40 + 8 * r) 8)
  let ok := fun r => rangeOk (leNat b (0x40 + 8 * r) 8) stage
  chk (decide (d.version = 1)) 7 ++ chk (decide (d.cls ≠ 3) || firmware) 6 ++
  chk (if d.cls = 0 then (ks[d.owner]?).isSome else decide (d.owner = 0)) 5 ++
  chk (decide (d.clusters ≠ 0)) 4 ++
  chk (decide (ctl / 2 ^ 24 % 4 = 0)) 3 ++
  chk (if d.vecOnly then decide (d.units = 0) && decide (d.fusion = 0)
       else decide (d.fusion ≤ 2) && ((upTo 8).any fun c => d.onCluster c && decide ((s.clusterAt c).shape.1 = d.fusion)) && decide (d.units < 2 ^ unitsOf d.fusion)) 3 ++
  chk (between 1 d.maxUs 200 && (decide (d.cls ≠ 0) || match ks[d.owner]? with | some k => decide (d.maxUs ≤ k.maxPassUs) | none => true)) 2 ++
  chk (decide (ctl / 2 ^ 12 % 16 = 0)) 1 ++ chk (decide (1 ≤ d.progLen)) 0 ++
  chk (decide (d.progAddr.toNat % 8 = 0) && s.addrNames d.progAddr (8 * d.progLen) d.tenant) 0x10 ++
  chk (if d.cls ≤ 1 then decide (d.deadline ≠ 0) else decide (d.deadline = 0)) 0x18 ++ chk (zeros b 0x1E 2) 0x1E ++ chk (zeros b 0x24 4) 0x24 ++
  chk (decide (d.cmplAddr.toNat % 32 = 0) && s.addrNames d.cmplAddr 32 d.tenant) 0x28 ++ chk (zeros b 0x30 16) 0x30 ++
  (upTo 8).foldl (fun l r => l ++ chk (ok r && (!(g r).valid || (upTo r).all fun q => !(ok q) || !(g q).valid || !((g r).out || (g q).out) || !(g r).overlaps (g q))) (0x40 + 8 * r)) []

/-- The lowest failing offset (R160). -/
def lowest : List Nat → Option Nat
  | [] => none
  | x :: r => some (r.foldl min x)

/-- Does the footprint fit the tenant's Q_T0 (09 R214)? -/
def State.t0Fits (s : State) (d : PassDesc) : Bool :=
  match s.loft.image with
  | none => false
  | some i => decide (d.footprint ≤ i.quota d.tenant 0)

/-- A completion record (R179). -/
structure Record where
  status : Nat
  rerun  : Bool := false
  ev     : RunEvents := {}
  missed : Bool := false
  reload : Bool := false
  frame  : Nat := 0
  us     : Nat := 0
  cycles : Nat := 0
  spawns : Nat := 0
  detail : Nat := 0
  deriving DecidableEq, Repr

def Record.flags (r : Record) : Nat :=
  b2n r.rerun + 2 * b2n r.ev.empty + 4 * b2n r.ev.perm + 8 * b2n r.ev.poison + 16 * b2n r.ev.late + 32 * b2n r.missed + 64 * b2n r.ev.overrun + 128 * b2n r.ev.frozen +
  256 * b2n r.ev.cvtOvf + 512 * b2n r.ev.cvtNan + 1024 * b2n r.ev.sat + 2048 * b2n r.ev.spawnRefused + 4096 * b2n r.reload

def Record.bytes (r : Record) (passId : Nat) : Bytes :=
  toLe passId 4 ++ toLe r.status 2 ++ toLe r.flags 2 ++ toLe r.frame 6 ++ toLe r.us 2 ++ toLe r.cycles 4 ++ toLe r.ev.overrunUs 2 ++ toLe r.spawns 1 ++ toLe 0 1 ++ toLe r.detail 4 ++ toLe 0 4

/-- The record is written once, to CMPL_ADDR (R179). -/
def State.writeRecord (s : State) (d : PassDesc) (r : Record) : State := s.writeObj d.cmplAddr (r.bytes d.passId)

def State.entry (s : State) (uid : Nat) : Option PassEntry := s.sched.entries.find? fun e => decide (e.uid = uid)
def State.modEntry (s : State) (uid : Nat) (f : PassEntry → PassEntry) : State :=
  { s with sched := { s.sched with entries := s.sched.entries.map fun e => if e.uid = uid then f e else e } }

/-- Lines of a run of an object, by number within the run, that are marked. -/
def State.markedIn (s : State) (a : W64) (n : Nat) : List Nat := (upTo (ceilDiv n 64)).filter fun j => s.markedObj (a + BitVec.ofNat 64 (64 * j)) (min 64 (n - 64 * j))

/-- The unit of 64 KiB of an object that byte `rel` lies in is fetched from a source that is whole: its marks go, and the refetch is counted (09 R226). -/
def State.refetched (s : State) (o : Obj) (rel : Nat) : State :=
  let u := rel / 65536 * 65536
  let s := s.modObj o.ofs fun o => { o with marks := o.marks.filter fun m => !(decide (u ≤ m.1 * 64) && decide (m.1 * 64 < u + 65536)) }
  (s.modReel fun r => { r with refetchCnt := satInc r.refetchCnt }).corrected

/-- A run of a read-only object is read for T0: the unit of each of the lines `lines` of the run is refetched, once, but for units where every source fails: the lines `bad` name them (09 R226). -/
def State.refetchLines (s : State) (a : W64) (lines bad : List Nat) : State :=
  match s.objFor a with
  | none => s
  | some o =>
    if !o.kind.readOnly then s else
      let unit := fun j => (ofsOf a - o.ofs + 64 * j) / 65536
      ((lines.map unit).eraseDups.filter fun u => !(bad.map unit).contains u).foldl (fun s u => s.refetched o (65536 * u)) s

/-- Lines of a run that HBM cannot correct keep a mark: every later read returns them marked (R224, R225). -/
def State.markLines (s : State) (a : W64) (n : Nat) (l : List Nat) : State := (l.filter fun j => decide (64 * j < n)).foldl (fun s j => s.markObj (a + BitVec.ofNat 64 (64 * j)) 64) s

/-- What a write brings from an object of this module: its bytes and its marked lines; of a read-only object only the lines for which no source is whole. Of a remote piece that T1 holds likewise; what T1 does not hold comes as the holder delivered it. `spoilt` says that the Reel's own staging failed parity (09 R209, R210, R224 to R226; 18 R438). -/
def State.sourced (s : State) (f : Fill) (spoilt : Bool) : Fill × State :=
  match (if f.src = 0 then none else s.objFor f.src) with
  | none =>
    let n := f.data.length
    let f : Fill := if (s.cachedFor f.src n).isSome then { f with data := s.readObj f.src n, marks := s.markedIn f.src n } else f
    let q : State := if f.src = (0 : W64) then s else s.noteRead f.src n
    ({ f with marks := if spoilt then 0 :: f.marks else f.marks }, q)
  | some o =>
    let n := f.data.length
    let s := s.markLines f.src n f.ecc
    let lines := s.markedIn f.src n ++ (if spoilt then [0] else [])
    let s := (s.noteRead f.src n).refetchLines f.src lines f.marks
    let left := s.markedIn f.src n
    ({ f with data := s.readObj f.src n, marks := if spoilt && (!o.kind.readOnly || f.marks.contains 0) then 0 :: left else left }, s)

/-- A tenant's T0 charge grows or falls by a pass's footprint (09 R206, R214). -/
def State.chargeT0 (s : State) (t n : Nat) : State := { s with reel := { s.reel with t0 := Sparse.set 0 s.reel.t0 t (Sparse.get 0 s.reel.t0 t + n) } }
def State.releaseT0 (s : State) (t n : Nat) : State := { s with reel := { s.reel with t0 := Sparse.set 0 s.reel.t0 t (Sparse.get 0 s.reel.t0 t - n) } }

/-- Words or bytes that `n` bytes take in SPACE `sp`. -/
def spanIn (sp n : Nat) : Nat := if sp = 2 then ceilDiv n 512 else n

/-- Does a run of a store meet a range entry? -/
def RangeEntry.meets (g : RangeEntry) (sp tile base n : Nat) : Bool :=
  g.valid && decide (g.space = sp) && (decide (sp ≠ 2) || decide (g.tile = tile)) && decide (g.base < base + n) && decide (base < g.base + g.len)

/-- Does a fill reach a range of the pass: with `pins`, one that it pins, an input range (R170)? -/
def fillMeets (d : PassDesc) (pins : Bool) (f : Fill) : Bool :=
  d.ranges.any fun g => !(pins && g.out) && g.meets f.space.toNat f.tile.val f.base (spanIn f.space.toNat f.data.length)

/-- Does a copy in T0 lie in a range of the pass? -/
def T0Copy.meets (x : T0Copy) (d : PassDesc) (pins : Bool) : Bool := d.ranges.any fun g => !(pins && g.out) && g.meets x.space x.tile x.base (spanIn x.space x.len)

/-- Do two copies share words? -/
def T0Copy.overlaps (x y : T0Copy) : Bool :=
  decide (x.space = y.space) && (decide (x.space ≠ 2) || decide (x.tile = y.tile)) && decide (x.base < y.base + spanIn y.space y.len) && decide (y.base < x.base + spanIn x.space x.len)

/-- The passes whose pins stand on cluster `c` (R170). -/
def State.pinnedOn (s : State) (c : Nat) : List PassEntry := s.sched.entries.filter fun e => decide (e.pinned = some c)

/-- Is a write into the cluster's stores held: it reaches words that a pass has pinned (05 R118), or the scale store that the running pass reads (08 R191)? -/
def State.fillHeld (s : State) (c : Nat) (f : Fill) : Bool :=
  (s.pinnedOn c).any fun e => fillMeets e.d true f || (decide (f.space = 1) && decide (e.binding ≠ 0) && decide ((s.clusterAt c).sctBase < f.base + f.data.length))

/-- The copy that a fill leaves, where it comes from an object of this module. -/
def State.t0CopyOf (s : State) (c : Nat) (f : Fill) : Option T0Copy :=
  if f.src = 0 then none
  else match s.objFor f.src with
    | none => none
    | some o =>
      let x : T0Copy := { space := f.space.toNat, tile := f.tile.val, base := f.base, len := f.data.length, src := f.src, tenant := o.tenant }
      some { x with pinned := (s.pinnedOn c).any fun e => x.meets e.d true }

/-- A Reel write reaches a cluster's stores, and its end is reported (R180). -/
def State.applyFill (s : State) (c : Nat) (f : Fill) : State :=
  let x := s.t0CopyOf c f
  let s := s.writeSpace c f.space.toNat f.tile.val (if f.space = 2 then 512 * f.base else f.base) (f.data.zipIdx.map fun x => (x.1, f.marks.contains (x.2 / 64)))
  let gone : T0Copy := { space := f.space.toNat, tile := f.tile.val, base := f.base, len := f.data.length, src := 0, tenant := 0 }
  (s.modCluster c fun k => { k with copies := (k.copies.filter fun y => !y.overlaps gone) ++ x.toList }).raise c 18

/-- Copies follow the pins: those in a pinned pass's ranges are counted through it (09 R206). -/
def State.pinCopies (s : State) (c : Nat) : State :=
  let l := s.pinnedOn c
  s.modCluster c fun k => { k with copies := k.copies.map fun x => { x with pinned := l.any fun e => x.meets e.d true } }

/-- Writes that were held are made when no pinned pass reads their words any more (05 R118). -/
def State.releaseFills (s : State) (c : Nat) : State :=
  let l := (s.clusterAt c).heldFills
  let s' := (s.modCluster c fun k => { k with heldFills := k.heldFills.filter (s.fillHeld c) }).pinCopies c
  (l.filter fun f => !s.fillHeld c f).foldl (fun s f => s.applyFill c f) s'

/-- The entry leaves the dispatcher, and with it its pins (R170, R171 step 5). -/
def State.dropEntry (s : State) (uid : Nat) : State :=
  let s' : State := { s with sched := { s.sched with entries := s.sched.entries.filter fun e => !decide (e.uid = uid) } }
  match s.entry uid with
  | none => s'
  | some e => match e.pinned with
    | none => s'
    | some c => (s'.releaseT0 e.d.tenant e.d.footprint).releaseFills c

/-- The command that a pass serves completes with a status (15 R358, R359). -/
def State.failRequest (s : State) (p : PassSrc) (st : Status) (dw0 dw1 : W32) : State :=
  match p.handle, p.request with
  | some h, some id =>
    (match s.ctxIndex h with
     | some i => (match (s.ctxAt i).batches.find? fun b => decide (b.id = id) with
       | some b => ({ (s.modCtx i fun c => { c with batches := c.batches.filter fun x => !decide (x.id = id) }) with draws := s.draws }).finishRequest b.id st dw0 [] dw1
       | none => s)
     | none => s)
  | none, some id => s.finishRequest id st dw0 [] dw1
  | _, none => s

/-- A command whose pass is refused completes with Invalid Field in Command (15 R358, R359). -/
def State.refuseRequest (s : State) (e : PassEntry) (status detail : Nat) : State :=
  s.failRequest e.src stInvalidField (BitVec.ofNat 32 detail) (BitVec.ofNat 32 (0x400 + status * 65536))

/-- A refused pass: its record at once, and the counts (R160, R165, R185). -/
def State.refusePass (s : State) (e : PassEntry) (status detail : Nat) : State :=
  let s := (s.dropEntry e.uid).writeRecord e.d { status := status, detail := detail }
  ({ s with sched := { s.sched with refusedCnt := satInc s.sched.refusedCnt, lastRefused := BitVec.ofNat 32 e.d.passId } }).refuseRequest e status detail

/-- A pass dropped (R156; 09 R214). -/
def State.dropPass (s : State) (e : PassEntry) : State :=
  let s := (s.dropEntry e.uid).writeRecord e.d { status := psDropped }
  { s with sched := { s.sched with droppedCnt := satInc s.sched.droppedCnt } }

/-- Passes queued and held, spawns of running passes included (R166). -/
def State.passCount (s : State) : Nat :=
  (s.sched.entries.filter fun e => match e.phase with | .running _ => false | _ => true).length + sumBy (fun (k : Cluster) => match k.seq.run with | some r => r.spawns.length | none => 0) s.clusters

/-- A place that a descriptor names is allocated at its address, piece by piece (09 R205): a work buffer in T1, a program in T2 with its copy in T1 (R208). The first value says that the tenant's quotas and the media have room (R211). -/
def State.placeAt (s : State) (tenant : Nat) (program : Bool) (a : W64) (n : Nat) : Bool × State :=
  let ofs := ofsOf a / 1048576 * 1048576
  let len := objLen (ofsOf a % 1048576 + n)
  let c := pieceCount len
  if rankOf a ≠ s.rank ∨ s.reel.objects.any (fun q => decide (q.ofs < ofs + len) && decide (ofs < q.ofs + q.len)) then (true, s)
  else if !s.fits tenant 1 (units len) || (program && (!s.fits tenant 2 (units len) || decide (s.freeGroups < c))) then (false, s)
  else
    let g := if program then s.pickGroups c else []
    let ps : List Piece := (upTo c).map fun i => if program then { inT1 := true, inT2 := true, group := g[i]?, stored := min 1048576 (len - i * 1048576) } else { inT1 := true, primT1 := true }
    let o : Obj := { ofs := ofs, len := len, tenant := tenant, kind := if program then .program else .work, pieces := ps }
    (true, ({ s with reel := { s.reel with objects := s.reel.objects ++ [o], nextOfs := max s.reel.nextOfs (ofs + c * 1048576) } }).useGroups g)

/-- The containers of an object in T2 are written (R212). -/
def State.storePieces (s : State) (a : W64) : State :=
  match s.objFor a with
  | none => s
  | some o => o.pieces.zipIdx.foldl (fun s x => match x.1.group with | some g => (s.writePart 1 true (.reel (s.addrOf o.ofs) x.2) (o.stripes x.2 g)).2 | none => s) s

/-- The Gondola allocates with a submission the places that the descriptor names: the record's work buffer, and the program where no object lies there (09 R205, R208, R211). A program of a loaded model is never written. -/
def State.stagePass (s : State) (d : PassDesc) (prog : List W64) : Bool × State :=
  let words := prog.foldl (fun b w => b ++ toLe w.toNat 8) []
  let r := s.placeAt d.tenant false d.cmplAddr 32
  let fresh := (r.2.objFor d.progAddr).isNone
  let q := r.2.placeAt d.tenant true d.progAddr (8 * d.progLen)
  if !r.1 || !q.1 then (false, s)
  else if fresh then (true, (q.2.writeObj d.progAddr words).storePieces d.progAddr)
  else match q.2.objFor d.progAddr with
    | some o => (true, if o.kind.readOnly then q.2 else q.2.writeObj d.progAddr words)
    | none => (true, q.2)

/-- May passes be submitted and started at all: an image is in force, and neither the safe state nor a Spar reset holds the dispatcher (18 R431, 07 R175)? -/
def State.dispatching (s : State) : Bool := decide (s.phase = .up) && !s.bare && !s.safe && !s.sparReset

/-- The model that a pass belongs to, 0 where it belongs to none (11 R262). -/
def State.srcModel (s : State) (p : PassSrc) : W64 :=
  match p.handle with
  | some h => (match s.ctxIndex h with | some i => (s.ctxAt i).model | none => 0)
  | none => match p.bridle.findSome? fun o => match o with | .giveBack m .. => some m | .route m .. => some m with
    | some m => m
    | none => ((s.search.jobs.find? fun (j : EmbedJob) => p.request = some j.id).map (·.model)).getD 0
def State.passModel (s : State) (e : PassEntry) : W64 := s.srcModel e.src

/-- The scale table that the Gondola binds a pass to: a refit's table, the serving table of the pass's model, none for firmware passes (08 R189). -/
def State.bindingOf (s : State) (p : PassSrc) (cls : Nat) : W64 :=
  if p.firmware || decide (cls = 3) then 0
  else match s.library.refits.find? fun (j : Refit) => p.request = some j.id with
    | some j => ((s.modelFor j.model).map (·.refitScale)).getD 0
    | none => ((s.modelFor (s.srcModel p)).map (·.serveScale)).getD 0

/-- FRAME of the message whose record a pass answers for another module (11 R264). -/
def State.servesFrame (s : State) (p : PassSrc) : Option Nat :=
  p.bridle.findSome? fun o => match o with
    | .giveBack model rank ctx pos layer expert slot .. =>
      if rank = s.rank then none
      else (s.bridle.arrived.find? fun a => decide (a.kind = 1) && decide (a.rank = rank) && decide (a.model = model) && decide (a.ctx = ctx) && decide (a.pos = pos) && decide (a.layer = layer) && decide (a.expert = expert) && decide (a.slot = slot)).map (·.frame)
    | _ => none

/-- The descriptor of a request's pass carries the request deadline less the stages that follow (11 R257); an expert pass for another module runs in class B, due in the frame after its message's (11 R264). -/
def State.dueDesc (s : State) (b : Bytes) (p : PassSrc) : Bytes :=
  match s.servesFrame p with
  | some f => setClassB b (f + 1)
  | none =>
  match p.request.bind s.requestOf with
  | none => b
  | some r => if r.cls.toNat ≤ 1 ∧ (readDesc b).cls = r.cls.toNat then b.take 0x18 ++ toLe (r.deadline - p.follow) 6 ++ b.drop 0x1E else b

/-- A pass is submitted (R160, R166; 08 R189; 09 R214; 11 R257). -/
def submitPass (b : Bytes) (prog : List W64) (src : PassSrc) (s : State) : State :=
  if !s.dispatching || decide (16384 ≤ s.passCount) then s else
    let b := s.dueDesc b src
    let d := readDesc b
    let q := if src.staged then s.stagePass d prog else (true, s)
    let s := q.2
    if !q.1 then (s.quotaRefused d.tenant).failRequest src stQuota 0 0 else
    let e : PassEntry := { uid := s.sched.nextUid, desc := b, prog := prog.take d.progLen, src := src, binding := s.bindingOf src d.cls }
    let s := { s with sched := { s.sched with nextUid := s.sched.nextUid + 1 } }
    let s := s.parWrite 0xB0 (parEntry e.uid) 64
    match lowest (s.descFails b src.firmware s.loft.image) with
    | some o => s.refusePass e psRefusedDesc o
    | none =>
      if s.t0Fits d then { s with sched := { s.sched with entries := s.sched.entries ++ [e] } }
      else s.dropPass e

/-- The checks of R160 and 09 R214 again: a pass that fails leaves the dispatcher. The first value says whether it stays. -/
def State.recheck (s : State) (e : PassEntry) : Bool × State :=
  match lowest (s.descFails e.desc e.src.firmware s.loft.image) with
  | some o => (false, s.refusePass e psRefusedDesc o)
  | none => if s.t0Fits e.d then (true, s) else (false, s.dropPass e)

/-- Spawns that a running pass holds meet a new image (R160, R178). -/
def State.recheckSpawns (s : State) (c : Nat) : State :=
  match (s.clusterAt c).seq.run with
  | none => s
  | some r => r.spawns.foldl (fun s e =>
      match s.recheck e with
      | (true, s) => s
      | (false, s) => s.modCluster c fun k => k.noteRun fun q => { q with spawns := q.spawns.filter fun x => !decide (x.uid = e.uid) }) s

/-- Queued and held passes meet a new image (R160). -/
def State.recheckPasses (s : State) : State :=
  let s := s.sched.entries.foldl (fun (s : State) e => match e.phase with | .running _ => s | _ => (s.recheck e).2) s
  (upTo 8).foldl (fun (s : State) c => s.recheckSpawns c) s

/-- The bound scale table as the Reel holds it in T1 (08 R192). -/
def State.boundTable (s : State) (a : W64) : Option Bytes :=
  if a = 0 then none else
    let h := s.readObj a 64
    some (s.readObj a (scaleTableLen h))

/-- The program of a pass: the words that lie at PROG_ADDR when the sequencer loads it (R157, R161). -/
def State.programOf (s : State) (e : PassEntry) : List W64 :=
  let n := e.d.progLen
  if rankOf e.d.progAddr = s.rank then (let b := s.readObj e.d.progAddr (8 * n); (upTo n).map fun i => le 64 b (8 * i))
  else e.prog ++ List.replicate (n - e.prog.length) 0

/-- A cluster whose store holds another table than the pass needs starts a load, unless a running pass reads the store (R161; 08 R191). -/
def Cluster.wantTable (k : Cluster) (table : W64) : Cluster :=
  if table = 0 ∨ (k.sct.valid ∧ k.sct.table = table) then k else { k with sct := { k.sct with valid := false, loading := true } }

/-- The scale store is free to be written: no running pass reads it (08 R191). -/
def State.storeFree (s : State) (c : Nat) : Bool :=
  match (s.clusterAt c).seq.run with
  | none => true
  | some r => match s.entry r.uid with | some e => decide (e.binding = 0) | none => true

/-- The sequencer loads the program of the pass selected next into the bank not in use, and checks it (R161, R165). -/
def loadProgram (c uid : Nat) (s : State) : State :=
  let k := s.clusterAt c
  match s.entry uid with
  | none => s
  | some e =>
    if !s.dispatching || k.asleep || k.inReset || s.power.frozen || decide (e.phase ≠ .queued) || !e.d.onCluster c || (!e.d.vecOnly && decide (k.fusion ≠ e.d.fusion)) then s else
      let s := (s.raise c 4).noteRead e.d.progAddr (8 * e.d.progLen)
      let prog := s.programOf e
      match checkWords e.d k.fusion (s.boundTable e.binding) prog 0 with
      | some i => s.refusePass e psRefusedProg i
      | none =>
        let s := s.modCluster c fun k =>
          { k with seq := if k.seq.bank then { k.seq with prog0 := prog, load0 := some uid } else { k.seq with prog1 := prog, load1 := some uid } }
        let base := if k.seq.bank then 0 else 32768
        let s := (s.parWrite (0xA0 + c) base 8).parWrite (0xA0 + c) (base + 8) (8 * prog.length - 8)
        if s.storeFree c then s.modCluster c fun k => k.wantTable e.binding else s

/-- The bank that holds the program of a pass. -/
def Seq.bankOf (q : Seq) (uid : Nat) : Option Bool := if q.load0 = some uid then some false else if q.load1 = some uid then some true else none

/-- Time that a pass is declared to take at a cluster's clock, ns rounded up (R167). -/
def PassDesc.declaredNs (d : PassDesc) (f : Nat) : Nat := ceilDiv (d.maxUs * 1750000) f

/-- The nominal opening of the first slot after time `t` on a cluster that a predicate picks, in this frame or the next ones of the table (R167 item 7). -/
def State.nextOpening (s : State) (c t : Nat) (p : Slot → Bool) : Option Nat :=
  match s.loft.image with
  | none => none
  | some i =>
    let n := i.rows.length
    (upTo (n + 1)).findSome? fun j =>
      match i.rows[(i.rowIdx s.groupFrame.toNat + j) % n]? with
      | none => none
      | some r =>
        let tick := if j = 0 then s.frame.tickTime else s.frame.nextTick + (j - 1) * s.periodNs
        lowest (((r.on c).filter p).filterMap fun l => if t < tick + l.start * 1000 then some (tick + l.start * 1000) else none)

/-- Withheld tiles leave no unit of the pass whole (R167 item 2). -/
def Cluster.unitsWhole (k : Cluster) (d : PassDesc) : Bool :=
  d.vecOnly || (upTo 8).all fun t => !bit k.mask t || !d.usesUnit (unitOfTile k.fusion t)

/-- No pass of the tenant with this PASS_ID is queued, held or running (R167 item 4). -/
def State.noneWith (s : State) (id tenant : Nat) : Bool :=
  let other := fun (x : PassEntry) => !(decide (x.d.passId = id) && decide (x.d.tenant = tenant))
  s.sched.entries.all other && s.clusters.all fun (k : Cluster) => match k.seq.run with | some r => r.spawns.all other | none => true

/-- Every write to the pass's ranges has ended (R167 item 3): no held write but those that its own pins hold, and no copy that is still to be streamed in again (R183). -/
def State.writesEnded (s : State) (c : Nat) (e : PassEntry) : Bool :=
  let k := s.clusterAt c
  (k.heldFills.all fun f => !fillMeets e.d false f || (decide (e.pinned = some c) && fillMeets e.d true f)) && k.copies.all fun x => x.present || !x.meets e.d false

/-- The records that an expert pass answers have been written into the cluster's staging (10 R241). -/
def State.recordsIn (s : State) (c : Nat) (e : PassEntry) : Bool :=
  e.src.bridle.all fun o => match o with
    | .route .. => true
    | .giveBack _ rank ctx pos layer _ slot .. => s.bridle.arrived.any fun a => decide (a.cluster = c) && decide (a.kind = 1) && decide (a.rank = rank) && decide (a.ctx = ctx) && decide (a.pos = pos) && decide (a.layer = layer) && decide (a.slot = slot)

/-- A pass of a refit (08 R197). -/
def State.isRefit (s : State) (e : PassEntry) : Bool := s.library.refits.any fun (j : Refit) => decide (e.src.request = some j.id)

/-- No piece that the pass's request reads is held back by the span that runs (09 R221). -/
def State.spanLets (s : State) (e : PassEntry) : Bool :=
  match e.src.request.bind s.requestOf with
  | none => true
  | some r => !r.pieces.any s.spanHolds

/-- Eligible on cluster `c` at time `t` (R167; 08 R191, R197; 09 R214, R221). -/
def State.eligible (s : State) (e : PassEntry) (c t : Nat) : Bool :=
  let k := s.clusterAt c
  let d := e.d
  let f := clockMhz k.level
  let fin := t + d.declaredNs f
  match k.slot with
  | none => false
  | some o =>
    decide (e.phase = .queued) && decide (o.kind = 0) && decide (o.owner = d.ownerKey) && d.onCluster c && decide (o.openedAt ≤ t) &&
    (match e.onCluster with | some x => decide (x = c) | none => true) && decide (e.notBefore ≤ o.openedAt) &&
    k.seq.run.isNone && (d.vecOnly || decide (k.fusion = d.fusion)) && k.unitsWhole d &&
    s.writesEnded c e && s.recordsIn c e && s.spanLets e && (!s.isRefit e || !k.ovfIeee) &&
    (decide (d.depId = 0) || s.noneWith d.depId d.tenant) &&
    decide (fin ≤ o.closeAt) && k.bandsAllow d.ownerKey t &&
    (decide (1750 ≤ f) ||
      ((match s.nextOpening c t (fun l => decide (l.cls = 0) && decide (l.ownerKey ≠ d.ownerKey)) with | some x => decide (fin + 50000 ≤ x) | none => true) &&
       (decide (d.cls = 3) || match s.nextOpening c t (fun l => decide (l.cls = 3)) with | some x => decide (fin ≤ x) | none => true))) &&
    (decide (e.binding = 0) || (k.sct.valid && !k.sct.loading && decide (k.sct.table = e.binding)))

/-- Queue order within an owner (R166, R172): a discarded pass first; classes A and B by deadline; then by submission. -/
def PassEntry.before (a b : PassEntry) : Bool :=
  if a.rerun != b.rerun then a.rerun
  else if a.d.cls ≤ 1 ∧ a.d.deadline ≠ b.d.deadline then decide (a.d.deadline < b.d.deadline)
  else decide (a.uid < b.uid)

/-- The first eligible pass of the open slot's owner (R167). -/
def State.firstEligible (s : State) (c t : Nat) : Option PassEntry :=
  (s.sched.entries.filter fun e => s.eligible e c t).foldl (fun b e => match b with | none => some e | some x => if e.before x then some e else some x) none

/-- May the dispatcher start passes on cluster `c` now (02 R50, R52; 20 R464, R465; 21 R493)? -/
def State.mayStart (s : State) (c : Nat) : Bool :=
  s.dispatching && !s.stopped c && !s.frame.stepping && !s.holding && !(s.clusterAt c).ic.busy

/-- The registers of the vector unit as a pass finds them (06 R132). -/
def Vu.fresh (u : Vu) : Vu := { u with v := [], vMark := [], m := List.replicate 8 0, mMark := List.replicate 8 0, s := List.replicate 32 {}, vl := 512 }

/-- A pass starts (R170). -/
def startPass (c uid t0 : Nat) (s : State) : State :=
  let t := max t0 s.frame.time
  match s.firstEligible c t with
  | none => s
  | some e =>
    match (s.clusterAt c).seq.bankOf e.uid with
    | none => s
    | some b =>
      if !s.mayStart c || decide (e.uid ≠ uid) then s else
        let s := s.advance t
        let run : Running := { uid := e.uid, startTime := t, startFrame := s.groupFrame, startUs := (t - s.frame.tickTime) / 1000, owner := e.d.ownerKey, ev := e.kept }
        let s := s.modCluster c fun k => { k with vu := k.vu.fresh, idleFrames := 0, level := s.power.target, model := if s.passModel e = 0 then k.model else s.passModel e, seq := { k.seq with run := some run, bank := b, pc := 0, cyc := 0, cycFrac := 0, passId := BitVec.ofNat 32 e.d.passId } }
        let s := { s with parity := { s.parity with bad := Sparse.clearRange s.parity.bad ((0x88 + c) * 2 ^ 32) ((0x88 + c) * 2 ^ 32 + 66176) } }
        let s := if e.pinned.isSome then s else s.chargeT0 e.d.tenant e.d.footprint
        ((s.modEntry e.uid fun e => { e with phase := .running c, pinned := some c }).pinCopies c).parWrite 0xB0 (parEntry e.uid) 64

/-- Every tile of the units that a pass uses. -/
def Cluster.mapUnits (k : Cluster) (d : PassDesc) (f : Nat → Tile → Tile) : Cluster :=
  { k with tiles := k.tiles.zipIdx.map fun x => if !d.vecOnly && d.usesUnit (unitOfTile k.fusion x.2) then f x.2 x.1 else x.1 }

/-- Every tile of unit `u`. -/
def Cluster.mapUnit (k : Cluster) (u : Nat) (f : Tile → Tile) : Cluster :=
  { k with tiles := k.tiles.zipIdx.map fun x => if unitOfTile k.fusion x.2 = u then f x.1 else x.1 }

/-- A program bank names a pass as loaded, in bank `b`. -/
def Seq.setLoad (q : Seq) (b : Bool) (uid : Nat) : Seq := if b then { q with load1 := some uid } else { q with load0 := some uid }

/-- The pass that runs on a cluster. -/
def State.runEntry (s : State) (c : Nat) : Option PassEntry :=
  match (s.clusterAt c).seq.run with
  | none => none
  | some r => s.entry r.uid

/-- The record of the run that ends now. -/
def Running.record (r : Running) (e : PassEntry) (status cycles : Nat) (missed : Bool) : Record :=
  { status := status, rerun := e.rerun, ev := r.ev, missed := missed, reload := decide (0 < e.reloads), frame := r.startFrame.toNat, us := r.startUs, cycles := cycles, spawns := if status = 0 then r.spawns.length else 0 }

/-- An overrun that ends now is charged and noted in the record (02 R44). -/
def State.settleOverrun (s : State) (c : Nat) : State :=
  let t := s.frame.time
  let s := s.chargeOverrun c t
  s.modCluster c fun k => k.noteRun fun r => match r.overFrom with
    | some f => if f < t then { r with overFrom := none, ev := { r.ev with overrun := true, overrunUs := r.ev.overrunUs + (t - f) / 1000 } } else { r with overFrom := none }
    | none => r

/-- T0 of a cluster is lost (05 R128, 06 R153, 08 R191). -/
def Cluster.loseT0 (k : Cluster) : Cluster :=
  { k with vstore := [], vstoreMark := [], staging := [], stagingMark := [], heldFills := [], copies := [], sct := { k.sct with valid := false, loading := false, table := 0, slotCount := 0, tableId := 0 }
           tiles := k.tiles.map fun t => { t with store := [], storeMark := [], acc := [], accMark := [], committed := false, reg0 := [], reg1 := [] } }

/-- T0 is lost to Array Sleep or Hold: the Reel will stream its copies in again (R183; 20 R465). -/
def Cluster.sleepT0 (k : Cluster) : Cluster := { k.loseT0 with copies := k.copies.map fun x => { x with present := false } }

/-- A cluster takes the structure of an image; with another fusion shape or staging it starts from an empty T0 (03 R79). -/
def Cluster.setCfg (k : Cluster) (c : ClusterCfg) : Cluster :=
  let q := if k.fusion ≠ c.fusion ∨ k.stageMib ≠ c.stageMib then k.loseT0 else k
  { q with fusion := c.fusion, stageMib := c.stageMib, ovfIeee := c.ovfIeee, next := none }

/-- A structure that waited for the running pass to end is taken. -/
def Cluster.takeNext (k : Cluster) : Cluster :=
  match k.next, k.seq.run with
  | some c, none => k.setCfg c
  | _, _ => k

/-- LATE is noted against the running pass, and counted once (R170, R185). -/
def Cluster.markLate (k : Cluster) : Cluster :=
  match k.seq.run with
  | none => k
  | some r => if r.ev.late then k else { k with seq := { k.seq with run := some { r with ev := { r.ev with late := true } }, lateCnt := satInc k.seq.lateCnt } }

/-- LATE where the run-cycle counter exceeds MAX_US × 1,750 (R170). -/
def State.lateCheck (s : State) (c : Nat) (e : PassEntry) : State :=
  if e.d.maxUs * 1750 < (s.clusterAt c).seq.cyc then s.modCluster c Cluster.markLate else s

/-- What the record keeps of a run that is discarded: the flags that R179 does not limit to the committed run. -/
def RunEvents.carried (e : RunEvents) : RunEvents := { late := e.late, frozen := e.frozen, overrun := e.overrun, overrunUs := e.overrunUs, spawnRefused := e.spawnRefused }

/-- A run is discarded: what the pass's record will still say of it. -/
def PassEntry.ranOnce (e : PassEntry) (r : Running) (cycles : Nat) : PassEntry := { e with kept := r.ev.carried, lastFrame := r.startFrame, lastUs := r.startUs, lastCyc := cycles }

/-- Cycles per activation row of a rate class (05 R106). -/
def rowCycles (cls : Nat) : Nat := match cls with | 0 => 8 | 1 => 2 | _ => 1

/-- Products that the runs in progress have computed when their pass is stopped (05 R130): the oldest run of each unit, at a tile's rate over the cycles since it began, no more than it has. -/
def Cluster.countStopped (k : Cluster) (r : Running) : Cluster :=
  { k with tiles := k.tiles.zipIdx.map fun x =>
      match r.runs.find? fun y => decide (y.unit = unitOfTile k.fusion x.2) with
      | none => x.1
      | some y =>
        let q := readRun y.rec_
        { x.1 with prod := x.1.prod + BitVec.ofNat 64 (min (q.products k.fusion y.len (posOfTile k.fusion x.2)) ((k.seq.cyc - y.from_) * (16384 * q.p) / rowCycles q.cls)) } }

/-- The pass whose program waits in the bank not in use, or the one to be run again (R161). -/
def State.nextTable (s : State) (c : Nat) : W64 :=
  let q := (s.clusterAt c).seq
  match (if q.bank then q.load0 else q.load1).bind s.entry with
  | some e => e.binding
  | none => 0

/-- The cluster is free again: its queue entry is written (18 R438), tiles go idle, held writes that no pin holds any more are made (R171 step 5), a new structure is taken (03 R79), a soft-throttle step reaches it (R169), and the load of another scale table begins (R161). -/
def State.vacate (s : State) (c : Nat) (e : PassEntry) (cycles : Nat) : State :=
  let s := s.modCluster c fun k => { (k.mapUnits e.d fun _ t => { t with state := 0, loadLeft := 0, busy := t.busy + BitVec.ofNat 64 cycles }) with
    level := s.power.target
    seq := { k.seq with run := none, cyc := cycles, load0 := if k.seq.load0 = some e.uid then none else k.seq.load0, load1 := if k.seq.load1 = some e.uid then none else k.seq.load1 } }
  let s := ((s.releaseFills c).modCluster c Cluster.takeNext).parWrite 0xB0 (parEntry e.uid) 64
  s.modCluster c fun k => k.wantTable (s.nextTable c)

/-- The deadline of the pass has passed (R168). -/
def State.missedBy (s : State) (d : PassDesc) : Bool := decide (d.cls ≤ 1) && decide (d.deadline < s.groupFrame.toNat)

/-- What a committed pass hands on: its token (09 R227), its routing record or expert output (R176; 10 R236). -/
def State.handOn (s : State) (c : Nat) (e : PassEntry) (marked : Bool) : State :=
  let s := match e.src.handle, e.src.emits with
    | some h, some t => s.emitToken h t marked
    | _, _ => s
  e.src.bridle.foldl (fun s o =>
    let bytes := fun a n => (upTo n).map fun j => s.winByte c (a + j)
    match o with
    | .route model ctx pos layer ra da len fmt =>
      let k := match s.modelFor model with | some m => m.topK | none => 0
      let rt := bytes ra (8 * k)
      let dt := bytes da len
      s.routeOut c model ctx pos layer fmt (rt.map (·.1)) (rt.any (·.2)) (dt.map (·.1)) (markedLines (dt.map (·.2)))
    | .giveBack model rank ctx pos layer expert slot weight version da len fmt =>
      let dt := bytes da len
      let s := { s with bridle := { s.bridle with arrived := s.bridle.arrived.filter fun a => !(decide (a.kind = 1) && decide (a.ctx = ctx) && decide (a.pos = pos) && decide (a.layer = layer) && decide (a.slot = slot) && decide (a.rank = rank)) } }
      s.replyOut { model := model, kind := 2, ctx := ctx, pos := pos, layer := layer, expert := expert, slot := slot, weight := weight, version := version, fmt := fmt, data := dt.map (·.1), marks := markedLines (dt.map (·.2)), toRank := rank, cluster := some c }) s

/-- Spawns are released (R178); one whose footprint exceeds Q_T0 is dropped (09 R214). -/
def State.releaseSpawns (s : State) (l : List PassEntry) : State :=
  l.foldl (fun s e =>
    let e := { e with phase := .queued, notBefore := s.frame.time + 1 }
    if s.t0Fits e.d then { s with sched := { s.sched with entries := s.sched.entries ++ [e] } } else s.dropPass e) s

/-- The accumulator halves of a pass's units swap (R171 step 1; 05 R122). -/
def Cluster.swapHalves (k : Cluster) (d : PassDesc) : Cluster :=
  k.mapUnits d fun _ t => { t with committed := !t.committed }

/-- Commit (R171). -/
def commitPass (c cycles t : Nat) (s : State) : State :=
  match (s.clusterAt c).seq.run, s.runEntry c with
  | some r, some e =>
    if s.stopped c || !r.ended || !r.runs.isEmpty then s else
      let s := (s.advance t).settleOverrun c
      let s := if e.d.maxUs * 1750 < cycles then s.modCluster c Cluster.markLate else s
      let s := s.modCluster c fun k => k.swapHalves e.d
      match (s.clusterAt c).seq.run with
      | none => s
      | some r =>
        let s := s.modCluster c fun k => { k with seq := { k.seq with commitCnt := satInc k.seq.commitCnt } }
        let s := s.releaseSpawns r.spawns
        let s := s.writeRecord e.d (r.record e psCommitted cycles (s.missedBy e.d))
        let s := s.handOn c e r.ev.poison
        (s.dropEntry e.uid).vacate c e cycles
  | _, _ => s

/-- A tile's committed half, every entry marked and its value undefined (R172). -/
def Tile.poisonHalf (draw i : Nat) (t : Tile) : Tile :=
  let h := b2n t.committed * 65536
  { t with
    acc := (upTo 65536).foldl (fun a j => Sparse.set 0 a (h + j) (le 32 ((upTo 4).map fun b => Config.freeByte draw (i * 262144 + 4 * j + b)) 0)) t.acc
    accMark := Marks.putRun t.accMark h true 65536 }

/-- The outputs of a pass that ends FAULTED or WATCHDOG: every element marked, values undefined (R172, R174; log 7). -/
def State.poisonOutputs (s : State) (c : Nat) (d : PassDesc) : State :=
  let free := fun (dr n : Nat) => (upTo n).map fun j => (Config.freeByte dr j, true)
  let s := d.ranges.foldl (fun s g =>
    if g.valid && g.out then
      (if g.space = 2 then s.writeSpace c 2 g.tile (512 * g.base) (free s.draws (512 * g.len)) else s.writeSpace c g.space 0 g.base (free s.draws g.len)).drawn
    else s) s
  let draw := s.draws
  (s.modCluster c fun k => k.mapUnits d (Tile.poisonHalf draw)).drawn

/-- A pass ends with FAULTED or WATCHDOG: it commits with poisoned outputs, and no spawn is released (R172, R174). -/
def State.endPoisoned (s : State) (c : Nat) (e : PassEntry) (r : Running) (status cycles : Nat) : State :=
  let s := s.modCluster c fun k => k.swapHalves e.d
  let s := s.poisonOutputs c e.d
  let s := s.writeRecord e.d (r.record e status cycles (s.missedBy e.d))
  let s := (s.handOn c e true).notePoisonedPass e.src.request
  (s.dropEntry e.uid).vacate c e cycles

/-- The first fault since the last cluster reset is captured (R185). -/
def Cluster.captureSeq (k : Cluster) (cause unit : Nat) : Cluster :=
  if k.seq.fValid then k else { k with seq := { k.seq with fValid := true, fCause := BitVec.ofNat 3 cause, fUnit := BitVec.ofNat 4 unit, fPc := BitVec.ofNat 12 k.seq.pc, fPass := k.seq.passId } }

/-- A discard (R172): the pass is placed again once; a second discard ends it FAULTED. `src` is the SOURCE of the report, `master` its agent; a cluster reset's own report is none of these. The first discard counts as corrected, the one that ends the pass FAULTED as deferred (18 R427). -/
def discardPass (c cause unit src master : Nat) (s : State) (report : Bool := true) : State :=
  match (s.clusterAt c).seq.run, s.runEntry c with
  | some _, some e =>
    let s := s.raise c 0
    let s := ((s.modCluster c fun k => k.captureSeq cause unit).settleOverrun c).lateCheck c e
    let f := mkFault src master
    match (s.clusterAt c).seq.run with
    | none => s
    | some r =>
      let cyc := (s.clusterAt c).seq.cyc
      let s := s.modCluster c fun k => ({ k with seq := { k.seq with discardCnt := satInc k.seq.discardCnt } }).countStopped r
      if e.rerun then
        (s.record .deferred f).endPoisoned c e r psFaulted cyc
      else
        let s := (if report then s.record .corrected f else s).noteExtraRun e.src.request
        let s := s.modEntry e.uid fun e => { e.ranOnce r cyc with phase := .queued, rerun := true, onCluster := some c }
        let s := s.vacate c e cyc
        let b := (s.clusterAt c).seq.bank
        let s := s.modCluster c fun k => { k with seq := { k.seq with rerunCnt := satInc k.seq.rerunCnt }.setLoad b e.uid }
        s.raise c 5
  | _, _ => s

/-- A tile's read of read-only weights is poisoned, or the scale store's is (R173; 05 R125; 08 R193): the pass is discarded until the Reel has reloaded; a third time it counts as a discard. -/
def weightPoison (c tile : Nat) (s : State) : State :=
  match (s.clusterAt c).seq.run, s.runEntry c with
  | some _, some e =>
    let s := s.modCluster c fun k => { k with tiles := modifyAt (fun t => { t with flags := t.flags ||| mtWtPoison }) k.tiles tile }
    let s := s.raise c 2
    if 2 ≤ e.reloads then discardPass c 0 (unitOfTile (s.clusterAt c).fusion tile) 1 (0x100 + 8 * c + tile) s
    else
      let s := (s.settleOverrun c).lateCheck c e
      match (s.clusterAt c).seq.run with
      | none => s
      | some r =>
        let cyc := (s.clusterAt c).seq.cyc
        let b := (s.clusterAt c).seq.bank
        let s := s.modCluster c fun k => ({ k with seq := { k.seq with discardCnt := satInc k.seq.discardCnt } }).countStopped r
        let s := (s.modEntry e.uid fun e => { e.ranOnce r cyc with phase := .reloading c, reloads := e.reloads + 1 }).noteExtraRun e.src.request
        (s.vacate c e cyc).modCluster c fun k => { k with seq := k.seq.setLoad b e.uid }
  | _, _ => s

/-- One copy in T0 is written again from its object, each of its marked lines fetched from a source that is whole; `bad` names the units where every source fails (R173; 05 R125; 09 R226). -/
def State.reloadCopy (s : State) (c : Nat) (bad : List W64) (x : T0Copy) : State :=
  match s.objFor x.src with
  | none =>
    let base := if x.space = 2 then 512 * x.base else x.base
    if s.spaceMarked c x.space x.tile base x.len && (s.cachedFor x.src x.len).isSome then
      let m := s.markedIn x.src x.len
      let s := if m.isEmpty then (s.modReel fun r => { r with refetchCnt := satInc r.refetchCnt }).corrected else s
      s.writeSpace c x.space x.tile base ((s.readObj x.src x.len).zipIdx.map fun y => (y.1, m.contains (y.2 / 64)))
    else s
  | some o =>
    if !o.kind.readOnly then s else
      let base := if x.space = 2 then 512 * x.base else x.base
      let lines := (upTo (ceilDiv x.len 64)).filter fun j => s.spaceMarked c x.space x.tile (base + 64 * j) (min 64 (x.len - 64 * j)) || s.markedObj (x.src + BitVec.ofNat 64 (64 * j)) (min 64 (x.len - 64 * j))
      if lines.isEmpty then s else
        let unit := fun j => (ofsOf x.src - o.ofs + 64 * j) / 65536
        let fails := lines.filter fun j => bad.any fun a => decide (rankOf a = s.rank) && decide ((ofsOf a - o.ofs) / 65536 = unit j)
        let s := s.refetchLines x.src lines fails
        s.writeSpace c x.space x.tile base ((s.readObj x.src x.len).zipIdx.map fun y => (y.1, fails.contains (y.2 / 64)))

/-- The reload has ended: what the pass reads of read-only objects has been written again, and it may be started again (R173). -/
def reloadEnd (c uid : Nat) (bad : List W64) (s : State) : State :=
  match s.entry uid with
  | none => s
  | some e =>
    if e.phase = .reloading c then
      let s := ((s.clusterAt c).copies.filter fun x => x.meets e.d true).foldl (fun s x => s.reloadCopy c bad x) s
      (s.modEntry uid fun e => { e with phase := .queued, onCluster := some c }).raise c 19
    else s

/-- A cluster reset (05 R128, 06 R153, 20 R461, 22 R506): SPC registers at their reset values but for those kept or cal, cell weights and working halves gone; operand stores, committed halves, vector store share and staging stay. -/
def Cluster.reset (k : Cluster) : Cluster :=
  { k with
    inReset := true, halted := false
    vu := {}
    ic := {}
    seq := { commitCnt := k.seq.commitCnt, discardCnt := k.seq.discardCnt, rerunCnt := k.seq.rerunCnt, wdogCnt := k.seq.wdogCnt, lateCnt := k.seq.lateCnt }
    tiles := k.tiles.map fun t =>
      let h := b2n (!t.committed) * 65536
      { store := t.store, storeMark := t.storeMark, acc := Sparse.clearRange t.acc h (h + 65536), accMark := Sparse.clearRange t.accMark h (h + 65536), committed := t.committed, repair := t.repair, faults := t.faults } }

/-- The watchdog ends the pass (R174): its cluster is reset, its outputs are poisoned. The report stands in Drogue. -/
def watchdogPass (c : Nat) (s : State) : State :=
  match (s.clusterAt c).seq.run, s.runEntry c with
  | some _, some e =>
    let s := (((s.raise c 1).modCluster c fun k => k.captureSeq 4 0).settleOverrun c).modCluster c Cluster.markLate
    match (s.clusterAt c).seq.run with
    | none => s
    | some r =>
      let s := (s.modCluster c fun k => ({ k with seq := { k.seq with cyc := 437500 } }).countStopped r).endPoisoned c e r psWatchdog 437500
      s.modCluster c fun k => { k with seq := { k.seq with wdogCnt := satInc k.seq.wdogCnt } }
  | _, _ => s

/-- A cluster reset meets whatever runs there: it discards the pass (R172). -/
def clusterReset (c : Nat) (s : State) : State :=
  let s := if (s.clusterAt c).seq.run.isSome then discardPass c 4 0 1 (0x300 + c) s false else s
  (s.modCluster c Cluster.reset).parDisarm fun g => parOfCluster c g && !decide (g < 0x40) && !decide (0x80 ≤ g ∧ g < 0x88) && !decide (0x90 ≤ g ∧ g < 0x98)

/-- A passes whose unit is withheld before its re-run ends FAULTED (R172). -/
def State.failWithheld (s : State) (c : Nat) : State :=
  s.sched.entries.foldl (fun s e =>
    if e.rerun && decide (e.phase = .queued) && decide (e.onCluster = some c) && !(s.clusterAt c).unitsWhole e.d then
      let f := mkFault 1 (0x300 + c)
      let r : Running := { uid := e.uid, startTime := s.frame.time, startFrame := e.lastFrame, startUs := e.lastUs, owner := e.d.ownerKey, ev := e.kept }
      let s := s.modCluster c fun k => if k.seq.fValid then k else { k with seq := { k.seq with fValid := true, fCause := 5, fUnit := 0, fPc := 0, fPass := BitVec.ofNat 32 e.d.passId } }
      (s.record .deferred f).endPoisoned c e r psFaulted e.lastCyc
    else s) s

/-- A parity error on a path inside a tile (05 R126): the pass is discarded; the fourth within 1,024 frames withholds the tile. The second value says whether the tile is withheld now. -/
def tileFault (tile : Nat) (s : State) : Bool × State :=
  let c := tile / 8
  let n := s.frame.num.toNat
  let s := s.modTile tile fun t => { t with flags := t.flags ||| mtParErr, parPath := satInc t.parPath, faults := (n :: t.faults).filter fun x => decide (n < x + 1024) }
  let wh := decide (4 ≤ (s.tileAt tile).faults.length) && !bit (s.clusterAt c).mask (tile % 8)
  let s := if wh then s.modCluster c fun k => { k with mask := setBit k.mask (tile % 8) true } else s
  let s := discardPass c 0 (unitOfTile (s.clusterAt c).fusion (tile % 8)) 1 (0x100 + tile) s
  (wh, if wh then s.failWithheld c else s)

/-- A parity error on a path the lanes share (06 R152). -/
def vectorFault (c : Nat) (s : State) : State :=
  let s := s.modCluster c fun k => { k with vu := { k.vu with
    flags := k.vu.flags ||| vuParErr, parPath := satInc k.vu.parPath
    fValid := true
    fOp := if k.vu.fValid then k.vu.fOp else BitVec.ofNat 6 (match (if k.seq.bank then k.seq.prog1 else k.seq.prog0)[k.seq.pc]? with | some w => bits w 63 58 | none => 0)
    fKind := if k.vu.fValid then k.vu.fKind else true
    fLane := if k.vu.fValid then k.vu.fLane else 0
    fAddr := if k.vu.fValid then k.vu.fAddr else 0 } }
  discardPass c 1 0 1 (0x200 + c) s

/-- VADDR (06 R143). -/
def vaddrFault (c op lane addr : Nat) (s : State) : State :=
  let s := s.modCluster c fun k => { k with vu := { k.vu with
    flags := k.vu.flags ||| vuVaddr
    fValid := true
    fOp := if k.vu.fValid then k.vu.fOp else BitVec.ofNat 6 op
    fKind := if k.vu.fValid then k.vu.fKind else false
    fLane := if k.vu.fValid then k.vu.fLane else BitVec.ofNat 9 lane
    fAddr := if k.vu.fValid then k.vu.fAddr else BitVec.ofNat 32 addr } }
  discardPass c 2 0 2 (0x200 + c) s

/-- POISON_CTRL (R164). -/
def poisonCtrl (c : Nat) (s : State) : State := discardPass c 3 0 2 (0x300 + c) s

/-- Word `i` of the program that runs on a cluster. -/
def Cluster.progWord (k : Cluster) (i : Nat) : Option W64 := (if k.seq.bank then k.seq.prog1 else k.seq.prog0)[i]?

/-- The word `n` words on from the one that the sequencer issues next: of the running handler, within its 16 words, or of the program (R161, R181). -/
def Cluster.wordAhead (k : Cluster) (n : Nat) : Option W64 :=
  if k.ic.busy then (if k.ic.pc + n < 16 * k.ic.source.toNat + 16 then k.hstore[k.ic.pc + n]? else none) else k.progWord (k.seq.pc + n)

/-- May the sequencer issue a word: nothing stops it, and a handler runs, or a program that has not ended; a pending and enabled source goes before the first word of a pass (R161, R181, R183). -/
def State.issuing (s : State) (c : Nat) : Bool :=
  let k := s.clusterAt c
  !s.stopped c && (k.ic.busy || match k.seq.run with | none => false | some r => !r.ended && (r.begun || k.ic.next.isNone))
def State.atWord (s : State) (c : Nat) (w : W64) : Bool := s.issuing c && decide ((s.clusterAt c).wordAhead 0 = some w)

/-- A program word among the `n` at PC fails parity (R172); what a handler's words do stands with their issue (18 R426). -/
def State.progBad (s : State) (c n : Nat) : Bool × State :=
  let k := s.clusterAt c
  if k.ic.busy then (false, s) else s.parTrip (0xA0 + c) ((if k.seq.bank then 32768 else 0) + 8 * k.seq.pc) (8 * n)

/-- The program goes on at word `i`; it ends past its last word (R161). A handler goes on at word `i` of the handler store, forward only (R181). -/
def State.goto (s : State) (c i : Nat) : State :=
  s.modCluster c fun k =>
    if k.ic.busy then (if k.ic.pc < i then { k with ic := { k.ic with pc := i } } else k)
    else
      let n := (if k.seq.bank then k.seq.prog1 else k.seq.prog0).length
      ({ k with seq := { k.seq with pc := i } }).noteRun fun r => { r with begun := true, ended := r.ended || decide (n ≤ i) }
def State.nextWord (s : State) (c n : Nat) : State := s.goto c ((if (s.clusterAt c).ic.busy then (s.clusterAt c).ic.pc else (s.clusterAt c).seq.pc) + n)

/-- A word is issued when it stands at the program counter, with the `n` words that it spans; a bank read that fails parity discards the pass (R161, R172). -/
def issueWord (c : Nat) (w : W64) (f : State → State) (s : State) (n : Nat := 1) : State :=
  if s.atWord c w then (match s.progBad c n with | (true, s) => discardPass c 6 0 1 (0x300 + c) s | (false, s) => f s) else s

/-- A vector word with operation code `op` (06 R134 to R151). -/
def issueVector (op c : Nat) (w : W64) (s : State) : State :=
  if bits w 63 58 ≠ op then s else
    issueWord c w (fun s =>
      let v := readVWord w
      match vecOp c v s with
      | .done t => t.nextWord c 1
      | .vaddr lane addr => vaddrFault c v.op lane addr (s.countVu c 0)
      | .poisonCtrl => poisonCtrl c s) s

/-- A sequencer word with operation code `op`. -/
def issueSeq (op c : Nat) (w : W64) (f : VWord → State → State) (s : State) : State :=
  if bits w 63 58 ≠ op then s else issueWord c w (fun s => f (readVWord w) s) s

/-- Reduction positions of the run whose record is next (05 R109): what its operands hold, at most its chunks. -/
def State.runLen (s : State) (c : Nat) (r : Run) : Nat :=
  let k := s.clusterAt c
  let full := 128 * r.chunks k.fusion
  match s.runEntry c with
  | none => full
  | some e => match e.src.lens.find? fun x => decide (x.1 = e.d.progAddr + BitVec.ofNat 64 (8 * k.seq.pc)) with
    | some x => min x.2 full
    | none => full

/-- A unit takes a run: an idle one loads the first weight set into its shadow registers at once (05 R119). -/
def Cluster.takeRun (k : Cluster) (r : Run) (idle : Bool) : Cluster :=
  if idle then k.mapUnit r.unit fun t => { r.loadSet t 0 with state := 1, loadLeft := 128 } else k

/-- MRUN: the unit accepts one run while another is in progress (R162). -/
def seqMrun (c : Nat) (r : RunRec) (s : State) : State :=
  let k := s.clusterAt c
  let q := readRun r
  match k.seq.run with
  | none => s
  | some x =>
    let busy := (x.runs.filter fun y => decide (y.unit = q.unit)).length
    if bits r.w0 63 58 = 0x20 ∧ k.wordAhead 1 = some r.w1 ∧ k.wordAhead 2 = some r.w2 ∧ k.wordAhead 3 = some r.w3 ∧ busy < 2 then
      issueWord c r.w0 (fun s =>
        (s.modCluster c fun k => (k.takeRun q (decide (busy = 0))).noteRun fun x => { x with runs := x.runs ++ [{ unit := q.unit, rec_ := r, len := s.runLen c q, from_ := k.seq.cyc }] }).nextWord c 4) s 4
    else s

/-- MWAIT (R162). -/
def seqMwait (c : Nat) (w : VWord) (s : State) : State :=
  match (s.clusterAt c).seq.run with
  | none => s
  | some q => if q.runs.any fun x => w.imm.testBit x.unit then s else s.nextWord c 1

/-- SLI (R162). -/
def seqSli (c : Nat) (d : Nat) (v : W32) (s : State) : State := (s.putS c d ⟨v, false, true⟩).nextWord c 1

/-- SADD (R162, R164). -/
def seqSadd (c : Nat) (w : VWord) (s : State) : State :=
  let a := s.sReg c w.a
  let b := s.sReg c w.b
  (s.putS c w.d ⟨a.val + b.val + (BitVec.ofNat 12 w.imm).signExtend 32, a.poison || b.poison, true⟩).nextWord c 1

/-- A word that the sequencer reads from the windows with bad parity is counted for its SRAM (18 R438). -/
def State.readWindow (s : State) (c a : Nat) : State :=
  match (s.clusterAt c).window a with
  | none => s
  | some (sp, o) => (s.parRead (spaceGroup c sp 0) o 4).2

/-- SLD (R162, R164). -/
def seqSld (c : Nat) (w : VWord) (s : State) : State :=
  let a := s.sReg c w.a
  if a.poison then poisonCtrl c s else
    let addr := a.val.toNat + 4 * w.imm
    if s.bytesOk c addr 4 false then
      let e := s.winElem c addr 0 32
      ((s.readWindow c addr).putS c w.d ⟨BitVec.ofNat 32 e.1, e.2, true⟩).nextWord c 1
    else vaddrFault c w.op 0 addr s

/-- rel of BR (R162). -/
def brTaken (rel : Nat) (a b : W32) : Bool :=
  match rel with
  | 0 => a = b
  | 1 => a ≠ b
  | 2 => sgn a < sgn b
  | 3 => sgn a ≤ sgn b
  | 4 => sgn b < sgn a
  | 5 => sgn b ≤ sgn a
  | _ => true

/-- BR (R162, R164). -/
def seqBr (c : Nat) (w : VWord) (s : State) : State :=
  let a := s.sReg c w.a
  let b := s.sReg c w.b
  if a.poison || b.poison then poisonCtrl c s
  else if brTaken w.sub a.val b.val then s.goto c w.imm else s.nextWord c 1

/-- Status of a spawn (R177): the descriptor that it accepts, or the status that refuses it. -/
def State.spawnStatus (s : State) (c : Nat) (e : PassEntry) (wait : Bool) (addr : W64) : Nat × Bytes :=
  let b := s.readObj addr 128
  let d := readDesc b
  let pend := match (s.clusterAt c).seq.run with | some r => r.spawns.length | none => 0
  if wait then (0x82, b)
  else if addr.toNat % 64 ≠ 0 ∨ s.objNames addr 128 e.d.tenant = false ∨ s.descFails b e.src.firmware s.loft.image ≠ [] then (0x02, b)
  else if d.cls ≠ e.d.cls ∨ d.owner ≠ e.d.owner ∨ d.tenant ≠ e.d.tenant then (0x03, b)
  else if 4 ≤ pend ∨ 16384 ≤ s.passCount then (0x01, b)
  else (0x00, b)

/-- SPAWN (R164, R177, R178). -/
def seqSpawn (c : Nat) (w : VWord) (s : State) : State :=
  let lo := s.sReg c w.a
  let hi := s.sReg c (w.a + 1)
  if lo.poison || hi.poison then poisonCtrl c s else
    match s.runEntry c with
    | none => s
    | some e =>
      let addr := BitVec.ofNat 64 (hi.val.toNat * 2 ^ 32 + lo.val.toNat)
      let r := s.spawnStatus c e (decide (w.sub % 2 = 1)) addr
      let s := (s.putS c w.d ⟨BitVec.ofNat 32 r.1, false, true⟩).nextWord c 1
      if r.1 = 0 then
        let n : PassEntry := { uid := s.sched.nextUid, desc := r.2, prog := [], src := { e.src with emits := none, bridle := [], staged := false }, phase := .held, binding := e.binding }
        ({ s with sched := { s.sched with nextUid := s.sched.nextUid + 1 } }).modCluster c fun k => k.noteRun fun q => { q with spawns := q.spawns ++ [n] }
      else (s.modCluster c fun k => k.noteRun fun q => { q with ev := { q.ev with spawnRefused := true } }).raise c 17

/-- SIGNAL (R162). -/
def seqSignal (c : Nat) (w : VWord) (s : State) : State := (s.raise c (48 + w.imm % 16)).nextWord c 1

/-- END (R162). -/
def seqEnd (c : Nat) (s : State) : State :=
  let k := s.clusterAt c
  match (if k.ic.busy then none else k.progWord k.seq.pc) with
  | none => s
  | some w => if bits w 63 58 = 0x3F then issueWord c w (fun s => (s.nextWord c 1).modCluster c fun k => k.noteRun fun r => { r with ended := true }) s else s

/-- The oldest run of unit `u` drains (R162, R180); one whose weights or scales deliver a mark meets R125 and 08 R193 instead. -/
def runDrains (c u : Nat) (s : State) : State :=
  let k := s.clusterAt c
  match k.seq.run, s.runEntry c with
  | some q, some e =>
    if s.stopped c then s else
      match q.runs.find? fun x => decide (x.unit = u) with
      | none => s
      | some x =>
        let r := readRun x.rec_
        match (if e.d.wtRo then s.roPoison c k.fusion r else none), s.sctPoison c r with
        | some t, _ => weightPoison c t (s.countStore c k.fusion r)
        | none, true => weightPoison c (tileOf k.fusion u 0) ((s.parRead (0x90 + c) k.sctBase 262144).2.modCluster c fun k => { k with sct := { k.sct with valid := false } })
        | none, false =>
          let s := s.drainRun c r x.len (bit q.chained u)
          let s := s.modCluster c fun k => k.noteRun fun q => { q with runs := q.runs.eraseP fun y => decide (y.unit = u), chained := setBit q.chained u (decide (r.dest = 3)), touched := setBit q.touched u true }
          let s := s.modCluster c fun k =>
            match (match k.seq.run with | some q => q.runs.find? fun (y : MRun) => decide (y.unit = u) | none => none) with
            | none => k.mapUnit u fun t => { t with state := 0, loadLeft := 0 }
            | some y =>
              -- the run accepted meanwhile has its first weight set behind the last one of this run (05 R114, R119)
              (k.mapUnit u fun t => { (readRun y.rec_).loadSet t 0 with state := 2, loadLeft := 0 }).noteRun fun q => { q with runs := q.runs.map fun (z : MRun) => if z.unit = u then { z with from_ := k.seq.cyc } else z }
          s.raise c (9 + u)
  | _, _ => s

/-- Unpinned copies of a tenant, coldest first, with their clusters (09 R214). -/
def State.coldCopies (s : State) (t : Nat) : List (Nat × T0Copy) :=
  let heat := fun (x : T0Copy) => match s.objFor x.src with
    | none => 0
    | some o => match o.pieces[(ofsOf x.src - o.ofs) / 1048576]? with | some p => p.heat | none => 0
  sortBy (fun (a b : Nat × T0Copy) => decide (heat a.2 < heat b.2))
    (s.clusters.zipIdx.foldl (fun l x => l ++ (x.1.copies.filter fun y => decide (y.tenant = t) && y.present && !y.pinned).map fun y => (x.2, y)) [])

/-- Before a fill the Reel drops the tenant's unpinned copies, coldest first, until the fill fits Q_T0; the first value says whether it does (09 R211, R214). -/
def State.makeRoom (s : State) (c : Nat) (f : Fill) : Bool × State :=
  match s.t0CopyOf c f, s.loft.image with
  | some x, some i =>
    if x.pinned then (true, s) else
      let fits := fun (s : State) => decide (s.t0Of x.tenant + units x.len ≤ i.quota x.tenant 0)
      let s := (s.coldCopies x.tenant).foldl (fun (s : State) y => if fits s then s else s.modCluster y.1 fun k => { k with copies := k.copies.filter fun z => !decide (z = y.2) }) s
      (fits s, s)
  | _, _ => (true, s)

/-- A Reel write into a cluster's stores ends, or is held (05 R118); one that Q_T0 has no room for is not made (09 R211). -/
def reelFill (c : Nat) (f : Fill) (spoilt : Bool) (s : State) : State :=
  if s.sparReset || (s.clusterAt c).asleep then s else
    let q := s.sourced f spoilt
    let r := q.2.makeRoom c q.1
    if !r.1 then r.2
    else if r.2.fillHeld c q.1 then r.2.modCluster c fun k => { k with heldFills := k.heldFills ++ [q.1] }
    else r.2.applyFill c q.1

/-- The Reel's load of a pass's bound table into the scale store ends (08 R191); it is held while the running pass reads the store. A marked line of the table is fetched from a source that is whole; `bad` names the units where every source fails (08 R193; 09 R226). -/
def loadScales (c uid : Nat) (bad : List W64) (s : State) : State :=
  let k := s.clusterAt c
  match s.entry uid with
  | none => s
  | some e =>
    if s.sparReset || k.asleep || k.inReset || decide (e.binding = 0) || (k.sct.valid && decide (k.sct.table = e.binding)) || !s.storeFree c || !e.d.onCluster c then s else
      match s.boundTable e.binding, s.objFor e.binding with
      | some b, some o =>
        let n := leNat b 6 2
        let bs := leNat b 8 4
        let len := scaleTableLen b
        let fails := (s.markedIn e.binding len).filter fun j => bad.any fun a => decide (rankOf a = s.rank) && decide ((ofsOf a - o.ofs) / 65536 = (ofsOf e.binding - o.ofs + 64 * j) / 65536)
        let s := (s.noteRead e.binding len).refetchLines e.binding (s.markedIn e.binding len) fails
        let put := fun (s : State) (o p : Nat) (l : Bytes) => s.writeSpace c 1 0 o (l.zipIdx.map fun x => (x.1, fails.contains ((p + x.2) / 64)))
        let s := put s (k.sctBase + 32) 0x40 (slice b 0x40 (32 * n))
        let s := put s (k.sctBase + 0x20000) (0x40 + 32 * n) (slice b (0x40 + 32 * n) bs)
        (s.modCluster c fun k => { k with sct := { valid := true, loading := false, table := e.binding, slotCount := n, tableId := le 64 b 0x10, loadCnt := satInc k.sct.loadCnt } }).raise c 18
      | _, _ => s

/-- A Spar reset ends every running, queued and held pass with SPAR_RESET, and loses the Spar's state (R175; 20 R461, 22 R506). -/
def Cluster.sparReset (k : Cluster) : Cluster :=
  let r := k.reset
  { r.takeNext.loseT0 with
    inReset := false, asleep := false, halted := false, idleFrames := 0, slot := none, model := 0, switchTo := none
    tiles := r.tiles.map fun t => { repair := t.repair, faults := t.faults } }

def State.endAllPasses (s : State) : State :=
  let held := s.clusters.foldl (fun l (k : Cluster) => l ++ match k.seq.run with | some r => r.spawns | none => []) []
  let s := (upTo 8).foldl (fun (s : State) c => match s.runEntry c with | some e => (s.settleOverrun c).lateCheck c e | none => s) s
  let s := (s.sched.entries ++ held).foldl (fun s e =>
    let r := s.clusters.findSome? fun (k : Cluster) => match k.seq.run with | some r => if r.uid = e.uid then some (r, k.seq.cyc) else none | none => none
    match r with
    | some (r, cyc) => s.writeRecord e.d (r.record e psSparReset cyc (s.missedBy e.d))
    | none => s.writeRecord e.d { status := psSparReset, rerun := e.rerun, ev := e.kept, reload := decide (0 < e.reloads), frame := e.lastFrame.toNat, us := e.lastUs, cycles := e.lastCyc }) s
  { s with sched := { s.sched with entries := [] }, reel := { s.reel with t0 := [] } }

def sparResetBegin (s : State) : State :=
  let s := s.endAllPasses
  let s := s.parDisarm parOfSpar
  { s with sparReset := true, clusters := s.clusters.map Cluster.sparReset,
           bridle := { s.bridle with arrived := [], unanswered := [] },
           parity := { s.parity with bad := s.parity.bad.filter fun m => !parOfSpar (m.1 / 2 ^ 32) } }

end Sys2Proof.Machine
end

