-- ==== Sys2Proof/Machine/Classes.lean ====
section
/-! DEFINITION. Service classes: admitting a request, the class A fetch budget, planned switches, contract registers (11 R255 to R267). -/

namespace Sys2Proof.Machine

/-- The contract of the image in force that carries an identifier, with its index. -/
def State.contractFor (s : State) (id : Nat) : Option (Contract × Nat) :=
  match s.loft.image with
  | none => none
  | some i => i.contracts.zipIdx.find? fun x => decide (x.1.id = id)

/-- Clusters that the contract's work slots cover (R260 test 4). -/
def Image.workClusters (i : Image) (k : Nat) : List Nat :=
  (upTo 8).filter fun c => i.rows.any fun r => r.slots.any fun l => decide (l.cls = 0) && decide (l.kind = 0) && decide (l.owner = k) && bit l.clusters c

/-- Requests of the contract admitted in its last WINDOW_FRAMES frames, this one included, counted by FRM_NUM (R260 test 1, R267; 00 R13). -/
def CtEntry.inWindow (e : CtEntry) (window num : Nat) : Nat := (e.admitted.filter fun a => decide (num < a + window)).length

def State.ctEntry (s : State) (id : Nat) : CtEntry := (s.sched.contracts.find? fun e => decide (e.id = id)).getD {}

/-- The five tests of R260 under an image; `fus` is the fusion shape of each cluster. -/
def State.admitsIn (s : State) (i : Image) (fus : Nat → Nat) (cid tenant : Nat) (p : Plan) (fusion : Nat) : Bool :=
  match i.contracts.zipIdx.find? fun x => decide (x.1.id = cid) with
  | none => false
  | some (c, k) =>
    decide ((s.ctEntry cid).inWindow c.window s.frame.num.toNat < c.maxReq) && decide (p.workCus ≤ c.workCus) && decide (p.stages + c.horizon ≤ c.lat) &&
    (i.workClusters k).all (fun x => decide (fus x = fusion)) && decide (c.tenant = tenant)

/-- Do they accept a class A request, under the image in force and under a pending one (R260, 03 R78)? -/
def State.admits (s : State) (cid tenant : Nat) (p : Plan) (fusion : Nat) : Bool :=
  (match s.loft.image with | none => false | some i => s.admitsIn i (fun x => (s.clusterAt x).fusion) cid tenant p fusion) &&
  (match s.loft.pending with | none => true | some q => s.admitsIn q.image (fun x => match q.image.clusters[x]? with | some c => c.fusion | none => 0) cid tenant p fusion)

/-- A request refused under R260 is counted. -/
def State.countRefused (s : State) (cid : Nat) : State := s.modContract cid fun e => { e with refuseCnt := satInc e.refuseCnt }

/-- Stored bytes in T2, and bytes on other modules, of what a plan reads and T1 does not hold (R261). -/
def State.planVolume (s : State) (l : List (W64 × Nat)) : Nat × Nat :=
  l.foldl (fun v x =>
    if rankOf x.1 = s.rank then
      match s.objFor x.1 with
      | none => v
      | some o =>
        (v.1 + sumBy (fun k => match o.pieces[k]? with | some p => if p.inT1 then 0 else p.stored | none => 0) (piecesOf (ofsOf x.1 - o.ofs) x.2), v.2)
    else if (piecesOf (ofsOf x.1) x.2).all (fun i => s.reel.cache.any fun c => c.held && decide (c.addr = spaceOf x.1) && decide (c.piece = i)) then v else (v.1, v.2 + x.2)) (0, 0)

/-- Budget left in a frame: local bytes, remote bytes (R261). -/
def State.budgetLeft (s : State) (gf : Nat) : Nat × Nat :=
  let u := ((s.sched.budget.find? fun b => decide (b.1 = gf)).map (·.2)).getD (0, 0)
  (820000 * s.frame.periodUs - u.1, 400000 * s.frame.periodUs * (b2n (s.netUp 0) + b2n (s.netUp 1)) - u.2)

/-- Reserve in one frame. -/
def State.reserve (s : State) (gf a b : Nat) : State :=
  let u := ((s.sched.budget.find? fun x => decide (x.1 = gf)).map (·.2)).getD (0, 0)
  { s with sched := { s.sched with budget := (s.sched.budget.filter fun x => !decide (x.1 = gf)) ++ [(gf, (u.1 + a, u.2 + b))] } }

/-- The volume of a class A request is reserved in the frames of its horizon, earliest first; the second value says that it fits (R261). -/
def State.reserveVolume (s : State) (gf h : Nat) (v : Nat × Nat) : State × Bool :=
  let r := (upTo h).foldl (fun (x : State × (Nat × Nat)) k =>
    let left := x.1.budgetLeft (gf + 1 + k)
    let a := min left.1 x.2.1
    let b := min left.2 x.2.2
    if a = 0 ∧ b = 0 then x else (x.1.reserve (gf + 1 + k) a b, (x.2.1 - a, x.2.2 - b))) (s, v)
  (r.1, decide (r.2 = (0, 0)))

/-- A request is accepted: its deadline, its counts, its volume, its fetches (R256, R261, R267; 09 R220). -/
def State.admitRequest (s : State) (id : CmdId) (cls cid tenant deadlineB : Nat) (p : Plan) : State :=
  let gf := s.groupFrame.toNat
  let ct := s.contractFor cid
  let deadline := match cls with | 0 => gf + (match ct with | some (c, _) => c.lat | none => 0) | 1 => deadlineB | _ => 0
  let r : Request := { id := id, cls := BitVec.ofNat 2 cls, contract := if cls = 0 then cid else 0, tenant := tenant, admitFrame := gf, deadline := deadline, stages := p.stages, horizonMiss := false, pieces := p.pieces }
  let s := if cls = 0 then s.modContract cid fun e => { e with admitted := e.admitted ++ [s.frame.num.toNat], queued := e.queued + 1, admitCnt := satInc e.admitCnt } else s
  let q := if cls = 0 then s.reserveVolume gf (match ct with | some (c, _) => c.horizon | none => 0) (s.planVolume p.pieces) else (s, true)
  let s := q.1
  let r := if q.2 then r else { r with horizonMiss := true }
  let s := if q.2 then s else s.modReel fun x => { x with horizonCnt := satInc x.horizonCnt }
  let s := { s with sched := { s.sched with requests := s.sched.requests ++ [r] } }
  p.pieces.foldl (fun s x => s.planFetch (match cls with | 0 => 2 | 1 => 3 | _ => 6) deadline tenant (if cls ≤ 1 then max deadline gf else gf + p.stages + 1) (some id) x) s

/-- The contract entries of a new image: cleared, but for the window of a contract that stays (R267). -/
def State.contractsOf (s : State) (i : Image) : List CtEntry :=
  i.contracts.zipIdx.map fun x =>
    let old := s.sched.contracts.find? fun e => decide (e.id = x.1.id)
    { id := x.1.id, admitted := match old with | some e => e.admitted | none => [], queued := (s.sched.requests.filter fun r => decide (r.cls = 0) && decide (r.contract = x.1.id)).length
      cap := capOver (i.rows.map (capRow x.2 x.1)) 0 i.rows.length }

/-- What windows and budgets no longer need falls away at a tick. -/
def State.windowTick (s : State) : State :=
  let gf := s.groupFrame.toNat
  { s with sched := { s.sched with
    contracts := s.sched.contracts.map fun e => match s.contractFor e.id with
      | some (c, _) => { e with admitted := e.admitted.filter fun a => decide (s.frame.num.toNat < a + c.window) }
      | none => e
    budget := s.sched.budget.filter fun b => decide (gf ≤ b.1) } }

/-- The programs and scale tables of the passes that wait enter the plan (R220 item 4). -/
def State.planPasses (s : State) : State :=
  s.sched.entries.foldl (fun s e =>
    if e.phase ≠ .queued then s else
      [(e.d.progAddr, 8 * e.d.progLen), (e.binding, 64)].foldl (fun (s : State) (x : W64 × Nat) => if x.1 = 0 then s else s.planFetch 4 0 e.d.tenant (s.groupFrame.toNat + 1) none x) s) s

/-- The target of a switch slot: the model of the first pass of its owner that differs from what a covered cluster holds (R262). -/
def State.switchTarget (s : State) (l : Slot) : Option W64 :=
  let mine := s.sched.entries.filter fun e => decide (e.phase = .queued) && decide (e.d.ownerKey = l.ownerKey)
  let order := sortBy PassEntry.before mine
  order.findSome? fun e =>
    let m := s.passModel e
    if m ≠ 0 ∧ (upTo 8).any (fun c => bit l.clusters c && decide ((s.clusterAt c).model ≠ m)) then some m else none

/-- What the owner's queued passes of the target need (R262 item 1): their programs and scale tables, and the pieces that their requests read. -/
def State.switchNeeds (s : State) (l : Slot) (m : W64) : List (W64 × Nat) :=
  let mine := s.sched.entries.filter fun e => decide (e.phase = .queued) && decide (e.d.ownerKey = l.ownerKey) && decide (s.passModel e = m)
  let reads := s.sched.requests.filter fun r => mine.any fun e => decide (e.src.request = some r.id)
  (mine.flatMap fun e => [(e.d.progAddr, 8 * e.d.progLen), (e.binding, 64)]) ++ reads.flatMap fun r => r.pieces

/-- A covered cluster takes the name of its switch target. -/
def nameSwitch (l : Slot) (m : W64) (x : Cluster × Nat) : Cluster := if bit l.clusters x.2 then { x.1 with switchTo := some m } else x.1

/-- The tick of the frame before: switch targets are named, and their pieces fetched (R262). -/
def State.switchTick (s : State) : State :=
  match s.rowNext with
  | none => s
  | some r =>
    r.slots.foldl (fun s l =>
      if l.kind ≠ 1 then s else
        match s.switchTarget l with
        | none => s
        | some m =>
          let s := { s with clusters := s.clusters.zipIdx.map (nameSwitch l m)
                            sched := { s.sched with switchCnt := satInc s.sched.switchCnt } }
          match s.modelFor m with
          | none => s
          | some d => ([(d.programs, 1), (d.serveScale, 1), (d.shared, 1)] ++ s.switchNeeds l m).foldl (fun s (x : W64 × Nat) =>
              if x.1 = 0 then s else s.planFetch (match l.cls.toNat with | 0 => 2 | 1 => 3 | _ => 6) 0 d.tenant (s.groupFrame.toNat + 1) none x) s) s

/-- A switch slot opens: the covered cluster goes over to its target, and the load of the target's scale table begins; the fills of programs and weight panels end as REEL_DONE (R262). -/
def State.switchOpen (s : State) (c : Nat) : State :=
  match (s.clusterAt c).slot with
  | none => s
  | some o => if o.kind = 1 then
      let table := ((s.modelFor ((s.clusterAt c).switchTo.getD 0)).map (·.serveScale)).getD 0
      let s := if s.storeFree c then s.modCluster c fun k => k.wantTable table else s
      s.modCluster c fun k => { k with model := k.switchTo.getD k.model, switchTo := none }
    else s

end Sys2Proof.Machine
end

