-- ==== Sys2Proof/Machine/LineCode.lean ====
section
/-! DEFINITION. The line code of an Opzesen-400 lane: scrambler, distribution, PAM6 mapping, precoding, the fields of a training frame (16 R372 to R376). The symbols themselves cross no row of the command table: rows carry what a lane reads from them. -/

namespace Sys2Proof.Machine

/-- The self-synchronous scrambler x^58 + x^39 + 1 (R372): each bit sent enters its register `r`. -/
def scramble (r : BitVec 58) : List Bool → List Bool
  | [] => []
  | d :: t => let o := (d ^^ r.getLsbD 38) ^^ r.getLsbD 57; o :: scramble (r <<< 1 ||| BitVec.ofNat 58 (b2n o)) t

/-- The receiver's side of the scrambler (R372): the bits received enter the register. -/
def descramble (r : BitVec 58) : List Bool → List Bool
  | [] => []
  | o :: t => ((o ^^ r.getLsbD 38) ^^ r.getLsbD 57) :: descramble (r <<< 1 ||| BitVec.ofNat 58 (b2n o)) t

/-- The lane of a port that takes the 257-bit block `n` (R372). -/
def blockLane (n : Nat) : Nat := n % 4

/-- A corner pair, which is never sent as data (R373). -/
def pamCorner (a b : Fin 6) : Bool := (decide (a = 0) || decide (a = 5)) && (decide (b = 0) || decide (b = 5))

/-- The 32 pairs of symbols in rank order (R373). -/
def pamPairs : List (Fin 6 × Fin 6) :=
  (((upTo 36).map fun n => ((Fin.ofNat 6 (n / 6), Fin.ofNat 6 n) : Fin 6 × Fin 6))).filter fun p => !pamCorner p.1 p.2

/-- The pair that carries a value of five bits (R373). -/
def pamOf (v : Fin 32) : Fin 6 × Fin 6 := pamPairs.getD v (0, 1)

/-- The value of a pair; a corner pair is an erasure of both symbols (R373). -/
def pamValue (a b : Fin 6) : Option Nat := if pamCorner a b then none else some (pamPairs.idxOf (a, b))

/-- The level of a symbol, in units (R372). -/
def pamLevel (s : Fin 6) : Int := 2 * (s.val : Int) - 5

/-- Bits in groups of five, the first bit of a group being bit 0 of its value, as pairs of symbols (R372). -/
def pamSymbols : List Bool → List (Fin 6)
  | a :: b :: c :: d :: e :: t =>
    let p := pamOf (Fin.ofNat 32 (b2n a + 2 * b2n b + 4 * b2n c + 8 * b2n d + 16 * b2n e))
    p.1 :: p.2 :: pamSymbols t
  | _ => []

/-- Precoding: each symbol less the one sent before it, modulo 6 (R374). -/
def precode (y : Fin 6) : List (Fin 6) → List (Fin 6)
  | [] => []
  | x :: t => (x - y) :: precode (x - y) t

/-- The receiver undoes precoding (R374). -/
def unprecode (y : Fin 6) : List (Fin 6) → List (Fin 6)
  | [] => []
  | z :: t => (z + y) :: unprecode z t

/-- The marker that opens a training frame: 16 symbols of 0, then 16 of 5 (R376). -/
def trainingMarker : List (Fin 6) := List.replicate 16 0 ++ List.replicate 16 5

/-- A bit of a control or status field as two symbols (R376). -/
def fieldBit (b : Bool) : List (Fin 6) := if b then [5, 0] else [0, 5]

/-- The 96 symbols of a control or status field: 32 bits, bit 0 first, then the CRC, bit 0 first (R376). -/
def fieldSymbols (w : W32) : List (Fin 6) :=
  ((upTo 32).map w.getLsbD ++ (upTo 16).map (crc16 w).getLsbD).foldl (fun l b => l ++ fieldBit b) []

/-- The alignment marker block of a lane (R375). -/
def markerBlock (count stat req : Byte) (port : Fin 8) (lane : Fin 4) : BitVec 257 :=
  BitVec.ofNat 257 (0x6C3AF159 + 2 ^ 32 * lane + 2 ^ 34 * port + 2 ^ 37 * req.toNat + 2 ^ 45 * stat.toNat + 2 ^ 53 * count.toNat)

end Sys2Proof.Machine
end

