-- ==== Sys2Proof/Machine/Tether.lean ====
section
/-! DEFINITION. The Tether: lanes and their training, ports, queue pairs, time-stamps (16). Host connections that a port loses stand in Hosts. -/

namespace Sys2Proof.Machine

/-- USE, NET and MODE of a port: the image's, or those of R371 before one is in force. -/
def State.portUse (s : State) (p : Nat) : Bool :=
  match s.loft.image with | none => true | some i => (match i.ports[p]? with | some q => q.use | none => false)
def State.portNet (_s : State) (p : Nat) : Nat := p / 4

/-- May a port train and carry traffic: firmware runs, the port is used, not squelched and in no reset (R371, 19 R445)? -/
def State.portLive (s : State) (p : Nat) : Bool :=
  (decide (s.phase = .up) || decide (s.phase = .rebuilding)) && s.portUse p && !(s.portAt p).squelched && !(s.portAt p).inReset

/-- Line rate of a port in Mbit/s (R372, R381). -/
def State.lineRate (s : State) (p : Nat) : Nat := if (s.portAt p).mode = 0 then 1600000 else 800000

/-- The four lanes of a port. -/
def portLanes (p : Nat) : List Nat := [4 * p, 4 * p + 1, 4 * p + 2, 4 * p + 3]

/-- The presets of R378: c(−2), c(−1), c0, c(+1) in 1/64. -/
def preset (n : Nat) : List Byte :=
  match n with
  | 1 => [0, 0, 64, 0]
  | 2 => [0, 0xF8, 56, 0]
  | 3 => [4, 0xF4, 48, 0]
  | _ => [2, 0xF2, 44, 0xFC]

/-- Ranges of the taps (R378). -/
def tapRange (i : Nat) : Int × Int :=
  match i with
  | 0 => (-8, 8)
  | 1 => (-24, 0)
  | 2 => (32, 64)
  | _ => (-16, 0)

/-- c0 that holds the sum of the magnitudes at one (R378). -/
def centre (t : List Byte) : Int := 64 - ((sgn (t.getD 0 0)).natAbs + (sgn (t.getD 1 0)).natAbs + (sgn (t.getD 3 0)).natAbs : Nat)

/-- One tap's request: 1 increment, 2 decrement. The new taps and the STAT that answers (R377, R378). c0 follows the other taps, so a request on it is at its limit (log 23). -/
def tapStep (t : List Byte) (i req : Nat) : List Byte × BitVec 2 :=
  let d : Int := if req = 1 then 1 else -1
  let lim : BitVec 2 := if req = 1 then 3 else 2
  let v := sgn (t.getD i 0) + d
  if i = 2 then (t, lim)
  else if v < (tapRange i).1 ∨ (tapRange i).2 < v then (t, lim)
  else
    let u := setAt t i (BitVec.ofInt 8 v)
    if centre u < 32 then (t, lim) else (setAt u 2 (BitVec.ofInt 8 (centre u)), 1)

/-- The requests of a control byte meet the taps: a tap whose STAT is 0 takes a request, hold returns its STAT to 0 (R377). -/
def Lane.requests (l : Lane) (req : Nat) : Lane :=
  (upTo 4).foldl (fun l i =>
    let r := req / 4 ^ i % 4
    if r = 0 ∨ r = 3 then { l with stat := setAt l.stat i 0 }
    else if l.stat.getD i 0 = 0 then
      let x := tapStep l.taps i r
      { l with taps := x.1, stat := setAt l.stat i x.2 }
    else l) l

/-- A control word: presets, tap requests, precoding (R377). -/
def Lane.control (l : Lane) (ctl : W32) : Lane :=
  let p := bits ctl 27 24
  let l := { l with precodeTx := bit ctl 23 }
  if 1 ≤ p ∧ p ≤ 4 then
    (if l.stat.all (fun x => decide (x = 0)) then { l with taps := preset p, stat := [1, 1, 1, 1] } else l)
  else l.requests (bits ctl 7 0)

/-- A lane at step 1 of R379: kept coefficients stay, otherwise preset 2. -/
def Lane.restart (l : Lane) : Lane :=
  { taps := if l.tuned then l.taps else preset 2, tuned := l.tuned, training := true }

/-- A lane that is down: what R383 keeps stays. -/
def Lane.drop (l : Lane) : Lane := { taps := l.taps, tuned := l.tuned }

/-- Signal detect: the lane trains (R379). -/
def signalDetect (lane : Nat) (s : State) : State :=
  let p := lane / 4
  if s.portLive p && !(s.portAt p).up && !(s.laneAt lane).training then s.modLane lane Lane.restart else s

/-- A training frame: a field whose CRC fails leaves that of the frame before (R376); requests, status, and the step into data (R377, R379). -/
def Lane.frame (l : Lane) (ctl sts : W32) (crcCtl crcSts : W16) (q : LaneSelf) : Lane :=
  let l := { l with ctl := if crc16 ctl = crcCtl then ctl else l.ctl, sts := if crc16 sts = crcSts then sts else l.sts, cdrLock := true, markers := q.markers, frameLock := l.frameLock || decide (3 ≤ q.markers), polInv := q.polInv }
  let l := l.control l.ctl
  let l := { l with rxReady := l.rxReady || (l.frameLock && q.satisfied), partnerReady := bit l.sts 31 }
  if l.rxReady && l.partnerReady && q.doneSent then { l with training := false, doneSent := true, tuned := true, amSeen := 0, locked := false } else l

def trainingFrame (lane : Nat) (ctl sts : W32) (crcCtl crcSts : W16) (q : LaneSelf) (s : State) : State :=
  if (s.laneAt lane).training && s.portLive (lane / 4) then s.modLane lane fun l => l.frame ctl sts crcCtl crcSts q else s

def State.portEvent (s : State) (p n : Nat) : State := s.modPort p fun x => { x with evt := setBit x.evt n true }

/-- A lane has not trained within 1.2 s: it starts again (R379). -/
def trainingTimeout (lane : Nat) (s : State) : State :=
  if (s.laneAt lane).training then (s.modLane lane Lane.restart).portEvent (lane / 4) 2 else s

/-- Before an image is active an untrained port changes its training mode (R371). -/
def modeSwitch (p : Nat) (s : State) : State :=
  if s.bare && s.portLive p && !(s.portAt p).up then
    (portLanes p).foldl (fun s l => s.modLane l Lane.drop) (s.modPort p fun x => { x with mode := if x.mode = 0 then 1 else 0 })
  else s

/-- The next up port of a network after `p`, itself first (R385, R388). -/
def State.upPort (s : State) (net k : Nat) : Option Nat := ((upTo 4).map fun i => 4 * net + (k + i) % 4).find? fun p => (s.portAt p).up

/-- Peers whose queue pair on a network has no up port to go to lose what left on it in this frame (10 R244). -/
def State.losePeers (s : State) (n : Nat) : State :=
  if (s.upPort n 0).isSome then s else
    s.tether.qps.foldl (fun s q => match q.peer with | some r => if q.net = n then s.lostOn r n s.frame.tickTime else s | none => s) s

/-- Group queue pairs of network `n` that are not on an up port move to the next one; with none up they are closed (R386, R388). `home`: they return to their home port where it is up. -/
def State.moveQps (s : State) (n : Nat) (home : Bool) : State :=
  { s with tether := { s.tether with qps := s.tether.qps.filterMap fun q =>
      match q.peer with
      | none => some q
      | some r =>
        if q.net ≠ n ∨ (!home ∧ (s.portAt q.port).up) then some q
        else (s.upPort n (if home then r % 4 else q.port % 4)).map fun p => { q with port := p } } }

/-- Has the peer a queue pair? -/
def State.hasQp (s : State) (rank : Nat) : Bool := s.tether.qps.any fun q => decide (q.peer = some rank)

/-- A queue pair for a peer on each network that has a port up and none yet (R385, R386). -/
def State.openQps (s : State) (rank : Nat) : State :=
  (upTo 2).foldl (fun s n =>
    if s.tether.qps.any fun q => decide (q.peer = some rank) && decide (q.net = n) then s else
      match s.upPort n (rank % 4) with
      | none => s
      | some p => { s with tether := { s.tether with qps := s.tether.qps ++ [{ num := s.tether.nextQp, peer := some rank, ctrl := none, net := n, port := p, rate := s.lineRate p }], nextQp := s.tether.nextQp + 1 } }) s

def State.closePeer (s : State) (rank : Nat) : State := { s with tether := { s.tether with qps := s.tether.qps.filter fun q => !decide (q.peer = some rank) } }

/-- A peer admitted anew: it is counted toward from 0 (10 R239), and its queue pairs open (R385). -/
def State.openPeer (s : State) (rank : Nat) : State :=
  let s := if s.hasQp rank then s else { s with bridle := { s.bridle with nextSeq := Sparse.set 0 s.bridle.nextSeq rank 0 } }
  s.openQps rank

/-- The MAC address of a port (R370). -/
def portMac (p : Nat) : BitVec 48 := Config.macBase + BitVec.ofNat 48 p

/-- The port comes up when all four lanes hold marker and FEC lock (R375). -/
def State.tryUp (s : State) (p : Nat) : State :=
  if !(s.portAt p).up && s.portLive p && (portLanes p).all fun l => (s.laneAt l).locked then
    (s.modPort p fun x => { x with up := true, linked := true, standby := false }).portEvent p 0
  else s

/-- An alignment marker of R375 as a lane reads it (`markerBlock`). -/
def markerOk (am : BitVec 257) : Bool := decide (am.toNat / 2 ^ 61 = 0) && decide (bits am 31 0 = 0x6C3AF159)

/-- A lane takes a marker: lock on three found 8,192 pairs apart, the lane's logical number, the back channel's requests (R375, R382). -/
def Lane.marker (l : Lane) (mode : BitVec 2) (am : BitVec 257) (pairs bitErr : Nat) : Lane :=
  if mode = 0 ∧ !markerOk am then l else
    let n := if pairs = 8192 then l.amSeen + 1 else 1
    let l := { l with cdrLock := true, amSeen := n, locked := l.locked || decide (3 ≤ n), bitErr := BitVec.ofNat 16 (min bitErr 0xFFFF) }
    if mode = 0 then ({ l with amCount := BitVec.ofNat 8 (bits am 60 53), logical := BitVec.ofNat 2 (bits am 33 32) }).requests (bits am 44 37) else l

def alignmentMarker (lane : Nat) (am : BitVec 257) (pairs bitErr corr uncorr : Nat) (s : State) : State :=
  let p := lane / 4
  if (s.laneAt lane).training || !(s.laneAt lane).doneSent || !s.portLive p then s else
    let s := s.modLane lane fun l => l.marker (s.portAt p).mode am pairs bitErr
    let s := s.modPort p fun x => { x with fecCorr := satAdd x.fecCorr corr, fecUncorr := satAdd x.fecUncorr uncorr }
    s.tryUp p

/-- A port is lost: its lanes drop, its group queue pairs move or close (R388). -/
def State.linkDown (s : State) (p : Nat) : State :=
  if (s.portAt p).up then
    let s := (s.modPort p fun x => { x with up := false, degrade := false, downCnt := satInc x.downCnt }).portEvent p 1
    let s := (portLanes p).foldl (fun s l => s.modLane l Lane.drop) s
    (s.losePeers (p / 4)).moveQps (p / 4) false
  else s

/-- One millisecond after it went down the port trains again (R388); so does one that was reset (20 R460). -/
def portRetrain (p : Nat) (s : State) : State :=
  let s := s.modPort p fun x => { x with inReset := false }
  if s.portLive p && !(s.portAt p).up then (portLanes p).foldl (fun s l => s.modLane l fun x => if x.training then x else x.restart) s else s

/-- A lane's bit error ratio stays above the limit: the port is degraded, and stays up (R380). -/
def fecDegrade (lane : Nat) (s : State) : State :=
  let p := lane / 4
  if (s.portAt p).up && decide ((s.portAt p).mode = 0) then (s.modPort p fun x => { x with degrade := true }).portEvent p 3 else s

def addressAcquired (p : Nat) (s : State) : State := if (s.portAt p).up then s.modPort p fun x => { x with addr := true } else s

def State.modQp (s : State) (n : Nat) (f : QueuePair → QueuePair) : State :=
  { s with tether := { s.tether with qps := s.tether.qps.map fun q => if q.num = n then f q else q } }

/-- A congestion notification halves a queue pair's rate; 50 µs without one raises it by 5% of line rate (R384). -/
def congestion (qp : Nat) (s : State) : State := s.modQp qp fun q => { q with rate := q.rate / 2 }
def rateRaise (qp : Nat) (s : State) : State := s.modQp qp fun q => { q with rate := min (s.lineRate q.port) (q.rate + s.lineRate q.port / 20) }

def State.qpFor (s : State) (n : Nat) : Option QueuePair := s.tether.qps.find? fun q => decide (q.num = n)

/-- Does a local ACK timeout follow seven retries of the same packet (R384)? Eight timeouts in a row take 1,024 µs; a later one begins a new row (log 40). -/
def QueuePair.exhausted (q : QueuePair) (now : Nat) : Bool := decide (7 ≤ q.retries) && decide (now ≤ q.since + 1024000)

/-- A local ACK timeout: a retry, and after seven the connection is lost (R384). -/
def ackRetry (qp : Nat) (s : State) : State :=
  match s.qpFor qp with
  | none => s
  | some q =>
    let now := s.frame.time
    if q.exhausted now then
      let s := match q.peer with | some r => s.lostOn r q.net (now - 1152000) | none => s
      { s with tether := { s.tether with qps := s.tether.qps.filter fun x => !decide (x.num = qp) } }
    else if q.retries = 0 ∨ q.since + 1024000 < now then s.modQp qp fun q => { q with retries := 1, since := now }
    else s.modQp qp fun q => { q with retries := q.retries + 1 }

/-- The time-stamp of a PTP event message (R387). -/
def ptpStamp (p : Nat) (egress : Bool) (seq : W16) (t : Nat) (s : State) : State :=
  if (s.portAt p).up then
    let s := s.advance t
    { s with tether := { s.tether with stamps := s.tether.stamps ++ [{ port := p, egress := egress, seq := seq, time := t }] } }
  else s

def tetEvtClear (p : Nat) (v : W32) (s : State) : State := s.modPort p fun x => { x with evt := clearBits x.evt (v.setWidth 4) }

/-- An image's Ports section takes effect (R371): USE cleared squelches and loses the port, a new MODE drops the link. The ports lost. -/
def State.activatePorts (s : State) (i : Image) : State × List Nat :=
  (upTo 8).foldl (fun (a : State × List Nat) p =>
    match i.ports[p]? with
    | none => a
    | some q =>
      let x := a.1.portAt p
      let lost := x.up && (!q.use || decide (x.mode ≠ BitVec.ofNat 2 q.mode))
      let s := if lost then a.1.linkDown p else a.1
      let s := s.modPort p fun x => { x with squelched := !q.use, mode := if q.use then BitVec.ofNat 2 q.mode else x.mode }
      let s := if !lost ∧ (!q.use ∨ x.mode ≠ BitVec.ofNat 2 q.mode) then (portLanes p).foldl (fun s l => s.modLane l Lane.drop) s else s
      (s, if lost then a.2 ++ [p] else a.2)) (s, [])

/-- Group queue pairs return to their home ports at a tick (R388), and a peer that lacks one on a network gets it once that has a port up; of a peer with none at all the manager sees to that itself (R386; 17 R407; log 190). -/
def State.homeQps (s : State) : State :=
  let s := (s.moveQps 0 true).moveQps 1 true
  s.group.members.foldl (fun s m => if m.rank ≠ s.rank ∧ (s.hasQp m.rank ∨ s.group.state = 4) then s.openQps m.rank else s) s

/-- The port MTU: the image's (R370; 03 R71). -/
def State.mtu (s : State) : Nat := match s.loft.image with | some i => i.mtu | none => 0x2400

/-- The path MTU of RoCE v2 (R384). -/
def State.pathMtu (s : State) : Nat := if 4200 ≤ s.mtu then 4096 else 1024

/-- A port reset (R383; 20 R460; 22 R506): its lanes drop, tuned coefficients and the registers' values stay. -/
def State.portReset (s : State) (p : Nat) : State :=
  (portLanes p).foldl (fun s l => s.modLane l Lane.drop) (s.modPort p fun x => { x with up := false, degrade := false, addr := false, inReset := true })

/-- SIGNAL_DETECT (R379). -/
def execSignalDetect (lane : Fin 32) (s : State) : Host.Outcome State Fault Refusal := .next (signalDetect lane s)
/-- TRAINING_FRAME (R376). -/
def execTrainingFrame (lane : Fin 32) (ctl sts : W32) (crcCtl crcSts : W16) (self : LaneSelf) (s : State) : Host.Outcome State Fault Refusal := .next (trainingFrame lane ctl sts crcCtl crcSts self s)
/-- TRAINING_TIMEOUT (R379). -/
def execTrainingTimeout (lane : Fin 32) (s : State) : Host.Outcome State Fault Refusal := .next (trainingTimeout lane s)
/-- TRAINING_MODE_SWITCH (R371). -/
def execTrainingModeSwitch (p : Fin 8) (s : State) : Host.Outcome State Fault Refusal := .next (modeSwitch p s)
/-- ALIGNMENT_MARKER (R375). -/
def execAlignmentMarker (lane : Fin 32) (am : BitVec 257) (pairs bitErr corr uncorr : Nat) (s : State) : Host.Outcome State Fault Refusal := .next (alignmentMarker lane am pairs bitErr corr uncorr s)
/-- PORT_RETRAIN (R388). -/
def execPortRetrain (p : Fin 8) (s : State) : Host.Outcome State Fault Refusal := .next (portRetrain p s)
/-- FEC_DEGRADE (R380). -/
def execFecDegrade (lane : Fin 32) (s : State) : Host.Outcome State Fault Refusal := .next (fecDegrade lane s)
/-- ADDRESS_ACQUIRED (R370). -/
def execAddressAcquired (p : Fin 8) (s : State) : Host.Outcome State Fault Refusal := .next (addressAcquired p s)
/-- CONGESTION_NOTIFICATION (R384). -/
def execCongestionNotification (qp : Nat) (s : State) : Host.Outcome State Fault Refusal := .next (congestion qp s)
/-- RATE_RAISE (R384). -/
def execRateRaise (qp : Nat) (s : State) : Host.Outcome State Fault Refusal := .next (rateRaise qp s)
/-- PTP_EVENT_MESSAGE (R387). -/
def execPtpEventMessage (p : Fin 8) (egress : Bool) (seq : W16) (t : Nat) (s : State) : Host.Outcome State Fault Refusal := .next (ptpStamp p egress seq t s)
end Sys2Proof.Machine
end

