-- ==== Sys2Proof/Machine/Novzeow.lean ====
section
/-! DEFINITION. Novzeow messages: header, lengths, reserved bytes, and the bodies this module sends (17 R390 to R393). -/

namespace Sys2Proof.Machine

def nvDiscover : Nat := 1
def nvHello : Nat := 2
def nvBeacon : Nat := 3
def nvJoin : Nat := 4
def nvAdmit : Nat := 5
def nvReject : Nat := 6
def nvReady : Nat := 7
def nvStatus : Nat := 8
def nvPlace : Nat := 9
def nvPlaceAck : Nat := 0x0A
def nvFail : Nat := 0x0B
def nvCopy : Nat := 0x0C
def nvCopyAck : Nat := 0x0D
def nvJournal : Nat := 0x0E
def nvJournalAck : Nat := 0x0F
def nvQuery : Nat := 0x10
def nvAnswer : Nat := 0x11
def nvLevel : Nat := 0x12
def nvTakeover : Nat := 0x13
def nvVote : Nat := 0x14
def nvLocate : Nat := 0x15
def nvLocation : Nat := 0x16
def nvDrain : Nat := 0x17
def nvDrainDone : Nat := 0x18

def pad8 (n : Nat) : Nat := ceilDiv n 8 * 8

/-- LEN of a type: fixed, or computed from the message (R393). -/
def nvLen (b : Bytes) (type : Nat) : Option Nat :=
  match type with
  | 1 | 7 | 0x0A => some 64
  | 2 => some 104
  | 3 => some 232
  | 4 => some 96
  | 5 => some 224
  | 6 | 0x0B | 0x13 | 0x14 | 0x17 | 0x18 => some 72
  | 8 | 0x0F | 0x12 | 0x15 => some 80
  | 0x0D => some 88
  | 0x16 => some 96
  | 9 => some (0x48 + 32 * leNat b 0x40 4)
  | 0x0C =>
    let n := leNat b 0x68 4
    let o := leNat b 0x6C 4
    some (if o = 0 then 0x70 + pad8 n else o + ceilDiv (ceilDiv (0x70 + n) 512) 64 * 64)
  | 0x10 => some (0x60 + pad8 (2 * leNat b 0x58 2) + pad8 (leNat b 0x50 4))
  | 0x11 => some (0x50 + 16 * leNat b 0x4A 2 + 64)
  | _ => none

/-- Reserved runs of a body: offset and size (R393). -/
def nvReserved (type : Nat) : List (Nat × Nat) :=
  match type with
  | 2 => [(0x59, 7)]
  | 3 => [(0x65, 1)]
  | 5 => [(0x4B, 5)]
  | 6 => [(0x41, 7)]
  | 8 => [(0x44, 4)]
  | 9 => [(0x46, 2)]
  | 0x0B => [(0x43, 5)]
  | 0x0C => [(0x42, 2)]
  | 0x0D => [(0x51, 7)]
  | 0x0F => [(0x42, 2), (0x4D, 3)]
  | 0x10 => [(0x5A, 6)]
  | 0x12 => [(0x46, 2)]
  | 0x13 => [(0x44, 4)]
  | 0x14 => [(0x45, 3)]
  | 0x15 => [(0x41, 3)]
  | 0x16 => [(0x58, 8)]
  | 0x17 => [(0x42, 6)]
  | 0x18 => [(0x43, 5)]
  | _ => []

def State.groupId (s : State) : Nat := match s.loft.image with | some i => i.groupId | none => 0

/-- A message that its receiver takes: header, GROUP_ID, length, reserved bytes (R390, R391, R393). -/
def State.nvOk (s : State) (b : Bytes) (type : Nat) : Bool :=
  decide (leNat b 0 4 = 0x575A564E) && decide (leNat b 6 1 = type) && zeros b 7 1 && decide (leNat b 8 4 = b.length) && decide (b.length % 8 = 0) &&
  zeros b 0x1E 2 && zeros b 0x2C 20 &&
  (if type = nvDiscover then decide (leNat b 0x10 8 = 0) else !s.bare && decide (leNat b 0x10 8 = s.groupId)) &&
  (match nvLen b type with | some n => decide (b.length = n) | none => decide (type = nvJournal)) &&
  (nvReserved type).all fun r => zeros b r.1 r.2

def nvSrc (b : Bytes) : Nat := leNat b 0x0C 2
def nvFrame (b : Bytes) : Nat := leNat b 0x18 6
def nvEpoch (b : Bytes) : Nat := leNat b 0x20 8

/-- Is the module a member, the manager included (R395, R420)? -/
def State.inGroup (s : State) : Bool := decide (3 ≤ s.group.state) || decide (s.group.act = 1) || decide (s.group.act = 2)
def State.isManager (s : State) : Bool := decide (s.group.act = 1) || decide (s.group.act = 2)

/-- A message with its header (R390). The body is padded to a multiple of 8. -/
def State.nvMessage (s : State) (type dst group : Nat) (body : Bytes) : Bytes :=
  let body := body ++ List.replicate (pad8 body.length - body.length) 0
  let level := if type = nvDiscover ∨ type = nvHello ∨ type = nvJoin then s.gondola.fwGroupLevel else s.group.level
  toLe 0x575A564E 4 ++ toLe level 2 ++ toLe type 1 ++ toLe 0 1 ++ toLe (64 + body.length) 4 ++ toLe (if s.inGroup then s.rank else 0xFFFF) 2 ++ toLe dst 2 ++
  toLe group 8 ++ toLe (if s.inGroup then s.groupFrame.toNat else s.frame.num.toNat) 6 ++ toLe 0 2 ++ toLe s.group.epoch 8 ++
  toLe (Sparse.get 0 s.group.seqs dst) 4 ++ List.replicate 20 0 ++ body

/-- A message leaves; its SEQ counts messages to that receiver (R390). -/
def State.nv (s : State) (net type dst : Nat) (body : Bytes) : State :=
  let m := s.nvMessage type dst (if type = nvDiscover then 0 else s.groupId) body
  let s := s.send net dst m
  { s with group := { s.group with seqs := Sparse.set 0 s.group.seqs dst ((Sparse.get 0 s.group.seqs dst + 1) % 2 ^ 32) } }

/-- To one member over its queue pair. -/
def State.nvTo (s : State) (type dst : Nat) (body : Bytes) : State := s.nv (s.peerNet dst) type dst body

/-- The other members, lowest rank first. -/
def State.others (s : State) : List Nat := (sortBy (fun a b => decide (a < b)) (s.group.members.map (·.rank))).filter fun r => decide (r ≠ s.rank)

def State.nvAll (s : State) (type : Nat) (body : Bytes) : State := s.others.foldl (fun s r => s.nvTo type r body) s

/-- A member bitmap: rank r at bit r mod 8 of byte r / 8 (R393). -/
def memberMap (l : List Nat) : Bytes := (upTo 128).map fun i => BitVec.ofNat 8 (sumBy (fun k => if l.contains (8 * i + k) then 2 ^ k else 0) (upTo 8))
def readMap (b : Bytes) (o : Nat) : List Nat := (upTo 1024).filter fun r => bit (byteAt b (o + r / 8)) (r % 8)

def State.memberRanks (s : State) : List Nat := s.group.members.map (·.rank)

/-- NETS: which networks are up (R392). -/
def State.nets (s : State) : Nat := b2n (s.netUp 0) + 2 * b2n (s.netUp 1)

/-- ROLE and RANK as Identify reports them (15 R345). -/
def State.roleByte (s : State) : Nat := match s.loft.image with | some i => i.role | none => 0xFF
def State.rankWord (s : State) : Nat := match s.loft.image with | some i => i.rank | none => 0xFFFF

def State.helloBody (s : State) : Bytes :=
  s.gondola.uid ++ toLe s.gondola.fwGroupLevel 2 ++ toLe s.gondola.fwSchemaMax 2 ++ toLe s.roleByte 1 ++ toLe s.group.state.toNat 1 ++ toLe s.rankWord 2 ++ toLe s.nets 1 ++ List.replicate 7 0 ++ toLe s.groupId 8

/-- IEEE 1588 time of a tick: seconds and nanoseconds, on the module's own scale (log 24). -/
def State.ptpTime (s : State) : Bytes := toLe (s.frame.tickTime / 1000000000) 6 ++ toLe (s.frame.tickTime % 1000000000) 4

def State.beaconBody (s : State) : Bytes :=
  let g := s.group
  s.gondola.uid ++ s.ptpTime ++ toLe g.level 2 ++ toLe g.schema 2 ++ toLe g.expected 2 ++ toLe g.quorum 2 ++ toLe g.deputy 2 ++ toLe (b2n g.running) 1 ++ toLe 0 1 ++ toLe s.frame.periodUs 2 ++ memberMap s.memberRanks

def State.joinBody (s : State) : Bytes :=
  s.gondola.uid ++ toLe s.rank 2 ++ toLe s.gondola.fwGroupLevel 2 ++ toLe s.gondola.fwSchemaMax 2 ++ toLe s.frame.periodUs 2 ++ toLe s.group.lastGroupFrame 8

def State.admitBody (s : State) (rank stepFrame handback : Nat) (declared : Bool) : Bytes :=
  let g := s.group
  toLe rank 2 ++ toLe g.deputy 2 ++ toLe g.level 2 ++ toLe g.schema 2 ++ toLe g.quorum 2 ++ toLe (b2n declared) 1 ++ List.replicate 5 0 ++ toLe stepFrame 8 ++ memberMap s.memberRanks ++ toLe handback 8

/-- Free entries of the context table (10 R245). -/
def State.freeContexts (s : State) : Nat := 3072 - (s.library.contexts.filter fun e => decide (e.2.state ≠ 0)).length

def State.statusBody (s : State) : Bytes :=
  toLe s.group.state.toNat 1 ++ toLe (b2n s.safe + 2 * b2n (decide (s.group.state = 5)) + 4 * b2n (s.netUp 0) + 8 * b2n (s.netUp 1)) 1 ++ toLe s.freeContexts 2 ++ List.replicate 4 0 ++ toLe s.freeGroups 8

/-- A placement entry in its 32 bytes (R400). -/
def Place.bytes (p : Place) : Bytes :=
  toLe p.kind 1 ++ toLe p.serving 1 ++ toLe p.home 2 ++ toLe p.shadow1 2 ++ toLe p.shadow2 2 ++ toLe p.key1.toNat 8 ++ toLe p.key2.toNat 4 ++ toLe p.version.toNat 4 ++ toLe p.epoch 8
def readPlace (b : Bytes) (o : Nat) : Place :=
  { kind := leNat b o 1, serving := leNat b (o + 1) 1, home := leNat b (o + 2) 2, shadow1 := leNat b (o + 4) 2, shadow2 := leNat b (o + 6) 2, key1 := le 64 b (o + 8), key2 := le 32 b (o + 0x10), version := le 32 b (o + 0x14), epoch := leNat b (o + 0x18) 8 }
def placeBody (flags : Nat) (l : List Place) : Bytes := toLe l.length 4 ++ toLe flags 2 ++ toLe 0 2 ++ l.foldl (fun b p => b ++ p.bytes) []

/-- Does an entry name a rank? -/
def Place.names (p : Place) (r : Nat) : Bool := decide (p.home = r) || decide (p.shadow1 = r) || decide (p.shadow2 = r)
def Place.sameKey (a b : Place) : Bool := decide (a.kind = b.kind) && decide (a.key1 = b.key1) && decide (a.key2 = b.key2)

/-- A COPY message: the bitmap covers the message's lines, its first bit the header's (R240, R393). -/
def copyBody (kind last tenant : Nat) (key1 : W64) (key2 version : W32) (copyId ofs : Nat) (data : Bytes) : Bytes :=
  toLe kind 1 ++ toLe last 1 ++ toLe 0 2 ++ toLe tenant 4 ++ toLe key1.toNat 8 ++ toLe key2.toNat 4 ++ toLe version.toNat 4 ++ toLe copyId 8 ++ toLe ofs 8 ++ toLe data.length 4 ++ toLe 0 4 ++ data

def locationBody (status kind rank handle length : Nat) (key2 : W32) (key1 : W64) : Bytes :=
  toLe status 1 ++ toLe kind 1 ++ toLe rank 2 ++ toLe handle 4 ++ toLe length 4 ++ toLe key2.toNat 4 ++ toLe key1.toNat 8 ++ toLe 0 8

end Sys2Proof.Machine
end

