-- ==== Sys2Proof/Machine/Placement.lean ====
section
/-! DEFINITION. The placement directory, copies of objects, mirrors, journals, and what a promoted copy becomes (17 R400 to R406, R409 to R412). -/

namespace Sys2Proof.Machine

/-- The copies that an entry names. -/
def Place.copies (p : Place) : List Nat := [p.shadow1, p.shadow2].filter fun r => decide (r ≠ 0xFFFF)

/-- The rank that serves (R400). -/
def Place.holder (p : Place) : Nat := match p.serving with | 0 => p.home | 1 => p.shadow1 | _ => p.shadow2

/-- One copy more, one copy less. -/
def Place.addCopy (p : Place) (r : Nat) : Place :=
  if p.shadow1 = 0xFFFF then { p with shadow1 := r } else if p.kind = 2 ∧ p.shadow2 = 0xFFFF then { p with shadow2 := r } else p
def Place.dropCopy (p : Place) (r : Nat) : Place :=
  if p.shadow1 = r then { p with shadow1 := p.shadow2, shadow2 := 0xFFFF } else if p.shadow2 = r then { p with shadow2 := 0xFFFF } else p

/-- An entry that leaves the directory has no home (log 30). -/
def Place.gone (p : Place) : Bool := decide (p.home = 0xFFFF)

/-- An entry as a member reports it: the home's own rank in a copy field asks for a copy (log 30). -/
def Place.ask (p : Place) : Place :=
  let p := if p.copies.length < p.want ∧ p.shadow1 = 0xFFFF then { p with shadow1 := p.home } else p
  if p.kind = 2 ∧ p.copies.length < p.want ∧ p.shadow2 = 0xFFFF then { p with shadow2 := p.home } else p
def Place.heard (p : Place) : Place :=
  let n := if p.kind = 1 ∨ p.kind = 4 ∨ p.kind = 5 then 1 else p.copies.length
  { p with want := n, shadow1 := if p.shadow1 = p.home then 0xFFFF else p.shadow1, shadow2 := if p.shadow2 = p.home then 0xFFFF else p.shadow2 }

def State.placeOf (s : State) (p : Place) : Option Place := s.group.places.find? fun q => q.sameKey p
def State.dropPlace (s : State) (p : Place) : State := { s with group := { s.group with places := s.group.places.filter fun q => !q.sameKey p } }
def State.storePlace (s : State) (p : Place) : State :=
  let l := s.group.places.filter fun q => !q.sameKey p
  { s with group := { s.group with places := l ++ [p] } }

/-- An entry of the manager's directory changes: the next PLACE carries it (R400). -/
def State.dirSet (s : State) (p : Place) : State := s.storePlace { p with epoch := 0 }

/-- A new entry for an object of this module. -/
def State.newPlace (s : State) (kind : Nat) (key1 : W64) (key2 version : W32) (want : Nat) : Place :=
  { kind := kind, serving := 0, home := s.rank, shadow1 := 0xFFFF, shadow2 := 0xFFFF, key1 := key1, key2 := key2, version := version, epoch := 0, want := want }

/-- A relocation enters the latest 4,096 (R411). -/
def State.relocate (s : State) (r : Reloc) : State :=
  let l := s.group.relocs.filter fun x => !(decide (x.kind = r.kind) && decide (x.key1 = r.key1) && decide (x.key2 = r.key2))
  { s with group := { s.group with relocs := (l ++ [r]).drop (l.length + 1 - 4096) } }

/-- The manager takes an entry that a member reports (R402). A resumed context and a promoted mirror name their new handle or NSID in KEY2 (log 30). -/
def State.adopt (s : State) (p : Place) : State :=
  match p.kind with
  | 4 =>
    if p.key2 = 0 then (match s.placeOf p with
      | none => s.dirSet p
      | some q => if p.gone ∨ q.home = p.home then s.dirSet p else s)
    else
      let s := s.relocate { kind := 4, key1 := p.key1, key2 := 0, status := if p.gone then 3 else 0, rank := p.home, handle := p.key2, length := p.version.toNat }
      let s := s.dropPlace { p with key2 := 0 }
      if p.gone then s else s.dirSet { p with serving := 0, key1 := BitVec.ofNat 64 (p.home * 2 ^ 32 + p.key2.toNat), key2 := 0, version := 0, shadow1 := 0xFFFF, want := 1 }
  | 2 =>
    if p.key2 = 0 then (match s.placeOf p with
      | none => s.dirSet p
      | some q => if p.gone ∨ q.home = p.home ∨ q.holder = p.home then s.dirSet { p with want := max p.want q.want } else s)
    else
      let old := s.placeOf { p with key2 := 0 }
      let s := s.relocate { kind := 2, key1 := p.key1, key2 := 0, status := if p.gone then 3 else 0, rank := p.home, handle := p.key2, length := 0 }
      let s := s.dropPlace { p with key2 := 0 }
      match old with
      | none => s
      | some q =>
        if p.gone then s else
          let rest := q.copies.filter fun r => decide (r ≠ p.home)
          let rest := if s.group.failed.contains q.home ∨ q.home = p.home then rest else rest ++ [q.home]
          s.dirSet { p with serving := 0, key1 := BitVec.ofNat 64 (p.key1.toNat / 2 ^ 32 * 2 ^ 32 + p.key2.toNat), key2 := 0, version := 0, shadow1 := rest.getD 0 0xFFFF, shadow2 := rest.getD 1 0xFFFF, want := q.want }
  | _ => match s.placeOf p with
    | none => s.dirSet p
    | some q =>
      -- a home that returns with an older version gives way to the copy that served meanwhile (R412)
      if p.kind = 1 ∧ !p.gone ∧ q.home = p.home ∧ q.serving ≠ 0 ∧ p.version < q.version then s.dirSet { q with home := q.holder, serving := 0, shadow1 := 0xFFFF, want := 1 }
      else if p.gone ∨ q.home = p.home ∨ q.holder = p.home ∨ q.version < p.version ∨ (p.version = q.version ∧ p.home < q.home) then s.dirSet { p with want := max p.want q.want } else s

/-- Entries of this module's own objects go to the manager, or into its directory (R401 to R403). -/
def State.report (s : State) (l : List Place) : State :=
  if s.isManager then l.foldl State.adopt s
  else if s.inGroup && !l.isEmpty then s.nvTo nvPlace s.group.managerRank (placeBody 0 (l.map Place.ask))
  else s

/-- Do other members exist to hold copies? -/
def State.grouped (s : State) : Bool := s.inGroup && !s.others.isEmpty

/-! Copies -/

/-- Lines of a message whose data begins at 0x70, covered by marked data lines; the bitmap that goes with them (R240, R393). -/
def copyMarks (data : Bytes) (marks : List Nat) : Bytes :=
  if marks.isEmpty then [] else
    let n := 0x70 + data.length
    let lines := marks.foldl (fun l k => l ++ [(0x70 + k) / 64, (0x70 + k + 63) / 64]) []
    let len := up64 (ceilDiv n 512)
    (upTo len).map fun i => BitVec.ofNat 8 (sumBy (fun b => if lines.contains (8 * i + b) then 2 ^ b else 0) (upTo 8))

/-- A COPY's body, its bitmap where a line of the data is marked. `marks` are byte offsets of marked 64-byte lines of the data. -/
def copyMsgBody (kind : Nat) (last : Bool) (tenant : Nat) (key1 : W64) (key2 version : W32) (copyId ofs : Nat) (data : Bytes) (marks : List Nat) : Bytes :=
  let b := copyBody kind (b2n last) tenant key1 key2 version copyId ofs data
  if marks.isEmpty then b else
    let o := up64 (0x70 + data.length)
    b.take 0x2C ++ toLe o 4 ++ b.drop 0x30 ++ List.replicate (o - 0x70 - data.length) 0 ++ copyMarks data marks

/-- One part of a copy: offset, data, marked lines. -/
structure CopyPart where
  ofs   : Nat
  data  : Bytes
  marks : List Nat
  deriving DecidableEq, Repr

/-- A copy goes out, one COPY for each part; each waits for its acknowledgement (R393, R403 to R405). `version` is 0 but for an expert. -/
def State.sendCopy (s : State) (kind pkind tenant : Nat) (key1 : W64) (key2 version : W32) (r : Nat) (for_ : CopyFor) (id : Option CmdId) (l : List CopyPart) : State :=
  let n := s.group.nextCopy
  let s := { s with group := { s.group with nextCopy := n + 1 } }
  (l.zipIdx).foldl (fun s x =>
    let s := s.nvTo nvCopy r (copyMsgBody kind (decide (x.2 + 1 = l.length)) tenant key1 key2 version n x.1.ofs x.1.data x.1.marks)
    let o : CopyOut := { copyId := n, kind := pkind, key1 := key1, key2 := key2, toRank := r, ofs := x.1.ofs, sent := s.frame.num.toNat, for_ := for_, id := id }
    { s with group := { s.group with copies := s.group.copies ++ [o] } }) s

/-- Does a copy that a command waits for remain? -/
def State.copying (s : State) (id : CmdId) : Bool := s.group.copies.any fun c => decide (c.id = some id)

/-- Parts of an object: pieces of 1 MiB with their marked lines. -/
def Obj.copyParts (o : Obj) : List CopyPart :=
  (upTo (pieceCount o.len)).map fun i =>
    { ofs := i * 1048576, data := o.read (i * 1048576) (o.pieceLen i)
      marks := (upTo (o.pieceLen i / 64)).filterMap fun k => if o.marked (i * 1048576 + 64 * k) 64 then some (64 * k) else none }

def nsTenant (key1 : W64) : Nat := key1.toNat / 2 ^ 32
def nsidOf (key1 : W64) : Nat := key1.toNat % 2 ^ 32
def State.nsFor (s : State) (nsid : Nat) : Option Namespace := s.media.namespaces.find? fun n => decide (n.nsid = nsid)
def State.modNs (s : State) (nsid : Nat) (f : Namespace → Namespace) : State :=
  { s with media := { s.media with namespaces := s.media.namespaces.map fun n => if n.nsid = nsid then f n else n } }
def Namespace.key (n : Namespace) : W64 := BitVec.ofNat 64 (n.tenant * 2 ^ 32 + n.nsid)

/-- Slot that holds unit `u` (64 KiB) of a namespace (14 R312). -/
def Namespace.slot (n : Namespace) (u : Nat) : Nat := 16 * n.groups.getD (u / 16) 0 + u % 16

/-- Parts of 256 KiB of a namespace with anything in them. -/
def State.nsParts (s : State) (n : Namespace) : List CopyPart :=
  (upTo (4 * n.groups.length)).filterMap fun i =>
    let l := (upTo 4).map fun k => n.slot (4 * i + k)
    if l.any s.slotMapped then some { ofs := i * 262144, data := l.foldl (fun b u => b ++ s.readSlot u) [], marks := [] } else none

/-- The Loft address and the tenant of a placed read-only object that this module holds. -/
def State.placedObj (s : State) (p : Place) : Option (W64 × Nat) :=
  match s.modelFor p.key1 with
  | none => none
  | some m =>
    if p.kind = 5 then some (m.shared, m.tenant) else
      match m.expertAt (p.key2.toNat / 65536) (p.key2.toNat % 65536) with
      | none => none
      | some e => some (if e.home = s.rank then e.weights else e.weightsShadow, m.tenant)

/-- A shard of this module. -/
def State.shardFor (s : State) (i : W64) (k : W16) : Option Shard := s.search.shards.find? fun x => decide (x.index = i) && decide (x.shard = k)
def State.modShard (s : State) (i : W64) (k : W16) (f : Shard → Shard) : State :=
  { s with search := { s.search with shards := s.search.shards.map fun x => if x.index = i ∧ x.shard = k then f x else x } }

/-- Addresses of a shard's objects (12 R270): NODES, VECTORS, PROJ, IDMAP, ENTRY. -/
def Shard.addr (x : Shard) (i : Nat) : W64 := x.addrs.getD i 0

/-- The 128-byte shard entry (12 R270). -/
def State.shardEntry (s : State) (x : Shard) : Bytes :=
  let count (n : Nat) := (x.nodes.filter fun e => decide (e.2.state = n)).length
  let _ := s
  toLe x.index.toNat 8 ++ toLe x.tenant 4 ++ toLe x.state 1 ++ toLe x.vecFmt.toNat 1 ++ toLe x.metric 1 ++ toLe x.degree 1 ++ toLe x.dim 2 ++ toLe x.shard.toNat 2 ++ toLe x.count 2 ++ toLe (b2n x.shadowed) 1 ++ toLe x.entryCount 1 ++
  toLe x.shadowRank 2 ++ List.replicate 6 0 ++ toLe x.capacity 8 ++ toLe (count 1) 8 ++ toLe (count 2) 8 ++ (upTo 5).foldl (fun b i => b ++ toLe (x.addr i).toNat 8) [] ++ List.replicate 32 0

/-- A node record (12 R272). -/
def Node.bytes (n : Node) : Bytes :=
  (n.sketch ++ List.replicate (128 - n.sketch.length) 0) ++ toLe n.ident.toNat 8 ++ toLe n.state 1 ++ toLe n.gen 1 ++ toLe n.nbrs.length 1 ++ List.replicate 117 0 ++
  (upTo 32).foldl (fun b i => b ++ match n.nbrs[i]? with | none => List.replicate 8 0 | some x => toLe (x.node % 2 ^ 36 + x.gen % 256 * 2 ^ 36 + x.dist % 2048 * 2 ^ 44) 8) []
def readNode (b : Bytes) (o : Nat) : Node :=
  { sketch := slice b o 128, ident := le 64 b (o + 0x80), state := leNat b (o + 0x88) 1, gen := leNat b (o + 0x89) 1
    nbrs := (upTo (min 32 (leNat b (o + 0x8A) 1))).map fun i => let v := leNat b (o + 0x100 + 8 * i) 8; { node := v % 2 ^ 36, gen := v / 2 ^ 36 % 256, dist := v / 2 ^ 44 % 2048 } }

/-- Bytes of a stored vector. -/
def Shard.vecLen (x : Shard) : Nat := x.dim * fmtWidth (x.vecFmt.toNat % 16) / 8

/-- A run of an INDEX record (14 R320): object kind, offset, length, bytes. Kinds: 0 NODES, 1 VECTORS, 2 PROJ, 3 IDMAP, 4 ENTRY, 5 the shard entry (log 31). -/
def indexRun (kind ofs : Nat) (b : Bytes) : Bytes := toLe kind 1 ++ toLe ofs 8 ++ toLe b.length 4 ++ b

/-- An INDEX record with the given runs (14 R320). -/
def State.indexRecord (s : State) (x : Shard) (seq : Nat) (runs : Bytes) : Bytes :=
  let n := ceilDiv (0x18 + 10 + runs.length + 4) 32
  let b := toLe 7 1 ++ toLe 0 1 ++ toLe n 2 ++ List.replicate 4 0 ++ toLe seq 8 ++ toLe s.groupFrame.toNat 6 ++ toLe 0 2 ++ toLe x.index.toNat 8 ++ toLe x.shard.toNat 2 ++ runs
  let b := b ++ List.replicate (32 * n - 4 - b.length) 0
  b ++ toLe (crc32 b).toNat 4

/-- The runs of a node: record and vector; the entry points. -/
def Shard.nodeRuns (x : Shard) (n : Nat) : Bytes :=
  let d := Sparse.get {} x.nodes n
  indexRun 0 (512 * n) d.bytes ++ indexRun 1 (n * x.vecLen) d.vec
def Shard.entryRun (x : Shard) : Bytes := indexRun 4 0 (x.entries.foldl (fun b n => b ++ toLe n 8) [])

/-- A whole shard as INDEX records. -/
def State.shardParts (s : State) (x : Shard) : List CopyPart :=
  let seq := s.media.seq
  let l := [indexRun 5 0 (s.shardEntry x), indexRun 2 0 x.proj, x.entryRun] ++ x.nodes.map fun e => x.nodeRuns e.1
  [{ ofs := seq, data := l.foldl (fun b r => b ++ s.indexRecord x seq r) [], marks := [] }]

/-- Every piece of an object is written to flash (R233 step 6). -/
def State.storeObj (s : State) (a : W64) : Bool × State :=
  match s.objFor a with
  | none => (true, s)
  | some o => o.pieces.zipIdx.foldl (fun (r : Bool × State) x => match x.1.group with
    | none => r
    | some g => if r.1 then r.2.writePart 1 true (.reel a x.2) (o.stripes x.2 g) else r) (true, s)
def State.storeObjs (s : State) (l : List W64) : Bool × State := l.foldl (fun r a => if r.1 then r.2.storeObj a else r) (true, s)

/-- Is an object's flash write still under way? -/
def State.storing (s : State) (a : W64) : Bool :=
  s.media.parts.any fun p => match p.for_ with | .reel b _ => decide (b = a) | _ => false

/-- Bytes of an expert's refit state: master, first and second moment (08 R196). -/
def refitStateLen (params : Nat) (m2bf16 : Bool) : Nat := 2 * params + params + ceilDiv params 32 + (if m2bf16 then 2 * params else params)

/-- The parts of an expert's copy: its weights, then, where it permits refit, its refit state behind them (08 R196, R200). -/
def State.expertParts (s : State) (o : Obj) (state : W64) : List CopyPart :=
  o.copyParts ++ match s.objFor state with
    | none => []
    | some r => if state = 0 then [] else r.copyParts.map fun p => { p with ofs := p.ofs + objLen o.len }

/-- An object's copy goes to its holder, piece by piece: each is a move to T3, charged until the holder has it (09 R206, R212). One that Q_T3 has no room for is not made, but for a refit's new version, which takes the place of the old one (09 R211; 08 R200). -/
def State.copyT3 (s : State) (a : W64) (o : Obj) (state : W64) (pkind tenant : Nat) (key1 : W64) (key2 version : W32) (r : Nat) (for_ : CopyFor) : State :=
  let n := s.group.nextCopy
  let need := units o.len + match s.objFor state with | some x => units x.len | none => 0
  if !for_.isRefit && (s.overQuota tenant || !s.fits tenant 3 need) then s else
    let s := s.sendCopy 1 pkind tenant key1 key2 version r for_ none (s.expertParts o state)
    (upTo (pieceCount o.len)).foldl (fun s i => s.addMove a i .toT3 tenant (units (o.pieceLen i)) false [] (some n)) s

/-- The holder of an object begins to copy it to `r` (R403 to R405). -/
def State.startCopy (s : State) (p : Place) (r : Nat) : State :=
  if s.group.copies.any fun c => decide (c.kind = p.kind) && decide (c.key1 = p.key1) && decide (c.key2 = p.key2) && decide (c.toRank = r) && (decide (c.for_ = .shadow) || decide (c.for_ = .mirrorFull)) then s else
  match p.kind with
  | 2 => match s.nsFor (nsidOf p.key1) with
    | none => s
    | some n =>
      let l := s.nsParts n
      s.sendCopy 2 2 n.tenant p.key1 0 0 r .mirrorFull none (if l.isEmpty then [{ ofs := 0, data := [], marks := [] }] else l)
  | 3 => match s.shardFor p.key1 (BitVec.ofNat 16 p.key2.toNat) with
    | none => s
    | some x => s.sendCopy 3 3 x.tenant p.key1 p.key2 0 r .shadow none (s.shardParts x)
  | 4 => s
  | _ => match s.placedObj p with
    | none => s
    | some (a, t) => match s.objFor a with
      | none => s
      | some o =>
        let state := if p.kind ≠ 1 then 0 else (((s.modelFor p.key1).bind fun m => m.expertAt (p.key2.toNat / 65536) (p.key2.toNat % 65536)).map (·.refitState)).getD 0
        s.copyT3 a o state p.kind t p.key1 p.key2 p.version r .shadow

/-- Is a HeldCopy the one that an entry names? -/
def HeldCopy.is (h : HeldCopy) (p : Place) : Bool := decide (h.kind = p.kind) && decide (h.key1 = p.key1) && decide (h.key2 = p.key2)
def State.heldFor (s : State) (p : Place) : Option HeldCopy := s.group.heldCopies.find? fun h => h.is p
def State.modHeld (s : State) (p : Place) (f : HeldCopy → HeldCopy) : State :=
  { s with group := { s.group with heldCopies := s.group.heldCopies.map fun h => if h.is p then f h else h } }
def State.dropHeld (s : State) (p : Place) : State := { s with group := { s.group with heldCopies := s.group.heldCopies.filter fun h => !h.is p } }

/-- A held copy is freed: it becomes garbage (R402, R412). -/
def State.freeHeld (s : State) (p : Place) : State :=
  match s.heldFor p with
  | none => s
  | some h => (s.freeObjs ([h.addr, h.state, h.newAddr, h.newState].filter fun a => decide (a ≠ 0))).dropHeld p

/-! Contexts: journals and resumption -/

/-- A model directory entry read from its 128 bytes (10 R231). -/
def readModel (b : Bytes) (o : Nat) : Model :=
  { id := le 64 b o, tenant := leNat b (o + 8) 4, state := leNat b (o + 0x0C) 1, kvFmt := byteAt b (o + 0x0D), layers := leNat b (o + 0x0E) 2, experts := leNat b (o + 0x10) 4, topK := leNat b (o + 0x14) 1, fusion := leNat b (o + 0x15) 1,
    refitOk := bit (byteAt b (o + 0x16)) 0, kvHeads := leNat b (o + 0x18) 2, headDim := leNat b (o + 0x1A) 2, hidden := leNat b (o + 0x1C) 4, weightBits := leNat b (o + 0x20) 8,
    serveScale := le 64 b (o + 0x28), refitScale := le 64 b (o + 0x30), programs := le 64 b (o + 0x38), expertTable := le 64 b (o + 0x40), shared := le 64 b (o + 0x48), loadFrame := leNat b (o + 0x50) 6 }

/-- The 128-byte directory entry (10 R231). -/
def Model.entry (m : Model) : Bytes :=
  toLe m.id.toNat 8 ++ toLe m.tenant 4 ++ toLe m.state 1 ++ toLe m.kvFmt.toNat 1 ++ toLe m.layers 2 ++ toLe m.experts 4 ++ toLe m.topK 1 ++ toLe m.fusion 1 ++ toLe (b2n m.refitOk) 2 ++ toLe m.kvHeads 2 ++ toLe m.headDim 2 ++ toLe m.hidden 4 ++ toLe m.weightBits 8 ++
  toLe m.serveScale.toNat 8 ++ toLe m.refitScale.toNat 8 ++ toLe m.programs.toNat 8 ++ toLe m.expertTable.toNat 8 ++ toLe m.shared.toNat 8 ++ toLe m.loadFrame 8 ++ List.replicate 40 0

/-- KEY1 of a context (R400). -/
def State.ctxKey (s : State) (i : Nat) : W64 := BitVec.ofNat 64 (s.rank * 2 ^ 32 + (s.handleOf i).toNat)

/-- A JOURNAL message's body (R393). -/
def journalBody (home flags : Nat) (handle : W32) (first count truncLen l0 ln : Nat) (model : W64) (entry : Bytes) (kv : Bytes) : Bytes :=
  toLe home 2 ++ toLe flags 2 ++ toLe handle.toNat 4 ++ toLe first 4 ++ toLe count 4 ++ toLe truncLen 4 ++ toLe l0 2 ++ toLe ln 2 ++ toLe model.toNat 8 ++ entry ++ kv

/-- KV bytes of token `t`, layers `l0` up to `l0 + n`. -/
def State.kvBytes (s : State) (m : Model) (c : Context) (t l0 n : Nat) : Bytes :=
  (upTo n).foldl (fun b l => b ++ s.readObj (c.extents.getD (t / 1024) 0 + BitVec.ofNat 64 ((l0 + l) * m.kvS + t % 1024 * m.kvB)) m.kvB) []

/-- Is a KV line of the token marked? -/
def State.kvMarked (s : State) (m : Model) (c : Context) (t : Nat) : Bool :=
  (upTo m.layers).any fun l => s.markedObj (c.extents.getD (t / 1024) 0 + BitVec.ofNat 64 (l * m.kvS + t % 1024 * m.kvB)) m.kvB

/-- Tokens from `sentTo` up to the first marked one (R406: a marked line is never sent). -/
def State.journalRun (s : State) (m : Model) (c : Context) : Nat :=
  match ((upTo (c.length - c.sentTo)).map (c.sentTo + ·)).find? fun t => s.kvMarked m c t with
  | some t => t
  | none => c.length

/-- The JOURNAL of a context at a tick (R406), in several messages where it is larger than 4 MiB (R393). -/
def State.sendJournal (s : State) (i : Nat) : State :=
  let c := s.ctxAt i
  match s.modelFor c.model with
  | none => s
  | some m =>
    if c.state = 0 ∨ c.buddy = 0xFFFF then s else
      let stop := s.journalRun m c
      let h := s.handleOf i
      let flags := b2n c.trunc.isSome + (if c.entrySent then 0 else 4)
      let first := fun (t0 count l0 ln : Nat) (kv : Bytes) => journalBody s.rank flags h t0 count (c.trunc.getD 0) l0 ln m.id (if c.entrySent then [] else m.entry) kv
      let more := fun (t0 count l0 ln : Nat) (kv : Bytes) => journalBody s.rank 0 h t0 count 0 l0 ln m.id [] kv
      let room := 4194304 - 0xE0
      let per := m.layers * m.kvB
      let n := stop - c.sentTo
      let bodies :=
        if per ≤ room then
          let k := max 1 (room / max 1 per)
          (upTo (max 1 (ceilDiv n k))).map fun g =>
            let t0 := c.sentTo + g * k
            let cnt := min k (stop - t0)
            (if g = 0 then first else more) t0 cnt 0 m.layers ((upTo cnt).foldl (fun b t => b ++ s.kvBytes m c (t0 + t) 0 m.layers) [])
        else if n = 0 then [first c.sentTo 0 0 m.layers []]
        else
          let ln := max 1 (room / max 1 m.kvB)
          (upTo n).foldl (fun (l : List Bytes) t => l ++ (upTo (ceilDiv m.layers ln)).map fun g =>
            let w := min ln (m.layers - g * ln)
            (if t = 0 ∧ g = 0 then first else more) (c.sentTo + t) 1 (g * ln) w (s.kvBytes m c (c.sentTo + t) (g * ln) w)) []
      -- a marked token stops the journal, and bites once (09 R227)
      let s := if stop < c.length ∧ !c.barred then s.biteAt 3 (c.extents.getD (stop / 1024) 0) else s
      (bodies.foldl (fun (s : State) b => s.nvTo nvJournal c.buddy b) s).modCtx i fun c => { c with sentTo := stop, trunc := none, entrySent := true, barred := decide (stop < c.length) }

/-- The open of a context ends: its handle, and UNPROTECTED where it has no buddy (10 R247, 15 R358). -/
def State.finishOpen (s : State) (i : Nat) : State :=
  let c := s.ctxAt i
  match c.opening with
  | none => s
  | some id =>
    let s := s.modCtx i fun c => { c with opening := none, openTicks := 0 }
    s.complete id stOk (s.handleOf i) (if c.buddy = 0xFFFF then 0x200 else 0)

/-- The module asks for a buddy (10 R247, R406). -/
def State.askBuddy (s : State) (i : Nat) : State := s.report [s.newPlace 4 (s.ctxKey i) 0 0 1]

/-- A context leaves the table: its extents are freed, its buddy's journal released, its place gone (10 R246, R250; R406). -/
def State.freeCtx (s : State) (i : Nat) (tell : Bool) : State :=
  let c := s.ctxAt i
  if c.state = 0 then s else
    let s := (s.freeObjs c.extents).freeObj c.extentList
    let s := if tell && decide (c.buddy ≠ 0xFFFF) then s.nvTo nvJournal c.buddy (journalBody s.rank 2 (s.handleOf i) 0 0 0 0 0 c.model [] []) else s
    let s := if tell && s.grouped then s.report [{ s.newPlace 4 (s.ctxKey i) 0 0 0 with home := 0xFFFF }] else s
    let s := s.dropPlace (s.newPlace 4 (s.ctxKey i) 0 0 0)
    s.modCtx i fun c => { gen := (c.gen + 1) % 1048576 }

/-- A context ends with its module's service: its commands end with Command Abort Requested (10 R246, R412). -/
def State.endCtx (s : State) (i : Nat) (tell : Bool) : State :=
  let c := s.ctxAt i
  let s := c.batches.foldl (fun s b => s.finishBatch i b stAbortRequested) s
  let s := s.completeOpt c.opening stAbortRequested
  let s := s.completeOpt c.closer stOk (BitVec.ofNat 32 c.closedTokens)
  s.freeCtx i tell

def State.openContexts (s : State) : List Nat := s.library.contexts.filterMap fun e => if e.2.state ≠ 0 then some e.1 else none

/-- Free entry of the context table with the lowest index (10 R245). -/
def State.freeEntry (s : State) : Option Nat := (upTo 3072).find? fun i => decide ((s.ctxAt i).state = 0)

/-- A journal becomes a context of this module, in class C (R410; log 32). A context with no free entry or no T1 room is lost. -/
def State.resumeCtx (s : State) (j : JournalHeld) : State :=
  let s := { s with group := { s.group with journals := s.group.journals.filter fun x => !decide (x = j) } }
  let key := BitVec.ofNat 64 (j.home * 2 ^ 32 + j.handle.toNat)
  let lost := fun (s : State) => s.report [{ s.newPlace 4 key 0xFFFFFFFF 0 0 with home := 0xFFFF }]
  let s := match s.modelFor j.model with
    | some _ => s
    | none => if j.entry.isEmpty then s else { s with library := { s.library with models := s.library.models ++ [readModel j.entry 0] } }
  match s.freeEntry, s.modelFor j.model with
  | some i, some m =>
    let n := extentsFor j.length
    if s.fits j.tenant 1 (1 + n * units m.extentLen) then
      let e := s.allocT1 j.tenant .work 0 8192
      let s := e.2.modCtx i fun c => { gen := c.gen, state := 1, tenant := j.tenant, model := j.model, length := j.length, maxTokens := 1048576, cls := 2, extentList := e.1, openFrame := s.groupFrame.toNat }
      let s := s.addExtents i n
      let c := s.ctxAt i
      let s := (upTo j.length).foldl (fun s t => (upTo m.layers).foldl (fun s l =>
        s.writeObj (c.extents.getD (t / 1024) 0 + BitVec.ofNat 64 (l * m.kvS + t % 1024 * m.kvB)) (Sparse.getRun 0 j.bytes ((t * m.layers + l) * m.kvB) m.kvB)) s) s
      s.report [s.newPlace 4 key (s.handleOf i) (BitVec.ofNat 32 j.length) 1]
    else lost s
  | _, _ => lost s

/-- A piece of a context's journal arrives (R393, R406). -/
def JournalHeld.take (j : JournalHeld) (layers b first count l0 ln : Nat) (kv : Bytes) : JournalHeld :=
  if j.length < first ∨ count = 0 then j else
    let bytes := (upTo count).foldl (fun m t => Sparse.setRun 0 m (((first + t) * layers + l0) * b) (slice kv (t * ln * b) (ln * b))) j.bytes
    if l0 = 0 ∧ ln = layers then { j with bytes := bytes, length := max j.length (first + count), part := 0 }
    else if count = 1 ∧ first = j.length ∧ l0 = j.part then
      (if j.part + ln = layers then { j with bytes := bytes, length := first + 1, part := 0 } else { j with bytes := bytes, part := j.part + ln })
    else { j with bytes := bytes }

/-- The journal is cut to `l` tokens. -/
def JournalHeld.cut (j : JournalHeld) (layers b l : Nat) : JournalHeld :=
  { j with length := min j.length l, part := 0, bytes := j.bytes.filter fun c => decide (c.1 < l * layers * b) }

def State.journalAckTo (s : State) (home : Nat) (handle : W32) (durable status : Nat) : State :=
  s.nvTo nvJournalAck home (toLe home 2 ++ toLe 0 2 ++ toLe handle.toNat 4 ++ toLe durable 4 ++ toLe status 1 ++ List.replicate 3 0)

/-- JOURNAL (R406). -/
def State.takeJournal (s : State) (b : Bytes) : State :=
  let home := leNat b 0x40 2
  let flags := leNat b 0x42 2
  let handle := le 32 b 0x44
  let count := leNat b 0x4C 4
  let l0 := leNat b 0x54 2
  let ln := leNat b 0x56 2
  let o := 0x60 + if flags.testBit 2 then 128 else 0
  let old := s.group.journals.find? fun j => decide (j.home = home) && decide (j.handle = handle)
  let rest := s.group.journals.filter fun j => !(decide (j.home = home) && decide (j.handle = handle))
  if flags.testBit 1 then (if b.length = o then { s with group := { s.group with journals := rest } } else s) else
  let entry := if flags.testBit 2 then slice b 0x60 128 else match old with | some j => j.entry | none => match s.modelFor (le 64 b 0x58) with | some m => m.entry | none => []
  if entry.isEmpty then s.journalAckTo home handle 0 1 else
  let m := readModel entry 0
  if b.length ≠ 0x40 + pad8 (o - 0x40 + count * ln * m.kvB) then s else
  let j : JournalHeld := match old with
    | some j => { j with entry := entry }
    | none => { home := home, handle := handle, model := m.id, tenant := m.tenant, length := 0, entry := entry, bytes := [] }
  if !s.hasTenant m.tenant || !s.fits m.tenant 2 (units (count * ln * m.kvB)) then s.journalAckTo home handle 0 1 else
    let j := if flags.testBit 0 then j.cut m.layers m.kvB (leNat b 0x50 4) else j
    let j := j.take m.layers m.kvB (leNat b 0x48 4) count l0 ln (b.drop o)
    ({ s with group := { s.group with journals := rest ++ [j] } }).journalAckTo home handle j.length 0

/-- JOURNAL_ACK (R249, R406): JOURNALED advances, held completions end; a buddy with no room is replaced. -/
def State.takeJournalAck (s : State) (b : Bytes) : State :=
  match s.ctxIndex (le 32 b 0x44) with
  | none => s
  | some i =>
    if leNat b 0x40 2 ≠ s.rank ∨ nvSrc b ≠ (s.ctxAt i).buddy then s
    else if byteAt b 0x4C = 0 then
      let s := s.modCtx i fun c => { c with journaled := min c.length (max c.journaled (leNat b 0x48 4)) }
      ((s.finishOpen i).releaseTokens i).settleBatch i
    else (((s.modCtx i fun c => { c with buddy := 0xFFFF, journaled := 0, sentTo := 0, entrySent := false, trunc := none }).releaseTokens i).settleBatch i).askBuddy i

/-! What an entry means on this module -/

/-- The expert-table fields that an entry implies (R235, R400). -/
def State.applyExpert (s : State) (p : Place) : State :=
  let held := s.heldFor p
  let addr := match held with | some h => h.addr | none => 0
  let state := match held with | some h => h.state | none => 0
  (s.modModel p.key1 fun m =>
    let k := p.key2.toNat / 65536 * m.experts + p.key2.toNat % 65536
    let e : Expert := match m.expertAt (p.key2.toNat / 65536) (p.key2.toNat % 65536) with
      | some e => { e with home := p.home, shadow := p.shadow1, shadowServes := decide (p.serving = 1), version := if e.home = s.rank then e.version else p.version }
      | none => { home := p.home, shadow := p.shadow1, shadowServes := decide (p.serving = 1), version := p.version }
    let e := if p.shadow1 = s.rank ∧ addr ≠ 0 then { e with weightsShadow := addr } else if p.home = s.rank ∧ e.weights = 0 then { e with weights := addr, weightsShadow := 0, refitState := state } else e
    { m with table := (m.table.filter fun x => !decide (x.1 = k)) ++ [(k, e)] }).writeTable p.key1

/-- Parts of data as stripes of a namespace: 64 KiB units that are not zero. -/
def nsStripes (n : Namespace) (bytes : List Host.Cell) (len : Nat) : List (Nat × (Option Container × Option Container)) :=
  (upTo (ceilDiv len 131072)).filterMap fun t =>
    let u := fun k => let d := Sparse.getRun 0 bytes ((2 * t + k) * 65536) 65536; if d.all (· == 0) then none else some (packUnit 0 0 d)
    if (u 0).isNone ∧ (u 1).isNone then none else some (n.slot (2 * t) / 2, (u 0, u 1))

/-- A mirror becomes a namespace of its holder (R410): the same NSID when it is free here, otherwise the lowest free one; it is lost where there is no room. -/
def State.promoteNs (s : State) (p : Place) : State :=
  match s.heldFor p with
  | none => s
  | some h =>
    let used := s.media.namespaces.map (·.nsid)
    let nsid := if used.contains (nsidOf p.key1) then ((upTo 1025).find? fun i => decide (1 ≤ i) && !used.contains i).getD 0 else nsidOf p.key1
    let n := max 1 (ceilDiv h.len 1048576)
    let s := s.dropHeld p
    if 1024 ≤ s.media.namespaces.length ∨ s.freeGroups < n ∨ nsid = 0 then s.report [{ p with home := 0xFFFF, serving := 0, key2 := 0xFFFFFFFF }]
    else
      let g := s.pickGroups n
      let ns : Namespace := { nsid := nsid, nsze := n * 256, lbaf := 0, tenant := nsTenant p.key1, shadows := p.want, keyMode := 0, groups := g }
      let s := s.useGroups g
      let key : NsKey := { nsid := nsid, mode := 0, draw := s.sec.draws }
      let s : State := { s with
        media := { s.media with namespaces := s.media.namespaces ++ [ns] }
        sec := { s.sec with keys := s.sec.keys ++ [key], draws := s.sec.draws + 1 } }
      let first := s.media.seq
      let s := (s.writePart 3 true .recovery (nsStripes ns h.bytes h.len)).2
      let s := (s.media.records.filter fun (r : StripeRec) => decide (first ≤ r.seq)).foldl State.applyRec s
      s.report [{ p with home := s.rank, serving := 0, shadow1 := 0xFFFF, shadow2 := 0xFFFF, key2 := BitVec.ofNat 32 nsid }]

/-- A namespace of ours whose mirror was promoted becomes a mirror, to be filled by COPY (R419). -/
def State.demoteNs (s : State) (p : Place) : State :=
  match s.nsFor (nsidOf p.key1) with
  | none => s
  | some n =>
    let s := (n.groups.foldl State.clearGroupMap s).freeGroupList n.groups
    let h : HeldCopy := { kind := 2, key1 := p.key1, key2 := 0, tenant := n.tenant, version := 0, from_ := p.home, whole := false, bytes := [], len := 0 }
    { s with media := { s.media with namespaces := s.media.namespaces.filter fun x => !decide (x.nsid = n.nsid) }, group := { s.group with heldCopies := s.group.heldCopies ++ [h] } }

/-- The own copy of an object whose new copy is durable elsewhere is freed (R402, R412). -/
def State.freeHome (s : State) (p : Place) : State :=
  let s := match p.kind with
    | 1 => match s.modelFor p.key1 with
      | none => s
      | some m => match m.expertAt (p.key2.toNat / 65536) (p.key2.toNat % 65536) with
        | none => s
        | some e =>
          let k := p.key2.toNat / 65536 * m.experts + p.key2.toNat % 65536
          (s.freeObjs ([e.weights, e.refitState].filter fun a => decide (a ≠ 0))).modModel m.id fun m => { m with table := m.table.map fun (y : Nat × Expert) => if y.1 = k then (k, { y.2 with weights := 0, refitState := 0, home := 0xFFFF }) else y }
    | 2 => match s.nsFor (nsidOf p.key1) with
      | none => s
      | some n =>
        let s := (n.groups.foldl State.clearGroupMap s).freeGroupList n.groups
        { s with
          media := { s.media with namespaces := s.media.namespaces.filter fun x => !decide (x.nsid = n.nsid), lost := s.media.lost.filter fun e => !decide (e.nsid = n.nsid) }
          sec := { s.sec with keys := s.sec.keys.filter fun k => !decide (k.nsid = n.nsid) } }
    | 3 => match s.shardFor p.key1 (BitVec.ofNat 16 p.key2.toNat) with
      | none => s
      | some x =>
        let f := s.search.filters.filter fun (f : Filter) => decide (f.index = x.index) && decide (f.shard = x.shard)
        let s := s.freeObjs (x.addrs ++ f.map fun (y : Filter) => y.addr)
        { s with search := { s.search with shards := s.search.shards.filter fun y => !(decide (y.index = x.index) && decide (y.shard = x.shard)), filters := s.search.filters.filter fun f => !(decide (f.index = x.index) && decide (f.shard = x.shard)) } }
    | 5 => match s.modelFor p.key1 with
      | none => s
      | some m => if m.shared = 0 then s else (s.freeObj m.shared).modModel m.id fun m => { m with shared := 0 }
    | _ => s
  s.dropPlace p

def State.applyMirror (s : State) (p : Place) : State :=
  if p.home = s.rank then s.modNs (nsidOf p.key1) fun n => { n with mirrors := p.copies }
  else if p.holder = s.rank then s.promoteNs p
  else if (s.nsFor (nsidOf p.key1)).isSome && (s.heldFor p).isNone then s.demoteNs p
  else s

/-- INDEX runs from offset `o` of a record up to its end: each decoded into a shard. `fuel` bounds their number. -/
def applyRuns (fuel : Nat) (b : Bytes) (o stop : Nat) (x : Shard) : Shard :=
  match fuel with
  | 0 => x
  | f + 1 =>
    if stop < o + 13 then x else
      let n := leNat b (o + 9) 4
      if n = 0 then x else
      let d := slice b (o + 13) n
      let ofs := leNat b (o + 1) 8
      let x := match leNat b o 1 with
        | 0 => let i := ofs / 512; let r := readNode d 0; { x with nodes := Sparse.set {} x.nodes i { r with vec := (Sparse.get {} x.nodes i).vec } }
        | 1 => let i := ofs / max 1 x.vecLen; { x with nodes := Sparse.set {} x.nodes i { (Sparse.get {} x.nodes i) with vec := d } }
        | 2 => { x with proj := d }
        | 4 => { x with entries := (upTo (n / 8)).map fun i => leNat d (8 * i) 8 }
        | 5 => { x with
            tenant := leNat d 8 4, vecFmt := byteAt d 0x0D, metric := leNat d 0x0E 1, degree := leNat d 0x0F 1, dim := leNat d 0x10 2
            count := leNat d 0x14 2, shadowed := bit (byteAt d 0x16) 0, entryCount := leNat d 0x17 1, capacity := leNat d 0x20 8 }
        | _ => x
      applyRuns f b (o + 13 + n) stop x

/-- INDEX records one after the other (14 R320). -/
def applyRecords (fuel : Nat) (b : Bytes) (o : Nat) (x : Shard) : Shard :=
  match fuel with
  | 0 => x
  | f + 1 =>
    let n := 32 * leNat b (o + 2) 2
    if n = 0 ∨ b.length < o + n then x else applyRecords f b (o + n) (applyRuns n b (o + 0x22) (o + n - 4) x)

/-- A shard of the entry's key with nothing in it. -/
def Shard.blank (p : Place) : Shard :=
  { index := p.key1, shard := BitVec.ofNat 16 p.key2.toNat, tenant := 0, state := 1, vecFmt := 0, metric := 0, degree := 8, dim := 32, count := 1, shadowed := true, entryCount := 1, capacity := 0 }

/-- A shadow shard begins to serve: it stands in the directory of this module (R405, R409). -/
def State.promoteShard (s : State) (p : Place) : State :=
  match s.heldFor p with
  | none => s
  | some h =>
    let b := Sparse.getRun 0 h.bytes 0 h.len
    let x := applyRecords (b.length / 32 + 1) b 0 (Shard.blank p)
    let x := { x with shadowOf := some p.home }
    if (s.shardFor x.index x.shard).isSome then s else { s with search := { s.search with shards := s.search.shards ++ [x] } }

def State.applyShard (s : State) (p : Place) : State :=
  if p.home = s.rank then s.modShard p.key1 (BitVec.ofNat 16 p.key2.toNat) fun x => { x with shadowRank := p.shadow1, shadowOf := none }
  else if p.holder = s.rank then s.promoteShard p
  else match s.shardFor p.key1 (BitVec.ofNat 16 p.key2.toNat) with
    -- the home serves again: the shadow shard goes back to following it
    | some x => if x.shadowOf.isSome then { s with search := { s.search with shards := s.search.shards.filter fun y => !(decide (y.index = x.index) && decide (y.shard = x.shard)) } } else s
    | none => s

/-- Batches of a draining context: the first runs to its end, the others end (R419 step 4). -/
def State.drainCtx (s : State) (i : Nat) : State :=
  match (s.ctxAt i).batches with
  | [] => s
  | _ :: r => r.foldl (fun s b => s.finishBatch i b stAbortRequested) s

def State.applyContext (s : State) (p : Place) : State :=
  if p.key1.toNat / 2 ^ 32 = s.rank then
    match s.ctxIndex (BitVec.ofNat 32 (p.key1.toNat % 2 ^ 32)) with
    | none => s
    | some i =>
      if p.serving ≠ 0 then s.drainCtx i
      else if p.shadow1 = (s.ctxAt i).buddy then s
      else s.modCtx i fun c => { c with buddy := p.shadow1, journaled := 0, sentTo := 0, entrySent := false, trunc := none }
  else if p.holder = s.rank then
    match s.group.journals.find? fun j => decide (j.home = p.key1.toNat / 2 ^ 32) && decide (j.handle = BitVec.ofNat 32 (p.key1.toNat % 2 ^ 32)) with
    | none => s
    | some j => s.resumeCtx j
  else s

/-- One entry takes effect at a tick (R400, R402). A holder stores a new copy only when its COPY is durable (R403). -/
def State.applyPlace (s : State) (p : Place) : State :=
  let known := match s.placeOf p with | none => [] | some q => q.copies
  -- a copy that a module makes while it serves ends when it serves no more (R412)
  let s : State := if p.holder = s.rank then s else { s with group := { s.group with copies := s.group.copies.filter fun (c : CopyOut) => !(decide (c.kind = p.kind) && decide (c.key1 = p.key1) && decide (c.key2 = p.key2) && (decide (c.for_ = .shadow) || decide (c.for_ = .mirrorFull))) } }
  let fresh := if p.holder = s.rank ∧ p.kind ≠ 4 ∧ !p.gone then p.copies.filter fun r => decide (r ≠ s.rank) && !known.contains r else []
  let q := fresh.foldl Place.dropCopy p
  let s := if p.gone then s.dropPlace p else if s.isManager then s else if p.names s.rank ∨ s.group.act = 3 then s.storePlace q else s.dropPlace p
  let s := if p.gone ∨ !p.names s.rank then s.freeHeld p else s
  let s := fresh.foldl (fun s r => s.startCopy p r) s
  if p.gone then s else
  match p.kind with
  | 1 => match s.heldFor p with
    -- a shadow that serves a version newer than the entry's says so (08 R201, R412)
    | some h => if p.holder = s.rank ∧ p.version < h.version then (s.applyExpert { q with version := h.version }).report [{ p with version := h.version }] else s.applyExpert q
    | none => s.applyExpert q
  | 2 => s.applyMirror q
  | 3 => s.applyShard q
  | 4 => s.applyContext q
  | _ => match s.heldFor p with
    | none => s
    | some h => if p.holder = s.rank ∧ h.addr ≠ 0 then s.modModel p.key1 fun m => { m with shared := h.addr } else s

/-- The copy that a holder made is whole and durable on `r` (R403 to R405). -/
def State.copyDone (s : State) (c : CopyOut) : State :=
  match c.for_ with
  | .shadow | .mirrorFull =>
    let p : Place := { s.newPlace c.kind c.key1 c.key2 0 1 with version := 0 }
    let p := match s.placeOf p with | some q => q | none => p
    if p.copies.contains c.toRank then s else
      let p := { p with home := s.rank, serving := 0, shadow1 := if p.shadow1 = s.rank then 0xFFFF else p.shadow1 }
      let p := p.addCopy c.toRank
      let s := s.storePlace p
      let s := match p.kind with | 1 => s.applyExpert p | 2 => s.applyMirror p | 3 => s.applyShard p | _ => s
      s.report [p]
  | _ => s

/-- The holder has the whole of a copy: its moves commit at the next tick (09 R212). -/
def State.landed (s : State) (n : Nat) : State :=
  s.modReel fun r => { r with moves := r.moves.map fun m => if m.copyId = some n then { m with ready := true } else m }

/-- COPY_ACK (R393). -/
def State.takeCopyAck (s : State) (b : Bytes) : State :=
  let mine := fun (c : CopyOut) => decide (c.copyId = leNat b 0x40 8) && decide (c.toRank = nvSrc b)
  match s.group.copies.find? fun c => mine c && decide (c.ofs = leNat b 0x48 8) with
  | none => s
  | some c =>
    let st := leNat b 0x50 1
    if st = 0 then
      let s := { s with group := { s.group with copies := s.group.copies.filter fun x => !decide (x = c) } }
      if s.group.copies.any mine then s else (s.landed c.copyId).copyDone c
    else if c.for_ = .shadow ∨ c.for_ = .mirrorFull then
      let s := (s.reel.moves.filter fun m => decide (m.copyId = some c.copyId)).foldl (fun (s : State) m => s.abortMove m true) s
      -- tried again at a 64th frame (R401); a member without room is passed over for the tenant
      { s with group := { s.group with
          copies := s.group.copies.filter fun x => !mine x
          noRoom := if st = 1 then s.group.noRoom ++ [(c.toRank, nsTenant c.key1)] else s.group.noRoom } }
    else s

/-- The last part of a copy of objects has come: they are made and written to flash (08 R200 step 1). -/
def State.storeHeld (s : State) (p : Place) (h : HeldCopy) : State :=
  let x := (s.modelFor p.key1).bind fun m => m.expertAt (p.key2.toNat / 65536) (p.key2.toNat % 65536)
  let fmt := match x with | some e => e.wFmt | none => 0
  let n := match x with | some e => if p.kind = 1 ∧ 0 < e.bytes then min h.len e.bytes else h.len | none => h.len
  let o := s.allocT2 h.tenant .weight fmt n
  let s := o.2.writeObj o.1 (Sparse.getRun 0 h.bytes 0 n)
  let r := if n < h.len then (let q := s.allocT2 h.tenant .refitState 0 (h.len - n); (q.1, q.2.writeObj q.1 (Sparse.getRun 0 h.bytes n (h.len - n)))) else ((0 : W64), s)
  let q := r.2.storeObjs ([o.1, r.1].filter fun a => decide (a ≠ 0))
  if q.1 then q.2.modHeld p fun h => { h with newAddr := o.1, newState := r.1, bytes := [] }
  else
    let s := h.acks.foldl (fun (s : State) a => s.nvTo nvCopyAck h.from_ (a ++ toLe 1 1 ++ List.replicate 7 0)) (s.freeObjs ([o.1, r.1].filter fun a => decide (a ≠ 0)))
    s.modHeld p fun h => { h with bytes := [], len := 0, acks := [] }

/-- Copies written whole are committed, the flag last; once that is durable they take the place of the version before, and their parts are acknowledged (R403; 08 R200 steps 1 and 2). -/
def State.settleHeld (s : State) : State :=
  s.group.heldCopies.foldl (fun s h =>
    if h.newAddr = 0 ∨ s.storing h.newAddr ∨ (h.newState ≠ 0 ∧ s.storing h.newState) then s else
      let p : Place := { kind := h.kind, serving := 0, home := h.from_, shadow1 := s.rank, shadow2 := 0xFFFF, key1 := h.key1, key2 := h.key2, version := h.inVersion, epoch := 0 }
      match h.flagSeq with
      | none =>
        let s := (s.trimObj h.newAddr).trimObj h.newState
        let q := s.commitParts [.directory 1 h.key2.toNat]
        q.2.modHeld p fun x => { x with flagSeq := some q.1 }
      | some f =>
        if !s.durable f then s else
          let s := s.freeObjs ([h.addr, h.state].filter fun a => decide (a ≠ 0))
          let s := s.modHeld p fun x => { x with addr := h.newAddr, state := h.newState, version := h.inVersion, whole := true, newAddr := 0, newState := 0, flagSeq := none, acks := [] }
          let s := h.acks.foldl (fun (s : State) a => s.nvTo nvCopyAck h.from_ (a ++ toLe 0 1 ++ List.replicate 7 0)) s
          match h.kind, s.placeOf p with
          | 1, some q => s.applyExpert q
          | _, _ => s) s

/-- COPY (R393, R402 to R405): the receiver writes nothing of a marked unit, takes nothing beyond its room or outside its placement, and acknowledges what is durable. -/
def State.takeCopy (s : State) (b : Bytes) : State :=
  let src := nvSrc b
  let kind := leNat b 0x40 1
  let tenant := leNat b 0x44 4
  let ofs := leNat b 0x60 8
  let n := leNat b 0x68 4
  let data := slice b 0x70 n
  let pkind := match kind with | 1 => if leNat b 0x54 4 = 0 then 5 else 1 | 2 => 2 | _ => 3
  let p : Place := { kind := pkind, serving := 0, home := src, shadow1 := s.rank, shadow2 := 0xFFFF, key1 := le 64 b 0x48, key2 := le 32 b 0x50, version := le 32 b 0x54, epoch := 0 }
  let ack := fun (s : State) (st : Nat) => s.nvTo nvCopyAck src (slice b 0x58 8 ++ slice b 0x60 8 ++ toLe st 1 ++ List.replicate 7 0)
  let placed := match s.placeOf p with | none => true | some q => q.names s.rank
  let bad := leNat b 0x6C 4 ≠ 0 ∧ (slice b (leNat b 0x6C 4) (b.length - leNat b 0x6C 4)).any fun x => decide (x ≠ 0)
  if kind = 0 ∨ 3 < kind ∨ !placed then ack s 3
  else if bad then ack (s.biteAt 3 (BitVec.ofNat 64 (src * 2 ^ 54 + ofs))) 2
  else if !s.hasTenant tenant || !s.fits tenant 2 (units n) then ack s 1
  else
    let old := s.heldFor p
    let start := decide (ofs = 0) && decide (kind = 1)
    let s := match old with | some h => if start then s.freeObjs ([h.newAddr, h.newState].filter fun a => decide (a ≠ 0)) else s | none => s
    let h : HeldCopy := match old with
      | some h => if start then { h with bytes := [], len := 0, inVersion := p.version, from_ := src, newAddr := 0, newState := 0, flagSeq := none, acks := [] } else { h with from_ := src }
      | none => { kind := pkind, key1 := p.key1, key2 := p.key2, tenant := tenant, version := 0, inVersion := p.version, from_ := src, whole := false, bytes := [], len := 0 }
    -- index commits follow one another; the others lie at their offset
    let at_ := if kind = 3 then h.len else ofs
    let last := bit (byteAt b 0x41) 0
    let h := { h with bytes := Sparse.setRun 0 h.bytes at_ data, len := max h.len (at_ + n), whole := h.whole || (last && decide (kind ≠ 1)) }
    let h := if kind = 1 then { h with acks := h.acks ++ [slice b 0x58 16] } else h
    let s := { (s.dropHeld p) with group := { (s.dropHeld p).group with heldCopies := (s.dropHeld p).group.heldCopies ++ [h] } }
    if kind ≠ 1 then ack s 0 else if last then s.storeHeld p h else s

/-- 64 frames without the mirror's acknowledgement: it leaves the entry, and what waited for it goes on (R404, R405). -/
def mirrorTimeout (copyId : W64) (s : State) : State :=
  match s.group.copies.find? fun c => decide (c.copyId = copyId.toNat) with
  | none => s
  | some c =>
    if c.sent + 64 ≤ s.frame.num.toNat ∧ c.for_ ≠ .shadow ∧ c.for_ ≠ .mirrorFull then
      let s := { s with group := { s.group with copies := s.group.copies.filter fun x => !(decide (x.key1 = c.key1) && decide (x.kind = c.kind) && decide (x.toRank = c.toRank)) } }
      let s := match c.kind with
        | 2 => s.modNs (nsidOf c.key1) fun n => { n with mirrors := n.mirrors.filter fun r => decide (r ≠ c.toRank) }
        | 3 => s.modShard c.key1 (BitVec.ofNat 16 c.key2.toNat) fun x => if x.shadowRank = c.toRank then { x with shadowRank := 0xFFFF } else x
        | _ => s
      let p := s.newPlace c.kind c.key1 c.key2 0 1
      match s.placeOf p with
      | none => s
      | some q => (s.storePlace (q.dropCopy c.toRank)).report [{ q.dropCopy c.toRank with want := max q.want q.copies.length }]
    else s

end Sys2Proof.Machine
end

