-- ==== Sys2Proof/Machine/Group.lean ====
section
/-! DEFINITION. Membership, failure declarations, levels, takeover, drain, and what a group does at each tick (17 R392 to R420). -/

namespace Sys2Proof.Machine

def State.modGroup (s : State) (f : Group → Group) : State := { s with group := f s.group }

/-- A 16-byte identifier as a 128-bit little-endian number (R397). -/
def uidNat (b : Bytes) : Nat := leNat b 0 16

def State.modMember (s : State) (r : Nat) (f : Member → Member) : State :=
  s.modGroup fun g => { g with members := g.members.map fun m => if m.rank = r then f m else m }

/-- A declaration to make at the next tick (R407); the first cause of a rank stands. -/
def State.suspect (s : State) (r cause : Nat) : State :=
  if s.group.causes.any fun c => decide (c.1 = r) then s else s.modGroup fun g => { g with causes := g.causes ++ [(r, cause)] }

/-- Members that may hold copies: this module, and members that have sent READY and do not drain (R401). -/
def State.able (s : State) (r : Nat) : Bool :=
  !s.group.failed.contains r && s.group.members.any fun m => decide (m.rank = r) && m.ready && !m.draining

/-- Tenant of an entry, as far as this module knows it. -/
def State.placeTenant (s : State) (p : Place) : Nat :=
  if p.kind = 2 then nsTenant p.key1 else match s.modelFor p.key1 with | some m => m.tenant | none => 0

/-- The member for a new copy (R401): able, no copy of the object yet, not known to lack room; the one with the fewest copies in the directory, the lower rank of equals (log 33). -/
def State.pickMember (s : State) (p : Place) : Option Nat :=
  let t := s.placeTenant p
  let l := (s.group.members.map (·.rank)).filter fun r => s.able r && !p.names r && !s.group.noRoom.contains (r, t)
  let count := fun r => (s.group.places.filter fun q => q.copies.contains r && decide (s.placeTenant q = t)).length
  match sortBy (fun a b => decide (count a < count b) || (decide (count a = count b) && decide (a < b))) l with
  | [] => none
  | r :: _ => some r

/-- An entry that lacks a copy gets one under way: a buddy is named at once, another holder is told to copy (R401, R403; log 30). -/
def State.assign (s : State) (p : Place) : State :=
  if p.gone ∨ p.want ≤ p.copies.length ∨ s.group.failed.contains p.holder then s else
    match s.pickMember p with
    | none => s
    | some r =>
      if p.kind = 4 then s.dirSet (p.addCopy r)
      else if p.holder = s.rank then s.startCopy p r
      else if !(s.group.members.any fun m => decide (m.rank = p.holder) && m.ready) then s
      else s.nvTo nvPlace p.holder (placeBody 3 [p.addCopy r])

def State.assignAll (s : State) (p : Place → Bool) : State := (s.group.places.filter p).foldl State.assign s

/-- One PLACE with every change of the directory, to the deputy first (R400); what 4 MiB cannot carry follows at the next tick (R391). -/
def State.flushPlaces (s : State) : State :=
  let due := s.group.places.filter fun p => decide (p.epoch = 0)
  let l := due.take 131000
  if l.isEmpty || !s.group.running then s else
    let e := s.group.epoch + 1
    let l := l.map fun p => { p with epoch := e }
    let dep := s.group.deputy
    let wait := s.others
    let lone := decide (dep = 0xFFFF) || !wait.contains dep
    let s := s.modGroup fun g => { g with
      epoch := e
      places := (g.places.filter fun p => decide (p.epoch ≠ 0)) ++ (l.filter fun p => !p.gone) ++ due.drop 131000
      placeIn := g.placeIn ++ [(0, l)]
      placesOut := if wait.isEmpty then g.placesOut else g.placesOut ++ [{ epoch := e, entries := l, released := lone, waiting := wait }] }
    if lone then s.nvAll nvPlace (placeBody 0 l) else s.nvTo nvPlace dep (placeBody 0 l)

/-- PLACE_ACK (R400): once the deputy holds a change, the others are sent it. -/
def State.takePlaceAck (s : State) (b : Bytes) : State :=
  let src := nvSrc b
  s.group.placesOut.foldl (fun s o =>
    if o.epoch ≠ nvEpoch b then s else
      let left := o.waiting.filter fun r => decide (r ≠ src)
      let now := !o.released && decide (src = s.group.deputy)
      let s := if now then left.foldl (fun s r => s.nvTo nvPlace r (placeBody 0 o.entries)) s else s
      s.modGroup fun g => { g with placesOut := g.placesOut.filterMap fun x =>
        if x.epoch = o.epoch then (if left.isEmpty then none else some { x with released := o.released || now, waiting := left }) else some x }) s

/-- PLACE arrives: at the manager a member's report, elsewhere the manager's change or copy (R400, R402, R413). -/
def State.takePlace (s : State) (b : Bytes) : State :=
  let n := leNat b 0x40 4
  let flags := leNat b 0x44 2
  let l := (upTo n).map fun i => readPlace b (0x48 + 32 * i)
  if s.isManager then l.foldl (fun s p => s.adopt p.heard) s
  else
    let l := l.map fun p => { p with want := if p.kind = 1 ∨ p.kind = 4 ∨ p.kind = 5 then 1 else p.copies.length }
    let s := s.modGroup fun g => { g with placeIn := g.placeIn ++ [(if flags.testBit 0 then 0 else nvEpoch b, l)] }
    let s := if s.group.unready && flags.testBit 0 then s.modGroup fun g => { g with snapshot := g.snapshot ++ l, snapEpoch := if flags.testBit 1 then some (nvEpoch b) else g.snapEpoch } else s
    if flags = 1 ∧ s.group.state = 3 then s.modGroup fun g => { g with state := 4 } else s

/-- Contexts of an entry list resume by the lowest old handle (R410), after the other entries. -/
def placeOrder (l : List Place) : List Place :=
  (l.filter fun p => decide (p.kind ≠ 4)) ++ sortBy (fun a b => decide (a.key1.toNat % 2 ^ 32 < b.key1.toNat % 2 ^ 32)) (l.filter fun p => decide (p.kind = 4))

/-- Does a stored entry name this module no longer, as the entries of R402 show that it was sent? -/
def State.stale (s : State) (p : Place) : Bool :=
  decide (p.kind ≠ 4) && p.names s.rank && !(s.group.snapshot.any fun q => q.sameKey p) && (decide (s.group.epoch = 0) || (s.group.declared && !p.copies.isEmpty))

/-- Reconciliation of R402 on the worker, at epoch `e` of the manager: entries it no longer stands in go with their objects, copies that no entry names are freed, copies at another version are freed and asked for again, entries without their object are reported; a manager with an empty directory is sent every entry. READY follows. -/
def State.reconcile (s : State) (e : Nat) : State :=
  let s := if e = 0 then s else (s.group.places.filter s.stale).foldl (fun (s : State) p => if p.home = s.rank then s.freeHome p else s.dropPlace p) s
  let s := s.group.heldCopies.foldl (fun s h =>
    let p := s.newPlace h.kind h.key1 h.key2 0 0
    match s.placeOf p with
    | none => s.freeHeld p
    | some q => if q.kind = 1 ∧ q.version ≠ h.version then s.freeHeld p else s) s
  let lacking := s.group.places.filter fun p => decide (p.kind ≠ 4) && p.copies.contains s.rank && (s.heldFor p).isNone && decide (p.home ≠ s.rank)
  let s := lacking.foldl (fun s p => s.report [p.dropCopy s.rank]) s
  -- an expert of ours that a refit has overtaken on its shadow (08 R201)
  let old : List Place := s.group.places.filterMap fun (p : Place) =>
    if p.kind = 1 ∧ p.home = s.rank then
      match s.modelFor p.key1 with
      | none => none
      | some m => match m.expertAt (p.key2.toNat / 65536) (p.key2.toNat % 65536) with
        | none => none
        | some x => if x.version < p.version then some { p with version := x.version } else none
    else none
  let s := old.foldl (fun (s : State) p => (s.report [p]).freeHome p) s
  let s := if e = 0 ∧ !s.group.places.isEmpty then s.nvTo nvPlace s.group.managerRank (placeBody 0 s.group.places) else s
  let s := s.modGroup fun g => { g with epoch := e, unready := false, snapshot := [], snapEpoch := none }
  s.nvTo nvReady s.group.managerRank []

/-- PLACEs received take effect at the tick, and are acknowledged (R400). A worker that has all its entries reconciles (R402). -/
def State.placesTick (s : State) : State :=
  let l := s.group.placeIn
  let s := s.modGroup fun g => { g with placeIn := [] }
  let s := l.foldl (fun s x =>
    let s := (placeOrder x.2).foldl State.applyPlace s
    if x.1 = 0 then s else
      let s := s.modGroup fun g => { g with epoch := max g.epoch x.1 }
      s.nvTo nvPlaceAck s.group.managerRank []) s
  match s.group.snapEpoch with
  | some e => if s.group.unready then s.reconcile e else s
  | none => s

/-! Joining -/

/-- An image takes effect on the group (03 R79; R394 to R396, R420): another role, rank or identifier starts membership anew. -/
def State.groupActivate (s : State) (i : Image) (old : Option Image) : State :=
  let same := match old with | none => false | some o => decide (o.role = i.role) && decide (o.rank = i.rank) && decide (o.groupId = i.groupId)
  let s := s.modGroup fun g => { g with rejected := false, expected := i.expectedSize, quorum := i.quorum }
  if same then (if s.group.state = 0 then s.modGroup fun g => { g with state := 1 } else s) else
    let s := s.group.members.foldl (fun s m => s.closePeer m.rank) s
    let g := s.group
    let base : Group := { places := g.places, heldCopies := g.heldCopies, journals := g.journals, relocs := g.relocs, epoch := if i.role = 0 then (g.places.map (·.epoch)).foldl max g.epoch else g.epoch, lastGroupFrame := g.lastGroupFrame, outbox := g.outbox, seqs := g.seqs, expected := i.expectedSize, quorum := i.quorum, nextCopy := g.nextCopy, nextQuery := g.nextQuery }
    if i.role = 0 then
      let me : Member := { rank := i.rank, uid := s.gondola.uid, level := s.gondola.fwGroupLevel, schema := s.gondola.fwSchemaMax, ready := true, admittedAt := s.frame.time }
      { s with group := { base with state := 3, act := 1, level := s.gondola.fwGroupLevel, schema := s.gondola.fwSchemaMax, members := [me], batchDue := s.frame.tickTime, managerRank := i.rank, managerUid := s.gondola.uid } }
    else { s with group := { base with state := 1 } }

/-- JOIN goes to the manager (R395). -/
def State.sendJoin (s : State) : State :=
  let s := s.nv (if s.netUp 0 then 0 else 1) nvJoin s.group.managerRank s.joinBody
  s.modGroup fun g => { g with state := 2, lastJoin := some s.frame.time }

/-- A beacon was heard on a network within the last 16 frames (R395). -/
def State.heardLately (s : State) (h : Option Nat) : Bool := match h with | some n => decide (s.frame.num.toNat ≤ n + 16) | none => false
def State.mayJoin (s : State) : Bool := !s.safe && s.netUp 0 && s.netUp 1 && decide (s.group.state = 1) && !s.group.rejected && s.heardLately s.group.heardA && s.heardLately s.group.heardB

/-- Members as a bitmap names them: queue pairs to newcomers open, to leavers close (16 R385; R396). -/
def State.followMembers (s : State) (l : List Nat) : State :=
  let s := (s.group.members.filter fun m => !l.contains m.rank).foldl (fun s m => s.closePeer m.rank) s
  let add := l.filter fun r => !(s.group.members.any fun m => decide (m.rank = r))
  let s := s.modGroup fun g => { g with members := (g.members.filter fun m => l.contains m.rank) ++ add.map fun r => ({ rank := r, uid := [], ready := true } : Member) }
  (add.filter fun r => decide (r ≠ s.rank)).foldl State.openPeer s

/-- The beacon of STEP_FRAME (02 R50; R396): the boundary is stepped to it, the worker is a member, and its queue pairs open; READY follows its reconciliation. -/
def State.stepIn (s : State) (a : Admission) (t : Nat) : State :=
  let f := s.frame
  let s := ({ s with frame := { f with nextTick := t, stepping := true, residual := 0, lastEvent := none, syncState := if f.syncState = 3 then 2 else f.syncState, grpOfs := BitVec.ofInt 48 ((a.stepFrame : Int) - ((f.num.toNat : Int) + 1)) } }).setFrmEvt 0
  let s := s.modGroup fun g => { g with state := 3, admission := none, declared := a.declared, lastJoin := none, handback := a.handback, unready := true, snapshot := [], snapEpoch := none }
  let s := { s with bridle := { s.bridle with nextSeq := [] } }
  let s := s.followMembers (a.members ++ [s.rank]).eraseDups
  if a.declared then s.openContexts.foldl (fun s i => s.endCtx i false) s else s

/-- A BEACON arrives on a network at FRM_TIME `t` (02 R46; R394 to R397, R415). -/
def beaconIn (net : Nat) (b : Bytes) (t : Nat) (s : State) : State :=
  let s := s.advance t
  let uid := slice b 0x40 16
  let src := nvSrc b
  if !s.nvOk b nvBeacon || decide (uid = s.gondola.uid) then s
  else if s.safe && s.isManager then s
  else if s.group.act = 1 then
    (if src = 0 then (if uidNat uid < uidNat s.gondola.uid then s.modGroup fun g => { g with duplicate := true } else s)
     else
       let s := s.modGroup fun g => { g with act := 0, state := 2, members := [], managerRank := src, managerUid := uid, batchDue := 0 }
       if s.netUp 0 && s.netUp 1 then s.sendJoin else s.modGroup fun g => { g with state := 1 })
  else if s.group.act = 2 then s
  else
    let n := s.frame.num.toNat
    let first := decide (s.group.beaconFrame ≠ some (nvFrame b))
    let member := decide (3 ≤ s.group.state)
    let dep := leNat b 0x62 2
    let s := s.modGroup fun g => { g with
      heardA := if net = 0 then some n else g.heardA, heardB := if net = 1 then some n else g.heardB, beaconFrame := some (nvFrame b)
      noBeacon := false, asking := false, votes := [], elected := false
      managerRank := src, managerUid := uid, level := leNat b 0x5A 2, schema := leNat b 0x5C 2
      expected := leNat b 0x5E 2, quorum := leNat b 0x60 2, deputy := dep, running := decide (leNat b 0x64 1 = 1)
      act := if member ∧ dep = s.rank then 3 else 0 }
    let s := { s with frame := { s.frame with sinceBeacon := 0 } }
    let s := if member then s.followMembers (readMap b 0x68) else s
    -- the group no longer counts this module: it asks to join again (R396, R408)
    let s := if member ∧ !(readMap b 0x68).contains s.rank then s.modGroup fun g => { g with state := 1, act := 0 } else s
    let s := if first ∧ s.loft.image.any (fun i => decide (i.src = 2)) then refEvent 1 t s else s
    match s.group.admission with
    | some a => if s.group.state = 2 ∧ a.stepFrame = nvFrame b then s.stepIn a t else s
    | none => if s.mayJoin then s.sendJoin else s

/-- REJECT's reason, none where the JOIN may be admitted (R397, R417). -/
def State.joinReject (s : State) (j : JoinReq) : Option Nat :=
  let levels := (s.group.members.map (·.level)) ++ [j.level]
  if s.group.members.any fun m => decide (m.rank = j.rank) && decide (m.uid ≠ j.uid) && !m.uid.isEmpty then some 1
  else if (j.rank = 0 ∧ s.group.act ≠ 2) ∨ s.group.expected ≤ j.rank then some 2
  else if levels.foldl min j.level + 1 < levels.foldl max j.level then some 3
  else if j.period ≠ s.frame.periodUs then some 4
  else none

/-- JOIN reaches the manager (R395 to R397, R407 cause 4). -/
def joinIn (net : Nat) (b : Bytes) (s : State) : State :=
  if !s.nvOk b nvJoin || !s.isManager || s.group.duplicate then s else
    let j : JoinReq := { rank := leNat b 0x50 2, uid := slice b 0x40 16, level := leNat b 0x52 2, schema := leNat b 0x54 2, period := leNat b 0x56 2, epoch := nvEpoch b, last := leNat b 0x58 8, time := s.frame.time, net := net }
    match s.joinReject j with
    | some r => s.nv net nvReject j.rank (toLe r 1 ++ List.replicate 7 0)
    | none =>
      let s := s.modGroup fun g => { g with joins := (g.joins.filter fun x => decide (x.rank ≠ j.rank)) ++ [j] }
      if s.group.members.any fun m => decide (m.rank = j.rank) then s.suspect j.rank 4 else s

/-- JOIN goes out again every 500 ms (R395). -/
def joinRetry (s : State) : State :=
  match s.group.lastJoin with
  | some t => if s.netUp 0 ∧ s.netUp 1 ∧ s.group.state = 2 ∧ s.group.admission.isNone ∧ t + 500000000 ≤ s.frame.time then s.sendJoin else s
  | none => s

/-- ADMIT reaches the worker (R396); to the deputy that a draining manager names it gives the tick of the handover (R419; log 34). -/
def admitIn (b : Bytes) (s : State) : State :=
  if !s.nvOk b nvAdmit || decide (leNat b 0x40 2 ≠ s.rank) then s else
    if s.group.state = 2 then
      s.modGroup fun g => { g with
        deputy := leNat b 0x42 2, level := leNat b 0x44 2, schema := leNat b 0x46 2, quorum := leNat b 0x48 2
        admission := some { stepFrame := leNat b 0x50 6, declared := decide (leNat b 0x4A 1 = 1), members := readMap b 0x58, handback := leNat b 0xD8 6 } }
    else if s.group.act = 3 ∧ leNat b 0xD8 6 ≠ 0 then s.modGroup fun g => { g with handback := leNat b 0xD8 6 }
    else s

/-- REJECT (R397): no further JOIN until a new image activates. -/
def rejectIn (b : Bytes) (s : State) : State :=
  if s.nvOk b nvReject && decide (s.group.state = 2) then s.modGroup fun g => { g with state := 0, rejected := true, lastJoin := none, admission := none } else s

/-- READY (R396, R412): the worker serves its own objects again. -/
def readyIn (b : Bytes) (s : State) : State :=
  let r := nvSrc b
  if !s.nvOk b nvReady || !s.isManager || !(s.group.members.any fun m => decide (m.rank = r) && !m.ready) then s else
    let s := (s.modMember r fun m => { m with ready := true, lastStatus := s.frame.num.toNat }).openPeer r
    (s.group.places.filter fun p => decide (p.home = r) && decide (p.serving ≠ 0) && (decide (p.kind = 1) || decide (p.kind = 3) || decide (p.kind = 5))).foldl (fun s p =>
      (s.modGroup fun g => { g with relocs := g.relocs.filter fun x => !(decide (x.kind = p.kind) && decide (x.key1 = p.key1) && decide (x.key2 = p.key2)) }).dirSet { p with serving := 0 }) s

/-- A worker whose READY has not arrived within 500 ms is removed (R396). -/
def readyTimeout (r : Nat) (s : State) : State :=
  if s.isManager && s.group.members.any fun m => decide (m.rank = r) && !m.ready && decide (m.admittedAt + 500000000 ≤ s.frame.time) then
    (s.modGroup fun g => { g with members := g.members.filter fun m => decide (m.rank ≠ r) }).closePeer r
  else s

/-- 20 s after the group became running a rank is still not admitted (R398, R407 cause 5). -/
def admissionDeadline (r : Nat) (s : State) : State :=
  if s.isManager && s.group.running && decide (s.group.runningAt + 20000000000 ≤ s.frame.time) && decide (r < s.group.expected) && !s.memberRanks.contains r && !s.group.failed.contains r then s.suspect r 5 else s

/-- A worker that hears no BEACON for 16 frames (R394). -/
def noBeacon (s : State) : State :=
  if decide (16 ≤ s.frame.sinceBeacon) && !s.isManager && !s.bare then s.modGroup fun g => { g with noBeacon := true } else s

/-- STATUS (R392, R407). -/
def statusIn (b : Bytes) (s : State) : State :=
  let r := nvSrc b
  if !s.nvOk b nvStatus || !s.isManager then s else
    let s := s.modMember r fun m => { m with
      lastStatus := s.frame.num.toNat, safe := bit (byteAt b 0x41) 0, drained := bit (byteAt b 0x41) 1
      freeContexts := leNat b 0x42 2, freeGroups := leNat b 0x48 8 }
    if bit (byteAt b 0x41) 0 ∧ s.memberRanks.contains r then s.suspect r 2 else s

def statusTimeout (r : Nat) (s : State) : State :=
  if s.isManager && s.group.members.any fun m => decide (m.rank = r) && m.ready && decide (r ≠ s.rank) && decide (m.lastStatus + 16 ≤ s.frame.num.toNat) then s.suspect r 1 else s

/-- FAIL (R407): the rank is no member. -/
def failIn (b : Bytes) (s : State) : State :=
  if !s.nvOk b nvFail || !s.inGroup then s else
    let r := leNat b 0x40 2
    (s.modGroup fun g => { g with members := g.members.filter fun m => decide (m.rank ≠ r), failed := if g.failed.contains r then g.failed else g.failed ++ [r] }).closePeer r

/-- An entry after the failure of `r` (R409): a surviving copy serves; a copy on `r` is dropped. -/
def State.failOver (s : State) (r : Nat) (p : Place) : State :=
  if p.holder = r then
    match (p.dropCopy r).copies.find? fun k => s.able k with
    | some k =>
      let p := p.dropCopy (if p.serving = 0 then 0xFFFF else r)
      let s := if p.kind = 2 ∨ p.kind = 4 then s.relocate { kind := p.kind, key1 := p.key1, key2 := p.key2, status := 2, rank := k, handle := 0, length := 0 } else s.relocate { kind := p.kind, key1 := p.key1, key2 := p.key2, status := 0, rank := k, handle := 0, length := 0 }
      s.dirSet { p with serving := if p.shadow1 = k then 1 else 2 }
    | none => s.relocate { kind := p.kind, key1 := p.key1, key2 := p.key2, status := 3, rank := r, handle := 0, length := 0 }
  else if p.copies.contains r then s.dirSet (p.dropCopy r)
  else s

/-- The manager declares a rank failed (R407 to R409). -/
def State.declare (s : State) (r cause : Nat) : State :=
  let s := s.modGroup fun g => { g with
    members := g.members.filter fun m => decide (m.rank ≠ r)
    failed := if g.failed.contains r then g.failed else g.failed ++ [r]
    causes := g.causes.filter fun c => decide (c.1 ≠ r)
    declCnt := satInc g.declCnt, lastCause := BitVec.ofNat 3 cause, lastRank := BitVec.ofNat 10 r, lastFrame := BitVec.ofNat 16 s.groupFrame.toNat }
  let s := s.closePeer r
  let s := s.nvAll nvFail (toLe r 2 ++ toLe cause 1 ++ List.replicate 5 0)
  let s := s.modGroup fun g => { g with placesOut := g.placesOut.map fun o => { o with waiting := o.waiting.filter fun k => decide (k ≠ r) } }
  (s.group.places.filter fun p => p.names r && !p.gone).foldl (fun s p => s.failOver r p) s

/-! At a tick -/

/-- Members whose queue pairs on both networks are lost (R407 cause 3). -/
def State.linksTick (s : State) : State :=
  s.group.members.foldl (fun s m =>
    if m.rank = s.rank ∨ !m.ready then s
    else if s.hasQp m.rank then s.modMember m.rank fun m => { m with noQp := false }
    else if m.noQp then s.suspect m.rank 3
    else (s.openQps m.rank).modMember m.rank fun m => { m with noQp := true }) s

/-- A pending LEVEL takes effect at its frame's tick (R418). -/
def State.levelTick (s : State) : State :=
  if s.group.pendFrame ≠ 0 ∧ s.group.pendFrame ≤ s.groupFrame.toNat then s.modGroup fun g => { g with level := g.pendLevel, schema := g.pendSchema, pendLevel := 0, pendSchema := 0, pendFrame := 0 } else s

/-- The lowest of the members that the manager knows (R417). -/
def State.lowest (s : State) (f : Member → Nat) : Nat := match s.group.members with | [] => 0 | m :: r => (r.map f).foldl min (f m)

/-- The manager withdraws a LEVEL that a new member is below (R418). -/
def State.levelWithdraw (s : State) : State :=
  if s.group.pendFrame ≠ 0 ∧ (s.lowest (·.level) < s.group.pendLevel ∨ s.lowest (·.schema) < s.group.pendSchema) then
    let s := s.nvAll nvLevel (toLe s.group.pendLevel 2 ++ toLe s.group.pendSchema 2 ++ toLe 1 2 ++ toLe 0 2 ++ toLe s.group.pendFrame 8)
    s.modGroup fun g => { g with pendLevel := 0, pendSchema := 0, pendFrame := 0 }
  else s

/-- Levels in force (R417, R418): the lowest among the manager and its members, at once downward, by LEVEL upward. -/
def State.levelManage (s : State) : State :=
  let s := s.levelWithdraw
  let l := s.lowest (·.level)
  let c := s.lowest (·.schema)
  let gf := s.groupFrame.toNat
  if l < s.group.level ∨ c < s.group.schema then s.modGroup fun g => { g with level := min l g.level, schema := min c g.schema }
  else if (s.group.level < l ∨ s.group.schema < c) ∧ s.group.pendFrame = 0 then
    let s := s.modGroup fun g => { g with pendLevel := l, pendSchema := c, pendFrame := gf + 64 }
    s.nvAll nvLevel (toLe l 2 ++ toLe c 2 ++ toLe 0 2 ++ toLe 0 2 ++ toLe (gf + 64) 8)
  else s

/-- LEVEL on a member (R418). -/
def levelIn (b : Bytes) (s : State) : State :=
  if !s.nvOk b nvLevel || s.isManager || !s.inGroup then s
  else if bit (byteAt b 0x44) 0 then s.modGroup fun g => { g with pendLevel := 0, pendSchema := 0, pendFrame := 0 }
  else s.modGroup fun g => { g with pendLevel := leNat b 0x40 2, pendSchema := leNat b 0x42 2, pendFrame := leNat b 0x48 6 }

/-- The group becomes running when the manager and the workers that have sent READY number QUORUM (R398, R399's example); ranks that have not asked to join are declared failed (R398). -/
def State.runningTick (s : State) : State :=
  if s.group.running ∨ (s.group.members.filter (·.ready)).length < s.group.quorum then s else
    let s := s.modGroup fun g => { g with running := true, runningAt := s.frame.time }
    ((upTo s.group.expected).filter fun r => !s.memberRanks.contains r && !(s.group.joins.any fun j => decide (j.rank = r) && decide (s.frame.time ≤ j.time + 1000000000))).foldl (fun s r => s.suspect r 5) s

/-- One JOIN of the batch is admitted (R396, R402). -/
def State.admitOne (s : State) (j : JoinReq) : State :=
  let gf := s.groupFrame.toNat
  let declared := s.group.failed.contains j.rank
  let hb := if j.rank = 0 then gf + 4 + ceilDiv 500000 (max 1 s.frame.periodUs) + 65 else 0
  let m : Member := { rank := j.rank, uid := j.uid, level := j.level, schema := j.schema, admittedAt := s.frame.time, lastStatus := s.frame.num.toNat, stepFrame := gf + 4, epoch := j.epoch, sentPlaces := false }
  let s := s.modGroup fun g => { g with
    members := (g.members.filter fun x => decide (x.rank ≠ j.rank)) ++ [m], joins := g.joins.filter fun x => decide (x.rank ≠ j.rank)
    failed := g.failed.filter fun r => decide (r ≠ j.rank), handback := if j.rank = 0 then hb else g.handback }
  s.nv j.net nvAdmit j.rank (s.admitBody j.rank (gf + 4) hb declared)

/-- Entries in the messages of a copy of the directory (R393), at most 4 MiB each; the last is marked LAST. -/
def snapshots (fuel : Nat) (l : List Place) : List Bytes :=
  match fuel with
  | 0 => []
  | f + 1 => if l.length ≤ 131000 then [placeBody 3 l] else placeBody 1 (l.take 131000) :: snapshots f (l.drop 131000)

def State.sendSnapshot (s : State) (r : Nat) (l : List Place) : State := (snapshots (l.length + 1) l).foldl (fun (s : State) b => s.nvTo nvPlace r b) s

/-- A worker that has stepped in is sent the entries of R402: those that name it and have changed since its epoch; all that name it where its epoch is 0 or unknown. -/
def State.snapshotTick (s : State) : State :=
  (s.group.members.filter fun m => !m.sentPlaces && decide (m.stepFrame ≤ s.groupFrame.toNat)).foldl (fun (s : State) m =>
    let l := s.group.places.filter fun p => p.names m.rank && !p.gone && (decide (m.epoch = 0) || decide (s.group.epoch < m.epoch) || decide (m.epoch < p.epoch) || decide (p.epoch = 0))
    ((s.openPeer m.rank).sendSnapshot m.rank l).modMember m.rank fun m => { m with sentPlaces := true }) s

/-- A batch opens when due: up to 64 JOINs, lowest rank first (R396). -/
def State.batchTick (s : State) : State :=
  if s.frame.tickTime < s.group.batchDue ∨ s.group.duplicate ∨ s.outside then s else
    let l := (sortBy (fun (a b : JoinReq) => decide (a.rank < b.rank)) (s.group.joins.filter fun j => !s.memberRanks.contains j.rank)).take 64
    let s := s.modGroup fun g => { g with batchDue := g.batchDue + 500000000 * (1 + (s.frame.tickTime - g.batchDue) / 500000000) }
    l.foldl State.admitOne s

/-- The lowest-ranked member that may be deputy (R413). -/
def State.nextDeputy (s : State) : Nat :=
  match s.others.find? fun r => s.able r with
  | some r => r
  | none => 0xFFFF

/-- A new deputy is sent the whole directory before the BEACON that names it (R413). -/
def State.deputyTick (s : State) : State :=
  let d := s.nextDeputy
  if d = s.group.deputy then s else
    let s := s.modGroup fun g => { g with deputy := d }
    if d = 0xFFFF then s else s.sendSnapshot d s.group.places

/-- A drain goes on (R419 steps 3 and 4). -/
def State.drainTick (s : State) : State :=
  match s.group.drain with
  | none => s
  | some d =>
    let s := s.modMember d.rank fun m => { m with draining := true }
    (s.group.places.filter fun p => decide (p.home = d.rank) && decide (p.serving = 0) && decide (p.kind ≠ 4) && !p.gone).foldl (fun s p =>
      match p.copies.find? fun k => s.able k with
      | some k => s.dirSet { p with serving := if p.shadow1 = k then 1 else 2 }
      | none => if p.kind = 2 ∨ p.want ≠ 0 then s else s.dirSet { p with want := 1 }) s

/-- A draining member's contexts that are wholly journaled are handed over; without contexts it is drained (R419 step 4). -/
def State.drainingTick (s : State) : State :=
  if s.group.state ≠ 4 then s else
    let s := s.openContexts.foldl (fun s i => s.drainCtx i) s
    let s := s.openContexts.foldl (fun s i =>
      let c := s.ctxAt i
      if c.buddy ≠ 0xFFFF ∧ c.batches.isEmpty ∧ c.journaled = c.length then
        let s := s.report [{ s.newPlace 4 (s.ctxKey i) 0 0 1 with serving := 1, shadow1 := c.buddy }]
        s.freeCtx i false
      else s) s
    if s.openContexts.isEmpty then s.modGroup fun g => { g with state := 5 } else s

/-- The deputy that hears no BEACON asks for votes (R414). -/
def State.takeoverTick (s : State) : State :=
  let n := s.frame.num.toNat
  if s.group.act = 3 ∧ 16 ≤ s.frame.sinceBeacon ∧ !s.group.asking ∧ s.group.askAt ≤ n then
    let s := s.modGroup fun g => { g with asking := true, askAt := n, round := g.round + 1, votes := [s.rank], elected := decide (g.quorum ≤ 1) }
    s.nvAll nvTakeover (toLe s.group.round 4 ++ toLe 0 4)
  else s

/-- A module that becomes manager knows its members from the BEACON's bitmap: each is at the levels in force until it joins anew, and its STATUS is awaited from now on. -/
def State.takeMembers (s : State) : State :=
  let n := s.frame.num.toNat
  s.modGroup fun g => { g with members := g.members.map fun m => if m.rank = s.rank then { m with uid := s.gondola.uid, level := s.gondola.fwGroupLevel, schema := s.gondola.fwSchemaMax, ready := true, lastStatus := n } else { m with level := max m.level g.level, schema := max m.schema g.schema, lastStatus := n } }

/-- The deputy becomes acting manager (R414, R419): it keeps the numbering without a step, and declares rank 0 failed when it took over by vote. -/
def State.actingManager (s : State) (voted : Bool) : State :=
  let s := s.modGroup fun g => { g with act := 2, state := 3, elected := false, asking := false, managerRank := s.rank, managerUid := s.gondola.uid, deputy := 0xFFFF, batchDue := s.frame.tickTime, noBeacon := false, handback := 0 }
  let s := s.takeMembers
  if voted then s.suspect 0 1 else s.modGroup fun g => { g with drain := some { rank := 0, net := 0 } }

/-- Changes of manager that fall on this tick (R414, R415, R419). -/
def State.managerTick (s : State) : State :=
  let gf := s.groupFrame.toNat
  let due := decide (s.group.handback ≠ 0) && decide (s.group.handback ≤ gf)
  if s.group.elected then s.actingManager true
  else if due ∧ s.group.act = 3 then s.actingManager false
  else if due ∧ s.group.act = 2 then s.modGroup fun g => { g with act := 0, handback := 0, managerRank := 0, drain := none }
  else if due ∧ s.group.act = 1 then s.modGroup fun g => { g with act := 0, state := 4, handback := 0, managerRank := g.deputy }
  else if due ∧ s.rank = 0 ∧ s.group.state = 3 then (s.modGroup fun g => { g with act := 1, handback := 0, managerRank := 0, managerUid := s.gondola.uid, batchDue := s.frame.tickTime, deputy := 0xFFFF }).takeMembers
  else s

/-- What the group does at a tick: placement, membership, beacons, status, journals (R394, R396, R398, R400, R406, R407). A manager in the safe state does nothing of it (18 R431). -/
def State.groupTick (s : State) : State :=
  if s.bare || (s.safe && s.isManager) then s else
    let s := (s.placesTick).managerTick
    let s := s.levelTick
    let s :=
      if s.group.act = 1 ∨ s.group.act = 2 then
        let s := s.linksTick.runningTick
        let s := if s.group.running then s.group.causes.foldl (fun s c => s.declare c.1 c.2) s else s
        let s := (((s.batchTick).levelManage).drainTick).deputyTick
        let s := (s.assignAll fun p => decide (p.epoch = 0)).flushPlaces
        (if s.group.duplicate || s.outside then s else (upTo 2).foldl (fun s n => if s.netUp n then s.nv n nvBeacon 0xFFFF s.beaconBody else s) s).snapshotTick
      else
        let s := (s.drainingTick).takeoverTick
        if s.group.state.toNat < 3 then s else s.nvTo nvStatus s.group.managerRank s.statusBody
    let s := s.openContexts.foldl State.sendJournal s
    if s.inGroup then s.modGroup fun g => { g with lastGroupFrame := s.groupFrame.toNat } else s

/-! Takeover, location, drain, discovery -/

/-- TAKEOVER (R414): 1 from a member that too has heard no BEACON for 16 frames. -/
def takeoverIn (b : Bytes) (s : State) : State :=
  if s.nvOk b nvTakeover && s.inGroup && !s.isManager then s.nvTo nvVote (nvSrc b) (slice b 0x40 4 ++ toLe (b2n (decide (16 ≤ s.frame.sinceBeacon))) 1 ++ List.replicate 3 0) else s

/-- VOTE (R414). -/
def voteIn (b : Bytes) (s : State) : State :=
  if s.nvOk b nvVote && s.group.asking && decide (leNat b 0x40 4 = s.group.round) && decide (leNat b 0x44 1 = 1) && !s.group.votes.contains (nvSrc b) then
    s.modGroup fun g => { g with votes := g.votes ++ [nvSrc b], elected := decide (g.quorum ≤ g.votes.length + 1) }
  else s

/-- QUORUM was not reached within 64 frames: the deputy asks again after 64 more (R414). -/
def takeoverTimeout (s : State) : State :=
  if s.group.asking && !s.group.elected && decide (s.group.askAt + 64 ≤ s.frame.num.toNat) then s.modGroup fun g => { g with asking := false, votes := [], askAt := s.frame.num.toNat + 64 } else s

/-- LOCATE (R411). -/
def locateIn (net : Nat) (b : Bytes) (s : State) : State :=
  if !s.nvOk b nvLocate || !s.isManager then s else
    let kind := leNat b 0x40 1
    let key2 := le 32 b 0x44
    let key1 := le 64 b 0x48
    match s.group.relocs.reverse.find? fun r => decide (r.kind = kind) && decide (r.key1 = key1) && decide (r.key2 = key2) with
    | some r => s.nv net nvLocation 0xFFFF (locationBody r.status kind r.rank r.handle.toNat r.length key2 key1)
    | none => match s.group.places.find? fun p => decide (p.kind = kind) && decide (p.key1 = key1) && decide (p.key2 = key2) && !p.gone with
      | some p => s.nv net nvLocation 0xFFFF (locationBody (if p.serving = 0 then 1 else 3) kind p.holder 0 0 key2 key1)
      | none => s.nv net nvLocation 0xFFFF (locationBody 3 kind 0xFFFF 0 0 key2 key1)

def State.drainAnswer (s : State) (net rank result : Nat) : State := s.nv net nvDrainDone 0xFFFF (toLe rank 2 ++ toLe result 1 ++ List.replicate 5 0)

/-- DRAIN (R419): refused with 2 while another runs, with 1 where the rank is no serving member or, for the manager itself, no deputy stands ready. -/
def drainIn (net : Nat) (b : Bytes) (s : State) : State :=
  if !s.nvOk b nvDrain || !s.isManager then s else
    let r := leNat b 0x40 2
    if s.group.drain.isSome then s.drainAnswer net r 2
    else if r = s.rank then
      (if s.able s.group.deputy then
        let gf := s.groupFrame.toNat + 64
        let s := s.nvTo nvAdmit s.group.deputy (s.admitBody s.group.deputy 0 gf false)
        s.modGroup fun g => { g with drain := some { rank := r, net := net }, handback := gf }
       else s.drainAnswer net r 1)
    else if s.able r then
      let s := s.modGroup fun g => { g with drain := some { rank := r, net := net } }
      s.nvTo nvPlace r (placeBody 1 [])
    else s.drainAnswer net r 1

/-- The drained module's STATUS shows it: the host is told (R419 step 5). -/
def drainDone (r : Nat) (s : State) : State :=
  match s.group.drain with
  | some d => if s.isManager && decide (d.rank = r) && s.group.members.any fun m => decide (m.rank = r) && m.drained then (s.drainAnswer d.net r 0).modGroup fun g => { g with drain := none } else s
  | none => s

/-- DISCOVER is answered with HELLO from the bare state onward (R392). -/
def discoverIn (net : Nat) (b : Bytes) (s : State) : State :=
  if s.nvOk b nvDiscover && decide (s.phase = .up) && s.netUp net then s.nv net nvHello (nvSrc b) s.helloBody else s

/-- HELLO (R392). -/
def helloIn (net : Nat) (b : Bytes) (s : State) : State :=
  if s.nvOk b nvHello then
    let d : Discovered := { net := net, uid := slice b 0x40 16, level := leNat b 0x50 2, schema := leNat b 0x52 2, role := leNat b 0x54 1, state := leNat b 0x55 1, rank := leNat b 0x56 2, nets := leNat b 0x58 1, groupId := leNat b 0x60 8 }
    s.modGroup fun g => { g with discovered := (g.discovered.filter fun x => !(decide (x.uid = d.uid) && decide (x.net = net))) ++ [d] }
  else s

/-- Every 64th frame the manager tries again to place what lacks a copy (R401). -/
def placementRetry (s : State) : State :=
  if s.isManager && s.group.running && decide (s.groupFrame.toNat % 64 = 0) then s.assignAll fun p => !p.gone else s

/-- A message of a member that is one. -/
def State.fromMember (s : State) (b : Bytes) : Bool := s.inGroup && s.memberRanks.contains (nvSrc b)

/-- 16 ticks without a buddy's acknowledgement: the open completes unprotected (10 R247). -/
def buddyTimeout (h : W32) (s : State) : State :=
  match s.ctxIndex h with
  | none => s
  | some i => if (s.ctxAt i).opening.isSome ∧ (s.ctxAt i).openTicks ≤ s.frame.num.toNat then (s.modCtx i fun c => { c with buddy := 0xFFFF, journaled := 0, sentTo := 0, entrySent := false }).finishOpen i else s

end Sys2Proof.Machine
end

