-- ==== Sys2Proof/Machine/Refit.lean ====
section
/-! DEFINITION. The update of a refit: gradient, moments, master and serving weights (08 R186, R196, R199). What the expert's programs compute on the way, the gradient sums, is free (log 7). -/

namespace Sys2Proof.Machine

/-- 1 / x, rounded once (R199 step 4). -/
def recip32 (x : W32) : W32 :=
  match dec32 x with
  | .nan => round32 .nan
  | .inf n => round32 (.fin n 0 0)
  | .fin n 0 _ => round32 (.inf n)
  | .fin n m e => round32 (.fin n (2 * (2 ^ 80 / m) + b2n (decide (2 ^ 80 % m ≠ 0))) (-81 - e))

/-- 0.5, 1 and 1.5. -/
def fpHalf : W32 := 0x3F000000
def fpOne : W32 := 0x3F800000
def fpOneHalf : W32 := 0x3FC00000

/-- One of the two refinements of y toward the reciprocal square root of z (R199 step 4). -/
def rsqrtStep (z y : W32) : W32 := fmul y (fsub fpOneHalf (fmul (fmul (fmul fpHalf z) y) y))

/-- y of R199 step 4: the seed under the FP8 E5M2 encoding of z, refined twice. -/
def refitRsqrt (z : W32) : W32 := rsqrtStep z (rsqrtStep z (Config.rsqrtSeed (BitVec.ofNat 8 (convert 4 false false (dec32 z)).1)))

/-- The hyperparameters of a refit (R199). -/
structure Hyper where
  lr  : W32
  b1  : W32
  b2  : W32
  eps : W32
  wd  : W32
  deriving DecidableEq, Repr

def Hyper.of (l : List W32) : Hyper := { lr := l.getD 0 0, b1 := l.getD 1 0, b2 := l.getD 2 0, eps := l.getD 3 0, wd := l.getD 4 0 }

/-- A parameter under refit: master weight and moments, in FP32. -/
structure Param where
  w : W32
  m : W32
  v : W32
  deriving DecidableEq, Repr

/-- One update of one parameter (R199 step 4); `g` is its gradient as the refit state holds it, `gs` the gradient scale. -/
def Param.update (h : Hyper) (gs g : W32) (p : Param) : Param :=
  let g := fmul g (recip32 gs)
  let m := fadd (fmul h.b1 p.m) (fmul (fsub fpOne h.b1) g)
  let v := fadd (fmul h.b2 p.v) (fmul (fmul (fsub fpOne h.b2) g) g)
  let y := refitRsqrt (fadd v h.eps)
  { w := fsub p.w (fmul h.lr (fadd (fmul m y) (fmul h.wd p.w))), m := m, v := v }

/-- The OUT_SCALE of slot `k` of a scale table, and byte `i` of its BS (R187, R188). -/
def tableScale (t : Bytes) (k : Nat) : W32 := le 32 t (0x40 + 32 * (k % max 1 (leNat t 6 2)))
def tableBlock (t : Bytes) (i : Nat) : Nat := leNat t (0x40 + 32 * leNat t 6 2 + i) 1

/-- Where an expert's refit finds its scales: the gradient slot of a parameter, the first block-scale bytes of its first moment and of its serving weights. -/
structure RefitScales where
  grad    : Nat → W32
  moment  : Nat → Nat
  serving : Nat → Nat

/-- A parameter as the refit state holds it (R196): master in BF16, first moment in MXFP8 E4M3 with its scales behind it, second moment in FP8 E5M2 or BF16. -/
def readParam (b : Bytes) (n : Nat) (vBf16 : Bool) (i : Nat) : Param :=
  let vo := 3 * n + ceilDiv n 32
  { w := round32 (decodeElem 1 (leNat b (2 * i) 2))
    m := round32 (decodeMx 3 (leNat b (3 * n + i / 32) 1) (leNat b (2 * n + i) 1))
    v := round32 (if vBf16 then decodeElem 1 (leNat b (vo + 2 * i) 2) else decodeElem 4 (leNat b (vo + i) 1)) }

/-- A gradient of one step: the free sum of the step's tokens, through the gradient slot into FP8 E5M2 (R194, R199 step 3); the second value says that it overflowed. -/
def gradOf (draw i : Nat) (gs : W32) : W32 × Bool :=
  let r := convert 4 false false (dec32 (fmul (le 32 ((upTo 4).map fun k => Config.freeByte draw (4 * i + k)) 0) gs))
  (round32 (decodeElem 4 r.1), r.2.1)

/-- All steps of one parameter; the number of its gradient overflows. -/
def stepsOfParam (h : Hyper) (gs : W32) (draw i : Nat) : Nat → Param → Param × Nat
  | 0, p => (p, 0)
  | n + 1, p =>
    let g := gradOf (draw + n) i gs
    let r := stepsOfParam h gs draw i n (p.update h gs g.1)
    (r.1, r.2 + b2n g.2)

/-- The new version (R199 step 5): refit state, serving weights, CVT_OVF events of g, m, v and w. -/
structure RefitOut where
  state   : Bytes
  weights : Bytes
  ovf     : List Nat
  deriving DecidableEq, Repr

/-- Encodings and the number of overflows. -/
def encAll (l : List (Nat × (Bool × Bool))) : List Nat × Nat := (l.map (·.1), sumBy (fun (x : Nat × (Bool × Bool)) => b2n x.2.1) l)

/-- A refit of `n` parameters from the state `b` (R199 steps 3 to 5). -/
def refitRun (b : Bytes) (n : Nat) (vBf16 : Bool) (fmt : FmtSpec) (h : Hyper) (sc : RefitScales) (steps draw : Nat) : RefitOut :=
  let ps := (upTo n).map fun i => stepsOfParam h (sc.grad i) draw i steps (readParam b n vBf16 i)
  let ix := ps.zipIdx
  let w := encAll (ps.map fun p => convert 1 false false (dec32 p.1.w))
  let m := encAll (ix.map fun p => convertMx 3 (sc.moment (p.2 / 32)) false (dec32 p.1.1.m))
  let v := encAll (ps.map fun p => convert (if vBf16 then 1 else 4) false false (dec32 p.1.v))
  let x := encAll (ix.map fun p => if fmt.mx then convertMx fmt.code (sc.serving (p.2 / 32)) false (dec32 p.1.1.w) else convert fmt.code fmt.tern false (dec32 p.1.1.w))
  { state := packRow 1 w.1 ++ packRow 3 m.1 ++ ((upTo (ceilDiv n 32)).map fun k => BitVec.ofNat 8 (sc.moment k)) ++ packRow (if vBf16 then 1 else 4) v.1
    weights := packRow fmt.code x.1 ++ (if fmt.mx then (upTo (n / 32)).map fun k => BitVec.ofNat 8 (sc.serving k) else [])
    ovf := [sumBy (fun (p : Param × Nat) => p.2) ps, m.2, v.2, w.2 + x.2] }

end Sys2Proof.Machine
end

