-- ==== Sys2Proof/Machine/Library.lean ====
section
/-! DEFINITION. What the compute commands do: model loads, contexts, token batches, refits (08 R196 to R201; 10 R231 to R234, R247, R248, R250; 15 R360 to R363). -/

namespace Sys2Proof.Machine

/-- A parameter block with the given fields (offset, size) and zeros everywhere else (15 R360, 00 R11). -/
def fieldsOk (b : Bytes) (l : List (Nat × Nat)) : Bool :=
  l.all (fun f => decide (f.1 + f.2 ≤ b.length)) && b.zipIdx.all fun x => decide (x.1 = 0) || l.any fun f => decide (f.1 ≤ x.2) && decide (x.2 < f.1 + f.2)

/-- `n` bytes from byte `o` of a namespace, and whether a unit of them is lost. -/
def State.nsBytes (s : State) (n : Namespace) (o len : Nat) : Bytes :=
  if len = 0 then [] else
    let u0 := o / 65536
    let l := (upTo ((o + len - 1) / 65536 + 1 - u0)).foldl (fun b k => b ++ s.readSlot (n.slot (u0 + k))) []
    slice l (o % 65536) len
def State.nsLost (s : State) (n : Namespace) (o len : Nat) : Bool :=
  (upTo ((o + len + 65535) / 65536 - o / 65536)).any fun k => s.slotLost (n.slot (o / 65536 + k))
def Namespace.blockLen (n : Namespace) : Nat := if n.lbaf = 1 then 65536 else 4096
def Namespace.bytes (n : Namespace) : Nat := n.nsze * n.blockLen

/-- A Cianber source: data in the block from `o` on, or a namespace range of the tenant (15 R361). -/
def State.source (s : State) (b : Bytes) (src o nsid slba len tenant : Nat) : Option Bytes :=
  match src with
  | 0 => if o + len ≤ b.length then some (slice b o len) else none
  | 1 => match s.nsFor nsid with
    | none => none
    | some n => if n.tenant = tenant ∧ slba * n.blockLen + len ≤ n.bytes then some (s.nsBytes n (slba * n.blockLen) len) else none
  | _ => none
/-- Is a namespace open to commands, and read-only (03 R70, R74)? -/
def State.nsMode (s : State) (n : Namespace) : Option Bool :=
  if n.creating.isSome || n.formatting.isSome || n.deleting.isSome || !s.hasTenant n.tenant then none else
  match s.loft.image with
  | none => none
  | some i => if i.openAll then some false else (i.nsOpen.find? fun e => decide (e.nsid = n.nsid)).map fun e => decide (e.mode = 2)

/-- A namespace source that is closed (03 R70, R74). -/
def State.sourceClosed (s : State) (src nsid : Nat) : Bool :=
  decide (src = 1) && match s.nsFor nsid with | none => false | some n => (s.nsMode n).isNone

/-- A lost unit lies in a namespace source. -/
def State.sourceLostData (s : State) (src nsid slba len : Nat) : Bool :=
  decide (src = 1) && match s.nsFor nsid with | none => false | some n => s.nsLost n (slba * n.blockLen) len

/-! Model load (R231 to R233, R362) -/

/-- An entry as BEGIN may give it (R231, R233 step 1). -/
def entryOk (id : W64) (b : Bytes) (o : Nat) : Bool :=
  let m := readModel b o
  decide (id ≠ 0) && decide (m.id = id) && decide (m.tenant = 0) && decide (m.state = 0) && between 1 m.kvFmt.toNat 4 && between 1 m.layers 1024 && between 1 m.experts 65536 && between 1 m.topK 16 && decide (m.topK ≤ m.experts) &&
  decide (m.fusion ≤ 2) && decide (leNat b (o + 0x16) 2 ≤ 1) && between 1 m.kvHeads 256 && between 32 m.headDim 512 && decide (m.headDim % 32 = 0) && between 64 m.hidden 65536 && decide (m.hidden % 32 = 0) &&
  zeros b (o + 0x28) 88

/-- All objects of a model on this module. -/
def Model.addrs (m : Model) (rank : Nat) : List W64 :=
  let l : List W64 := m.objs.map (fun (o : LoadObj) => o.addr) ++ m.added ++ [m.serveScale, m.refitScale, m.programs, m.expertTable, m.shared] ++
    m.table.foldl (fun (l : List W64) (x : Nat × Expert) => l ++ [x.2.refitState] ++ (if x.2.home = rank then [x.2.weights] else []) ++ (if x.2.shadow = rank then [x.2.weightsShadow] else [])) []
  l.eraseDups.filter fun a => decide (a ≠ 0)

/-- The model and everything it holds are released (R233, R234). -/
def State.releaseModel (s : State) (m : Model) : State :=
  let s := s.freeObjs (m.addrs s.rank)
  let s := { s with library := { s.library with models := s.library.models.filter fun x => !decide (x.id = m.id), waits := s.library.waits.filter fun w => w.addrs.all fun a => !(m.added.contains a) } }
  let gone := s.group.places.filter fun p => (decide (p.kind = 1) || decide (p.kind = 5)) && decide (p.key1 = m.id) && decide (p.home = s.rank)
  let s := if s.grouped then s.report (gone.map fun p => { p with home := 0xFFFF }) else s
  gone.foldl State.dropPlace s

/-- Kind and format of OBJECT (15 R361). -/
def loadKind : Nat → ObjKind
  | 2 => .refitState
  | 3 => .program
  | 4 => .scale
  | 5 => .scale
  | 6 => .refitState
  | _ => .weight

/-- Ranges that cover `[0, n)`: taken in ascending order, each begins no later than the end so far. -/
def covers (l : List (Nat × Nat)) (n : Nat) : Bool :=
  decide (n ≤ (sortBy (fun a b => decide (a.1 < b.1)) l).foldl (fun e r => if r.1 ≤ e then max e (r.1 + r.2) else e) 0)

def LoadObj.is (o : LoadObj) (k l e : Nat) : Bool := decide (o.object = k) && decide (o.layer = l) && decide (o.expert = e)
def Model.loadObj (m : Model) (k l e : Nat) : Option LoadObj := m.objs.find? fun o => o.is k l e

/-- An object under load is made, or made longer: a larger one takes over its bytes. -/
def State.growObj (s : State) (tenant : Nat) (k : ObjKind) (fmt : Byte) (old : Option LoadObj) (n : Nat) : W64 × State :=
  match old with
  | none => s.allocT2 tenant k fmt n
  | some o =>
    if n ≤ objLen o.len then (o.addr, s) else
      let data := s.readObj o.addr o.len
      let r := (s.freeObj o.addr).allocT2 tenant k fmt n
      (r.1, r.2.writeObj r.1 data)

/-- Does a cluster of a pending image have the fusion shape (03 R78)? -/
def State.pendingFits (s : State) (f : Nat) : Bool :=
  match s.loft.pending with | none => true | some p => p.image.clusters.any fun c => decide (c.fusion = f)

/-- OP 1 BEGIN. -/
def loadBegin (id : CmdId) (tenant : Nat) (b : Bytes) (s : State) : State :=
  let key := le 64 b 8
  if decide (byteAt b 0 ≠ 1) || !fieldsOk b [(0, 1), (8, 8), (0x10, 128)] || decide (b.length ≠ 0x90) || !entryOk key b 0x10 then s.complete id stInvalidField
  else if (s.modelFor key).isSome then s.complete id stInvalidField
  else
    let m := readModel b 0x10
    if 1600000000000000 < m.weightBits then s.complete id stCapacity
    else if (s.fitsFusion m).isEmpty || !s.pendingFits m.fusion then s.complete id stSequence
    else if s.loft.pending.any fun p => (p.image.tenant? tenant).isNone then s.complete id stQuota
    else
      let m := { m with tenant := tenant, state := 1, lastData := s.frame.num.toNat }
      let s := { s with library := { s.library with models := s.library.models ++ [m] } }
      s.complete id stOk 0 0 m.entry

/-- OP 2 DATA. -/
def loadData (id : CmdId) (tenant : Nat) (b : Bytes) (s : State) : State :=
  let key := le 64 b 8
  let obj := leNat b 0x10 2
  let l := leNat b 0x12 2
  let e := leNat b 0x14 4
  let ofs := leNat b 0x18 8
  let n := leNat b 0x20 4
  let src := leNat b 0x24 1
  if !fieldsOk b [(0, 1), (8, 8), (0x10, 0x15), (0x28, 4), (0x30, 8), (0x40, b.length - 0x40)] || decide (1048576 < n) || decide (n = 0) || decide (6 < obj) || decide (src = 1 ∧ b.length ≠ 0x40) || decide (src = 0 ∧ b.length ≠ 0x40 + n) then s.complete id stInvalidField
  else match s.modelFor key with
  | none => s.complete id stInvalidField
  | some m =>
    if m.state ≠ 1 ∨ m.tenant ≠ tenant ∨ m.waiter.isSome ∨ m.layers ≤ l ∨ m.experts ≤ e ∨ (¬(obj = 1 ∨ obj = 6) ∧ (l ≠ 0 ∨ e ≠ 0)) ∨ ((obj = 5 ∨ obj = 6) ∧ !m.refitOk) ∨ (obj = 2 ∧ m.layers * m.experts * 64 < ofs + n) then s.complete id stInvalidField
    else if s.sourceClosed src (leNat b 0x28 4) then s.complete id stNsNotReady
    else match s.source b src 0x40 (leNat b 0x28 4) (leNat b 0x30 8) n tenant with
    | none => s.complete id stInvalidField
    | some data =>
      if s.sourceLostData src (leNat b 0x28 4) (leNat b 0x30 8) n then s.complete id stUnrecovered
      else
        let old := m.loadObj obj l e
        let had := match old with | none => 0 | some o => objLen o.len
        let len := max (ofs + n) (match old with | none => 0 | some o => o.len)
        let more := (objLen len - had) / 65536
        let fmt := if obj = 1 then (match m.expertAt l e with | some x => x.wFmt | none => 0) else 0
        if !s.fits tenant 2 more then (s.releaseModel m |>.quotaRefused tenant).complete id stQuota
        else if s.freeGroups < pieceCount (objLen len) then (s.releaseModel m).complete id stCapacity
        else
          let r := s.growObj tenant (loadKind obj) fmt old len
          let s := r.2.writeObj (r.1 + BitVec.ofNat 64 ofs) data
          let o : LoadObj := { object := obj, layer := l, expert := e, addr := r.1, len := len, written := (match old with | none => [] | some o => o.written) ++ [(ofs, n)] }
          let s := s.modModel key fun m => { m with objs := (m.objs.filter fun x => !x.is obj l e) ++ [o], lastData := s.frame.num.toNat }
          -- the expert table's PARAMS and W_FMT; the module fills in the rest (R362)
          let s := if obj ≠ 2 then s else s.modModel key fun m =>
            let t := s.readObj r.1 len
            { m with table := (upTo (len / 64)).map fun k => (k, ({ home := s.rank, params := leNat t (64 * k + 0x20) 8, wFmt := byteAt t (64 * k + 0x28) } : Expert)) }
          s.complete id stOk

/-- Everything that COMMIT needs has been written, and WEIGHT_BITS agrees with it (R362). -/
def Model.whole (m : Model) (m2bf16 : Bool) : Bool :=
  let full (k l e n : Nat) : Bool := match m.loadObj k l e with | none => false | some o => covers o.written n
  full 2 0 0 (m.layers * m.experts * 64) && (m.loadObj 0 0 0).isSome && (m.loadObj 3 0 0).isSome &&
  ((m.loadObj 0 0 0).toList ++ (m.loadObj 3 0 0).toList).all (fun o => covers o.written o.len) &&
  m.table.all (fun x => specOk x.2.wFmt && decide (0 < x.2.params) &&
    full 1 (x.1 / m.experts) (x.1 % m.experts) (ceilDiv (x.2.params * fmtWidth (readSpec x.2.wFmt).code) 8 + if (readSpec x.2.wFmt).mx then x.2.params / 32 else 0) &&
    (!m.refitOk || full 6 (x.1 / m.experts) (x.1 % m.experts) (refitStateLen x.2.params m2bf16))) &&
  decide (m.weightBits = sumBy (fun (x : Nat × Expert) => x.2.params * fmtWidth (readSpec x.2.wFmt).code) m.table + (match m.loadObj 0 0 0 with | some o => 8 * o.len | none => 0))

def State.m2bf16 (s : State) : Bool := match s.loft.image with | some i => i.m2bf16 | none => false

/-- Scale tables against R187 and R188 (R233 step 5). -/
def State.loadTablesOk (s : State) (m : Model) : Bool :=
  let ok := fun k => match m.loadObj k 0 0 with | none => false | some o => let b := s.readObj o.addr o.len; scaleTableOk b && decide (scaleTableLen b ≤ o.len)
  ok 4 && (!m.refitOk || ok 5)

/-- OP 3 COMMIT. -/
def loadCommit (id : CmdId) (tenant : Nat) (b : Bytes) (s : State) : State :=
  if !fieldsOk b [(0, 1), (8, 8)] then s.complete id stInvalidField else
  match s.modelFor (le 64 b 8) with
  | none => s.complete id stInvalidField
  | some m =>
    if m.state ≠ 1 ∨ m.tenant ≠ tenant ∨ m.waiter.isSome then s.complete id stInvalidField
    else if !m.whole s.m2bf16 || !s.loadTablesOk m then (s.releaseModel m).complete id stInvalidField
    else
      let r := s.storeObjs (m.objs.map (·.addr))
      if !r.1 then (s.releaseModel m).complete id stCapacity
      else r.2.modModel m.id fun m => { m with waiter := some id }

/-- Every home copy is durable: STATE becomes 2, LOAD_FRAME is set, shadows are asked for (R233 step 6, 17 R403). -/
def State.loadEnds (s : State) (m : Model) : State :=
  let at_ (k l e : Nat) : W64 := match m.loadObj k l e with | some o => o.addr | none => 0
  let s := (m.objs.map (·.addr)).foldl State.trimObj s
  let m' := { m with
    state := 2, loadFrame := s.groupFrame.toNat, waiter := none, shared := at_ 0 0 0, expertTable := at_ 2 0 0, programs := at_ 3 0 0, serveScale := at_ 4 0 0, refitScale := if m.refitOk then at_ 5 0 0 else 0
    table := m.table.map fun x => (x.1, { x.2 with version := 1, home := s.rank, vBf16 := s.m2bf16, weights := at_ 1 (x.1 / m.experts) (x.1 % m.experts), refitState := if m.refitOk then at_ 6 (x.1 / m.experts) (x.1 % m.experts) else 0 })
    objs := [] }
  let s := (s.modModel m.id fun _ => m').writeTable m.id
  let l := s.newPlace 5 m.id 0 0 1 :: m'.table.map fun x => s.newPlace 1 m.id (BitVec.ofNat 32 (x.1 / m.experts * 65536 + x.1 % m.experts)) 1 1
  let s := if s.inGroup then s.report l else s
  s.completeOpt m.waiter stOk 0 0 m'.entry

/-- OP 4 ADD_SCALE. -/
def loadAddScale (id : CmdId) (tenant : Nat) (b : Bytes) (s : State) : State :=
  let t := b.drop 0x40
  if !fieldsOk b [(0, 1), (8, 8), (0x40, b.length - 0x40)] then s.complete id stInvalidField else
  match s.modelFor (le 64 b 8) with
  | none => s.complete id stInvalidField
  | some m =>
    if m.state ≠ 2 ∨ m.tenant ≠ tenant ∨ !scaleTableOk t ∨ scaleTableLen t ≠ t.length then s.complete id stInvalidField
    else if !s.fits tenant 2 (units t.length) then (s.quotaRefused tenant).complete id stQuota
    else if s.freeGroups < pieceCount (objLen t.length) then s.complete id stCapacity
    else
      let r := s.allocT2 tenant .scale 0 t.length
      let q := (r.2.writeObj r.1 t).storeObj r.1
      if !q.1 then s.complete id stCapacity else
        let s := q.2.modModel m.id fun m => { m with added := m.added ++ [r.1] }
        { s with library := { s.library with waits := s.library.waits ++ [{ id := id, addrs := [r.1], dw0 := 0, data := toLe r.1.toNat 8 }] } }

/-- OP 5 ABANDON. -/
def loadAbandon (id : CmdId) (tenant : Nat) (b : Bytes) (s : State) : State :=
  if !fieldsOk b [(0, 1), (8, 8)] then s.complete id stInvalidField else
  match s.modelFor (le 64 b 8) with
  | none => s.complete id stInvalidField
  | some m => if m.state ≠ 1 ∨ m.tenant ≠ tenant ∨ m.waiter.isSome then s.complete id stInvalidField else (s.releaseModel m).complete id stOk

/-- 4,096 frames without DATA (R362). -/
def loadTimeout (key : W64) (s : State) : State :=
  match s.modelFor key with
  | none => s
  | some m => if m.state = 1 ∧ m.waiter.isNone ∧ m.lastData + 4096 ≤ s.frame.num.toNat then s.releaseModel m else s

/-- Model Unload (R234). -/
def modelUnload (id : CmdId) (tenant : Nat) (b : Bytes) (s : State) : State :=
  if !fieldsOk b [(0, 8)] then s.complete id stInvalidField else
  match s.modelFor (le 64 b 0) with
  | none => s.complete id stInvalidField
  | some m =>
    if m.state ≠ 2 ∨ m.tenant ≠ tenant then s.complete id stInvalidField
    else if (s.library.contexts.any fun e => decide (e.2.state ≠ 0) && decide (e.2.model = m.id)) || s.library.refits.any fun j => decide (j.model = m.id) && decide (j.phase ≠ .retiring) then s.complete id stSequence
    else s.modModel m.id fun m => { m with state := 3, waiter := some id }

/-- At a tick, a model whose last pass has committed goes (R234). -/
def State.unloadTick (s : State) : State :=
  (s.library.models.filter fun m => decide (m.state = 3)).foldl (fun s m =>
    if s.sched.entries.any fun e => decide (s.passModel e = m.id) then s else (s.releaseModel m).completeOpt m.waiter stOk) s

/-- List Models (15 R361). -/
def listModels (id : CmdId) (tenant : Nat) (b : Bytes) (s : State) : State :=
  if !fieldsOk b [(0, 8)] then s.complete id stInvalidField else
  let l := sortBy (fun (a c : Model) => decide (a.id < c.id)) (s.library.models.filter fun m => decide (m.tenant = tenant) && decide (le 64 b 0 ≤ m.id))
  let room := match s.resLenOf id with | none => l.length | some n => n / 128
  s.complete id stOk (BitVec.ofNat 32 (min l.length room)) 0 (l.foldl (fun d m => d ++ m.entry) [])

/-- Loads and stores whose flash writes have ended. -/
def State.settleLoads (s : State) : State :=
  let s := (s.library.models.filter fun m => decide (m.state = 1) && m.waiter.isSome && m.objs.all fun o => !s.storing o.addr).foldl State.loadEnds s
  s.library.waits.foldl (fun s w =>
    if w.addrs.all (fun a => !s.storing a) then
      let s := w.addrs.foldl State.trimObj s
      let s := { s with library := { s.library with waits := s.library.waits.filter fun x => !decide (x.id = w.id) } }
      s.complete w.id stOk w.dw0 0 w.data
    else s) s

/-! Contexts -/

/-- Open Context (R247). -/
def openContext (id : CmdId) (tenant : Nat) (b : Bytes) (s : State) : State :=
  let cls := leNat b 0x0C 1
  let cid := leNat b 0x0E 2
  let maxTok := leNat b 8 4
  if !fieldsOk b [(0, 8), (8, 4), (0x0C, 1), (0x0E, 2)] || decide (2 < cls) || decide (cls ≠ 0 ∧ cid ≠ 0) then s.complete id stInvalidField else
  match s.modelFor (le 64 b 0) with
  | none => s.complete id stInvalidField
  | some m =>
    if m.state ≠ 2 ∨ m.tenant ≠ tenant ∨ maxTok = 0 ∨ 1048576 < maxTok then s.complete id stInvalidField
    else match s.freeEntry with
    | none => s.complete id stCapacity
    | some i =>
      let bound := (s.library.contexts.filter fun e => decide (e.2.state ≠ 0) && decide (e.2.cls = 0) && decide (e.2.contract = cid)).length
      let okIn := fun (i : Image) => match i.contracts.find? fun c => decide (c.id = cid) with | none => false | some c => decide (c.tenant = tenant) && decide (bound < c.maxContexts)
      let okA := (match s.loft.image with | none => false | some i => okIn i) && (match s.loft.pending with | none => true | some p => okIn p.image)
      if cls = 0 ∧ !okA then s.complete id stContract
      else if !s.fits tenant 1 (1 + units m.extentLen) then (s.quotaRefused tenant).complete id stQuota
      else
        let r := s.allocT1 tenant .work 0 8192
        let s := r.2.modCtx i fun c => { gen := c.gen, state := 1, tenant := tenant, model := m.id, maxTokens := maxTok, cls := cls, contract := if cls = 0 then cid else 0, extentList := r.1, openFrame := r.2.groupFrame.toNat, opening := some id, openTicks := r.2.frame.num.toNat + 16 }
        if s.grouped then s.askBuddy i else s.finishOpen i

/-- A handle that names a context of the tenant. -/
def State.ctxOf (s : State) (h : W32) (tenant : Nat) : Option Nat :=
  match s.ctxIndex h with
  | none => none
  | some i => if (s.ctxAt i).tenant = tenant then some i else none

/-- Passes of a context. -/
def State.ctxPasses (s : State) (h : W32) : List PassEntry := s.sched.entries.filter fun e => decide (e.src.handle = some h)
def PassEntry.waits (e : PassEntry) : Bool := match e.phase with | .running _ => false | _ => true

/-- Close Context (R250). -/
def closeContext (id : CmdId) (tenant : Nat) (b : Bytes) (s : State) : State :=
  if !fieldsOk b [(0, 4)] then s.complete id stInvalidField else
  match s.ctxOf (le 32 b 0) tenant with
  | none => s.complete id stInvalidField
  | some i =>
    let c := s.ctxAt i
    if c.state = 3 ∨ c.opening.isSome then s.complete id stSequence else
      let s := ((s.ctxPasses (le 32 b 0)).filter PassEntry.waits).foldl State.dropPass s
      let n := match c.batches with | [] => 0 | x :: _ => x.emitted
      let s := s.modCtx i fun c => { c with state := 3, closer := some id, closedTokens := n }
      let s := { s with bridle := { s.bridle with unanswered := s.bridle.unanswered.filter fun d => !decide (d.ctx = le 32 b 0) } }
      c.batches.foldl (fun s x => s.finishBatch i x stAbortRequested) s

/-- No pass of a closing context runs: its extents are freed, its buddy released, its close completes (R250). -/
def closeDone (h : W32) (s : State) : State :=
  match s.ctxIndex h with
  | none => s
  | some i =>
    let c := s.ctxAt i
    if c.state = 3 ∧ (s.ctxPasses h).isEmpty then (s.freeCtx i true).completeOpt c.closer stOk (BitVec.ofNat 32 c.closedTokens) else s

/-- The 64-byte entry (R245). -/
def State.ctxEntry (s : State) (i : Nat) : Bytes :=
  let c := s.ctxAt i
  toLe (s.handleOf i).toNat 4 ++ toLe c.tenant 4 ++ toLe c.model.toNat 8 ++ toLe c.length 4 ++ toLe c.maxTokens 4 ++ toLe c.cls 1 ++ toLe c.state 1 ++ toLe c.buddy 2 ++ toLe c.contract 2 ++ toLe 0 2 ++ toLe c.extentList.toNat 8 ++
  toLe c.journaled 4 ++ toLe c.firstBad 4 ++ toLe c.openFrame 8 ++ List.replicate 8 0

def getContext (id : CmdId) (tenant : Nat) (b : Bytes) (s : State) : State :=
  if !fieldsOk b [(0, 4)] then s.complete id stInvalidField else
  match s.ctxOf (le 32 b 0) tenant with
  | none => s.complete id stInvalidField
  | some i => s.complete id stOk 0 0 (s.ctxEntry i)

/-- LENGTH once the batches queued before have run, a rewind taken into account (log 35). -/
def Context.ahead_ (c : Context) : Nat :=
  c.batches.foldl (fun n b => (match b.rewind with | some l => l | none => n) + b.left.length + (b.generate - b.tokens.length)) c.length

/-- A batch's refusal (R248, R253, R363), none where it is taken. -/
def State.batchRefusal (s : State) (c : Context) (m : Model) (rewind : Option Nat) (n : Nat) : Option Status :=
  let base := match rewind with | some l => l | none => c.ahead_
  if c.state = 3 then some stSequence
  else if c.state = 1 ∧ rewind.any (fun l => decide (c.ahead_ < l)) then some stInvalidField
  else if c.state = 2 ∧ rewind.any (fun l => decide (c.length < l)) then some stInvalidField
  else if c.maxTokens < base + n then some stCapacity
  else if !s.fits c.tenant 1 ((extentsFor (base + n) - c.extents.length) * units m.extentLen) then some stQuota
  else if c.state = 2 ∧ !rewind.any (fun l => decide (l ≤ c.firstBad)) then some stPoisoned
  else if 8 ≤ (c.batches.filter fun b => !b.started).length then some stSequence
  else none

/-- Token Batch (R248, R253, R260; 15 R361, R363). -/
def tokenBatch (id : CmdId) (tenant : Nat) (b : Bytes) (plan : Plan) (s : State) : State :=
  let n := leNat b 4 4
  let g := leNat b 8 2
  let flags := leNat b 0x0A 2
  let dl := leNat b 0x10 8
  if !fieldsOk b [(0, 0x28), (0x40, b.length - 0x40)] || !between 1 n 65536 || decide (4096 < g) || decide (1 < flags) || decide (b.length ≠ 0x40 + 4 * n) || decide (2 ^ 48 ≤ dl) || decide (flags = 0 ∧ leNat b 0x0C 4 ≠ 0) then s.complete id stInvalidField else
  match s.ctxOf (le 32 b 0) tenant with
  | none => s.complete id stInvalidField
  | some i =>
    let c := s.ctxAt i
    let rewind := if flags = 1 then some (leNat b 0x0C 4) else none
    if (c.cls = 1 ∧ dl = 0) ∨ (c.cls ≠ 1 ∧ dl ≠ 0) then s.complete id stInvalidField else
    match s.modelFor c.model with
    | none => s.complete id stInvalidField
    | some m =>
      match s.batchRefusal c m rewind (n + g) with
      | some t => (if t = stQuota then s.quotaRefused tenant else s).complete id t
      | none =>
        if c.cls = 0 ∧ !s.admits c.contract tenant plan m.fusion then (s.countRefused c.contract).complete id stContract
        else
          let toks := (upTo n).map fun k => le 32 b (0x40 + 4 * k)
          let x : Batch := { id := id, inputs := toks, generate := g, seed := le 64 b 0x18, temperature := le 32 b 0x20, topP := le 32 b 0x24, deadline := dl, left := toks, rewind := rewind }
          let s := s.admitRequest id c.cls c.contract tenant dl plan
          let first := c.batches.isEmpty
          let s := s.modCtx i fun c => { c with batches := c.batches ++ [x] }
          if first then s.startBatch i else s

/-! Refit (08 R196 to R201) -/

/-- Bytes of the working set in T1 (R196, R199): master, first moment, second moment, gradient, activations. -/
def refitWork (params tps hidden : Nat) (m2bf16 : Bool) : Nat := refitStateLen params m2bf16 + params + 4 * tps * hidden

/-- Refit Expert (R197 to R199, 15 R361). -/
def refitExpert (id : CmdId) (tenant : Nat) (b : Bytes) (s : State) : State :=
  let l := leNat b 8 2
  let e := leNat b 0x0C 4
  let steps := leNat b 0x10 2
  let cls := leNat b 0x12 1
  let tps := leNat b 0x14 4
  let dl := leNat b 0x18 8
  let scale := le 64 b 0x38
  let src := leNat b 0x40 1
  if !fieldsOk b [(0, 10), (0x0C, 7), (0x14, 0x20), (0x38, 9), (0x44, 12), (0x80, b.length - 0x80)] || decide (2 < cls) || decide (2 ^ 48 ≤ dl) || decide (1 < src) then s.complete id stInvalidField
  else if cls = 0 then s.complete id stContract
  else if (cls = 1 ∧ dl = 0) ∨ (cls = 2 ∧ dl ≠ 0) then s.complete id stInvalidField else
  match s.modelFor (le 64 b 0) with
  | none => s.complete id stInvalidField
  | some m =>
    if m.state ≠ 2 ∨ m.tenant ≠ tenant ∨ m.layers ≤ l ∨ m.experts ≤ e ∨ !m.refitOk ∨ (scale ≠ 0 ∧ !m.added.contains scale) ∨ (src = 1 ∧ (s.source b 1 0 (leNat b 0x44 4) (leNat b 0x48 8) 0 tenant).isNone) then s.complete id stInvalidField
    else if s.sourceClosed src (leNat b 0x44 4) then s.complete id stNsNotReady else
    match m.expertAt l e with
    | none => s.complete id stInvalidField
    | some x =>
      if x.home ≠ s.rank then s.complete id stInvalidField
      else if s.library.refits.any fun j => decide (j.model = m.id) && decide (j.layer = l) && decide (j.expert = e) && decide (j.phase ≠ .retiring) then s.complete id stSequence
      else if (s.fitsFusion m).all fun c => (s.clusterAt c).ovfIeee then s.complete id stSequence
      else
        let work := refitWork x.params tps m.hidden x.vBf16
        let st := refitStateLen x.params x.vBf16
        if 16 ≤ (s.library.refits.filter fun j => decide (j.phase ≠ .retiring)).length ∨ !between 1 steps 64 ∨ !between 1 tps 16384 ∨ !s.fits tenant 1 (units work) ∨ !s.fits tenant 2 (units x.bytes + units st) then (s.quotaRefused tenant).complete id stQuota
        else if s.freeGroups < pieceCount (objLen x.bytes) + pieceCount (objLen st) then s.complete id stCapacity
        else
          let w := s.allocT1 tenant .work 0 work
          let n := w.2.allocT2 tenant .weight x.wFmt x.bytes
          let r := n.2.allocT2 tenant .refitState 0 st
          let s := r.2
          let j : Refit := { job := s.library.nextJob, id := id, model := m.id, tenant := tenant, layer := l, expert := e, steps := steps, perStep := tps, cls := cls, hyper := (upTo 5).map fun k => le 32 b (0x20 + 4 * k), newScale := scale, phase := .streaming, work := w.1, newWeights := n.1, newState := r.1, started := s.frame.num.toNat, poisoned := s.sourceLostData src (leNat b 0x44 4) (leNat b 0x48 8) (4 * steps * tps * m.hidden) }
          let s := { s with library := { s.library with refits := s.library.refits ++ [j], nextJob := s.library.nextJob + 1 } }
          s.admitRequest id cls 0 tenant dl { workCus := 0, stages := 0, fusion := 0, pieces := [] }

def State.modRefit (s : State) (job : Nat) (f : Refit → Refit) : State :=
  { s with library := { s.library with refits := s.library.refits.map fun j => if j.job = job then f j else j } }
def State.dropRefit (s : State) (job : Nat) : State := { s with library := { s.library with refits := s.library.refits.filter fun j => !decide (j.job = job) } }

/-- The replacement table that a refit named is released with it (15 R362; log 36). -/
def State.releaseScale (s : State) (j : Refit) : State :=
  if j.newScale = 0 then s else (s.freeObj j.newScale).modModel j.model fun m => { m with added := m.added.filter fun a => decide (a ≠ j.newScale) }

/-- A refit ends without a commit (R201). -/
def State.refitFails (s : State) (j : Refit) : State :=
  let s := s.freeObjs [j.work, j.newWeights, j.newState]
  ((s.releaseScale j).dropRefit j.job).finishRequest j.id stPoisoned

/-- The scales that a refit applies (08 R186): gradient and first moment from the refit table, the serving blocks from the weight object or the replacement table. -/
def State.refitScales (s : State) (m : Model) (x : Expert) (j : Refit) : RefitScales :=
  let t := fun (a : W64) => if a = 0 then [] else s.readObj a (scaleTableLen (s.readObj a 64))
  let rt := t m.refitScale
  let nt := t j.newScale
  let w := s.readObj x.weights x.bytes
  let wl := ceilDiv (x.params * fmtWidth (readSpec x.wFmt).code) 8
  { grad := fun i => tableScale rt (Config.gradSlot j.layer j.expert i)
    moment := fun k => tableBlock rt (Config.momentBlock j.layer j.expert + k)
    serving := fun k => if j.newScale = 0 then leNat w (wl + k) 1 else tableBlock nt (Config.servingBlock j.layer j.expert + k) }

/-- A marked element stands in what the new version is made of (R201). -/
def State.refitMarked (s : State) (m : Model) (x : Expert) (j : Refit) : Bool :=
  let t := fun (a : W64) => decide (a ≠ 0) && s.markedObj a (scaleTableLen (s.readObj a 64))
  s.markedObj j.work (refitStateLen x.params x.vBf16) || t m.refitScale || t j.newScale || s.markedObj x.weights x.bytes

/-- After the last step: the new version is written to new flash locations (R199 steps 5 and 6). -/
def State.refitWrites (s : State) (j : Refit) : State :=
  match s.modelFor j.model with
  | none => s.refitFails j
  | some m => match m.expertAt j.layer j.expert with
    | none => s.refitFails j
    | some x =>
      if s.refitMarked m x j then s.refitFails j else
        let out := refitRun (s.readObj j.work (refitStateLen x.params x.vBf16)) x.params x.vBf16 (readSpec x.wFmt) (Hyper.of j.hyper) (s.refitScales m x j) j.steps s.draws
        let s := (upTo j.steps).foldl (fun (s : State) _ => s.drawn) ((s.writeObj j.newWeights out.weights).writeObj j.newState out.state)
        let r := s.storeObjs [j.newWeights, j.newState]
        if r.1 then r.2.modRefit j.job fun j => { j with phase := .writing, ovf := out.ovf } else s.refitFails j

/-- The refit state is streamed from T2 into the working set in T1, marks and all (R199 step 2). -/
def State.streamState (s : State) (j : Refit) : State :=
  match (s.modelFor j.model).bind fun m => m.expertAt j.layer j.expert with
  | none => s
  | some x =>
    let n := refitStateLen x.params x.vBf16
    let s := (s.writeObj j.work (s.readObj x.refitState n)).noteRead x.refitState n
    if s.markedObj x.refitState n then s.markObj j.work 64 else s

/-- At a tick (R199, R200): state streams in, steps run as passes of the Gondola's, F takes effect, the old version goes when nothing uses it. -/
def State.refitTick (s : State) : State :=
  s.library.refits.foldl (fun s j =>
    match j.phase with
    | .streaming => (s.streamState j).modRefit j.job fun j => { j with phase := .steps }
    | .steps =>
      if s.sched.entries.any fun e => decide (e.src.request = some j.id) then s
      else if j.poisoned then s.refitFails j
      else s.refitWrites j
    | .committed =>
      match s.modelFor j.model with
      | none => s
      | some m => match m.expertAt j.layer j.expert with
        | none => s
        | some x =>
          let k := j.layer * m.experts + j.expert
          let s := s.modModel m.id fun m => { m with table := m.table.map fun y => if y.1 = k then (k, { y.2 with version := y.2.version + 1, weights := j.newWeights, refitState := j.newState }) else y }
          let s := s.writeTable m.id
          let s := (s.freeObj j.work).releaseScale j
          let s := s.modRefit j.job fun j => { j with phase := .retiring, newWeights := x.weights, newState := x.refitState }
          let v := x.version + 1
          let p := s.newPlace 1 m.id (BitVec.ofNat 32 (j.layer * 65536 + j.expert)) v 1
          let s := if s.inGroup then s.report [match s.placeOf p with | some q => { q with version := v } | none => p] else s
          s.finishRequest j.id stOk v (toLe v.toNat 4 ++ j.ovf.foldl (fun l n => l ++ toLe n 4) [])
    | .retiring =>
      let busy := (s.bridle.arrived.any fun a => decide (a.kind = 1) && decide (a.model = j.model) && decide (a.layer = BitVec.ofNat 16 j.layer) && decide (a.expert = BitVec.ofNat 16 j.expert)) ||
        s.sched.entries.any fun e => decide (s.passModel e = j.model)
      if busy then s else (s.freeObjs [j.newWeights, j.newState]).dropRefit j.job
    | _ => s) s

/-- A version written at home goes to the shadow, then to the commit record (R200 steps 1 to 3). -/
def State.settleRefits (s : State) : State :=
  s.library.refits.foldl (fun s j =>
    match j.phase with
    | .writing =>
      if s.storing j.newWeights || s.storing j.newState then s
      else if j.poisoned then s.refitFails j
      else
        let s := (s.trimObj j.newWeights).trimObj j.newState
        match s.modelFor j.model with
        | none => s
        | some m => match m.expertAt j.layer j.expert with
          | none => s
          | some x =>
            if x.shadow = 0xFFFF ∨ !s.grouped then
              let q := s.commitParts [.directory 1 (j.layer * 65536 + j.expert)]
              q.2.modRefit j.job fun j => { j with phase := .flag, flagSeq := some q.1 }
            else
              match s.objFor j.newWeights with
              | none => s
              | some o =>
                let s := s.copyT3 j.newWeights o j.newState 1 j.tenant m.id (BitVec.ofNat 32 (j.layer * 65536 + j.expert)) (x.version + 1) x.shadow (.refit j.job)
                s.modRefit j.job fun j => { j with phase := .shadow, started := s.frame.num.toNat }
    | .shadow =>
      if s.group.copies.any fun (c : CopyOut) => decide (c.for_ = CopyFor.refit j.job) then s
      else
        let q := s.commitParts [.directory 1 (j.layer * 65536 + j.expert)]
        q.2.modRefit j.job fun j => { j with phase := .flag, flagSeq := some q.1 }
    | _ => s) s

/-- The home's commit flag is durable (R200 step 3): F is the next tick. -/
def refitCommit (job : Nat) (s : State) : State :=
  match s.library.refits.find? fun j => decide (j.job = job) with
  | none => s
  | some j => match j.phase, j.flagSeq with
    | .flag, some q => if s.durable q then s.modRefit job fun j => { j with phase := .committed } else s
    | _, _ => s

/-- The shadow does not acknowledge within 64 frames: the home commits alone (R200). -/
def refitShadowTimeout (job : Nat) (s : State) : State :=
  match s.library.refits.find? fun j => decide (j.job = job) with
  | none => s
  | some j =>
    if j.phase = .shadow ∧ j.started + 64 ≤ s.frame.num.toNat then
      let l := (s.group.copies.filter fun (c : CopyOut) => decide (c.for_ = CopyFor.refit job)).map (·.copyId)
      let s := (s.reel.moves.filter fun m => m.copyId.any l.contains).foldl (fun (s : State) m => s.abortMove m true) s
      let s := { s with group := { s.group with copies := s.group.copies.filter fun (c : CopyOut) => !decide (c.for_ = CopyFor.refit job) } }
      match s.modelFor j.model with
      | none => s
      | some m =>
        let p := s.newPlace 1 m.id (BitVec.ofNat 32 (j.layer * 65536 + j.expert)) 0 1
        let s := match s.placeOf p with | none => s | some q => (s.storePlace { q with shadow1 := 0xFFFF }).report [{ q with shadow1 := 0xFFFF }]
        let k := j.layer * m.experts + j.expert
        (s.modModel m.id fun m => { m with table := m.table.map fun (y : Nat × Expert) => if y.1 = k then (k, { y.2 with shadow := 0xFFFF, weightsShadow := 0 }) else y }).settleRefits
    else s

end Sys2Proof.Machine
end

