-- ==== Sys2Proof/Machine/Graph.lean ====
section
/-! DEFINITION. Sketches, distances, traversal, linking and repair of a shard's graph (12 R268, R269, R272, R275, R278, R281, R282). -/

namespace Sys2Proof.Machine

/-- Bits set in a byte. -/
def bytePop (b : Byte) : Nat := popcount b

/-- Sketch distance (R268). -/
def sketchDist (x y : Bytes) : Nat := sumBy (fun i => bytePop (byteAt x i ^^^ byteAt y i)) (upTo 128)

/-- Elements of a stored or given vector. -/
def vecVals (code : Nat) (dim : Nat) (b : Bytes) : List Val := (upTo dim).map fun i => decodeElem code (packedElem code b i)

/-- Element `i` of row `r` of the projection, BF16 (R269). -/
def projElem (proj : Bytes) (dim r i : Nat) : Val := decodeElem 1 (leNat proj (2 * (r * dim + i)) 2)

/-- The sketch of a vector (R269): BF16 elements, 1,024 chains of FP32, one bit each. -/
def sketchOf (proj : Bytes) (dim : Nat) (v : List Val) : Bytes :=
  let x := v.map fun e => decodeElem 1 (convert 1 false false e).1
  let bit_ := fun r => (convert 14 false false (dec32 ((upTo dim).foldl (fun a i => round32 ((dec32 a).add ((projElem proj dim r i).mul (x.getD i .nan)))) 0))).1
  (upTo 128).map fun k => BitVec.ofNat 8 (sumBy (fun b => bit_ (8 * k + b) * 2 ^ b) (upTo 8))

/-- Lanes in chunks of 512. -/
def chunks512 (fuel : Nat) (l : List W32) : List (List W32) :=
  match fuel with
  | 0 => []
  | f + 1 => if l.isEmpty then [] else l.take 512 :: chunks512 f (l.drop 512)

/-- The sum of lane values in the order of 06 R147, chained over chunks under 06 R149. -/
def laneSum (l : List W32) : W32 :=
  let root (g : List W32) : Option RNode := (treeLevels 0 false 9 ((upTo 512).map fun i => g[i]?.map fun v => (⟨v, i, false⟩ : RNode))).getD 0 none
  match (chunks512 (l.length + 1) l).foldl (fun (a : Option RNode) c => combineOpt 0 false a (root c)) none with
  | some n => n.v
  | none => 0

/-- Integer square root: the largest `r` with r² ≤ n, bit by bit from bit `k`. -/
def isqrt (n : Nat) : Nat → Nat → Nat
  | 0, r => if (r + 1) * (r + 1) ≤ n then r + 1 else r
  | k + 1, r => isqrt n k (if (r + 2 ^ (k + 1)) * (r + 2 ^ (k + 1)) ≤ n then r + 2 ^ (k + 1) else r)

/-- 1 / sqrt(s), correctly rounded to FP32 (R275 step 1). -/
def rsqrt32 (s : W32) : W32 :=
  match dec32 s with
  | .fin false m e =>
    if m = 0 then 0x7F800000 else
      let p := e % 2
      let m := m * 2 ^ p.toNat
      let h := (e - p) / 2
      -- m × 2^(2h): 2^64 / sqrt(m), with a bit below it that says whether anything is left over
      let q := isqrt (2 ^ 128 / m) 64 0
      let sticky := if q * q * m = 2 ^ 128 then 0 else 1
      round32 (.fin false (2 * q + sticky) (-65 - h))
  | .inf false => 0
  | _ => round32 .nan

/-- A vector under METRIC 2 (R275 step 1): scaled by 1 / sqrt(s) and rounded to VEC_FMT. -/
def normalize (code : Nat) (v : List Val) : List Nat :=
  let y := dec32 (rsqrt32 (laneSum (v.map fun x => round32 (x.mul x))))
  v.map fun x => (convert code false false (x.mul y)).1

/-- A distance (R282): METRIC, query elements in FP32, stored elements. -/
def distance (metric : Nat) (q v : List Val) : W32 :=
  let q := q.map round32
  let v := v.map round32
  let sum := fun (f : W32 → W32 → W32) => laneSum (List.zipWith f q v)
  match metric with
  | 0 => sum fun a b => let d := fsub a b; fmul d d
  | 1 => sum (fun a b => fmul a b) ^^^ 0x80000000
  | _ => fsub 0x3F800000 (sum fun a b => fmul a b)

/-- Order of (distance, node number). -/
def nearer (a b : Nat × Nat) : Bool := decide (a.2 < b.2) || (decide (a.2 = b.2) && decide (a.1 < b.1))

def Shard.nodeAt (x : Shard) (n : Nat) : Node := Sparse.get {} x.nodes n
def Shard.modNode (x : Shard) (n : Nat) (f : Node → Node) : Shard := { x with nodes := Sparse.set {} x.nodes n (f (x.nodeAt n)) }

/-- A neighbour entry is stale (R272). -/
def Shard.stale (x : Shard) (e : Nbr) : Bool := decide ((x.nodeAt e.node).gen ≠ e.gen) || decide ((x.nodeAt e.node).state = 0)

/-- Where a traversal begins (R281). -/
def travStart (x : Shard) (elig : Nat → Bool) (q : Bytes) (k : QShard) : QShard :=
  let l := (x.entries.filter fun n => decide ((x.nodeAt n).state ≠ 0)).eraseDups
  let c := l.map fun n => (n, sketchDist q (x.nodeAt n).sketch)
  { k with cset := sortBy nearer c, visited := l, wset := sortBy nearer (c.filter fun p => elig p.1) }

/-- The neighbours of an expanded node, in list order; the Bool says that the budget was hit (R281). -/
def travNbrs (x : Shard) (elig : Nat → Bool) (q : Bytes) (ef budget : Nat) (k : QShard) (l : List Nbr) : Bool × QShard :=
  l.foldl (fun (r : Bool × QShard) e =>
    let k := r.2
    if r.1 || x.stale e || k.visited.contains e.node then r
    else if k.comparisons = budget then (true, { k with budgetHit := true })
    else
      let d := sketchDist q (x.nodeAt e.node).sketch
      let k := { k with visited := k.visited ++ [e.node], comparisons := k.comparisons + 1 }
      let k := if (x.nodeAt e.node).state = 2 then { k with tombs := k.tombs + 1 } else if !elig e.node then { k with filtered := k.filtered + 1 } else k
      if decide (k.wset.length < ef) || k.wset.any (fun w => decide (d < w.2)) then
        let k := { k with cset := insertBy nearer (e.node, d) k.cset }
        let w := insertBy nearer (e.node, d) k.wset
        (false, if elig e.node then { k with wset := if ef < w.length then w.dropLast else w } else k)
      else (false, k)) (false, k)

/-- One turn of the loop of R281; the Bool says that the traversal stops. `marked` says that the record of the node to expand carries a mark. -/
def travStep (x : Shard) (elig : Nat → Bool) (q : Bytes) (ef budget : Nat) (marked : Bool) (k : QShard) : Bool × QShard :=
  match k.cset with
  | [] => (true, k)
  | c :: r =>
    if k.wset.length = ef ∧ k.wset.all (fun w => decide (w.2 < c.2)) then (true, k)
    else
      let k := { k with cset := r, expansions := k.expansions + 1 }
      if marked || (x.nodeAt c.1).marked then (false, { k with skipped := k.skipped + 1 })
      else travNbrs x elig q ef budget k (x.nodeAt c.1).nbrs

/-- May the loop go on, before its next record is needed? -/
def travOver (ef : Nat) (k : QShard) : Bool :=
  match k.cset with
  | [] => true
  | c :: _ => decide (k.wset.length = ef) && k.wset.all fun w => decide (w.2 < c.2)

/-- A whole traversal on a linking context (R275 step 3, R279). -/
def travAll (x : Shard) (elig : Nat → Bool) (q : Bytes) (ef budget fuel : Nat) (k : QShard) : QShard :=
  match fuel with
  | 0 => k
  | f + 1 =>
    let r := travStep x elig q ef budget false k
    if r.1 then r.2 else travAll x elig q ef budget f r.2

/-- Order of neighbour entries (R272). -/
def nbrBefore (a b : Nbr) : Bool := decide (a.dist < b.dist) || (decide (a.dist = b.dist) && decide (a.node < b.node))

/-- Node `n` is offered to a neighbour (R275 step 4); the write removes stale entries (R272). -/
def Shard.offer (x : Shard) (u : Nat) (e : Nbr) : Shard :=
  let l := (x.nodeAt u).nbrs.filter fun y => !x.stale y
  let l := if l.length < x.degree then insertBy nbrBefore e l
    else if l.getLast?.any (fun y => nbrBefore e y) then insertBy nbrBefore e l.dropLast else l
  x.modNode u fun n => { n with nbrs := l }

/-- The traversal that links slot `n`: EF = 4 × DEGREE, no filter, 65,536 comparisons (R275 step 3). -/
def Shard.linkWalk (x : Shard) (n : Nat) : QShard :=
  let sk := (x.nodeAt n).sketch
  let elig := fun i => decide ((x.nodeAt i).state = 1) && decide (i ≠ n)
  let k := travStart x elig sk { shard := x.shard, stage := .traverse }
  travAll x elig sk (4 * x.degree) 65536 65601 k

/-- The slot takes its neighbours, the nearest live nodes met, and is offered to them (R275 steps 3 and 4). -/
def Shard.link (x : Shard) (n : Nat) : Shard :=
  let l := (x.linkWalk n).wset.take x.degree
  let x := x.modNode n fun d => { d with nbrs := l.map fun p => { node := p.1, gen := (x.nodeAt p.1).gen, dist := p.2 } }
  l.foldl (fun x p => x.offer p.1 { node := n, gen := (x.nodeAt n).gen, dist := p.2 }) x

def Shard.live (x : Shard) : Nat := (x.nodes.filter fun e => decide (e.2.state = 1)).length

/-- The live node with an identifier. -/
def Shard.find (x : Shard) (i : W64) : Option Nat := (x.nodes.find? fun e => decide (e.2.state = 1) && decide (e.2.ident = i)).map (·.1)

/-- A node is published (R275 step 5): linked, and an entry point while the shard has fewer live nodes than ENTRY_COUNT. -/
def Shard.publish (x : Shard) (n : Nat) : Shard :=
  let few := decide (x.live < x.entryCount)
  let x := (x.link n).modNode n fun d => { d with state := 1 }
  if few then { x with entries := if x.entries.contains n then x.entries else x.entries ++ [n] } else x

/-- Repair of a tombstoned node (R278). -/
def Shard.repair (x : Shard) (t : Nat) : Shard :=
  let d := x.nodeAt t
  let x' := (d.nbrs.filter fun e => !x.stale e).foldl (fun (y : Shard) e =>
    let u := e.node
    let lu := (y.nodeAt u).nbrs
    if lu.any fun z => decide (z.node = t) && decide (z.gen = d.gen) then
      let cand := ((d.nbrs ++ lu).filter fun z => !y.stale z && decide ((y.nodeAt z.node).state = 1) && decide (z.node ≠ u) && !(lu.any fun w => decide (w.node = z.node))).map (fun z => (z.node, sketchDist (y.nodeAt z.node).sketch (y.nodeAt u).sketch))
      let rest := (lu.filter fun z => !(decide (z.node = t)) && !y.stale z)
      match sortBy nearer cand with
      | [] => y.modNode u fun n => { n with nbrs := rest }
      | c :: _ => y.modNode u fun n => { n with nbrs := insertBy nbrBefore { node := c.1, gen := (y.nodeAt c.1).gen, dist := c.2 } rest }
    else y) x
  -- the nearest live neighbour takes its place among the entry points
  let near := ((d.nbrs.filter fun e => !x.stale e && decide ((x.nodeAt e.node).state = 1)).map fun e => (e.node, e.dist))
  let ents := match sortBy nearer near with
    | [] => x.entries.filter fun n => decide (n ≠ t)
    | c :: _ => (x.entries.map fun n => if n = t then c.1 else n).eraseDups
  { (x'.modNode t fun n => { gen := (n.gen + 1) % 256 }) with entries := ents }

end Sys2Proof.Machine
end

