-- ==== Sys2Proof/Machine/Search.lean ====
section
/-! DEFINITION. The search commands: shards, inserts, deletes, filters, queries, group queries, repair, embedding jobs (12 R270 to R292; 15 R364, R365; 17 R405, R416). -/

namespace Sys2Proof.Machine

def State.modSearch (s : State) (f : Search → Search) : State := { s with search := f s.search }

/-! Shards -/

/-- An entry as Create Index may give it (R270, 15 R364). -/
def shardEntryOk (b : Bytes) : Bool :=
  let fmt := leNat b 0x0D 1
  decide (leNat b 0 8 ≠ 0) && zeros b 8 5 && (fmt ≤ 3 || fmt == 0x0A) && decide (leNat b 0x0E 1 ≤ 2) && between 8 (leNat b 0x0F 1) 32 && decide (leNat b 0x0F 1 % 8 = 0) && between 32 (leNat b 0x10 2) 8192 && decide (leNat b 0x10 2 % 32 = 0) &&
  decide (leNat b 0x12 2 < leNat b 0x14 2) && between 1 (leNat b 0x14 2) 4096 && decide (leNat b 0x16 1 ≤ 1) && between 1 (leNat b 0x17 1) 64 && zeros b 0x18 8 && between 1 (leNat b 0x20 8) 32000000000 && zeros b 0x28 88

/-- Create Index (R270, R271). -/
def createIndex (id : CmdId) (tenant : Nat) (b : Bytes) (s : State) : State :=
  if b.length < 0x80 ∨ !shardEntryOk b ∨ b.length ≠ 0x80 + 2048 * leNat b 0x10 2 then s.complete id stInvalidField else
  let x : Shard := { index := le 64 b 0, shard := le 16 b 0x12, tenant := tenant, state := 1, vecFmt := byteAt b 0x0D, metric := leNat b 0x0E 1, degree := leNat b 0x0F 1, dim := leNat b 0x10 2, count := leNat b 0x14 2, shadowed := bit (byteAt b 0x16) 0, entryCount := leNat b 0x17 1, capacity := leNat b 0x20 8, proj := b.drop 0x80, waiter := some id }
  if (s.shardFor x.index x.shard).isSome || s.search.shards.any fun y => decide (y.index = x.index) && decide (y.tenant ≠ tenant) then s.complete id stInvalidField
  else if 256 ≤ s.search.shards.length ∨ 32000000000 < sumBy (fun (y : Shard) => y.capacity) s.search.shards + x.capacity then s.complete id stCapacity
  else
    let sizes := [x.capacity * 512, x.capacity * x.vecLen, 2048 * x.dim, x.capacity * 32, 512]
    let need := sumBy (fun n => units n) sizes
    if !s.fits tenant 2 need then (s.quotaRefused tenant).complete id stQuota
    else if s.freeGroups < sumBy (fun n => pieceCount (objLen n)) sizes then s.complete id stCapacity
    else
      let r := sizes.zipIdx.foldl (fun (a : List W64 × State) z =>
        let q := a.2.allocT2 tenant (if z.2 = 2 then .weight else .index) (if z.2 = 2 then 1 else 0) z.1
        (a.1 ++ [q.1], q.2)) ([], s)
      let x := { x with addrs := r.1 }
      let s := r.2.writeObj (x.addr 2) x.proj
      let q := s.storeObj (x.addr 2)
      if !q.1 then (s.freeObjs x.addrs).complete id stCapacity else
        let s := q.2.modSearch fun h => { h with shards := h.shards ++ [x] }
        let s := (s.journal (.directory 3 x.shard.toNat)).2
        if s.inGroup then s.report [s.newPlace 3 x.index (BitVec.ofNat 32 x.shard.toNat) 0 (b2n x.shadowed)] else s

/-- The shard of a command: none of the tenant's is Invalid Field, one that replays is Command Sequence Error (R273, 15 R364). -/
def State.shardCheck (s : State) (i : W64) (k : W16) (tenant : Nat) : Option Status :=
  match s.shardFor i k with
  | none => some stInvalidField
  | some x => if x.tenant ≠ tenant ∨ x.state = 3 ∨ x.shadowOf.isSome then some stInvalidField else if x.state = 2 then some stSequence else if x.waiter.isSome then some stInvalidField else none

/-- An INDEX commit of a shard (14 R321, R339): its FLAG's SEQ. -/
def State.indexCommit (s : State) (x : Shard) : Nat × State := s.commitParts [.index x.index x.shard]

/-- The shadow shard is sent a commit (17 R405). -/
def State.shadowCommit (s : State) (i : W64) (k : W16) (id : Option CmdId) (seq : Nat) (nodes : List Nat) : State :=
  match s.shardFor i k with
  | none => s
  | some x =>
    if x.shadowed && decide (x.shadowRank ≠ 0xFFFF) && s.grouped then
      s.sendCopy 3 3 x.tenant i (BitVec.ofNat 32 k.toNat) 0 x.shadowRank .index id [{ ofs := seq, data := s.indexRecord x seq (nodes.foldl (fun b n => b ++ x.nodeRuns n) x.entryRun), marks := [] }]
    else s

/-- Destroy Index (15 R364). -/
def destroyIndex (id : CmdId) (tenant : Nat) (b : Bytes) (s : State) : State :=
  if !fieldsOk b [(0, 10)] then s.complete id stInvalidField else
  match s.shardCheck (le 64 b 0) (le 16 b 8) tenant with
  | some t => s.complete id t
  | none => s.modShard (le 64 b 0) (le 16 b 8) fun x => { x with state := 3, waiter := some id }

def Query.uses (q : Query) (x : Shard) : Bool := decide (q.index = x.index) && q.shards.any fun k => decide (k.shard = x.shard)

/-- Creates whose objects and shadow stand, destroys whose last user has gone. -/
def State.settleShards (s : State) : State :=
  s.search.shards.foldl (fun s x =>
    match x.waiter with
    | none => s
    | some id =>
      if x.state = 3 then
        if (s.search.queries.any fun q => q.uses x) || (s.search.jobs.any fun j => decide (j.state = 1) && decide (j.index = x.index) && decide (j.shard = x.shard)) then s
        else
          let fs := s.search.filters.filter fun f => decide (f.index = x.index) && decide (f.shard = x.shard)
          let s := s.freeObjs (x.addrs ++ fs.map (·.addr))
          let s := s.modSearch fun h => { h with
            shards := h.shards.filter fun y => !(decide (y.index = x.index) && decide (y.shard = x.shard))
            filters := h.filters.filter fun f => !(decide (f.index = x.index) && decide (f.shard = x.shard))
            repairs := h.repairs.filter fun r => !(decide (r.index = x.index) && decide (r.shard = x.shard)) }
          let p := s.newPlace 3 x.index (BitVec.ofNat 32 x.shard.toNat) 0 0
          let s := if s.inGroup then s.report [{ p with home := 0xFFFF }] else s
          (s.dropPlace p).complete id stOk
      else if s.storing (x.addr 2) || (x.shadowed && decide (x.shadowRank = 0xFFFF)) then s
      else
        let s := s.trimObj (x.addr 2)
        let s := s.modShard x.index x.shard fun x => { x with waiter := none }
        s.complete id stOk 0 0 (s.shardEntry { x with waiter := none })) s

/-! Insert and delete -/

/-- Slots that pending insertions hold. -/
def State.takenSlots (s : State) (x : Shard) : List Nat :=
  (s.search.inserts.filter fun j => decide (j.index = x.index) && decide (j.shard = x.shard) && !j.published).foldl (fun l j => l ++ j.vecs.map (·.1)) []

/-- A write into an index object: its piece comes to T1, and lines written in full lose their marks (14 R339, 09 R228). -/
def State.indexWrite (s : State) (a : W64) (b : Bytes) : State := (s.touchWrite a b.length).writeObj a b

/-- A shard takes new node records, which go into its NODES object, and its entry points into ENTRY (R270, R272); the records of `l` are written whether they change or not. -/
def State.putShard (s : State) (x : Shard) (y : Shard) (l : List Nat) : State :=
  let s := s.modShard x.index x.shard fun _ => y
  let l := ((x.nodes ++ y.nodes).map (·.1) ++ l).eraseDups.filter fun n => decide (x.nodeAt n ≠ y.nodeAt n) || l.contains n
  let s := l.foldl (fun s n => s.indexWrite (x.addr 0 + BitVec.ofNat 64 (512 * n)) (y.nodeAt n).bytes) s
  if x.entries = y.entries then s else s.indexWrite (x.addr 4) ((upTo 64).foldl (fun b i => b ++ toLe (y.entries.getD i 0) 8) [])

/-- The record of node `n` cannot be read without a mark. -/
def State.recordMarked (s : State) (x : Shard) (n : Nat) : Bool := (x.nodeAt n).marked || s.markedObj (x.addr 0 + BitVec.ofNat 64 (512 * n)) 512

/-- Counts of an engine's traversal (R293). -/
def State.countWalk (s : State) (a b : QShard) : State :=
  s.modSearch fun h => { h with cmp := h.cmp + BitVec.ofNat 64 (b.comparisons - a.comparisons), tombCnt := satAdd h.tombCnt (b.tombs - a.tombs), skipCnt := satAdd h.skipCnt (b.skipped - a.skipped) }

/-- The `n` lowest free slots. -/
def State.freeSlots (s : State) (x : Shard) (n : Nat) : List Nat :=
  let taken := s.takenSlots x
  ((upTo (min x.capacity (x.nodes.length + taken.length + n))).filter fun i => decide ((x.nodeAt i).state = 0) && !taken.contains i).take n

/-- Slots for vectors in order (R274, R275 step 2): each takes the lowest free one. A vector that replaces a live node takes that node's own slot where the free ones are needed for the vectors after it that replace none (log 160). The list ends at the first vector that has no slot. -/
def placeVecs (x : Shard) (free : List Nat) (l : List (W64 × Bytes)) : List (Nat × (W64 × Bytes)) :=
  match l with
  | [] => []
  | v :: r =>
    match free, x.find v.1 with
    | f, some own => if (r.filter fun w => (x.find w.1).isNone).length < f.length then (match f with | [] => [] | c :: f => (c, v) :: placeVecs x f r) else (own, v) :: placeVecs x f r
    | [], none => []
    | c :: f, none => (c, v) :: placeVecs x f r

/-- Vectors go into slots and the INDEX commit is written (R275 steps 1, 2; R273). -/
def State.insertVecs (s : State) (x : Shard) (id : Option CmdId) (l : List (W64 × Bytes)) : State :=
  let code := x.vecFmt.toNat % 16
  let vs := l.map fun v => (v.1, if x.metric = 2 then packRow code (normalize code (vecVals code x.dim v.2)) else v.2)
  let put := placeVecs x (s.freeSlots x l.length) vs
  let s := put.foldl (fun s p => s.indexWrite (x.addr 1 + BitVec.ofNat 64 (x.vecLen * p.1)) ((upTo x.vecLen).map fun i => byteAt p.2.2 i)) s
  let q := s.indexCommit x
  let j : InsertJob := { id := id, index := x.index, shard := x.shard, seq := q.1, count := put.length, vecs := put }
  q.2.modSearch fun h => { h with inserts := h.inserts ++ [j] }

/-- The sum of squares of a vector is zero (R274). -/
def Shard.zeroNorm (x : Shard) (v : Bytes) : Bool := (dec32 (laneSum ((vecVals (x.vecFmt.toNat % 16) x.dim v).map fun e => round32 (e.mul e)))).isZero

/-- Insert (R274). -/
def insertCmd (id : CmdId) (tenant : Nat) (b : Bytes) (s : State) : State :=
  let n := leNat b 0x0C 4
  let replace := leNat b 0x0A 2
  if !fieldsOk b [(0, 0x10), (0x40, b.length - 0x40)] || !between 1 n 4096 || decide (1 < replace) then s.complete id stInvalidField else
  match s.shardCheck (le 64 b 0) (le 16 b 8) tenant, s.shardFor (le 64 b 0) (le 16 b 8) with
  | some t, _ => s.complete id t
  | _, none => s.complete id stInvalidField
  | none, some x =>
    let each := pad8 (8 + x.vecLen)
    let l := (upTo n).map fun i => (le 64 b (0x40 + each * i), slice b (0x40 + each * i + 8) x.vecLen)
    let ids := l.map (·.1)
    let live := ids.filter fun i => (x.find i).isSome
    if b.length ≠ 0x40 + each * n ∨ ids.any (fun i => decide (i = BitVec.allOnes 64)) ∨ ids.eraseDups.length ≠ n ∨ (replace = 0 ∧ !live.isEmpty) ∨
       (x.metric = 2 ∧ l.any fun v => x.zeroNorm v.2) then s.complete id stInvalidField
    else if (s.freeSlots x n).length < n - live.length then s.complete id stCapacity
    else s.insertVecs x (some id) l

/-- A slot takes its vector, sketch and identifier (R275 step 2); a slot whose node it replaces is freed first (R272). -/
def Shard.fill (x : Shard) (p : Nat × (W64 × Bytes)) : Shard :=
  x.modNode p.1 fun n => { sketch := sketchOf x.proj x.dim (vecVals (x.vecFmt.toNat % 16) x.dim p.2.2), ident := p.2.1, state := 0, gen := if n.state = 0 then n.gen else (n.gen + 1) % 256, vec := p.2.2 }

/-- A filter takes new bits, which go into its object: bit n of byte n / 8 (R285). -/
def State.putFilter (s : State) (f : Filter) (bits : Marks) : State :=
  let s := s.modSearch fun h => { h with filters := h.filters.map fun (y : Filter) => if y.idx = f.idx then { y with bits := bits } else y }
  let l := ((f.bits ++ bits).filter fun e => Marks.has f.bits e.1 != Marks.has bits e.1).map fun e => e.1 / 8
  l.eraseDups.foldl (fun s k => s.indexWrite (f.addr + BitVec.ofNat 64 k) [BitVec.ofNat 8 (sumBy (fun b => b2n (Marks.has bits (8 * k + b)) * 2 ^ b) (upTo 8))]) s

/-- A node that leaves its slot has no bit in any filter (R278, R285). -/
def State.clearNodeBits (s : State) (i : W64) (k : W16) (l : List Nat) : State :=
  let own := s.search.filters.filter fun f => decide (f.index = i) && decide (f.shard = k)
  let idx := own.map (·.idx)
  let clr := fun (m : Marks) => l.foldl (fun m n => Marks.put m n false) m
  let s := own.foldl (fun s f => s.putFilter f (clr f.bits)) s
  s.modSearch fun h => { h with
    changes := h.changes.map fun c => if idx.contains c.idx then { c with bits := clr c.bits } else c }

/-- A durable insertion is published at the tick: nodes it replaces are tombstoned with it (R274 to R276). -/
def State.publishTick (s : State) : State :=
  s.search.inserts.foldl (fun s j =>
    if j.published || !s.durable j.seq then s else
      match s.shardFor j.index j.shard with
      | none => s.modSearch fun h => { h with inserts := h.inserts.filter fun i => !decide (i.seq = j.seq) }
      | some x =>
        let old := x
        let gone := j.vecs.filterMap fun v => match x.find v.2.1 with | some n => if n = v.1 then none else some n | none => none
        let own := (j.vecs.filter fun v => decide ((x.nodeAt v.1).state ≠ 0)).map (·.1)
        let x := gone.foldl (fun (x : Shard) n => x.modNode n fun d => { d with state := 2 }) x
        let x := j.vecs.foldl Shard.fill x
        let r := j.vecs.foldl (fun (a : Shard × State) v => (a.1.publish v.1, a.2.countWalk { shard := j.shard, stage := .done } (a.1.linkWalk v.1))) (x, s)
        let s := (r.2.putShard old r.1 (j.vecs.map (·.1))).clearNodeBits j.index j.shard own
        let s := s.modSearch fun h => { h with
          inserts := h.inserts.map fun i => if i.seq = j.seq then { i with published := true } else i
          repairs := h.repairs ++ gone.map fun n => { index := j.index, shard := j.shard, node := n, frame := s.groupFrame.toNat } }
        s.shadowCommit j.index j.shard j.id j.seq (j.vecs.map (·.1) ++ gone)) s

/-- Insertions published and copied complete (R275, 17 R405); deletes and filter changes complete when durable. -/
def State.settleInserts (s : State) : State :=
  s.search.inserts.foldl (fun s j =>
    if j.published && (match j.id with | some id => !s.copying id | none => true) then
      let s := s.modSearch fun h => { h with inserts := h.inserts.filter fun i => !decide (i.seq = j.seq) }
      s.completeOpt j.id stOk (BitVec.ofNat 32 j.count)
    else s) s

def State.settleDeletes (s : State) : State :=
  s.search.deletes.foldl (fun s j =>
    if s.durable j.seq && !s.copying j.id then
      (s.modSearch fun h => { h with deletes := h.deletes.filter fun i => !decide (i.seq = j.seq) }).complete j.id stOk (BitVec.ofNat 32 j.count)
    else s) s

/-- Delete (R277). -/
def deleteCmd (id : CmdId) (tenant : Nat) (b : Bytes) (s : State) : State :=
  let n := leNat b 0x0C 4
  if !fieldsOk b [(0, 10), (0x0C, 4), (0x40, b.length - 0x40)] || !between 1 n 65536 || decide (b.length ≠ 0x40 + 8 * n) then s.complete id stInvalidField else
  match s.shardCheck (le 64 b 0) (le 16 b 8) tenant, s.shardFor (le 64 b 0) (le 16 b 8) with
  | some t, _ => s.complete id t
  | _, none => s.complete id stInvalidField
  | none, some x =>
    let r := ((upTo n).map fun i => le 64 b (0x40 + 8 * i)).foldl (fun (a : List Nat × Shard) i => match a.2.find i with
      | none => a
      | some k => (a.1 ++ [k], a.2.modNode k fun d => { d with state := 2 })) ([], x)
    let s := s.putShard x r.2 r.1
    let q := s.indexCommit x
    let j : DeleteJob := { id := id, index := x.index, shard := x.shard, seq := q.1, count := r.1.length, nodes := r.1 }
    let s := q.2.modSearch fun h => { h with
      deletes := h.deletes ++ [j]
      repairs := h.repairs ++ r.1.map fun k => { index := x.index, shard := x.shard, node := k, frame := s.groupFrame.toNat } }
    s.shadowCommit x.index x.shard (some id) q.1 r.1

/-- The record at the head of the repair queue: a tombstoned node is freed; a marked record is rebuilt (R278). -/
def indexRepair (s : State) : State :=
  match s.search.repairs with
  | [] => s
  | r :: rest =>
    let s := s.modSearch fun h => { h with repairs := rest }
    match s.shardFor r.index r.shard with
    | none => s
    | some x =>
      let d := x.nodeAt r.node
      let vecBad := s.markedObj (x.addr 1 + BitVec.ofNat 64 (x.vecLen * r.node)) x.vecLen
      if d.state = 2 then
        let gf := s.groupFrame.toNat
        let s := (s.putShard x (x.repair r.node) [r.node]).clearNodeBits r.index r.shard [r.node]
        let s := s.modSearch fun h => { h with repairCnt := satInc h.repairCnt, lateCnt := if r.frame + 64 < gf then satInc h.lateCnt else h.lateCnt }
        let q := s.indexCommit x
        q.2.shadowCommit r.index r.shard none q.1 (r.node :: d.nbrs.map (·.node))
      else if d.state = 1 ∧ s.recordMarked x r.node then
        let fresh := x.modNode r.node fun d => { d with marked := false, sketch := sketchOf x.proj x.dim (vecVals (x.vecFmt.toNat % 16) x.dim d.vec) }
        let put := fun (s : State) (y : Shard) => s.putShard x y [r.node]
        let s :=
          if x.shadowed ∧ x.shadowRank ≠ 0xFFFF then put s (x.modNode r.node fun d => { d with marked := false })
          else if !vecBad then (put s (fresh.link r.node)).countWalk { shard := r.shard, stage := .done } (fresh.linkWalk r.node)
          else (put s (x.modNode r.node fun d => { d with state := 2, marked := false })).modSearch fun h => { h with lossCnt := satInc h.lossCnt, repairs := h.repairs ++ [{ index := r.index, shard := r.shard, node := r.node, frame := s.groupFrame.toNat }] }
        (s.indexCommit x).2
      else s

/-! Filters (R285) -/

def State.filterFor (s : State) (h : W32) : Option Filter := s.search.filters.find? fun f => decide (f.idx = bits h 11 0) && decide (f.gen = bits h 31 12)

/-- The filter of a handle that a command on a shard may name. -/
def State.filterOf (s : State) (h : W32) (x : Shard) : Option Filter :=
  match s.filterFor h with
  | some f => if f.index = x.index ∧ f.shard = x.shard ∧ f.dying.isNone then some f else none
  | none => none

/-- The bits that the changes under way leave. -/
def State.bitsAfter (s : State) (f : Filter) : Marks :=
  match (s.search.changes.filter fun c => decide (c.idx = f.idx)).getLast? with
  | some c => c.bits
  | none => f.bits

/-- A change is journaled; it takes effect at the first tick after that is durable. -/
def State.changeFilter (s : State) (id : CmdId) (x : Shard) (idx : Nat) (bits : Marks) (all : Bool) (dw0 : W32) : State :=
  let q := s.indexCommit x
  let c : FilterChange := { idx := idx, bits := bits, fillAll := all, seq := q.1, id := id, dw0 := dw0 }
  (q.2.modSearch fun h => { h with changes := h.changes ++ [c] }).shadowCommit x.index x.shard (some id) q.1 []

/-- Set Filter, OP 1 to 6 (15 R364). -/
def setFilter (id : CmdId) (tenant : Nat) (b : Bytes) (s : State) : State :=
  let op := leNat b 0x0A 1
  let h := le 32 b 0x0C
  let n := leNat b 0x1C 4
  if decide (op = 0) || decide (6 < op) || !fieldsOk b [(0, 0x20), (0x40, b.length - 0x40)] || decide (2 < leNat b 0x0B 1) then s.complete id stInvalidField else
  match s.shardCheck (le 64 b 0) (le 16 b 8) tenant, s.shardFor (le 64 b 0) (le 16 b 8) with
  | some t, _ => s.complete id t
  | _, none => s.complete id stInvalidField
  | none, some x =>
    if op = 1 then
      let tag := le 32 b 0x18
      if s.search.filters.any fun f => decide (f.tenant = tenant) && decide (f.tag = tag) && decide (tag ≠ 0) then s.complete id stInvalidField
      else match (upTo 4096).find? fun i => !(s.search.filters.any fun f => decide (f.idx = i)) with
      | none => s.complete id stCapacity
      | some i =>
        let len := ceilDiv x.capacity 8
        if !s.fits tenant 2 (units len) then (s.quotaRefused tenant).complete id stQuota
        else if s.freeGroups < pieceCount (objLen len) then s.complete id stCapacity
        else
          let r := s.allocT2 tenant .index 0 len
          let g := Sparse.get 0 s.search.filterGens i
          let f : Filter := { idx := i, gen := g, index := x.index, shard := x.shard, tenant := tenant, tag := tag, addr := r.1 }
          let s := r.2.modSearch fun h => { h with filters := h.filters ++ [f], filterGens := Sparse.set 0 h.filterGens i ((g + 1) % 1048576) }
          s.changeFilter id x i [] false (BitVec.ofNat 32 (g * 4096 + i))
    else match s.filterOf h x with
    | none => s.complete id stInvalidField
    | some f =>
      let cur := s.bitsAfter f
      let ids := (upTo n).map fun k => le 64 b (0x40 + 8 * k)
      let at_ := ids.filterMap x.find
      match op with
      | 2 | 3 =>
        if !between 1 n 65536 || decide (b.length ≠ 0x40 + 8 * n) then s.complete id stInvalidField
        else s.changeFilter id x f.idx (at_.foldl (fun m k => Marks.put m k (decide (op = 2))) cur) false (BitVec.ofNat 32 (n - at_.length))
      | 4 => s.changeFilter id x f.idx cur true 0
      | 5 => match s.filterOf (le 32 b 0x10) x, s.filterOf (le 32 b 0x14) x with
        | some fa, some fb =>
          let a := s.bitsAfter fa
          let c := s.bitsAfter fb
          let m := match leNat b 0x0B 1 with
            | 0 => a.filter fun e => Marks.has c e.1
            | 1 => c.foldl (fun m (e : Nat × Bool) => Marks.put m e.1 true) a
            | _ => a.filter fun e => !Marks.has c e.1
          s.changeFilter id x f.idx m false 0
        | _, _ => s.complete id stInvalidField
      | 6 => s.modSearch fun h => { h with filters := h.filters.map fun (y : Filter) => if y.idx = f.idx then { y with dying := some id } else y }
      | _ => s.complete id stInvalidField

/-- Filter changes take effect at the first tick after their record is durable (R285). -/
def State.filterTick (s : State) : State :=
  s.search.changes.foldl (fun s c =>
    if s.durable c.seq && !s.copying c.id then
      let s := match s.search.filters.find? fun f => decide (f.idx = c.idx) with
        | none => s
        | some f =>
          let bits := if c.fillAll then (match s.shardFor f.index f.shard with | none => c.bits | some x => x.nodes.foldl (fun m (e : Nat × Node) => if e.2.state = 1 then Marks.put m e.1 true else m) c.bits) else c.bits
          s.putFilter f bits
      (s.modSearch fun h => { h with changes := h.changes.filter fun y => !decide (y.seq = c.seq) }).complete c.id stOk c.dw0
    else s) s

/-- A filter to be destroyed goes when no running query uses it (R285). -/
def State.settleFilters (s : State) : State :=
  s.search.filters.foldl (fun s f =>
    match f.dying with
    | none => s
    | some id =>
      if s.search.queries.any fun q => q.shards.any fun k => decide (k.filter = some f.idx) then s
      else ((s.freeObj f.addr).modSearch fun h => { h with filters := h.filters.filter fun y => !decide (y.idx = f.idx), changes := h.changes.filter fun c => !decide (c.idx = f.idx) }).complete id stOk) s

/-! Queries (R279 to R288) -/

/-- Query contexts of the module (R279). -/
def State.queryContexts (s : State) : Nat := match s.loft.image with | none => 0 | some i => 8 * min 512 (i.qryStage * 16)
def State.busyContexts (s : State) : List Nat := s.search.queries.foldl (fun l (q : Query) => l ++ q.shards.filterMap (·.ctx)) []

/-- What a query reads from its parameter block (15 R364). -/
structure QueryParams where
  index : W64
  shard : Nat
  given : Bool
  group : Bool
  k : Nat
  ef : Nat
  rr : Nat
  qfmt : Nat
  cls : Nat
  budget : Nat
  filter : W32
  contract : Nat
  deadline : Nat
  sketch : Bytes
  vec : Bytes
  deriving DecidableEq, Repr

def readQuery (b : Bytes) : QueryParams :=
  let given := bit (byteAt b 0x0A) 0
  { index := le 64 b 0, shard := leNat b 8 2, given := given, group := bit (byteAt b 0x0A) 1, k := leNat b 0x0C 2, ef := leNat b 0x0E 2, rr := leNat b 0x10 2, qfmt := leNat b 0x12 1, cls := leNat b 0x13 1, budget := leNat b 0x14 4
    filter := le 32 b 0x18, contract := leNat b 0x1C 2, deadline := leNat b 0x20 8, sketch := if given then slice b 0x40 128 else [], vec := if given then [] else b.drop 0x40 }

/-- Ranges of R280 and 15 R364, R365. -/
def queryOk (b : Bytes) (p : QueryParams) : Bool :=
  fieldsOk b [(0, 0x1E), (0x20, 8), (0x40, b.length - 0x40)] && decide (leNat b 0x0A 2 ≤ 3) && between 1 p.k 256 && between p.k p.ef 1024 && between p.k p.rr p.ef && between 1 p.budget 262144 && decide (p.qfmt ≤ 1) && decide (p.cls ≤ 2) &&
  decide (p.deadline < 2 ^ 48) && (if p.cls = 1 then decide (p.deadline ≠ 0) else decide (p.deadline = 0)) && (decide (p.cls = 0) || decide (p.contract = 0)) && (!p.given || decide (b.length = 0xC0))

/-- Bytes of the query vector for a shard. -/
def QueryParams.vecLen (p : QueryParams) (x : Shard) : Nat := if p.qfmt = 0 then 4 * x.dim else x.vecLen

/-- A query begins: its shards' stages, its buffer (R280, R286). -/
def State.beginQuery (s : State) (id : CmdId) (tenant : Nat) (p : QueryParams) (l : List (Shard × (Option Nat × Bool))) (gid : Option W64) (ans : Option Nat) (asked : List (Nat × Nat)) (dl : Nat) : State :=
  let w := s.allocT1 tenant .work 0 (65536 + 8 * p.budget)
  let ks := l.map fun x => ({ shard := x.1.shard, stage := if x.2.2 then .done else if p.given then .waiting else .sketch, filter := x.2.1, noTag := x.2.2 } : QShard)
  let q : Query := { id := id, tenant := tenant, index := p.index, k := p.k, ef := p.ef, rr := p.rr, budget := p.budget, cls := p.cls, contract := p.contract, deadline := dl, qfmt := p.qfmt, sketch := p.sketch, vec := p.vec, shards := ks, given := p.given, groupId := gid, answerTo := ans, asked := asked, awaiting := asked.map (·.1), admitAt := w.2.groupFrame.toNat, buf := w.1, since := w.2.groupFrame.toNat }
  w.2.modSearch fun h => { h with queries := h.queries ++ [q] }

/-- The filter of each shard: a handle for one shard, a tag otherwise (15 R364, R288). The Bool says that the shard has no filter of the tag. -/
def State.queryFilters (s : State) (tenant : Nat) (p : QueryParams) (byTag : Bool) (l : List Shard) : Option (List (Shard × (Option Nat × Bool))) :=
  if p.filter = 0 then some (l.map fun x => (x, (none, false)))
  else if byTag then
    some (l.map fun x => match s.search.filters.find? fun f => decide (f.tenant = tenant) && decide (f.tag = p.filter) && decide (f.index = x.index) && decide (f.shard = x.shard) && f.dying.isNone with
      | some f => (x, (some f.idx, false))
      | none => (x, (none, true)))
  else match l with
  | x :: _ => (s.filterOf p.filter x).map fun f => [(x, (some f.idx, false))]
  | [] => none

/-- Query (R280, R286 to R288; 15 R364, R365). -/
def queryCmd (id : CmdId) (tenant : Nat) (b : Bytes) (plan : Plan) (s : State) : State :=
  let p := readQuery b
  if !queryOk b p then s.complete id stInvalidField
  else if p.group && !(s.isManager && s.group.running && !s.group.duplicate) then s.complete id stSequence
  else
    let held := fun (x : Shard) => match s.group.places.find? fun q => decide (q.kind = 3) && decide (q.key1 = x.index) && decide (q.key2.toNat = x.shard.toNat) && !q.gone with
      | some q => decide (q.holder = s.rank)
      | none => x.shadowOf.isNone
    let mine := s.search.shards.filter fun x => decide (x.index = p.index) && (p.group || decide (p.shard = 0xFFFF) || decide (x.shard.toNat = p.shard)) && (if p.group then held x else x.shadowOf.isNone)
    let dir := s.group.places.filter fun q => decide (q.kind = 3) && decide (q.key1 = p.index) && !q.gone && decide (q.holder ≠ s.rank)
    let asked := if p.group then ((dir.map (·.holder)).eraseDups.map fun r => (r, (dir.filter fun q => decide (q.holder = r)).length)) else []
    let bad := mine.findSome? fun x => s.shardCheck x.index x.shard tenant
    if mine.isEmpty ∧ asked.isEmpty then s.complete id stInvalidField
    else match (if p.group then none else bad) with
    | some t => s.complete id t
    | none =>
      let found := mine.length
      let mine := mine.filter fun x => decide (x.tenant = tenant) && decide (x.state = 1) && x.waiter.isNone
      if !p.given && mine.any (fun x => decide (p.vec.length ≠ p.vecLen x)) then s.complete id stInvalidField else
      match s.queryFilters tenant p (p.group || decide (p.shard = 0xFFFF)) mine with
      | none => s.complete id stInvalidField
      | some l =>
        if !p.group ∧ !l.isEmpty ∧ l.all (fun x => x.2.2) then s.complete id stInvalidField
        else if p.cls = 0 ∧ !s.admits p.contract tenant plan plan.fusion.toNat then (s.countRefused p.contract).complete id stContract
        else if !s.fits tenant 1 (units (65536 + 8 * p.budget)) then (s.quotaRefused tenant).complete id stQuota
        else
          let s := s.admitRequest id p.cls p.contract tenant p.deadline plan
          let dl := match s.requestOf id with | some r => r.deadline | none => p.deadline
          let qid := s.group.nextQuery
          let s := if asked.isEmpty then s else s.modGroup fun g => { g with nextQuery := qid + 1 }
          let s := asked.foldl (fun s a =>
            let sh := (dir.filter fun q => decide (q.holder = a.1)).map fun q => q.key2.toNat
            let pb := b.take 0x0A ++ toLe (leNat b 0x0A 2 % 2) 2 ++ b.drop 0x0C
            let pad := fun (x : Bytes) => x ++ List.replicate (pad8 x.length - x.length) 0
            s.nvTo nvQuery a.1 (toLe qid 8 ++ toLe dl 8 ++ toLe pb.length 4 ++ toLe tenant 4 ++ toLe sh.length 2 ++ List.replicate 6 0 ++ pad (sh.foldl (fun x k => x ++ toLe k 2) []) ++ pad pb)) s
          -- a shard here that cannot answer is missing (R288)
          (s.beginQuery id tenant p l (if p.group then some (BitVec.ofNat 64 qid) else none) none asked dl).modSearch fun h => { h with queries := h.queries.map fun q => if q.id = id then { q with missing := q.missing + (found - mine.length) } else q }

/-- Order in which waiting queries take contexts (R279). -/
def Query.before (a b : Query) : Bool := decide (a.cls < b.cls) || (decide (a.cls = b.cls) && decide (a.cls ≤ 1) && decide (a.deadline < b.deadline))

def State.modQuery (s : State) (id : CmdId) (f : Query → Query) : State := s.modSearch fun h => { h with queries := h.queries.map fun q => if q.id = id then f q else q }
def Query.modShard (q : Query) (k : W16) (f : QShard → QShard) : Query := { q with shards := q.shards.map fun x => if x.shard = k then f x else x }

/-- Eligible nodes (R281). -/
def State.eligibleNode (s : State) (x : Shard) (filter : Option Nat) (n : Nat) : Bool :=
  decide ((x.nodeAt n).state = 1) && match filter with
    | none => true
    | some i => match s.search.filters.find? fun f => decide (f.idx = i) with | none => false | some f => Marks.has f.bits n

/-- Elements of the query vector for a shard; with the sketch alone given, the spec names no vector: the values are open (log 7). -/
def Query.vals (q : Query) (x : Shard) (draw : Nat) : List Val :=
  if q.given then (upTo x.dim).map fun i => dec32 (Config.freeWord (draw + i))
  else if q.qfmt = 0 then vecVals 0 x.dim q.vec else vecVals (x.vecFmt.toNat % 16) x.dim q.vec

/-- The traversal of a query's shard begins on a context (R281); it ends at once where nothing is left to expand. -/
def State.startTraversal (s : State) (q : Query) (k : QShard) (ctx : Nat) : State :=
  match s.shardFor q.index k.shard with
  | none => s.modQuery q.id fun q => q.modShard k.shard fun k => { k with stage := .done }
  | some x =>
    let sk := if q.given then q.sketch else sketchOf x.proj x.dim (q.vals x 0)
    let k := travStart x (s.eligibleNode x k.filter) sk { k with ctx := some ctx }
    s.modQuery q.id fun q => q.modShard k.shard fun _ => { k with stage := if travOver q.ef k then .rerank else .traverse }

/-- A node record that a context waited for has been read (R279, R281): its expansion runs. -/
def nodeRead (ctx : Nat) (marked : Bool) (s : State) : State :=
  match s.search.queries.find? fun q => q.shards.any fun k => decide (k.ctx = some ctx) && decide (k.stage = .traverse) with
  | none => s
  | some q => match q.shards.find? fun k => decide (k.ctx = some ctx) with
    | none => s
    | some k => match s.shardFor q.index k.shard with
      | none => s
      | some x =>
        let sk := if q.given then q.sketch else sketchOf x.proj x.dim (q.vals x 0)
        let c := match k.cset with | c :: _ => c.1 | [] => 0
        let s := s.noteRead (x.addr 0 + BitVec.ofNat 64 (512 * c)) 512
        let marked := marked || s.recordMarked x c
        let r := travStep x (s.eligibleNode x k.filter) sk q.ef q.budget marked { k with waits := k.waits + 1 }
        let over_ := r.1 || travOver q.ef r.2
        let s := s.countWalk k r.2
        -- a marked record is queued for repair
        let s := if marked && decide ((x.nodeAt c).state ≠ 0) then
            (s.modShard q.index k.shard fun x => x.modNode c fun d => { d with marked := true }).modSearch fun h => { h with repairs := h.repairs ++ [{ index := q.index, shard := k.shard, node := c, frame := s.groupFrame.toNat }] }
          else s
        s.modQuery q.id fun q => q.modShard k.shard fun _ => { r.2 with stage := if over_ then .rerank else .traverse }

/-- Results in order of distance, identifier, shard (R282, R287). -/
def resultBefore (a b : W64 × (W32 × W16)) : Bool :=
  let x := dec32 a.2.1
  let y := dec32 b.2.1
  x.lt y || (!y.lt x && (decide (a.1 < b.1) || (decide (a.1 = b.1) && decide (a.2.2 < b.2.2))))

/-- Re-rank of one shard (R282). -/
def State.rerank (s : State) (q : Query) (k : QShard) : State :=
  match s.shardFor q.index k.shard with
  | none => s.modQuery q.id fun q => q.modShard k.shard fun k => { k with stage := .done, ctx := none }
  | some x =>
    let code := x.vecFmt.toNat % 16
    let w := (k.wset.take q.rr).filter fun p => s.eligibleNode x k.filter p.1
    let qv := q.vals x s.draws
    let qv := if x.metric = 2 then (normalize code qv).map (decodeElem code) else qv
    let marked := w.find? fun p => s.recordMarked x p.1 || s.markedObj (x.addr 1 + BitVec.ofNat 64 (x.vecLen * p.1)) x.vecLen
    let l := w.map fun p => ((x.nodeAt p.1).ident, distance x.metric qv (vecVals code x.dim (x.nodeAt p.1).vec))
    let good := l.filter fun r => !(dec32 r.2).isNan
    let res := (sortBy resultBefore (good.map fun r => (r.1, (r.2, k.shard)))).take q.k
    let s := w.foldl (fun (s : State) p => s.noteRead (x.addr 1 + BitVec.ofNat 64 (x.vecLen * p.1)) x.vecLen) s
    let s := match marked with | some p => s.biteAt 4 (x.addr 1 + BitVec.ofNat 64 (x.vecLen * p.1)) | none => s
    let s := if q.given then { s with draws := s.draws + x.dim } else s
    s.modQuery q.id fun q => q.modShard k.shard fun k => { k with stage := .done, ctx := none, nan := l.length - good.length, poisoned := marked.isSome, results := res.map fun r => (r.1, r.2.1) }

/-- Merged results (R287). -/
def Query.merged (q : Query) : List (W64 × (W32 × W16)) :=
  (sortBy resultBefore (q.shards.foldl (fun l k => l ++ k.results.map fun r => (r.1, (r.2, k.shard))) [] ++ q.answers)).take q.k

def Query.missingShards (q : Query) : Nat := q.missing + (q.shards.filter (·.noTag)).length
def Query.answeredShards (q : Query) : Nat := q.answered + (q.shards.filter fun k => !k.noTag).length

/-- The ten counts of the statistics block (R283). -/
def State.queryStats (s : State) (q : Query) : List Nat :=
  let own := [sumBy (·.expansions) q.shards, sumBy (·.comparisons) q.shards, sumBy (·.tombs) q.shards, sumBy (·.filtered) q.shards, sumBy (·.skipped) q.shards, sumBy (·.nan) q.shards, sumBy (·.waits) q.shards]
  (own.zipIdx.map fun x => x.1 + q.extra.getD x.2 0) ++ [s.groupFrame.toNat - q.admitAt, q.answeredShards, q.missingShards]

/-- Slots and statistics (R283, R284). `pad` fills slots n to K − 1. -/
def State.queryResult (s : State) (q : Query) (l : List (W64 × (W32 × W16))) (pad : Bool) : Bytes :=
  let slot := fun (i : Nat) (d sh : Nat) => toLe i 8 ++ toLe d 4 ++ toLe sh 2 ++ toLe 0 2
  l.foldl (fun b r => b ++ slot r.1.toNat r.2.1.toNat r.2.2.toNat) [] ++
  (if pad then (upTo (q.k - l.length)).foldl (fun b _ => b ++ slot (2 ^ 64 - 1) 0x7F800000 0) [] else []) ++
  (s.queryStats q).foldl (fun b n => b ++ toLe n 4) [] ++ List.replicate 24 0

/-- Dword 0 (R284, R288). -/
def Query.dw0 (q : Query) (n : Nat) : Nat :=
  n + (if n < q.k then (if q.budgetAny || q.shards.any (·.budgetHit) then 2 else 1) * 65536 else 0) + (if 0 < q.missingShards then 262144 else 0)

/-- A query ends on this module (R284, R287, R288): its completion, or its ANSWER. -/
def State.finishQuery (s : State) (q : Query) : State :=
  let l := q.merged
  let n := l.length
  let st := if q.shards.any (·.poisoned) then stPoisoned else if n < q.k then stShort else stOk
  let s := s.freeObj q.buf
  let s := s.modSearch fun h => { h with queries := h.queries.filter fun x => !decide (x.id = q.id), queryCnt := satInc h.queryCnt, shortCnt := if st = stShort then satInc h.shortCnt else h.shortCnt }
  match q.answerTo with
  | some r => s.nvTo nvAnswer r (toLe (match q.groupId with | some g => g.toNat | none => 0) 8 ++ toLe (if st.good then 0 else st.sct.toNat * 256 + st.sc.toNat) 2 ++ toLe (if st.good then n else 0) 2 ++ toLe (q.dw0 n) 4 ++ s.queryResult q (if st.good then l else []) false)
  | none => if st.good then s.finishRequest q.id st (BitVec.ofNat 32 (q.dw0 n)) (s.queryResult q l true) else s.finishRequest q.id st

/-- A query's steps at a tick (R286): sketches are formed in the frame after admission, contexts are taken in class order, re-rank passes end, results are merged. -/
def State.queryTick (s : State) : State :=
  let gf := s.groupFrame.toNat
  let busy := fun (s : State) (id : CmdId) => s.sched.entries.any fun e => decide (e.src.request = some id)
  let s := s.search.queries.foldl (fun s q =>
    q.shards.foldl (fun s k =>
      if k.stage = .rerank ∧ q.since < gf ∧ !busy s q.id then s.rerank q k
      else if k.stage = .sketch ∧ q.since + 1 < gf ∧ !busy s q.id then s.modQuery q.id fun q => q.modShard k.shard fun k => { k with stage := .waiting }
      else s) s) s
  let s := (sortBy Query.before s.search.queries).foldl (fun s q =>
    q.shards.foldl (fun s k =>
      if k.stage = .waiting ∧ q.since < gf then
        match (upTo s.queryContexts).find? fun c => !s.busyContexts.contains c with
        | some c => s.startTraversal q k c
        | none => s
      else s) s) s
  (s.search.queries.filter fun q => q.shards.all (fun k => decide (k.stage = .done)) && q.awaiting.isEmpty).foldl State.finishQuery s

/-- QUERY reaches a holder (17 R416). -/
def queryIn (b : Bytes) (s : State) : State :=
  if !s.nvOk b nvQuery || !s.inGroup then s else
    let n := leNat b 0x58 2
    let o := 0x60 + pad8 (2 * n)
    let pb := slice b o (leNat b 0x50 4)
    let tenant := leNat b 0x54 4
    let p := readQuery pb
    let dl := leNat b 0x48 6
    let wanted := (upTo n).map fun i => le 16 b (0x60 + 2 * i)
    let answer := fun (s : State) (st : Status) => s.nvTo nvAnswer (nvSrc b) (slice b 0x40 8 ++ toLe (st.sct.toNat * 256 + st.sc.toNat) 2 ++ toLe 0 2 ++ toLe 0 4 ++ List.replicate 64 0)
    let l := s.search.shards.filter fun x => decide (x.index = p.index) && wanted.contains x.shard && decide (x.tenant = tenant)
    if l.any fun x => decide (x.state = 2) then answer s stSequence
    else if !queryOk pb p || l.isEmpty || l.any (fun x => decide (x.state ≠ 1)) || (!p.given && l.any fun x => decide (p.vec.length ≠ p.vecLen x)) then answer s stInvalidField
    else if !s.fits tenant 1 (units (65536 + 8 * p.budget)) then answer (s.quotaRefused tenant) stQuota
    else match s.queryFilters tenant p true l with
    | none => answer s stInvalidField
    | some l => s.beginQuery { ctrl := 0xFFFF, sq := BitVec.ofNat 16 (nvSrc b), cid := BitVec.ofNat 16 (leNat b 0x40 8) } tenant p l (some (le 64 b 0x40)) (some (nvSrc b)) [] dl

/-- ANSWER reaches the manager (17 R416). -/
def answerIn (b : Bytes) (s : State) : State :=
  if !s.nvOk b nvAnswer then s else
    match s.search.queries.find? fun q => decide (q.groupId = some (le 64 b 0x40)) && q.answerTo.isNone && q.awaiting.contains (nvSrc b) with
    | none => s
    | some q =>
      let n := leNat b 0x4A 2
      let ok := decide (leNat b 0x48 2 = 0)
      let res := (upTo n).map fun i => (le 64 b (0x50 + 16 * i), (le 32 b (0x58 + 16 * i), le 16 b (0x5C + 16 * i)))
      let st := (upTo 10).map fun i => leNat b (0x50 + 16 * n + 4 * i) 4
      let asked := match q.asked.find? fun a => decide (a.1 = nvSrc b) with | some a => a.2 | none => 0
      s.modQuery q.id fun q => { q with
        awaiting := q.awaiting.filter fun r => decide (r ≠ nvSrc b)
        answers := if ok then q.answers ++ res else q.answers
        answered := if ok then q.answered + st.getD 8 0 else q.answered
        missing := if ok then q.missing + st.getD 9 0 else q.missing + asked
        budgetAny := q.budgetAny || (ok && decide (bits (le 32 b 0x4C) 17 16 = 2))
        extra := if ok then (upTo 7).map fun i => q.extra.getD i 0 + st.getD i 0 else q.extra }

/-- A group query's deadline, or 256 frames in class C: the shards that have not answered are missing (R288). -/
def groupQueryTimeout (qid : W64) (s : State) : State :=
  match s.search.queries.find? fun q => decide (q.groupId = some qid) && q.answerTo.isNone with
  | none => s
  | some q =>
    let gf := s.groupFrame.toNat
    if (if q.cls = 2 then decide (q.admitAt + 256 ≤ gf) else decide (q.deadline ≤ gf)) && !q.awaiting.isEmpty then
      s.modQuery q.id fun q => { q with awaiting := [], missing := q.missing + sumBy (fun (a : Nat × Nat) => if q.awaiting.contains a.1 then a.2 else 0) q.asked }
    else s

/-! Embedding jobs (R289 to R292) -/

/-- Embedding Job (R290; 15 R361). `outDim` is the output dimension that the model's programs state. -/
def embeddingJob (id : CmdId) (tenant : Nat) (b : Bytes) (outDim : Nat) (s : State) : State :=
  let cls := leNat b 0x14 1
  let chunk := leNat b 0x16 2
  let lap := leNat b 0x18 2
  let dl := leNat b 0x20 8
  let src := leNat b 0x28 1
  let nlb := leNat b 0x38 8
  let jobId := le 16 b 0x12
  if !fieldsOk b [(0, 0x15), (0x16, 4), (0x20, 9), (0x2C, 0x14), (0x40, b.length - 0x40)] || decide (2 < cls) || decide (jobId = 0) || !between 16 chunk 8192 || decide (chunk < 2 * lap) || decide (1 < src) || decide (2 ^ 48 ≤ dl) then s.complete id stInvalidField
  else if cls = 0 then s.complete id stContract
  else if (cls = 1 ∧ dl = 0) ∨ (cls = 2 ∧ dl ≠ 0) then s.complete id stInvalidField else
  match s.shardCheck (le 64 b 8) (le 16 b 0x10) tenant, s.shardFor (le 64 b 8) (le 16 b 0x10), s.modelFor (le 64 b 0) with
  | some t, _, _ => s.complete id t
  | none, some x, some m =>
    let blk := match s.nsFor (leNat b 0x2C 4) with | some n => n.blockLen | none => 4096
    let len := if src = 0 then b.length - 0x40 else nlb * blk
    if s.sourceClosed src (leNat b 0x2C 4) then s.complete id stNsNotReady else
    match s.source b src 0x40 (leNat b 0x2C 4) (leNat b 0x30 8) len tenant with
    | none => s.complete id stInvalidField
    | some data =>
      if m.state ≠ 2 ∨ m.tenant ≠ tenant ∨ outDim ≠ x.dim then s.complete id stInvalidField
      else if 64 ≤ (s.search.jobs.filter fun j => decide (j.state = 1)).length ∨ s.search.jobs.any (fun j => decide (j.state = 1) && decide (j.jobId = jobId)) then s.complete id stSequence
      else
        let bad := if src = 0 then [] else match s.nsFor (leNat b 0x2C 4) with
          | none => []
          | some n => let o := leNat b 0x30 8 * blk; (upTo (ceilDiv len 65536 + 1)).filterMap fun k => if s.slotLost (n.slot (o / 65536 + k)) then some (65536 * k - o % 65536, 65536) else none
        let j : EmbedJob := { jobId := jobId, id := id, tenant := tenant, model := m.id, index := x.index, shard := x.shard, cls := cls, chunk := chunk, overlap := lap, src := data, state := 1, bad := bad }
        -- the log page of each of the tenant's last 64 jobs is kept (15 R367)
        let kept := s.search.jobs.filter fun y => !decide (y.jobId = jobId)
        let oldest := if 64 ≤ (kept.filter fun y => decide (y.tenant = tenant)).length then (kept.find? fun y => decide (y.tenant = tenant) && decide (y.state ≠ 1)).map (·.jobId) else none
        let s := s.modSearch fun h => { h with jobs := (kept.filter fun y => decide (some y.jobId ≠ oldest)) ++ [j] }
        s.admitRequest id cls 0 tenant dl { workCus := 0, stages := 0, fusion := 0, pieces := [] }
  | none, _, _ => s.complete id stInvalidField

def State.modJob (s : State) (id : W16) (f : EmbedJob → EmbedJob) : State := s.modSearch fun h => { h with jobs := h.jobs.map fun j => if j.jobId = id then f j else j }

/-- A job ends (R292): its status, and the chunks inserted or, with POISONED, those not inserted. -/
def State.endJob (s : State) (j : EmbedJob) (t : Status) : State :=
  let st := if j.notInserted ≠ 0 ∧ t = stOk then stPoisoned else t
  let s := s.modJob j.jobId fun j => { j with state := if t = stOk then 2 else 3 }
  s.finishRequest j.id st (BitVec.ofNat 32 (if st = stPoisoned then j.notInserted else j.inserted))

/-- Chunks of a record of `n` tokens: first token and count (R291). -/
def chunksOf (n chunk lap : Nat) : List (Nat × Nat) :=
  (upTo (min 65536 (ceilDiv n (max 1 (chunk - lap))))).map fun j => (j * (chunk - lap), min chunk (n - j * (chunk - lap)))

/-- A record failed: it is listed, up to 1,024 entries (R292). -/
def EmbedJob.fail (j : EmbedJob) (r : W64) : EmbedJob := { j with failedCount := j.failedCount + 1, failed := if j.failed.length < 1024 then j.failed ++ [r] else j.failed }

/-- The next record of a job, at a tick when none of its passes is in the dispatcher (R289, R291, R292). The encoder's outputs are open values (log 7). -/
def State.jobTick (s : State) (j : EmbedJob) : State :=
  if j.state ≠ 1 then s
  else if j.stopped then s.endJob j stSqDeleted
  else if s.sched.entries.any fun e => decide (e.src.request = some j.id) then s
  else
    let o := j.next
    let r := le 64 j.src o
    let n := leNat j.src (o + 8) 4
    let len := 16 + 4 * n
    if j.src.length < o + 16 ∨ r = 0 then s.endJob j stOk
    else if j.src.length < o + len then (let j' := j.fail r; (s.modJob j.jobId fun _ => j').endJob j' stOk)
    else
      let j' := { j with next := o + ceilDiv len 16 * 16, records := j.records + 1, lastRecord := r, poisoned := false }
      if 2 ^ 48 - 2 < r.toNat ∨ 16777215 < n then s.modJob j.jobId fun _ => j'.fail r
      else match s.shardFor j.index j.shard with
      | none => s.endJob j stInvalidField
      | some x =>
        let cs := chunksOf n j.chunk j.overlap
        let hit := fun (c : Nat × Nat) => j.bad.any fun d => decide (o + 16 + 4 * c.1 < d.1 + d.2) && decide (d.1 < o + 16 + 4 * (c.1 + c.2))
        let j' := if 65536 < ceilDiv n (max 1 (j.chunk - j.overlap)) then j'.fail r else j'
        let good := cs.zipIdx.filter fun c => !hit c.1 && !j.poisoned
        let vecs := good.map fun c => (BitVec.ofNat 64 (r.toNat * 65536 + c.2), (upTo x.vecLen).map fun i => Config.freeByte s.draws (c.2 * x.vecLen + i))
        let vecs := vecs.filter fun v => !(decide (x.metric = 2) && x.zeroNorm v.2)
        let room := (placeVecs x (s.freeSlots x vecs.length) vecs).length
        let s := if room = 0 then s else s.drawn.insertVecs x none (vecs.take room)
        let j' := { j' with inserted := j'.inserted + room, notInserted := j'.notInserted + (cs.length - vecs.length) }
        let s := s.modJob j.jobId fun _ => j'
        if room < vecs.length then s.endJob j' stCapacity else s

/-- Search work at a tick: publication, filters, queries, jobs. -/
def State.searchTick (s : State) : State :=
  let s := (s.publishTick).filterTick
  let s := s.queryTick
  s.search.jobs.foldl State.jobTick s

/-- What of the search structures has come to its end. -/
def State.settleSearch (s : State) : State := ((((s.settleInserts).settleDeletes).settleShards).settleFilters)

end Sys2Proof.Machine
end

