-- ==== Sys2Proof/Machine/Hosts.lean ====
section
/-! DEFINITION. I/O commands: their order, the NVM command set, queue resets, namespaces (15 R347 to R359; 14 R342; 17 R404; 19 R452, R453). -/

namespace Sys2Proof.Machine

/-- Holds I/O back: a Spar reset (01 R18), Hold from its step 2 on (20 R465), a module that does not run. -/
def State.ioBlocked (s : State) : Bool := s.sparReset || s.holding || decide (s.phase ≠ .up)

def HostCtrl.hasQueue (c : HostCtrl) (sq : W16) : Bool := c.queues.any fun q => decide (q.sq = sq)
def State.ctrlFor (s : State) (n : W16) : Option HostCtrl := s.host.ctrls.find? fun c => decide (c.cntlid = n)
def State.modHostCtrl (s : State) (n : W16) (f : HostCtrl → HostCtrl) : State :=
  { s with host := { s.host with ctrls := s.host.ctrls.map fun c => if c.cntlid = n then f c else c } }

/-- Is the I/O queue of a command connected, and its controller enabled (R343)? -/
def State.queueUp (s : State) (id : CmdId) : Bool :=
  decide (id.sq ≠ 0) && match s.ctrlFor id.ctrl with | none => false | some c => c.ready && c.hasQueue id.sq

/-- Does the tenant stand in the image, and does nothing reserved hold (R352, R357)? A Cianber command's answer before its own work. `len` is the length of its parameter block: blocks and result buffers hold at most 64 MiB (R343). -/
def State.cianberRefusal (s : State) (h : IoHdr) (search : Bool) (len : Nat) : Option Status :=
  if s.safe then some stInterrupted
  else match s.loft.image with
  | none => some stNotLoaded
  | some i =>
    if search && decide (i.qryStage = 0) then some stNotLoaded
    else if s.outside then some stSequence
    else if h.cdw3.toNat / 2 ≠ 0 then some stInvalidField
    else if !h.sglOk then some stSgl
    else if h.nsid ≠ 0 ∨ !s.hasTenant h.tenant.toNat ∨ 67108864 < len ∨ 67108864 < h.resLen then some stInvalidField
    else none

/-! Namespaces -/

/-- The answer that a namespace command gets before its own work (03 R56, R74; 14 R337; 18 R432). -/
def State.nvmRefusal (s : State) (h : IoHdr) (write : Bool) : Option Status :=
  if s.safe && write then some stInterrupted
  else if s.bare then some stNotLoaded
  else if h.cdw3.toNat / 2 ≠ 0 then some stInvalidField
  else if !h.sglOk then some stSgl
  else match s.nsFor h.nsid.toNat with
  | none => some stInvalidField
  | some n => match s.nsMode n with
    | none => some stNsNotReady
    | some ro => if write && ro then some stReadOnly else if write && s.mediaReadOnly then some stWriteProtected else none

/-- The unit of a namespace that a slot holds. -/
def Namespace.unitOf (n : Namespace) (l : Nat) : Nat := 16 * n.groups.idxOf (l / 16) + l % 16

/-- The latest bytes of a unit, writes under way included. -/
def State.latestBytes (s : State) (l : Nat) : Bytes :=
  match s.latestUnit l with
  | none => List.replicate 65536 0
  | some c => if c.lost then List.replicate 65536 0 else Sparse.getRun 0 c.data 0 65536

/-- The new form of a unit whose bytes `[lo, hi)` are written, or deallocated where `d` is none (R350, R353; 14 R313). -/
def State.newUnit (s : State) (l lo hi : Nat) (d : Option Bytes) : Option Container :=
  match d with
  | some b => some (packUnit 0 0 ((s.latestBytes l).take lo ++ b ++ (s.latestBytes l).drop hi))
  | none =>
    if lo = 0 ∧ hi = 65536 then none
    else match s.latestUnit l with
    | none => none
    | some _ => some (packUnit 0 0 ((s.latestBytes l).take lo ++ List.replicate (hi - lo) 0 ++ (s.latestBytes l).drop hi))

/-- Does the range touch unit `u`, and which bytes of it? -/
def unitSpan (u ofs len : Nat) : Option (Nat × Nat) :=
  let lo := max ofs (u * 65536)
  let hi := min (ofs + len) (u * 65536 + 65536)
  if lo < hi then some (lo - u * 65536, hi - u * 65536) else none

/-- Unit `u` as a change of the range leaves it; the second value says that it changes. -/
def State.changedUnit (s : State) (n : Namespace) (u ofs len : Nat) (d : Option Bytes) : Option Container × Bool :=
  match unitSpan u ofs len with
  | none => (s.latestUnit (n.slot u), false)
  | some (lo, hi) =>
    let new := s.newUnit (n.slot u) lo hi (d.map fun b => slice b (u * 65536 + lo - ofs) (hi - lo))
    (new, new.isSome || (s.latestUnit (n.slot u)).isSome)

/-- The stripes that a change writes in the aligned 256 KiB range `i` (R353). -/
def State.changeStripes (s : State) (n : Namespace) (i ofs len : Nat) (d : Option Bytes) : List (Nat × (Option Container × Option Container)) :=
  [2 * i, 2 * i + 1].filterMap fun j =>
    let a := s.changedUnit n (2 * j) ofs len d
    let b := s.changedUnit n (2 * j + 1) ofs len d
    if a.2 || b.2 then some (n.slot (2 * j) / 2, (a.1, b.1)) else none

/-- A change of a namespace's range begins: one atomic part for each aligned 256 KiB (R353, 14 R324). False where no block is free. -/
def State.changeRange (s : State) (id : CmdId) (n : Namespace) (ofs len : Nat) (d : Option Bytes) : Bool × State :=
  if len = 0 then (true, s) else
  ((upTo ((ofs + len - 1) / 262144 + 1 - ofs / 262144)).map (ofs / 262144 + ·)).foldl (fun (r : Bool × State) i =>
    if r.1 then
      match r.2.changeStripes n i ofs len d with
      | [] => r
      | l => r.2.writePart 0 (decide (1 < l.length)) (.host id) l
    else r) (true, s)

/-- Does a change meet a LOST unit that it would only write in part? -/
def State.meetsLost (s : State) (n : Namespace) (ofs len : Nat) : Bool :=
  decide (len ≠ 0) && (upTo ((ofs + len - 1) / 65536 + 1 - ofs / 65536)).any fun k =>
    let u := ofs / 65536 + k
    match unitSpan u ofs len, s.latestUnit (n.slot u) with
    | some (lo, hi), some c => c.lost && !(decide (lo = 0) && decide (hi = 65536))
    | _, _ => false

/-- A Write, Write Zeroes or deallocation of a list of byte ranges starts (R350, R353; 09 R227). -/
def State.hostChange (s : State) (h : IoHdr) (n : Namespace) (l : List (Nat × Nat)) (d : Option Bytes) : State :=
  if l.any fun x => s.meetsLost n x.1 x.2 then (s.biteCmd 3 h.id).complete h.id stPoisoned
  else
    let s := s.modHealth fun x => { x with hostWrites := x.hostWrites + 1, bytesWritten := x.bytesWritten + (match d with | some b => b.length | none => 0) }
    let r := l.foldl (fun (r : Bool × State) x => if r.1 then r.2.changeRange h.id n x.1 x.2 d else r) (true, s)
    if r.1 then r.2 else r.2.complete h.id stCapacity

/-- Bytes of a block range, within the namespace. -/
def Namespace.range (n : Namespace) (slba blocks : Nat) : Option (Nat × Nat) :=
  if slba + blocks ≤ n.nsze then some (slba * n.blockLen, blocks * n.blockLen) else none

/-- Write (R350, R353). -/
def nvmWrite (h : IoHdr) (slba : W64) (nlb : W16) (data : Bytes) (s : State) : State :=
  match s.nvmRefusal h true, s.nsFor h.nsid.toNat with
  | some t, _ => s.complete h.id t
  | none, none => s.complete h.id stInvalidField
  | none, some n => match n.range slba.toNat (nlb.toNat + 1) with
    | none => s.complete h.id stInvalidField
    | some (o, len) => if 1048576 < len then s.complete h.id stInvalidField else s.hostChange h n [(o, len)] (some (slice data 0 len))

/-- Write Zeroes (R350): whole units are deallocated, partial ones written with zero. -/
def nvmWriteZeroes (h : IoHdr) (slba : W64) (nlb : W16) (s : State) : State :=
  match s.nvmRefusal h true, s.nsFor h.nsid.toNat with
  | some t, _ => s.complete h.id t
  | none, none => s.complete h.id stInvalidField
  | none, some n => match n.range slba.toNat (nlb.toNat + 1) with
    | none => s.complete h.id stInvalidField
    | some x => s.hostChange h n [x] none

/-- Dataset Management (R350): Deallocate, attribute bit 2, is honoured; the others are ignored. -/
def nvmDsm (h : IoHdr) (attrs : W32) (ranges : List (W64 × W32)) (s : State) : State :=
  match s.nvmRefusal h true, s.nsFor h.nsid.toNat with
  | some t, _ => s.complete h.id t
  | none, none => s.complete h.id stInvalidField
  | none, some n =>
    if !bit attrs 2 then s.complete h.id stOk
    else if ranges.any fun r => (n.range r.1.toNat r.2.toNat).isNone then s.complete h.id stInvalidField
    else s.hostChange h n (ranges.filterMap fun r => n.range r.1.toNat r.2.toNat) none

/-- Flush (R350): what completed earlier is durable already. -/
def nvmFlush (h : IoHdr) (s : State) : State :=
  match s.nvmRefusal h false with
  | some t => s.complete h.id t
  | none => s.complete h.id stOk

/-- Must a unit be read from flash: its record's wordlines are verified (14 R324)? -/
def State.onFlash (s : State) (l : Nat) : Bool :=
  match s.recordAt (l / 2) (s.mapAt (l / 2)) with
  | none => false
  | some r => s.slotMapped l && !s.slotLost l && (wlsOf r.die r.block r.cw r.ncw).all fun w => s.media.verified.contains w || decide ((s.blkAt w.die w.block).state = .closed)

/-- A read's units are in hand (R350; 09 R227). -/
def State.finishRead (s : State) (r : HostRead) : State :=
  let s : State := { s with media := { s.media with reads := s.media.reads.filter fun x => !decide (x.id = r.id) } }
  match s.nsFor r.nsid with
  | none => s.complete r.id stInvalidField
  | some n =>
    let o := r.slba * n.blockLen
    let len := r.nlb * n.blockLen
    if r.bad || s.nsLost n o len then (s.biteCmd 1 r.id).complete r.id stUnrecovered
    else (s.modHealth fun x => { x with hostReads := x.hostReads + 1, bytesRead := x.bytesRead + len }).complete r.id stOk 0 0 (s.nsBytes n o len)

/-- Read (R350). -/
def nvmRead (h : IoHdr) (slba : W64) (nlb : W16) (s : State) : State :=
  match s.nvmRefusal h false, s.nsFor h.nsid.toNat with
  | some t, _ => s.complete h.id t
  | none, none => s.complete h.id stInvalidField
  | none, some n => match n.range slba.toNat (nlb.toNat + 1) with
    | none => s.complete h.id stInvalidField
    | some (o, len) =>
      if 1048576 < len then s.complete h.id stInvalidField
      else
        let slots := ((upTo ((o + len - 1) / 65536 + 1 - o / 65536)).map fun k => n.slot (o / 65536 + k)).filter s.onFlash
        let r : HostRead := { id := h.id, nsid := n.nsid, slba := slba.toNat, nlb := nlb.toNat + 1, slots := slots }
        if slots.isEmpty || s.nsLost n o len then s.finishRead r
        else { s with media := { s.media with reads := s.media.reads ++ [r] } }

/-- A unit has been read (13 R310). `bad`: uncorrectable, with no mirror. -/
def State.slotRead (s : State) (l : Nat) (bad : Bool) : State :=
  let s : State := { s with media := { s.media with reads := s.media.reads.map fun r => if r.slots.contains l then { r with slots := r.slots.filter fun x => decide (x ≠ l), bad := r.bad || bad } else r } }
  (s.media.reads.filter fun r => r.slots.isEmpty).foldl State.finishRead s

/-! Starting commands -/

/-- The effect of an I/O command starts (R352, R357). -/
def startIo (i : Instr) (s : State) : State :=
  let cianber (h : IoHdr) (search : Bool) (b : Bytes) (f : CmdId → Nat → State → State) : State :=
    match s.cianberRefusal h search b.length with
    | some t => s.complete h.id t
    | none => f h.id h.tenant.toNat s
  match i with
  | .flush h => nvmFlush h s
  | .write h a n d => nvmWrite h a n d s
  | .read h a n => nvmRead h a n s
  | .writeZeroes h a n => nvmWriteZeroes h a n s
  | .datasetManagement h a r => nvmDsm h a r s
  | .modelLoadBegin h b => cianber h false b fun id t => loadBegin id t b
  | .modelLoadData h b => cianber h false b fun id t => loadData id t b
  | .modelLoadCommit h b => cianber h false b fun id t => loadCommit id t b
  | .modelLoadAddScale h b => cianber h false b fun id t => loadAddScale id t b
  | .modelLoadAbandon h b => cianber h false b fun id t => loadAbandon id t b
  | .modelUnload h b => cianber h false b fun id t => modelUnload id t b
  | .listModels h b => cianber h false b fun id t => listModels id t b
  | .openContext h b => cianber h false b fun id t => openContext id t b
  | .closeContext h b => cianber h false b fun id t => closeContext id t b
  | .getContext h b => cianber h false b fun id t => getContext id t b
  | .tokenBatch h b p => cianber h false b fun id t => tokenBatch id t b p
  | .refitExpert h b => cianber h false b fun id t => refitExpert id t b
  | .embeddingJob h b n => cianber h false b fun id t => embeddingJob id t b n
  | .createIndex h b => cianber h true b fun id t => createIndex id t b
  | .destroyIndex h b => cianber h true b fun id t => destroyIndex id t b
  | .insert h b => cianber h true b fun id t => insertCmd id t b
  | .delete h b => cianber h true b fun id t => deleteCmd id t b
  | .query h b p => cianber h true b fun id t => queryCmd id t b p
  | .filterCreate h b => cianber h true b fun id t => setFilter id t b
  | .filterAddIds h b => cianber h true b fun id t => setFilter id t b
  | .filterRemoveIds h b => cianber h true b fun id t => setFilter id t b
  | .filterFillAll h b => cianber h true b fun id t => setFilter id t b
  | .filterCombine h b => cianber h true b fun id t => setFilter id t b
  | .filterDestroy h b => cianber h true b fun id t => setFilter id t b
  | _ => s

/-- The first waiting I/O command that may start as ORDERED goes (R352). `before` are the commands submitted earlier. -/
def nextIo (before : List OpenCmd) : List OpenCmd → Option OpenCmd
  | [] => none
  | o :: r =>
    let same := before.filter fun p => decide (p.id.ctrl = o.id.ctrl) && decide (p.id.sq = o.id.sq)
    if o.held.isSome && decide (o.id.sq ≠ 0) && same.all (fun p => !p.ordered) && (!o.ordered || same.isEmpty) then some o else nextIo (before ++ [o]) r

/-- One waiting command starts, if one may. -/
def State.startNext (s : State) : State :=
  if s.ioBlocked then s else
  match nextIo [] s.host.open_ with
  | none => s
  | some o => match o.held with
    | none => s
    | some i => startIo i { s with host := { s.host with open_ := s.host.open_.map fun p => if p.id = o.id then { p with held := none } else p } }

def State.startAll : Nat → State → State
  | 0, s => s
  | n + 1, s => startAll n s.startNext

/-- Every waiting command that may start does. -/
def State.runIo (s : State) : State := s.startAll (s.host.open_.filter fun o => o.held.isSome).length

/-! What has ended -/

/-- Lost Data entries whose unit has been written or deallocated go (14 R342). -/
def State.trimLost (s : State) : State :=
  { s with media := { s.media with lost := s.media.lost.filter fun e => match s.nsFor e.nsid with | none => false | some n => s.slotLost (n.slot (e.slba * n.blockLen / 65536)) } }

/-- A part of a host write is durable here: it goes to the mirrors (17 R404). -/
def State.mirrorPart (s : State) (p : WritePart) : State :=
  match p.for_ with
  | .host id =>
    let st := (s.media.records.filter fun r => decide (p.first ≤ r.seq) && decide (r.seq < p.first + p.count)).map fun r => r.stripe
    (match s.media.namespaces.find? fun (n : Namespace) => st.any fun t => n.groups.contains (t / 8) with
    | none => s
    | some n =>
      let u := (st.map fun t => n.unitOf (2 * t)).foldl min (n.unitOf (2 * st.headD 0))
      let data := (upTo (2 * st.length)).foldl (fun (b : Bytes) k => b ++ s.readSlot (n.slot (u + k))) []
      n.mirrors.foldl (fun (s : State) r => s.sendCopy 2 2 n.tenant n.key 0 0 r (.mirrorWrite p.first) (some id) [{ ofs := u * 65536, data := data, marks := [] }]) s).trimLost
  | _ => s

/-- Has a started namespace command nothing left to wait for? -/
def State.nvmDone (s : State) (o : OpenCmd) : Bool :=
  o.held.isNone && decide (o.nsid ≠ 0) && !s.copying o.id && !(s.media.reads.any fun r => decide (r.id = o.id)) && !(s.media.parts.any fun p => decide (p.for_ = .host o.id))

/-- Host writes whose parts, and the copies of them, are durable complete (14 R324, 17 R404). -/
def State.settleHost (s : State) (ended : List WritePart) : State :=
  let s := ended.foldl State.mirrorPart s
  (s.host.open_.filter s.nvmDone).foldl (fun (s : State) o => s.complete o.id stOk) s

/-- Is a namespace in use by an I/O command? -/
def State.nsBusy (s : State) (nsid : Nat) : Bool := s.host.open_.any fun o => decide (o.nsid = nsid) && decide (o.nsid ≠ 0)

/-- A namespace with its slots, its mirrors and its entries goes (R348). -/
def State.dropNs (s : State) (n : Namespace) : State :=
  let s := (n.groups.foldl State.clearGroupMap s).freeGroupList n.groups
  let s : State := { s with
    media := { s.media with namespaces := s.media.namespaces.filter fun x => !decide (x.nsid = n.nsid), lost := s.media.lost.filter fun e => !decide (e.nsid = n.nsid) }
    sec := { s.sec with keys := s.sec.keys.filter fun k => !decide (k.nsid = n.nsid) } }
  if n.shadows = 0 then s else
    let p := s.newPlace 2 n.key 0 0 0
    (s.report [{ p with home := 0xFFFF, serving := 0 }]).dropPlace p

/-- Namespaces whose creation, Format or deletion has come to its end (R348, R349; 17 R404; 19 R453). -/
def State.settleNamespaces (s : State) : State :=
  s.media.namespaces.foldl (fun (s : State) n =>
    if !s.durable n.commit then s else
    match n.creating, n.formatting, n.deleting with
    | some id, _, _ => if n.shadows ≤ n.mirrors.length then (s.modNs n.nsid fun n => { n with creating := none }).complete id stOk (BitVec.ofNat 32 n.nsid) else s
    | none, some (id, lbaf), _ =>
      if s.copying id then s else
        let s := (n.groups.foldl State.clearGroupMap s).modNs n.nsid fun n => { n with lbaf := lbaf, nsze := n.bytes / (if lbaf = 1 then 65536 else 4096), formatting := none }
        if s.media.namespaces.any (fun m => decide (m.formatting.map (·.1) = some id)) then s.trimLost else s.trimLost.complete id stOk
    | none, none, some id => if s.nsBusy n.nsid then s else (s.dropNs n).complete id stOk
    | none, none, none => s) s

/-- What the end of some work brings about: parts of writes, moves, loads, refits, search structures, host commands, namespaces; then the commands that waited and the programs that may start. While a Spar reset keeps the map out of reach, the programs alone go on (01 R18, R29). -/
def State.settle (s : State) : State :=
  if s.sparReset then s.kick else
  let r := s.settleMedia
  let s := ((r.2.reelParts r.1).settleLoads.settleRefits.settleHeld).settleSearch
  ((s.settleHost r.1).settleNamespaces.runIo.settleHost []).kick

/-! Queue resets (R354, R355) -/

def renId (a b x : CmdId) : CmdId := if x = a then b else x
def renOpt (a b : CmdId) (x : Option CmdId) : Option CmdId := x.map (renId a b)

/-- A command whose queue is gone goes on under a name of the model's own (R355). -/
def State.rename (a b : CmdId) (s : State) : State :=
  { s with
    loft := { s.loft with
      checking := s.loft.checking.map fun c => { c with id := renId a b c.id }
      pending := s.loft.pending.map fun p => { p with id := renOpt a b p.id } }
    sched := { s.sched with
      entries := s.sched.entries.map fun (e : PassEntry) => { e with src := { e.src with request := renOpt a b e.src.request } }
      requests := s.sched.requests.map fun (r : Request) => { r with id := renId a b r.id } }
    reel := { s.reel with remote := s.reel.remote.map fun (r : RemoteRead) => { r with id := renOpt a b r.id } }
    library := { s.library with
      models := s.library.models.map fun (m : Model) => { m with waiter := renOpt a b m.waiter }
      contexts := s.library.contexts.map fun (e : Nat × Context) => (e.1, { e.2 with opening := renOpt a b e.2.opening, closer := renOpt a b e.2.closer, batches := e.2.batches.map fun (x : Batch) => { x with id := renId a b x.id } })
      refits := s.library.refits.map fun (j : Refit) => { j with id := renId a b j.id }
      waits := s.library.waits.map fun (w : ObjWait) => { w with id := renId a b w.id } }
    search := { s.search with
      shards := s.search.shards.map fun (x : Shard) => { x with waiter := renOpt a b x.waiter }
      filters := s.search.filters.map fun (f : Filter) => { f with dying := renOpt a b f.dying }
      changes := s.search.changes.map fun (f : FilterChange) => { f with id := renId a b f.id }
      inserts := s.search.inserts.map fun (j : InsertJob) => { j with id := renOpt a b j.id }
      deletes := s.search.deletes.map fun (j : DeleteJob) => { j with id := renId a b j.id }
      jobs := s.search.jobs.map fun (j : EmbedJob) => { j with id := renId a b j.id } }
    media := { s.media with
      parts := s.media.parts.map fun (p : WritePart) => { p with for_ := match p.for_ with | .host id => .host (renId a b id) | w => w }
      namespaces := s.media.namespaces.map fun (n : Namespace) => { n with creating := renOpt a b n.creating, deleting := renOpt a b n.deleting, formatting := n.formatting.map fun x => (renId a b x.1, x.2) } }
    group := { s.group with copies := s.group.copies.map fun (c : CopyOut) => { c with id := renOpt a b c.id } } }

/-- The next name for a command without a queue. -/
def State.orphanId (s : State) : CmdId := { ctrl := 0xFFFF, sq := BitVec.ofNat 16 (s.host.orphans / 65536), cid := BitVec.ofNat 16 s.host.orphans }

/-- Parts of a lost command whose commit is not written, and on which no later part builds, take no effect (R353, R355). -/
def State.dropParts (s : State) (id : CmdId) : State :=
  { s with media := { s.media with parts := s.media.parts.filter fun p =>
      !(decide (p.for_ = .host id) && p.commit.isNone && !(s.media.parts.any fun q => decide (p.first < q.first) && (s.partRecords q).any fun r => (s.partRecords p).any fun x => decide (x.stripe = r.stripe))) } }

/-- A batch whose queue is gone: it stops at the next token boundary, at once where none of its passes is in the dispatcher's hands. -/
def State.stopBatch (s : State) (id : CmdId) : State :=
  s.library.contexts.foldl (fun (s : State) (e : Nat × Context) =>
    match e.2.batches.find? fun b => decide (b.id = id) with
    | none => s
    | some b =>
      if b.started && !b.held && !(s.ctxPasses (s.handleOf e.1)).isEmpty then
        s.modCtx e.1 fun c => { c with batches := c.batches.map fun x => if x.id = id then { x with stop := true } else x }
      else (s.finishBatch e.1 b stSqDeleted).startBatch e.1) s

/-- Batches that stop and have no pass left go (R355). -/
def State.stopTick (s : State) : State :=
  s.library.contexts.foldl (fun (s : State) (e : Nat × Context) =>
    e.2.batches.foldl (fun (s : State) b => if b.stop && (s.ctxPasses (s.handleOf e.1)).isEmpty then (s.finishBatch e.1 b stSqDeleted).startBatch e.1 else s) s) s

/-- A query whose queue is gone ends with no effect. -/
def State.dropQuery (s : State) (id : CmdId) : State :=
  match s.search.queries.find? fun q => decide (q.id = id) with
  | none => s
  | some q => ((s.freeObj q.buf).closeRequest id).modSearch fun h => { h with queries := h.queries.filter fun x => !decide (x.id = id) }

/-- One command of a lost queue is settled (R355). `post`: a completion can still be posted. -/
def State.loseCmd (s : State) (post : Bool) (o : OpenCmd) : State :=
  let s := if post then s.complete o.id stSqDeleted else s.leave o.id
  if o.held.isSome then s else
    let s : State := { s with media := { s.media with reads := s.media.reads.filter fun r => !decide (r.id = o.id) } }
    let s := ((s.dropParts o.id).dropQuery o.id).stopBatch o.id
    let s := s.modSearch fun h => { h with jobs := h.jobs.map fun (j : EmbedJob) => if j.id = o.id ∧ j.state = 1 then { j with stopped := true } else j }
    let n := s.orphanId
    ({ s with host := { s.host with orphans := s.host.orphans + 1 } }).rename o.id n

/-- A queue reset of the queues that `p` picks. -/
def State.queueReset (s : State) (p : CmdId → Bool) (post : Bool) : State :=
  ((s.host.open_.filter fun o => p o.id).foldl (State.loseCmd · post ·) s).settle

def State.closeQp (s : State) (ctrl sq : W16) : State :=
  { s with tether := { s.tether with qps := s.tether.qps.filter fun q => !decide (q.ctrl = some (ctrl, sq)) } }

/-- One I/O queue goes (R354): by Disconnect, or with its connection. -/
def State.loseQueue (s : State) (ctrl sq : W16) (post : Bool) : State :=
  let s := s.queueReset (fun id => decide (id.ctrl = ctrl) && decide (id.sq = sq)) post
  (s.modHostCtrl ctrl fun c => { c with queues := c.queues.filter fun q => !decide (q.sq = sq) }).closeQp ctrl sq

/-- A controller reset (R354): every I/O queue goes, and what the admin queue waits for. -/
def State.resetController (s : State) (ctrl : W16) : State :=
  let s := s.queueReset (fun id => decide (id.ctrl = ctrl)) false
  let s := s.modHostCtrl ctrl fun c => { c with ready := false, queues := c.queues.filter fun q => decide (q.sq = 0), aers := [], events := [] }
  { s with tether := { s.tether with qps := s.tether.qps.filter fun q => match q.ctrl with | none => true | some (n, k) => decide (n ≠ ctrl) || decide (k = 0) } }

/-- An association ends (R354): Keep Alive Timeout, Disconnect of the admin queue, its port or its admin connection lost. -/
def State.dropController (s : State) (ctrl : W16) : State :=
  let s := s.resetController ctrl
  { s with
    host := { s.host with ctrls := s.host.ctrls.filter fun c => !decide (c.cntlid = ctrl) }
    tether := { s.tether with qps := s.tether.qps.filter fun q => match q.ctrl with | none => true | some (n, _) => decide (n ≠ ctrl) } }

/-- A port is lost: its host connections with it (16 R388). -/
def State.portLost (s : State) (p : Nat) : State :=
  (s.host.ctrls.filter fun c => decide (c.port = p)).foldl (fun (s : State) c => s.dropController c.cntlid) (s.linkDown p)

end Sys2Proof.Machine
end

