-- ==== Sys2Proof/Machine/Admin.lean ====
section
/-! DEFINITION. Associations and admin commands: Connect, properties, Identify, logs, features, asynchronous events, namespaces (15 R343 to R349, R356, R366, R367; 14 R340 to R342; 20 R470, R471). -/

namespace Sys2Proof.Machine

/-! Temperature and health (14 R337, R338, R340; 20 R459, R470, R471) -/

/-- Soft, hard and critical threshold of a sensor in °C (20 R470). -/
def sensorSoft : Nat → Option Nat
  | 0 => some 100
  | 1 => some 95
  | _ => none
def sensorHard : Nat → Option Nat
  | 0 => some 110
  | 1 => some 100
  | _ => none
def sensorCritical : Nat → Nat
  | 0 => 118
  | 1 => 105
  | 2 => 110
  | 3 => 110
  | 4 => 90
  | 5 => 50
  | 6 => 70
  | _ => 125

/-- Latest reading of a sensor in units of 0.125 °C, and in kelvin (20 R471). -/
def State.reading (s : State) (k : Nat) : Int := (s.power.tempNow.getD k 0).toInt
def State.kelvin (s : State) (k : Nat) : Nat := (s.reading k / 8 + 273).toNat

/-- Is any sensor at its hard or critical threshold? -/
def State.sensorHot (s : State) : Bool :=
  (upTo 8).any fun k => decide (8 * (sensorCritical k : Int) ≤ s.reading k) || match sensorHard k with | none => false | some h => decide (8 * (h : Int) ≤ s.reading k)

/-- Critical Warning as a controller with the given threshold reports it (14 R337, R338, R340; 20 R459, R471). -/
def State.warning (s : State) (threshold : Nat) : Byte :=
  BitVec.ofNat 8 (b2n (decide (s.sparePct < 10)) + 2 * b2n (decide (threshold ≤ s.kelvin 3) || s.sensorHot) +
    4 * b2n (s.anyLost || s.media.health.segmentLost) + 8 * b2n s.mediaReadOnly + 16 * b2n s.power.holdupBad)

/-- One event for one controller. -/
def State.eventTo (s : State) (ctrl : W16) (e mask : W32) : State :=
  match s.ctrlFor ctrl with
  | none => s
  | some c =>
    let r := c.takeEvent e mask
    r.2.foldl (fun (s : State) id => s.answer id stOk e) (s.modHostCtrl ctrl fun _ => r.1)

/-- New bits of Critical Warning raise their events (15 R346). -/
def State.warnEvents (s : State) : State :=
  s.host.ctrls.foldl (fun (s : State) c =>
    let w := s.warning c.tempThreshold.toNat
    let new := w &&& ~~~ c.warned
    let s := s.modHostCtrl c.cntlid fun c => { c with warned := w }
    let s := if new &&& 0x1D = 0 then s else s.eventTo c.cntlid evSmart ((new &&& 0x1D).setWidth 32)
    if bit new 1 then s.eventTo c.cntlid evTemperature 2 else s) s

/-- Percentage Used (14 R340). -/
def State.wearPct (s : State) : Nat :=
  let dies := ((s.media.blocks.map fun (e : Nat × Blk) => e.1 / 2752)).eraseDups.filter fun d => !s.dieFailed d
  min 255 ((dies.map fun d =>
    let l := s.media.blocks.filter fun (e : Nat × Blk) => decide (e.1 / 2752 = d) && (!isJournalDie d || decide (128 ≤ e.1 % 2752))
    let good := (if isJournalDie d then 2624 else 2752) - (l.filter fun e => decide (e.2.state = .retired)).length
    100 * sumBy (fun (e : Nat × Blk) => if e.2.state = .retired then 0 else e.2.erases) l / (good * s.peTlc d)).foldl max 0)

/-- Bytes `o` onward of a page replaced. -/
def patch (page : Bytes) (o : Nat) (b : Bytes) : Bytes := page.take o ++ b ++ page.drop (o + b.length)
def patches (page : Bytes) (l : List (Nat × Bytes)) : Bytes := l.foldl (fun b x => patch b x.1 x.2) page

/-! Log pages -/

/-- Error Information, newest first (15 R346; log 10). -/
def State.logErrors (s : State) : Bytes :=
  slice (s.host.errors.foldl (fun b (e : ErrEntry) => b ++ toLe e.count 8 ++ toLe e.id.sq.toNat 2 ++ toLe e.id.cid.toNat 2 ++ toLe (2 * e.status.toNat) 2 ++ List.replicate 50 0) []) 0 4096

/-- SMART / Health Information (14 R340; 20 R471). -/
def State.logSmart (s : State) (threshold : Nat) : Bytes :=
  let h := s.media.health
  let u := fun n => ceilDiv (n / 512) 1000
  patches ((upTo 512).map fun i => if 192 ≤ i then 0 else Config.identifyByte 2 i)
    [(0, toLe (s.warning threshold).toNat 1 ++ toLe (s.kelvin 3) 2 ++ toLe s.sparePct 1 ++ toLe 10 1 ++ toLe s.wearPct 1), (32, toLe (u h.bytesRead) 16 ++ toLe (u h.bytesWritten) 16 ++ toLe h.hostReads 16 ++ toLe h.hostWrites 16),
     (112, toLe h.powerCycles 16 ++ toLe s.gondola.poh.toNat 16 ++ toLe h.unsafe_ 16 ++ toLe h.mediaErrors 16 ++ toLe s.host.errCount 16), (200, (upTo 8).foldl (fun b k => b ++ toLe (s.kelvin k) 2) [])]

/-- Firmware Slot Information (19 R443, R444; log 10). -/
def State.logFirmware (s : State) : Bytes :=
  slice (toLe (s.sec.running.toNat + 16 * s.sec.nextSlot.toNat) 1 ++ List.replicate 7 0 ++ s.sec.slots.foldl (fun b x => b ++ match x with | none => List.replicate 8 0 | some i => slice i 4 8) []) 0 512

/-- Media Health (14 R341). -/
def State.logMedia (s : State) : Bytes :=
  let h := s.media.health
  toLe s.spareLow 8 ++ toLe s.sparePct 1 ++ toLe s.wearPct 1 ++ toLe (s.media.dies.filter fun (e : Nat × Die) => e.2.failed).length 2 ++ List.replicate 4 0 ++
  toLe h.corrected 8 ++ toLe h.uncorrected 8 ++ toLe h.eraseUnc 8 ++ toLe h.retProgram 8 ++ toLe h.retErase 8 ++ toLe h.retRefresh 8 ++ toLe s.lostUnits 8 ++ toLe h.rebuildMs 4 ++ toLe h.parityRepairs 4 ++
  (upTo 8).foldl (fun b n => b ++ toLe (s.spare n) 4) [] ++ List.replicate 144 0 ++ (upTo 64).foldl (fun b i => b ++ toLe (Sparse.get (0 : W32) h.tempHist i).toNat 4) []

/-- Lost Data (14 R342). -/
def State.logLost (s : State) : Bytes :=
  s.media.lost.foldl (fun b (e : Lost) => b ++ toLe e.nsid 4 ++ List.replicate 4 0 ++ toLe e.slba 8 ++ toLe e.nlb 8 ++ toLe e.frame.toNat 8) []

/-- Telemetry (15 R366). -/
def State.logTelemetry (s : State) : Bytes :=
  s.host.telemetry.foldl (fun b (e : TelEntry) => b ++ toLe e.seq 8 ++ toLe e.frame.toNat 8 ++ toLe e.block.toNat 2 ++ toLe e.event.toNat 2 ++ toLe e.unit.toNat 4 ++ toLe e.detail.toNat 8) []

/-- Embedding Job (15 R367). -/
def State.logJob (s : State) (lsi : W16) : Bytes :=
  match s.search.jobs.find? fun j => decide (j.jobId = lsi) with
  | none => toLe lsi.toNat 2 ++ List.replicate 62 0
  | some j => toLe j.jobId.toNat 2 ++ toLe j.state 1 ++ [0] ++ toLe j.failedCount 4 ++ toLe j.records 8 ++ toLe j.inserted 8 ++ toLe j.notInserted 8 ++ toLe j.lastRecord.toNat 8 ++ List.replicate 24 0 ++
      j.failed.foldl (fun b r => b ++ toLe r.toNat 8) []

/-- A log page by identifier (15 R346). -/
def State.logPage (s : State) (ctrl : W16) (lid : Byte) (lsi : W16) : Option Bytes :=
  let threshold := match s.ctrlFor ctrl with | none => 358 | some c => c.tempThreshold.toNat
  match lid.toNat with
  | 0x01 => some s.logErrors
  | 0x02 => some (s.logSmart threshold)
  | 0x03 => some s.logFirmware
  | 0x05 => some ((upTo 4096).map fun i => Config.identifyByte 5 i)
  | 0xC0 => some s.logMedia
  | 0xC1 => some s.logLost
  | 0xC2 => some s.logTelemetry
  | 0xC3 => some (s.logJob lsi)
  | _ => none

/-- Get Log Page (15 R346). -/
def getLogPage (id : CmdId) (lid : Byte) (lsi : W16) (ofs len : Nat) (s : State) : State :=
  match s.logPage id.ctrl lid lsi with
  | none => s.answer id stInvalidField
  | some p => if p.length < ofs then s.answer id stInvalidField else s.answer id stOk 0 (slice p ofs len)

/-! Identify (15 R345, R347; log 10) -/

/-- The subsystem's NQN (R343). -/
def State.nqn (s : State) : Bytes :=
  let hex := fun n => BitVec.ofNat 8 (if n < 10 then 48 + n else 87 + n)
  ("nqn.2030-01.com.cianber:u9:".toList.map fun c => BitVec.ofNat 8 c.toNat) ++ s.gondola.uid.foldl (fun b x => b ++ [hex (x.toNat / 16), hex (x.toNat % 16)]) []

/-- Identify Controller: the fields that the spec gives; the others are the standard's (R343, R345 to R347; 19 R443; 20 R471). -/
def State.identController (s : State) (ctrl : W16) : Bytes :=
  let g := s.gondola
  patches ((upTo 4096).map fun i => Config.identifyByte 1 i)
    [(77, [8]), (78, toLe ctrl.toNat 2), (80, toLe 0x00020000 4), (259, [7]), (262, [63]), (263, [4]), (319, [1]), (320, [1, 0]), (516, toLe 1024 4), (525, [0]), (768, slice s.nqn 0 256), (1792, toLe 516 4),
     (3072, g.uid ++ toLe g.fwSchemaMax 2 ++ toLe (if g.fwSchemaMax ≤ 1 then g.fwSchemaMax else g.fwSchemaMax - 1) 2 ++ toLe g.fwGroupLevel 2 ++ toLe (if s.inGroup then s.group.level else 0) 2 ++ toLe s.rankWord 2 ++ toLe s.roleByte 1 ++ List.replicate 37 0)]

/-- Identify Namespace (R347). -/
def State.identNamespace (n : Namespace) : Bytes :=
  let a := if n.lbaf = 1 then 3 else 63
  patches ((upTo 4096).map fun i => Config.identifyByte (16 + n.nsid) i)
    [(0, toLe n.nsze 8 ++ toLe n.nsze 8), (24, [6, 1] ++ toLe n.lbaf 1), (33, [1] ++ toLe a 2 ++ toLe a 2), (40, toLe a 2 ++ [0, 0] ++ toLe a 2 ++ toLe (if n.lbaf = 1 then 4 else 64) 2), (128, [0, 0, 12, 0, 0, 0, 16, 0])]

/-- Identify (R346): CNS 00h to 03h. -/
def identify (id : CmdId) (cns : Byte) (nsid : W32) (s : State) : State :=
  match cns.toNat with
  | 0 => match s.nsFor nsid.toNat with
    | none => s.answer id stInvalidField
    | some n => s.answer id stOk 0 (State.identNamespace n)
  | 1 => s.answer id stOk 0 (s.identController id.ctrl)
  | 2 =>
    let l := sortBy (fun a b => decide (a < b)) ((s.media.namespaces.map fun (n : Namespace) => n.nsid).filter fun n => decide (nsid.toNat < n))
    s.answer id stOk 0 (slice (l.foldl (fun b n => b ++ toLe n 4) []) 0 4096)
  | 3 => match s.nsFor nsid.toNat with
    | none => s.answer id stInvalidField
    | some n => s.answer id stOk 0 ((upTo 4096).map fun i => Config.identifyByte (0x10000 + n.nsid) i)
  | _ => s.answer id stInvalidField

/-! Features (R346; 03 R57; 20 R471) -/

/-- The power state with the largest power that does not exceed the cap (20 R471). -/
def State.powerState (s : State) : Nat :=
  let cap := match s.loft.image with | none => 1400 | some i => i.powerCapW
  if 1400 ≤ cap then 0 else if 1200 ≤ cap then 1 else if 1000 ≤ cap then 2 else if 800 ≤ cap then 3 else 4

/-- Get Features. -/
def getFeatures (id : CmdId) (fid : Byte) (s : State) : State :=
  match s.ctrlFor id.ctrl with
  | none => s
  | some c => match fid.toNat with
    | 0x01 => s.answer id stOk 0
    | 0x02 => s.answer id stOk (BitVec.ofNat 32 s.powerState)
    | 0x04 => s.answer id stOk (c.tempThreshold.setWidth 32)
    | 0x07 => s.answer id stOk c.numQueues
    | 0x0B => s.answer id stOk c.aec
    | 0x0F => s.answer id stOk (BitVec.ofNat 32 c.kato)
    | _ => s.answer id stInvalidField

/-- A Keep Alive Timeout in ms, in steps of 100 ms; none outside 1 s to 60 s (R343). -/
def katoOf (ms : Nat) : Option Nat := if 1000 ≤ ms ∧ ms ≤ 60000 then some (ceilDiv ms 100 * 100) else none

/-- Set Features. -/
def setFeatures (id : CmdId) (fid : Byte) (v : W32) (s : State) : State :=
  match fid.toNat with
  | 0x02 => s.answer id (if s.bare then stNotLoaded else stSequence)
  | 0x04 => if bits v 31 16 ≠ 0 then s.answer id stInvalidField else (s.modHostCtrl id.ctrl fun c => { c with tempThreshold := v.setWidth 16 }).answer id stOk
  | 0x07 =>
    if bits v 31 16 = 0xFFFF ∨ bits v 15 0 = 0xFFFF then s.answer id stInvalidField
    else
      let n := BitVec.ofNat 32 (min 255 (bits v 31 16) * 65536 + min 255 (bits v 15 0))
      (s.modHostCtrl id.ctrl fun c => { c with numQueues := n }).answer id stOk n
  | 0x0B => if v &&& 0x061F = v then (s.modHostCtrl id.ctrl fun c => { c with aec := v }).answer id stOk else s.answer id stInvalidField
  | 0x0F => match katoOf v.toNat with
    | none => s.answer id stInvalidField
    | some k => (s.modHostCtrl id.ctrl fun c => { c with kato := k }).answer id stOk
  | _ => s.answer id stInvalidField

/-- Asynchronous Event Request (R346): an event that waits ends it at once. -/
def asyncEvent (id : CmdId) (s : State) : State :=
  match s.ctrlFor id.ctrl with
  | none => s
  | some c =>
    if 8 ≤ c.aers.length then s.answer id stSequence
    else match c.events with
    | e :: r => (s.modHostCtrl id.ctrl fun c => { c with events := r }).answer id stOk e
    | [] => s.modHostCtrl id.ctrl fun c => { c with aers := c.aers ++ [id] }

/-- Abort (R356): never aborted. -/
def abortCmd (id : CmdId) (s : State) : State := s.answer id stOk 1

/-- Keep Alive (R346). -/
def keepAlive (id : CmdId) (s : State) : State := (s.modHostCtrl id.ctrl fun c => { c with lastKa := s.frame.time }).answer id stOk

/-- Keep Alive has not come in time (R354). -/
def keepAliveExpired (ctrl : W16) (s : State) : State :=
  match s.ctrlFor ctrl with
  | none => s
  | some c => if c.lastKa + c.kato * 1000000 ≤ s.frame.time then s.dropController ctrl else s

/-! Fabrics commands (R343) -/

/-- Room for one more queue pair of the module (R343). -/
def State.openHostQp (s : State) (port : Nat) (ctrl sq : W16) : State :=
  let q : QueuePair := { num := s.tether.nextQp, peer := none, ctrl := some (ctrl, sq), net := port / 4, port := port, rate := s.lineRate port }
  { s with tether := { s.tether with qps := s.tether.qps ++ [q], nextQp := s.tether.nextQp + 1 } }

/-- Connect (R343): the admin queue makes a controller, an I/O queue joins one. -/
def connectCmd (id : CmdId) (port : Nat) (sqsize : W16) (kato : W32) (s : State) : State :=
  if s.phase ≠ .up ∨ !(s.portAt port).up ∨ !(s.portAt port).addr then s else
  if 65536 ≤ s.tether.qps.length then s.answer id stSequence else
  if id.sq = 0 then
    if s.host.ctrls.any (fun c => decide (c.cntlid = id.ctrl)) ∨ 64 ≤ s.host.ctrls.length then s.answer id stSequence
    else match katoOf kato.toNat with
    | none => s.answer id stInvalidField
    | some k =>
      if 31 < sqsize.toNat ∨ sqsize = 0 then s.answer id stInvalidField
      else
        let c : HostCtrl := { cntlid := id.ctrl, port := port, kato := k, lastKa := s.frame.time, queues := [{ sq := 0, size := sqsize }] }
        (({ s with host := { s.host with ctrls := s.host.ctrls ++ [c] } }).openHostQp port id.ctrl 0).answer id stOk (id.ctrl.setWidth 32)
  else match s.ctrlFor id.ctrl with
  | none => s.answer id stSequence
  | some c =>
    let all := sumBy (fun (c : HostCtrl) => c.queues.length - 1) s.host.ctrls
    if c.port ≠ port ∨ !c.ready ∨ c.hasQueue id.sq ∨ bits c.numQueues 15 0 + 1 ≤ c.queues.length - 1 ∨ 4096 ≤ all then s.answer id stSequence
    else if 4095 < sqsize.toNat ∨ sqsize = 0 then s.answer id stInvalidField
    else ((s.modHostCtrl id.ctrl fun c => { c with queues := c.queues ++ [{ sq := id.sq, size := sqsize }] }).openHostQp port id.ctrl id.sq).answer id stOk (id.ctrl.setWidth 32)

/-- Property Get (R343; log 10): the value in Dwords 0 and 1. -/
def propertyGet (id : CmdId) (ofs : W32) (s : State) : State :=
  match s.ctrlFor id.ctrl with
  | none => s
  | some c => match ofs.toNat with
    | 0x00 => s.answer id stOk (BitVec.ofNat 32 (4095 + 65536 + 2 ^ 24 * (Config.identifyByte 6 0).toNat)) [] (BitVec.ofNat 32 (2 ^ 4 + 2 ^ 5))
    | 0x08 => s.answer id stOk 0x00020000
    | 0x14 => s.answer id stOk c.cc
    | 0x1C => s.answer id stOk (BitVec.ofNat 32 (b2n c.ready + 4 * c.shst.toNat))
    | 0x20 => s.answer id stOk 0
    | _ => s.answer id stInvalidField

/-- Property Set of CC (R343, R354). -/
def setCc (id : CmdId) (v : W32) (s : State) : State :=
  match s.ctrlFor id.ctrl with
  | none => s
  | some c =>
    let was := bit c.cc 0
    let s := s.modHostCtrl id.ctrl fun c => { c with cc := v }
    let s := if bits v 15 14 ≠ 0 then (s.resetController id.ctrl).modHostCtrl id.ctrl fun c => { c with shst := 2 }
      else if was && !bit v 0 then (s.resetController id.ctrl).modHostCtrl id.ctrl fun c => { c with shst := 0 }
      else if !was && bit v 0 then s.modHostCtrl id.ctrl fun c => { c with ready := true, shst := 0 }
      else s
    s.answer id stOk

/-- Disconnect (R354, R355). -/
def disconnectCmd (id : CmdId) (s : State) : State :=
  match s.ctrlFor id.ctrl with
  | none => s
  | some c =>
    if !c.hasQueue id.sq then s
    else if id.sq = 0 then (s.dropController id.ctrl).answer id stOk
    else (s.loseQueue id.ctrl id.sq true).answer id stOk

/-- The transport connection of a queue is lost (R354). -/
def connectionLost (ctrl sq : W16) (s : State) : State :=
  match s.ctrlFor ctrl with
  | none => s
  | some c => if !c.hasQueue sq then s else if sq = 0 then s.dropController ctrl else s.loseQueue ctrl sq false

/-! Admin commands: where they run -/

/-- Is the command's admin queue connected and its controller enabled? -/
def State.adminUp (s : State) (id : CmdId) : Bool :=
  decide (s.phase = .up) && decide (id.sq = 0) && match s.ctrlFor id.ctrl with | none => false | some c => c.ready

/-- The management core that serves a controller's admin commands. -/
def coreOf (id : CmdId) : Nat := id.ctrl.toNat % 4

/-- An admin command reaches core `k`; on a halted core it waits (21 R495). -/
def adminOn (k : Nat) (id : CmdId) (i : Instr) (f : State → State) (s : State) : State :=
  if !s.adminUp id || s.isOpen id then s
  else if (s.coreAt k).halted then s.enter id false (some i)
  else f s

/-- An admin command reaches the core that serves its controller. -/
def admin (id : CmdId) (i : Instr) (f : State → State) (s : State) : State := adminOn (coreOf id) id i f s

/-! Namespace management (R348, R349; 18 R432; 20 R465) -/

/-- The answer of a namespace or Format command where the module does not take it. -/
def State.nsRefusal (s : State) : Option Status :=
  if s.safe then some stSequence else if s.holding then some stSequence else if s.bare then some stNotLoaded else none

/-- Namespace Management Create (R348). `b`: the Cianber fields. -/
def createNamespace (id : CmdId) (nsze : W64) (lbaf : Nat) (b : Bytes) (s : State) : State :=
  match s.nsRefusal with
  | some t => s.answer id t
  | none =>
    let tenant := leNat b 0 4
    let shadows := leNat b 4 1
    let mode := byteAt b 5
    let len := nsze.toNat * (if lbaf = 1 then 65536 else 4096)
    let n := len / 1048576
    let nsid := ((upTo 1025).find? fun i => decide (1 ≤ i) && (s.nsFor i).isNone).getD 0
    if !s.hasTenant tenant ∨ 2 < shadows ∨ 1 < mode.toNat ∨ !zeros b 6 10 ∨ 1 < lbaf ∨ len = 0 ∨ len % 1048576 ≠ 0 ∨ (0 < shadows ∧ !s.grouped) then s.answer id stInvalidField
    else if 1024 ≤ s.media.namespaces.length then s.answer id stNsIdUnavailable
    else if s.freeGroups < n then s.answer id stCapacity
    else
      let g := s.pickGroups n
      let q := (s.useGroups g).commitParts [.directory 2 nsid]
      let x : Namespace := { nsid := nsid, nsze := nsze.toNat, lbaf := lbaf, tenant := tenant, shadows := shadows, keyMode := mode, groups := g, creating := some id, commit := q.1 }
      let k : NsKey := { nsid := nsid, mode := mode, draw := q.2.sec.draws }
      let s : State := { q.2 with
        media := { q.2.media with namespaces := q.2.media.namespaces ++ [x] }
        sec := { q.2.sec with keys := q.2.sec.keys ++ [k], draws := q.2.sec.draws + 1 } }
      let s := s.enter id
      (if shadows = 0 then s else s.report [s.newPlace 2 x.key 0 0 shadows]).settle

/-- Namespace Management Delete (R348). -/
def deleteNamespace (id : CmdId) (nsid : Nat) (s : State) : State :=
  match s.nsRefusal with
  | some t => s.answer id t
  | none => match s.nsFor nsid with
    | none => s.answer id stInvalidField
    | some n =>
      if n.creating.isSome || n.formatting.isSome || n.deleting.isSome then s.answer id stSequence
      else if (s.nsMode n).isNone then s.answer id stNsNotReady
      else
        let q := s.commitParts [.directory 2 nsid]
        ((q.2.modNs nsid fun n => { n with deleting := some id, commit := q.1 }).enter id).settle

/-- A Format of one namespace begins: its map words are cleared by one MAP record, its mirrors follow (R349; 19 R453; 17 R404). -/
def State.formatOne (s : State) (id : CmdId) (lbaf : Nat) (erase : Bool) (n : Namespace) : State :=
  let stripes := n.groups.foldl (fun (l : List Nat) g => l ++ ((upTo 8).map (8 * g + ·)).filter fun t => decide (s.mapAt t ≠ 0)) []
  let parts := s.nsParts n
  let q := s.journal (.mapSet (stripes.map fun t => (t, 0)))
  let s := q.2
  let s := n.mirrors.foldl (fun (s : State) r => if parts.isEmpty then s else s.sendCopy 2 2 n.tenant n.key 0 0 r (.mirrorWrite q.1) (some id) (parts.map fun (p : CopyPart) => { p with data := List.replicate p.data.length 0 })) s
  let s := s.modNs n.nsid fun n => { n with formatting := some (id, lbaf), commit := q.1 }
  if erase then { s with sec := { s.sec with keys := s.sec.keys.map (fun (k : NsKey) => if k.nsid = n.nsid then { k with draw := s.sec.draws } else k), draws := s.sec.draws + 1 } } else s

/-- Format NVM (R349). -/
def formatNvm (id : CmdId) (nsid : W32) (lbaf ses : Nat) (s : State) : State :=
  match s.nsRefusal with
  | some t => s.answer id t
  | none =>
    let l := if nsid = 0xFFFFFFFF then s.media.namespaces else s.media.namespaces.filter fun n => decide (n.nsid = nsid.toNat)
    if 1 < lbaf ∨ 2 < ses ∨ (l.isEmpty ∧ nsid ≠ 0xFFFFFFFF) then s.answer id stInvalidField
    else if l.any fun n => s.nsBusy n.nsid || n.creating.isSome || n.formatting.isSome || n.deleting.isSome then s.answer id stSequence
    else if l.isEmpty then s.answer id stOk
    else if l.any fun n => (s.nsMode n).isNone then s.answer id stNsNotReady
    else if l.any fun n => decide (s.nsMode n = some true) then s.answer id stReadOnly
    else (l.foldl (fun (s : State) n => s.formatOne id lbaf (decide (1 ≤ ses)) n) (s.enter id)).settle

end Sys2Proof.Machine
end

