-- ==== Sys2Proof/Machine/Loft.lean ====
section
/-! DEFINITION. Loading, checking, activating and discarding a Loft image (03 R56 to R61, R75 to R81). -/

namespace Sys2Proof.Machine

def State.modLoft (s : State) (f : Loft → Loft) : State := { s with loft := f s.loft }

/-- Loft Image Transfer (R58). -/
def imageTransfer (id : CmdId) (numd ofst : W32) (data : Bytes) (s : State) : State :=
  let n := 4 * (numd.toNat + 1)
  let o := 4 * ofst.toNat
  if s.loft.checking.isSome || s.loft.pending.isSome then s.answer id stSequence
  else if 32767 < numd.toNat ∨ 524288 < o + n then s.answer id stInvalidField
  else (s.modLoft fun l =>
    let st := if o = 0 then [] else l.staging
    let ex := if o = 0 then 0 else l.extent
    { l with staging := Sparse.setRun 0 st o (slice data 0 n), extent := max ex (o + n) }).answer id stOk

/-- Discard of the pending image on entry to the safe state (R60, R78, R80). -/
def State.discardPending (s : State) : State :=
  match s.loft.pending with
  | none => s
  | some p =>
    let s := s.modLoft fun l => { l with pending := none, last := 3, reason := 0x16, detail := 0 }
    (s.completeOpt p.id stImageRejected 0x16).telemetry 1 3 0 0x16

/-- The pending image is cancelled (R60, R61). -/
def imageCancel (id : CmdId) (s : State) : State :=
  match s.loft.pending with
  | none => s.answer id stSequence
  | some p =>
    let s := s.modLoft fun l => { l with pending := none, last := 4 }
    (((s.completeOpt p.id stAbortRequested).telemetry 1 4 0).answer id stOk)

/-- Loft Image Apply (R59 to R61; 20 R465). `rsv`: a reserved bit is set. -/
def imageApply (id : CmdId) (rsv : Bool) (mode : Nat) (act : Nat) (s : State) : State :=
  if s.holding then s.answer id stSequence
  else if rsv || decide (mode = 2) then s.answer id stInvalidField
  else if mode = 3 then imageCancel id s
  else if s.loft.checking.isSome || s.loft.pending.isSome then (s.answer id stImageRejected 0x18).telemetry 1 2 0 0x18
  else (s.enter id).modLoft fun l => { l with checking := some { id := id, mode := mode, actFrame := BitVec.ofNat 48 act } }

/-! The checks (R76) -/

/-- How an image fails: reason and detail of GON_IMG_RESULT, and the status that the command completes with (R80). -/
structure Verdict where
  reason : Nat
  detail : Nat
  status : Status
  /-- The test of 11 R259 that a contract fails. -/
  test   : Nat := 0
  deriving DecidableEq, Repr

def Rej.verdict (r : Rej) : Verdict := { reason := r.reason, detail := r.detail, status := stImageRejected }

/-- Step 2: the schema level (R64, R76). -/
def State.checkSchema (s : State) (b : Bytes) : Option Verdict :=
  let l := leNat b 4 2
  let m := s.gondola.fwSchemaMax
  if m < l ∨ l + 1 < m ∨ l = 0 then some { reason := 2, detail := l, status := stImageRejected }
  else if s.inGroup && decide (s.group.schema < l) then some { reason := 0x20, detail := 0, status := stGroupLevel }
  else none

/-- Are owner keys set in fuses (R75; 19 R441)? -/
def State.owned (s : State) : Bool := decide (s.sec.ownerSet ≠ 0)

/-- Step 4: the signature policy (R75). -/
def State.checkSignature (s : State) (b : Bytes) : Option Rej :=
  if !s.owned then none else
  let o := leNat b 0x0C 4
  let k := leNat b o 1
  let key := s.sec.ownerKeys.getD k ([], [])
  if o = 0 then some { reason := 4, detail := 0 }
  else if 3 < k ∨ !bit s.sec.ownerSet k ∨ bit s.sec.ownerRevoked k then some { reason := 0x19, detail := k }
  else if !Config.rsaVerify key.1 (slice b 0 o) (slice b (o + 0x10) 384) then some { reason := 5, detail := 1 }
  else if !Config.slhVerify key.2 (slice b 0 o) (slice b (o + 0x190) 16224) then some { reason := 5, detail := 2 }
  else none

/-- T2 use of tenants that own objects and are absent from the image (R69). -/
def State.absentT2 (s : State) (i : Image) : Nat :=
  sumBy s.t2Of (((s.reel.objects.map fun (o : Obj) => o.tenant).eraseDups).filter fun t => (i.tenant? t).isNone)

/-- Does a tenant own an open context, a loaded model or an I/O command in flight (R77)? -/
def State.tenantBusy (s : State) (t : Nat) : Bool :=
  (s.library.contexts.any fun (e : Nat × Context) => decide (e.2.state ≠ 0) && decide (e.2.tenant = t)) ||
  (s.library.models.any fun (m : Model) => decide (m.tenant = t) && decide (m.state = 2)) ||
  s.host.open_.any fun (o : OpenCmd) => decide (o.id.sq ≠ 0) && match s.nsFor o.nsid with | none => decide (o.tenant = t) | some n => decide (n.tenant = t)

/-- Open contexts that a contract binds. -/
def State.boundTo (s : State) (c : Nat) : Nat := (s.library.contexts.filter fun (e : Nat × Context) => decide (e.2.state ≠ 0) && decide (e.2.cls = 0) && decide (e.2.contract = c)).length

/-- Step 11: the safe state, then the running module (R77). -/
def State.checkRunning (s : State) (i : Image) : Option Rej :=
  if s.safe then some { reason := 0x16, detail := 0 } else
  match s.loft.image with
  | none => none
  | some old => firstOf [
      firstOver old.tenants.length fun k => match old.tenants[k]? with
        | none => none
        | some t => need ((i.tenant? t.id).isSome || !s.tenantBusy t.id) 0x10 k,
      firstOver i.tenants.length fun k => match i.tenants[k]? with
        | none => none
        | some t => need (decide (s.t1Of t.id ≤ t.qT1) && decide (s.t2Of t.id ≤ t.qT2) && decide (s.t3Of t.id ≤ t.qT3)) 0x11 k,
      firstOver old.contracts.length fun k => match old.contracts[k]? with
        | none => none
        | some c =>
          let bound := s.boundTo c.id
          let used := decide (0 < bound) || s.sched.requests.any fun r => decide (r.cls = 0) && decide (r.contract = c.id)
          need (!used || match i.contracts.find? fun d => decide (d.id = c.id) with
            | none => false
            | some d => decide (d.tenant = c.tenant) && decide (bound ≤ d.maxContexts)) 0x12 k,
      need (s.library.models.all fun m => decide (m.state ≠ 2) || i.clusters.any fun c => decide (c.fusion = m.fusion)) 0x13 0,
      need (!s.inGroup || decide (s.group.state = 5) || (decide (old.role = i.role) && decide (old.rank = i.rank) && decide (old.groupId = i.groupId))) 0x14 0,
      need (!s.inGroup || [0, 1].all fun n => i.ports.zipIdx.any fun p => decide (p.2 / 4 = n) && p.1.use) 0x15 0]

/-- Step 12: ACT_FRAME, at least 2 and at most 2^24 frames ahead (R61). -/
def State.checkActFrame (s : State) (c : Checking) : Option Rej :=
  let d := (c.actFrame - s.groupFrame).toNat
  need (decide (c.mode ≠ 1) || (decide (2 ≤ d) && decide (d ≤ 2 ^ 24))) 0x17 0

/-- All checks, in the order of R76. -/
def State.checkImage (s : State) (c : Checking) : Option Verdict × Image :=
  let b := Sparse.getRun 0 s.loft.staging 0 524288
  let i := readImage b s.owned
  let v := ((checkHeader b s.loft.extent).map Rej.verdict).or ((s.checkSchema b).or
    ((firstOf [
      need (decide (Config.sha384 (slice b 0x80 (bodyEnd b - 0x80)) = slice b 0x30 48)) 3 0,
      s.checkSignature b,
      need (zeros b 0x18 16 || decide (slice b 0x18 16 = s.gondola.uid)) 6 0,
      checkDirectory b, checkReserved b, need (!s.owned || zeros b (leNat b 0x0C 4 + 1) 15) 8 0, checkRanges b, checkCross i (s.absentT2 i)]).map Rej.verdict))
  let v := v.or ((checkContracts i).map fun x => { reason := 0x21, detail := x.1, status := stContract, test := x.2 })
  (v.or ((firstOf [s.checkRunning i, s.checkActFrame c]).map Rej.verdict), i)

/-- The checks end (R60, R61, R76, R80): the image is pending, or it is rejected. -/
def checkDone (s : State) : State :=
  match s.loft.checking with
  | none => s
  | some c =>
    let r := s.checkImage c
    let s := s.modLoft fun l => { l with checking := none }
    match r.1 with
    | some v =>
      let s := s.modLoft fun l => { l with last := 2, reason := BitVec.ofNat 8 v.reason, detail := BitVec.ofNat 16 v.detail }
      let dw := if v.status = stContract then v.detail * 65536 + v.test else if v.status = stGroupLevel then 0 else v.reason + v.detail * 65536
      (s.complete c.id v.status (BitVec.ofNat 32 dw)).telemetry 1 2 0 (v.reason + v.detail * 65536)
    | none =>
      let p : Pending := { id := if c.mode = 1 then none else some c.id, mode := c.mode, actFrame := if c.mode = 1 then c.actFrame else s.groupFrame + 1, image := r.2 }
      let s := s.modLoft fun l => { l with pending := some p }
      if c.mode = 1 then s.complete c.id stOk (c.actFrame.setWidth 32) else s

/-! Activation (R79; 02 R31, R34 step 2, R48) -/

/-- The timer under a new image: its source is acquired, and no rows start meanwhile (02 R48); a free-running timer starts them at once, at its own period. -/
def Frame.activate (f : Frame) (i : Image) : Frame :=
  let rate := if i.src = 0 then 0 else f.rate
  { f with
    periodUs := i.periodUs, rate := rate, nextTick := ((f.tickTime + i.periodUs * 1000 : Nat) + rate).toNat
    held := decide (i.src ≠ 0), syncState := if i.src = 0 then 0 else 1
    startRows := false, lastEvent := none, goodEvents := 0, residual := 0, trimDue := false, missed := 0, acqFrames := 0, atLimit := false
    sinceBeacon := if i.src = 0 then f.sinceBeacon else 0 }

/-- Where a class A owner of the image before stands in the new one: the index of the contract with its CONTRACT_ID. A contract that is dropped keeps no owner of the new table (R79). -/
def ownerMap (old : Option Image) (new : Image) (k : Nat) : Nat :=
  match old.bind fun i => i.contracts[k]? with
  | none => 256 + k
  | some c => (new.contracts.findIdx? fun d => decide (d.id = c.id)).getD (256 + k)

def keyMap (old : Option Image) (new : Image) (o : Nat × Nat) : Nat × Nat := if o.1 = 0 then (0, ownerMap old new o.2) else o

/-- A class A pass follows its contract to its index in the new image (R79). -/
def PassEntry.follow (old : Option Image) (new : Image) (e : PassEntry) : PassEntry :=
  if e.d.cls = 0 then { e with desc := setOwner e.desc (ownerMap old new e.d.owner) } else e

/-- Overruns owed, open slots and running passes follow their contracts too (02 R44). -/
def Cluster.follow (old : Option Image) (new : Image) (k : Cluster) : Cluster :=
  { k with
    owed := (k.owed.map fun e => (keyMap old new e.1, e.2)).filter fun e => decide (e.1.1 ≠ 0 ∨ e.1.2 < 256)
    slot := k.slot.map fun o => { o with owner := keyMap old new o.owner }
    guard := k.guard.map fun g => (g.1, keyMap old new g.2)
    seq := { k.seq with run := k.seq.run.map fun r => { r with owner := keyMap old new r.owner, spawns := r.spawns.map (PassEntry.follow old new) } } }

/-- What Q_T0 of the new image no longer covers is evicted, coldest first (R77). -/
def State.evictT0 (s : State) (i : Image) : State :=
  i.tenants.foldl (fun (s : State) t => (s.coldCopies t.id).foldl (fun (s : State) y =>
    if s.t0Of t.id ≤ t.qT0 then s else s.modCluster y.1 fun k => { k with copies := k.copies.filter fun z => !decide (z = y.2) }) s) s

/-- An image takes effect at this tick. -/
def State.activate (s : State) (p : Pending) : State :=
  let old := s.loft.image
  let i := p.image
  let ct := s.contractsOf i
  let s := s.modLoft fun l => { l with pending := none, image := some i, last := 1, actFrame := s.groupFrame, count := satInc l.count }
  let s : State := { s with
    frame := s.frame.activate i
    clusters := s.clusters.zipIdx.map fun (x : Cluster × Nat) => match i.clusters[x.2]? with
      | none => x.1
      | some c => if x.1.seq.run.isSome then { x.1 with next := some c } else x.1.setCfg c
    sched := { s.sched with contracts := ct, entries := s.sched.entries.map (PassEntry.follow old i) }
    reel := { s.reel with refused := [] } }
  let s : State := { s with clusters := s.clusters.map (Cluster.follow old i) }
  let s := s.readdress i.rank
  let s := (s.recheckPasses.evictT0 i).parWrite 0xB0 parTable 64
  let r := s.activatePorts i
  let s := r.2.foldl State.portLost r.1
  let s := (s.groupActivate i old).telemetry 1 1 0
  s.completeOpt p.id stOk (s.groupFrame.setWidth 32)

/-- Step 2 of R34: a pending image whose activation is due. -/
def State.activateDue (s : State) : State :=
  match s.loft.pending with
  | none => s
  | some p => if p.mode ≠ 1 ∨ (s.groupFrame - p.actFrame).toNat < 2 ^ 47 then s.activate p else s

end Sys2Proof.Machine
end

