-- ==== Sys2Proof/Machine/Drogue.lean ====
section
/-! DEFINITION. What the Drogue does on a fault: local-fatal actions, the safe state, its exit, heartbeats (18 R425 to R437; 01 R29). -/

namespace Sys2Proof.Machine

def State.modDrogue (s : State) (f : Drogue → Drogue) : State := { s with drogue := f s.drogue }

/-- The freeze has come to its end; its time is counted (20 R469). -/
def State.endFreeze (s : State) : State :=
  if !s.power.frozen then s else { s with power := { s.power with frozen := false, freezeNs := s.power.freezeNs + BitVec.ofNat 64 (s.frame.time - s.power.frozenFrom) } }

/-! Local-fatal actions (R426, R427; 20 R460, R461) -/

/-- What a local-fatal source asks for (R426). -/
def localAct (f : FaultIn) : LocalAct :=
  let m := f.master.toNat
  match f.source.toNat with
  | 0x03 => .tileWithheld (m % 64)
  | 0x04 => .clusterReset (m % 8)
  | 0x0A => .dieRemoved (dieOfWord (bits f.addrHi 31 29) (f.addrHi &&& 0xFF))
  | 0x0B => .envReset (m % 8)
  | 0x0C => .portReset (m % 8)
  | 0x0D => .bridleReset
  | 0x0E => .coreRestart (m % 4)
  | 0x11 => .sparReset
  | _ => .nothing

/-- Is the block already being reset (R427)? -/
def State.resetting (s : State) : LocalAct → Bool
  | .clusterReset c => (s.clusterAt c).inReset || s.sparReset
  | .sparReset => s.sparReset
  | .envReset n => (s.ctrlAt n).inReset
  | .portReset p => (s.portAt p).inReset
  | .bridleReset => s.bridle.inReset
  | .coreRestart k => (s.coreAt k).restarting && decide (s.frame.time < (s.coreAt k).restartAt + 100000000)
  | .tileWithheld t => bit (s.clusterAt (t / 8)).mask (t % 8)
  | .dieRemoved d => s.dieFailed d
  | .nothing => true

/-- A query that a Spar reset stopped begins anew (01 R18, R29). -/
def Query.restart (q : Query) : Query :=
  { q with shards := q.shards.map fun (k : QShard) => if k.noTag then k else ({ shard := k.shard, stage := if q.given then .waiting else .sketch, filter := k.filter } : QShard) }

/-- A Spar reset: every pass ends, queries are held and begin anew after it (01 R18; 07 R175). -/
def beginSparReset (s : State) : State :=
  let s := (sparResetBegin s).endFreeze
  { s with
    search := { s.search with queries := s.search.queries.map Query.restart } }

/-- Admin commands in flight on a core, its Asynchronous Event Requests among them, are lost to it, and end with Command Abort Requested when it has restarted; what they began goes on (01 R29). -/
def State.abortAdmin (s : State) (k : Nat) : State :=
  let l := s.host.open_.filter fun (o : OpenCmd) => decide (o.id.sq = 0) && decide (coreOf o.id = k)
  let s := l.foldl (fun (s : State) o =>
    let n := s.orphanId
    (({ s.leave o.id with host := { (s.leave o.id).host with orphans := s.host.orphans + 1 } } : State)).rename o.id n) s
  let a := s.host.ctrls.foldl (fun (l : List CmdId) c => if c.cntlid.toNat % 4 = k then l ++ c.aers else l) []
  let s : State := { s with host := { s.host with ctrls := s.host.ctrls.map fun (c : HostCtrl) => if c.cntlid.toNat % 4 = k then { c with aers := [] } else c } }
  s.modCore k fun c => { c with aborts := c.aborts ++ l.map (·.id) ++ a }

/-- A local-fatal action (R426, R427). -/
def State.act (s : State) (a : LocalAct) : State :=
  if s.resetting a then s else
  match a with
  | .clusterReset c => clusterReset c s
  | .sparReset => beginSparReset s
  | .envReset n => (s.dspAbandon n).modCtrl n fun k => { k with ready := false, inReset := true }
  | .portReset p => (s.portLost p).portReset p
  | .bridleReset => { s with bridle := { s.bridle with inReset := true, arrived := [] } }
  | .coreRestart k => (s.abortAdmin k).modCore k fun c => { restarting := true, restartAt := s.frame.time, watchOff := true, aborts := c.aborts }
  | .tileWithheld t => (s.modCluster (t / 8) fun k => { k with mask := setBit k.mask (t % 8) true }).failWithheld (t / 8)
  | .dieRemoved d => s.removeDie d
  | .nothing => s

/-! The safe state (R431 to R435) -/

/-- Exits of the 600 s before now (R435, R439): DRG_RECOVERY_COUNT.RECENT. -/
def State.recentExits (s : State) : Nat := (recentTimes s.frame.time 600000000000 s.drogue.exits).length

/-- Does a condition of SOURCE 12h hold (R434; 20 R470)? -/
def State.supplyBad (s : State) : Bool := decide (s.power.overCrit ≠ 0) || decide (s.power.railBad ≠ 0)

/-- Length of the quiet period, ns (R434, 03 R73). -/
def State.quietNs (s : State) : Nat := (match s.loft.image with | some i => i.quietMs | none => 2000) * 1000000

/-- The quiet period begins to run, unless a condition of SOURCE 12h holds (R434). -/
def State.restartQuiet (s : State) : State := s.modDrogue fun d => { d with quietFrom := if s.supplyBad then none else some s.frame.time }

/-- I/O commands in flight meet the safe state (R432, R433): what is not committed takes no effect. -/
def State.interruptCmd (s : State) (o : OpenCmd) : State :=
  match s.media.reads.find? fun r => decide (r.id = o.id) with
  | some _ => s
  | none =>
    -- an image under check is refused at the end of its checks (R432; 03 R77)
    if o.held.isSome ∨ (s.loft.checking.any fun c => decide (c.id = o.id)) ∨ s.library.refits.any fun j => decide (j.id = o.id) && (decide (j.phase = .committed) || decide (j.phase = .retiring)) then s else
      let s : State := { s with media := { s.media with parts := s.media.parts.filter fun p => !(decide (p.for_ = .host o.id) && !(match p.commit with | some c => s.durable c | none => false)) } }
      let s := match s.library.refits.find? fun j => decide (j.id = o.id) with
        | some j => (((s.freeObjs [j.work, j.newWeights, j.newState]).releaseScale j).dropRefit j.job).finishRequest o.id stInterrupted
        | none => s
      let s := (s.dropQuery o.id).closeRequest o.id
      let s := s.modSearch fun h => { h with jobs := h.jobs.map fun (j : EmbedJob) => if j.id = o.id ∧ j.state = 1 then { j with state := 3 } else j }
      let s := s.complete o.id (if o.id.sq = 0 then stSequence else stInterrupted)
      let n := s.orphanId
      ({ s with host := { s.host with orphans := s.host.orphans + 1 } }).rename o.id n

/-- What entry to the safe state does beside its record (R431, R432; 10 R246; 14 R332; 20 R466). -/
def State.stopForSafe (s : State) : State :=
  let s := (upTo 8).foldl State.dspAbandon s.endFreeze
  let s : State := { s with
    power := { s.power with hold := .none }
    media := { s.media with
      ctrls := s.media.ctrls.map fun (k : Ctrl) => { k with hold := true }
      gcs := [], victims := s.media.gcs.map (fun (g : Gc) => (g.die, g.block)) ++ s.media.victims } }
  let s := s.discardPending
  let s := if s.inGroup && !s.isManager then (upTo 2).foldl (fun (s : State) n => if s.netUp n then s.nv n nvStatus s.group.managerRank s.statusBody else s) s else s
  let s := s.openContexts.foldl (fun (s : State) i =>
    let c := s.ctxAt i
    let s := c.batches.foldl (fun (s : State) (b : Batch) => s.finishBatch i b stInterrupted) s
    let s := ((s.completeOpt c.opening stInterrupted).completeOpt c.closer stInterrupted)
    (s.modCtx i fun c => { c with batches := [], opening := none, closer := none }).endCtx i false) s
  let s := s.host.open_.foldl State.interruptCmd s
  s.telemetry 10 1 0

/-- The module enters the safe state, or a fault meets it there (R431, R433, R435). -/
def State.enterSafe (s : State) (src : Byte) : State :=
  if s.drogue.state = 0 then
    let latch := decide (src = 0x09) || decide (4 ≤ s.recentExits)
    let s := s.modDrogue fun d => { d with state := if latch then 2 else 1, self := decide (src = 0x14), entrySource := src }
    s.stopForSafe.restartQuiet
  else
    let s := s.modDrogue fun d => { d with exiting := false, state := if src = 0x09 then 2 else d.state }
    s.restartQuiet

/-- A module-fatal fault (R425, R429, R431). -/
def State.moduleFatal (s : State) (f : FaultIn) : State := (s.record .moduleFatal f).enterSafe f.source

/-- Eight local-fatal faults of one MASTER within 10 s, SOURCE 03h apart (R428). -/
def State.countLocal (s : State) (f : FaultIn) : Bool × State :=
  if f.source = 0x03 then (false, s) else
    let l := (s.drogue.locals.filter fun (x : W16 × Nat) => decide (s.frame.time ≤ x.2 + 10000000000)) ++ [(f.master, s.frame.time)]
    (decide (8 ≤ (l.filter fun x => decide (x.1 = f.master)).length), s.modDrogue fun d => { d with locals := l })

/-- A local-fatal fault (R425 to R428, R433, R434): its action is taken now, or waits for the exit from the safe state. -/
def State.localFatal (s : State) (f : FaultIn) : State :=
  let r := s.countLocal f
  let a := localAct f
  let wait := fun (s : State) => s.modDrogue fun d => { d with waiting := if d.waiting.contains a then d.waiting else d.waiting ++ [a] }
  if r.1 then
    (wait (r.2.modDrogue fun d => { d with locals := d.locals.filter fun x => decide (x.1 ≠ f.master) })).moduleFatal { f with source := 0x13 }
  else
    let s := r.2.record .localFatal f
    if s.safe then (wait (s.modDrogue fun d => { d with exiting := false })).restartQuiet else s.act a

/-- A fault report reaches the Drogue (R425, R426). SOURCE 15h has an action of its own. -/
def State.report_ (s : State) (f : FaultIn) : State :=
  match sourceClass f.source with
  | none => s
  | some .corrected => s.record .corrected f
  | some .deferred => s.record .deferred f
  | some .localFatal => s.localFatal f
  | some .moduleFatal => s.moduleFatal f

/-- The quiet period has ended (R434): the exit begins with a Spar reset. -/
def quietEnds (s : State) : State :=
  match s.drogue.quietFrom with
  | none => s
  | some t =>
    if s.drogue.state = 1 ∧ !s.drogue.exiting ∧ !s.supplyBad ∧ t + s.quietNs ≤ s.frame.time then
      let s := s.modDrogue fun d => { d with exiting := true }
      if s.sparReset then s else beginSparReset s
    else s

/-- Steps 2 to 5 of the exit (R434). -/
def State.leaveSafe (s : State) : State :=
  let l := s.drogue.waiting.filter fun a => !decide (a = .sparReset)
  let s := s.modDrogue fun d => { d with state := 0, exiting := false, waiting := [], quietFrom := none, total := satInc d.total, exits := (recentTimes s.frame.time 600000000000 d.exits) ++ [s.frame.time] }
  let s : State := { s with media := { s.media with ctrls := s.media.ctrls.map fun (k : Ctrl) => { k with hold := k.pwrFail } }, clusters := s.clusters.map fun (k : Cluster) => { k with halted := false } }
  let s := l.foldl State.act s
  let s := s.telemetry 10 0 0
  let s := if s.inGroup && !s.isManager then s.modGroup fun g => { g with state := 1, act := 0, admission := none } else s
  s.settle

/-- A Spar reset has ended (01 R18; 18 R434 step 1). The Reel refills T0. -/
def sparResetDone (s : State) : State :=
  if !s.sparReset then s else
    let s : State := ({ s with sparReset := false, frame := { s.frame with resume := true } }).loadHandlers
    if s.drogue.exiting then s.leaveSafe else s.settle

/-- A parity error on the Drogue's own registers (R436). -/
def drogueParity (s : State) : State :=
  let was := s.safe
  let f : FaultIn := mkFault 0x14 0x0C00
  let k := captureOf f .moduleFatal s.frame.time s.frame.num
  let w := s.drogue.waiting
  let d : Drogue := { state := 1, self := true, entrySource := 0x14, first := k, fatal := k, cntFatal := 1, waiting := w, hbTime := s.drogue.hbTime }
  let s : State := { s with drogue := d }
  (if was then s else s.stopForSafe).restartQuiet

/-- DRG_CAP_CLR (R429, R439). -/
def capClear (v : W32) (s : State) : State :=
  let s := if bit v 1 then s.modDrogue fun d => { d with fatal := {}, fatalMore := 0 } else s
  if bit v 0 then s.modDrogue fun d => { d with first := {}, firstMore := 0 } else s

/-! Heartbeats (R437) -/

/-- Firmware runs. -/
def State.firmwareUp (s : State) : Bool := decide (s.phase = .up) || decide (s.phase = .rebuilding)

/-- A write of DRG_HB. The core writes its own memory at least as often: a mask armed there takes effect, and its next read fails (R423, R438). -/
def heartbeat (master : W16) (v : W32) (s : State) : State :=
  let n := bits v 2 0
  if master.toNat ≠ n ∨ 4 < n then s else
    let s := s.modDrogue fun d => { d with hbTime := setAt d.hbTime n s.frame.time, hbSeen := setBit d.hbSeen n true }
    let s := if n < 4 then s.modCore n fun c => if c.restarting then c else { c with watchOff := false } else s
    let g := if n < 4 then 0xB8 + n else 0xBC
    if Sparse.get (0 : W32) s.parity.masks g = 0 then s
    else (s.parWrite g 0 64).report_ (mkFault (if n < 4 then 0x0E else 0x0F) n)

/-- A core's heartbeat is 10 ms old (R437; 21 R495). The watch of a core that restarted resumes at its first heartbeat, or 100 ms after the restart began. -/
def heartbeatMiss (core : Nat) (s : State) : State :=
  let last := s.drogue.hbTime.getD core 0
  if !s.firmwareUp then s
  else if core = 4 then (if last + 10000000 ≤ s.frame.time then s.report_ (mkFault 0x0F 4 5) else s)
  else
    let c := s.coreAt core
    let base := if c.watchOff then c.restartAt + 100000000 else last
    if c.halted || decide (s.frame.time < base + 10000000) then s else s.report_ (mkFault 0x0E core 5)

/-- Has no management core written for 100 ms, at least one of them not halted (R437; 21 R495)? -/
def State.coresSilent (s : State) : Bool :=
  s.firmwareUp && (upTo 4).any (fun k => !(s.coreAt k).halted) && (upTo 4).all fun k => (s.coreAt k).halted || decide (s.drogue.hbTime.getD k 0 + 100000000 ≤ s.frame.time)

/-- A core has restarted (R437; 20 R460): the admin commands that its restart caught are aborted, where their controllers still stand (01 R29). -/
def coreRestarted (k : Nat) (s : State) : State :=
  let l := (s.coreAt k).aborts.filter fun id => s.host.ctrls.any fun (c : HostCtrl) => decide (c.cntlid = id.ctrl)
  (l.foldl (fun (s : State) id => s.answer id stAbortRequested) s).modCore k fun c => { c with restarting := false, aborts := [] }

/-- Block resets that end (20 R460). -/
def clusterResetDone (c : Nat) (s : State) : State := s.modCluster c fun k => { k with inReset := false }
def bridleResetDone (s : State) : State :=
  if !s.bridle.inReset then s else { s with bridle := { s.bridle with inReset := false, unanswered := s.bridle.unanswered.map fun (d : Dispatch) => { d with resend := true } } }

end Sys2Proof.Machine
end

