-- ==== Sys2Proof/Machine/Security.lean ====
section
/-! DEFINITION. Signed images, the boot chain, SPDM, owner keys and the debug token (19). Byte layouts of the SPDM messages are DSP0274's (log 4). -/

namespace Sys2Proof.Machine

def State.modSec (s : State) (f : Sec → Sec) : State := { s with sec := f s.sec }

/-- `n` bytes of the security core's DRBG (R450; log 4). -/
def State.drawBytes (s : State) (n : Nat) : Bytes × State := ((upTo n).map fun i => Config.drbg s.sec.draws i, s.modSec fun c => { c with draws := c.draws + 1 })

/-- Do both signatures of the block at `o` verify over the bytes before it, under a key set (R441)? 0 yes, 1 the RSA signature fails, 2 the SLH-DSA signature. -/
def sigFails (key : Bytes × Bytes) (b : Bytes) (o : Nat) : Nat :=
  if !Config.rsaVerify key.1 (slice b 0 o) (slice b (o + 0x10) 384) then 1
  else if !Config.slhVerify key.2 (slice b 0 o) (slice b (o + 0x190) 16224) then 2 else 0

/-- Is an owner slot set and not revoked (R440)? -/
def State.ownerGood (s : State) (k : Nat) : Bool := decide (k < 4) && bit s.sec.ownerSet k && !bit s.sec.ownerRevoked k

/-! Firmware images (R442, R443) -/

/-- Fields of the manifest. -/
def fwVersionOf (b : Bytes) : Nat := leNat b 4 8
def fwSvn (b : Bytes) : Nat := leNat b 0x0C 2
def fwSigOfs (b : Bytes) : Nat := leNat b 0x1C 4
def fwSigner (b : Bytes) : Nat := leNat b (fwSigOfs b) 1

/-- Component `i`: type, offset, length. -/
def fwComp (b : Bytes) (i : Nat) : Nat × (Nat × Nat) := (leNat b (0x40 + 64 * i) 2, (leNat b (0x44 + 64 * i) 4, leNat b (0x48 + 64 * i) 4))

/-- The component of a type: its bytes. -/
def fwBytes (b : Bytes) (t : Nat) : Bytes :=
  match (upTo 6).find? fun i => decide ((fwComp b i).1 = t) with
  | none => []
  | some i => slice b (fwComp b i).2.1 (fwComp b i).2.2

/-- Does an image pass R441 to R443 under the fuses as they stand? -/
def State.fwOk (s : State) (b : Bytes) : Bool :=
  let k := fwSigner b
  decide (0x1C0 + 16624 ≤ b.length) && decide (leNat b 0 4 = 0x4E4D5746) && decide (fwSvn b ≤ 63) && decide (leNat b 0x12 2 < 32) && decide (leNat b 0x14 2 = 6) &&
  zeros b 0x16 2 && zeros b 0x20 32 && decide (leNat b 0x18 4 = b.length) && decide (b.length ≤ 67108864) && decide (fwSigOfs b = 0x1C0) && zeros b 0x1C1 15 &&
  (upTo 6).all (fun i =>
    let c := fwComp b i
    (upTo 6).any (fun j => decide ((fwComp b j).1 = i + 1)) && zeros b (0x42 + 64 * i) 2 && zeros b (0x4C + 64 * i) 4 &&
    decide (0x1C0 + 16624 ≤ c.2.1) && decide (c.2.1 + c.2.2 ≤ b.length) && decide (Config.sha384 (slice b c.2.1 c.2.2) = slice b (0x50 + 64 * i) 48)) &&
  decide (s.sec.minSvn.toNat ≤ fwSvn b) && decide (k < 4) && !bit s.sec.vendorRevoked k && decide (sigFails (Config.vendorKey k) b (fwSigOfs b) = 0)

/-- The image of a slot. -/
def State.slotImage (s : State) (n : Nat) : Option Bytes := if n = 0 then none else (s.sec.slots.getD (n - 1) none)

/-- Can a slot boot? -/
def State.slotOk (s : State) (n : Nat) : Bool := match s.slotImage n with | none => false | some b => s.fwOk b

/-- Firmware Image Download (R443): offset and length in multiples of 4 KiB. -/
def fwDownload (id : CmdId) (ofst : W32) (data : Bytes) (s : State) : State :=
  let o := 4 * ofst.toNat
  if o % 4096 ≠ 0 ∨ data.length % 4096 ≠ 0 ∨ data.length = 0 ∨ 67108864 < o + data.length then s.answer id stInvalidField
  else (s.modSec fun c => { c with download := Sparse.setRun 0 c.download o data, downloadLen := max c.downloadLen (o + data.length) }).answer id stOk

/-- The slot that a commit names: slot 0 stands for the lowest that neither runs nor is marked (R443). -/
def State.fwSlot (s : State) (slot : Nat) : Nat :=
  if slot = 0 then ([1, 2, 3].find? fun n => decide (n ≠ s.sec.running.toNat) && decide (n ≠ s.sec.nextSlot.toNat)).getD 0 else slot

/-- The image downloaded, cut to IMAGE_LEN. -/
def State.downloaded (s : State) : Bytes :=
  let n := leNat (Sparse.getRun 0 s.sec.download 0x18 4) 0 4
  if s.sec.downloadLen < n then [] else Sparse.getRun 0 s.sec.download 0 n

/-- Firmware Commit with actions 000b to 010b (R443; 18 R432). -/
def fwCommit (id : CmdId) (action : Nat) (slot : Nat) (s : State) : State :=
  let n := s.fwSlot slot
  if s.safe then s.answer id stSequence
  else if n = 0 ∨ 3 < n ∨ n = s.sec.running.toNat then s.answer id stFwSlot
  else if action = 2 then
    if s.slotOk n then (s.modSec fun c => { c with nextSlot := BitVec.ofNat 2 n }).answer id stOk else s.answer id stFwImage
  else
    let b := s.downloaded
    let s := s.modSec fun c => { c with download := [], downloadLen := 0 }
    if s.fwOk b then
      (s.modSec fun c => { c with slots := setAt c.slots (n - 1) (some b), nextSlot := if action = 1 then BitVec.ofNat 2 n else c.nextSlot }).answer id stOk
    else s.answer id stFwImage

/-! The boot chain (R444, R445) -/

/-- The slots in the order in which the boot ROM tries them. -/
def State.bootOrder (s : State) : List Nat :=
  let marked := if s.sec.nextSlot = 0 then [] else [s.sec.nextSlot.toNat]
  let last := if s.sec.lastBoot = 0 ∨ marked.contains s.sec.lastBoot.toNat then [] else [s.sec.lastBoot.toNat]
  let rest := [1, 2, 3].filter fun n => !(marked ++ last).contains n
  let v := fun (n : Nat) => (match s.slotImage n with | none => 0 | some b => fwVersionOf b : Nat)
  marked ++ last ++ sortBy (fun (a b : Nat) => decide (v b < v a)) rest

/-- The boot ROM runs after power-good or a module reset (R444): the first slot that verifies runs, or ROM recovery begins. -/
def boot (s : State) : State :=
  if s.phase ≠ .starting then s else
  let order := s.bootOrder
  let tried := order.takeWhile fun n => !s.slotOk n
  let bad := tried.foldl (fun (v : BitVec 3) n => setBit v (n - 1) true) 0
  let fell := tried.contains s.sec.nextSlot.toNat && decide (s.sec.nextSlot ≠ 0)
  let s : State := { s with host := { s.host with fwEvent := fell } }
  let s := s.modSec fun c => { c with failed := bad, fallback := fell, nextSlot := 0 }
  match order.find? s.slotOk with
  | none => { s.modSec fun c => { c with recovery := true } with phase := .recovery }
  | some n =>
    let b := (s.slotImage n).getD []
    let s := s.modSec fun c => { c with bootOk := true, running := BitVec.ofNat 2 n, signer := BitVec.ofNat 2 (fwSigner b), runSvn := BitVec.ofNat 6 (fwSvn b) }
    { s with
      phase := .rebuilding
      gondola := { s.gondola with fwVersion := BitVec.ofNat 64 (fwVersionOf b), fwGroupLevel := leNat b 0x0E 2, fwSchemaMax := leNat b 0x10 2 }
      drogue := { s.drogue with hbTime := List.replicate 5 s.frame.time } }

/-- The running image reaches the bare state (R443): RAISE_SVN and REVOKE take effect, and its slot is the one last booted. -/
def State.fuseFirmware (s : State) : State :=
  let n := s.sec.running.toNat
  match s.slotImage n with
  | none => s
  | some b =>
    let f : W16 := le 16 b 0x12
    let rev := setBit (BitVec.ofNat 4 (bits f 4 1)) s.sec.signer.toNat false
    s.modSec fun c => { c with lastBoot := BitVec.ofNat 2 n, minSvn := if bit f 0 && decide (c.minSvn.toNat < fwSvn b) then BitVec.ofNat 6 (fwSvn b) else c.minSvn, vendorRevoked := c.vendorRevoked ||| rev }

/-! SPDM (R448 to R451) -/

/-- Request codes. -/
def spdmCode (req : Bytes) : Nat := (byteAt req 1).toNat

def spdmHead (code p1 p2 : Nat) : Bytes := [0x13, BitVec.ofNat 8 code, BitVec.ofNat 8 p1, BitVec.ofNat 8 p2]
def spdmError (code data : Nat) : Bytes := spdmHead 0x7F code data
def invalidRequest : Bytes := spdmError 1 0
def unexpectedRequest : Bytes := spdmError 4 0
def unsupportedRequest (code : Nat) : Bytes := spdmError 7 code

def State.modSpdm (s : State) (f : Spdm → Spdm) : State := s.modSec fun c => { c with spdm := f c.spdm }

/-- Largest message that goes over whole (R449). -/
def State.spdmSize (s : State) : Nat := min 4096 s.sec.spdm.peerSize

/-- A response waits for Security Receive; one above the transfer size waits for CHUNK_GET (R449). -/
def State.respond (s : State) (r : Bytes) : State :=
  if r.length ≤ s.spdmSize then s.modSpdm fun p => { p with response := r, chunk := [] }
  else s.modSpdm fun p =>
    let h := p.chunkHandle + 1
    { p with response := spdmError 0x0F 0 ++ [h], chunk := r, chunkSeq := 0, chunkLen := r.length, chunkHandle := h }

/-- GET_VERSION: version 1.3, and everything agreed before is forgotten. -/
def spdmVersion (req : Bytes) (s : State) : State :=
  let r : Bytes := [0x10, 0x04, 0, 0, 0, 1, 0, 0x13]
  if byteAt req 0 ≠ 0x10 then s.respond (spdmError 0x41 0)
  else s.modSpdm fun p => { stage := 1, vca := req ++ r, response := r, chunkHandle := p.chunkHandle }

/-- GET_CAPABILITIES: CERT_CAP, CHAL_CAP, MEAS_CAP 10b and CHUNK_CAP (R449). CT exponent: the spec gives none. -/
def spdmCapabilities (req : Bytes) (s : State) : State :=
  if s.sec.spdm.stage ≠ 1 then s.respond unexpectedRequest
  else if req.length < 20 ∨ leNat req 12 4 < 42 then s.respond invalidRequest
  else
    let r := spdmHead 0x61 0 0 ++ [0, Config.identifyByte 7 0, 0, 0] ++ toLe 0x20016 4 ++ toLe 4096 4 ++ toLe 65536 4
    s.modSpdm fun p => { p with stage := 2, vca := p.vca ++ req ++ r, response := r, peerSize := leNat req 12 4, chunk := [], lastSigned := none }

/-- NEGOTIATE_ALGORITHMS: of what is offered, RSAPSS 3072, SHA-384 and the DMTF measurement specification (R449). -/
def spdmAlgorithms (req : Bytes) (s : State) : State :=
  if s.sec.spdm.stage ≠ 2 then s.respond unexpectedRequest
  else if req.length < 32 ∨ leNat req 4 2 ≠ req.length then s.respond invalidRequest
  else
    let dmtf := b2n ((leNat req 6 1).testBit 0)
    let r := spdmHead 0x63 0 0 ++ toLe 36 2 ++ toLe dmtf 1 ++ [0] ++ toLe (4 * dmtf) 4 ++ toLe (8 * b2n ((leNat req 8 4).testBit 3)) 4 ++ toLe (2 * b2n ((leNat req 12 4).testBit 1)) 4 ++ List.replicate 16 0
    s.modSpdm fun p => { p with stage := 3, vca := p.vca ++ req ++ r, response := r, chunk := [], lastSigned := none }

/-- Digest of the certificate chain of slot 0. -/
def chainDigest : Bytes := Config.sha384 (Config.certChain 0)

/-- GET_DIGESTS. -/
def spdmDigests (req : Bytes) (s : State) : State :=
  let r := spdmHead 0x01 1 1 ++ chainDigest
  (s.modSpdm fun p => { p with certs := p.certs ++ req ++ r }).respond r

/-- GET_CERTIFICATE of slot 0 (R448). -/
def spdmCertificate (req : Bytes) (s : State) : State :=
  let c := Config.certChain 0
  let o := leNat req 4 2
  let n := min (leNat req 6 2) (c.length - o)
  if (byteAt req 2).toNat % 16 ≠ 0 then s.respond (unsupportedRequest 0x82)
  else if req.length < 8 then s.respond invalidRequest
  else if bit (byteAt req 3) 0 then
    let r := spdmHead 0x02 0 0 ++ toLe 0 2 ++ toLe c.length 2
    (s.modSpdm fun p => { p with certs := p.certs ++ req ++ r }).respond r
  else if c.length ≤ o then s.respond invalidRequest
  else
    let r := spdmHead 0x02 0 0 ++ toLe n 2 ++ toLe (c.length - o - n) 2 ++ slice c o n
    (s.modSpdm fun p => { p with certs := p.certs ++ req ++ r }).respond r

/-- The message that a signature covers: SPDM's signing prefix and context, and the transcript's hash (R449, R450). -/
def signedMessage (context : String) (transcript : Bytes) : Bytes :=
  let a := fun (t : String) => t.toList.map fun c => BitVec.ofNat 8 c.toNat
  let p := a "dmtf-spdm-v1.3.*"
  p ++ p ++ p ++ p ++ List.replicate (36 - context.length) 0 ++ a context ++ Config.sha384 transcript

/-- Measurement `i`, 48 bytes (R451); the order of the bytes hashed is the order in which R451 names them (log 4). -/
def State.measurement (s : State) (i : Nat) : Bytes :=
  let img := (s.slotImage s.sec.running.toNat).getD []
  match i with
  | 1 => Config.sha384 Config.bootRom
  | 2 => Config.sha384 (slice img 0 (fwSigOfs img))
  | 9 =>
    let keys := (upTo 4).foldl (fun (b : Bytes) k => b ++ (if bit s.sec.ownerSet k then Config.sha384 ((s.sec.ownerKeys.getD k ([], [])).1 ++ (s.sec.ownerKeys.getD k ([], [])).2) else List.replicate 48 0)) []
    Config.sha384 ([s.sec.ownerSet.setWidth 8, s.sec.ownerRevoked.setWidth 8] ++ keys ++ [s.sec.vendorRevoked.setWidth 8, s.sec.minSvn.setWidth 8])
  | 10 => match s.loft.image with
    | none => List.replicate 48 0
    | some m => Config.sha384 (m.bodyDigest ++ toLe m.imageId 8)
  | 11 => if s.sec.unlocked then Config.sha384 (toLe s.sec.scope.toNat 2 ++ s.sec.tokenHash) else List.replicate 48 0
  | 12 => match s.loft.image with
    | none => Config.sha384 (List.replicate 14 0)
    | some m => Config.sha384 (toLe m.groupId 8 ++ toLe m.rank 2 ++ toLe (if s.inGroup then s.group.level else 0) 2 ++ toLe (if s.inGroup then s.group.schema else 0) 2)
  | n => Config.sha384 (fwBytes img (n - 2))

/-- The kind of value of a block: boot ROM, firmware, fuses, configuration, debug state (DSP0274; log 4). -/
def measureKind (i : Nat) : Nat :=
  match i with
  | 1 => 0
  | 9 => 2
  | 10 => 3
  | 11 => 5
  | 12 => 3
  | _ => 1

/-- A measurement block in the DMTF format (R451). -/
def State.measureBlock (s : State) (i : Nat) : Bytes := toLe i 1 ++ [1] ++ toLe 51 2 ++ toLe (measureKind i) 1 ++ toLe 48 2 ++ s.measurement i

/-- All twelve blocks. -/
def State.allBlocks (s : State) : Bytes := (upTo 12).foldl (fun (b : Bytes) i => b ++ s.measureBlock (i + 1)) []

/-- CHALLENGE (R449). -/
def spdmChallenge (req : Bytes) (s : State) : State :=
  if (byteAt req 2).toNat % 16 ≠ 0 then s.respond (unsupportedRequest 0x83)
  else if req.length < 44 then s.respond invalidRequest
  else
    let n := s.drawBytes 32
    let sum := if byteAt req 3 = 0 then [] else Config.sha384 (if byteAt req 3 = 1 then (upTo 8).foldl (fun (b : Bytes) i => b ++ s.measureBlock (i + 1)) [] else s.allBlocks)
    let r := spdmHead 0x03 0 1 ++ chainDigest ++ n.1 ++ sum ++ [0, 0] ++ slice req 36 8
    let p := s.sec.spdm
    let m := signedMessage "responder-challenge_auth signing" (p.vca ++ p.certs ++ req ++ r)
    (n.2.modSpdm fun p => { p with certs := [], lastSigned := some m }).respond (r ++ Config.rsaSign m)

/-- GET_MEASUREMENTS (R449, R451): the blocks are taken now. -/
def spdmMeasurements (req : Bytes) (s : State) : State :=
  let sign := bit (byteAt req 2) 0
  let op := (byteAt req 3).toNat
  if req.length < (if sign then 45 else 12) ∨ (12 < op ∧ op ≠ 0xFF) then s.respond invalidRequest
  else if sign && decide ((byteAt req 36).toNat % 16 ≠ 0) then s.respond (unsupportedRequest 0xE0)
  else
    let n := s.drawBytes 32
    let rcd := if op = 0 then [] else if op = 0xFF then s.allBlocks else s.measureBlock op
    let r := spdmHead 0x60 (if op = 0 then 12 else 0) 0 ++ toLe (if op = 0 then 0 else if op = 0xFF then 12 else 1) 1 ++ toLe rcd.length 3 ++ rcd ++ n.1 ++ [0, 0] ++ slice req (if sign then 37 else 4) 8
    let p := s.sec.spdm
    if sign then
      let m := signedMessage "responder-measurements signing" (p.vca ++ p.meas ++ req ++ r)
      (n.2.modSpdm fun p => { p with meas := [], lastSigned := some m }).respond (r ++ Config.rsaSign m)
    else (n.2.modSpdm fun p => { p with meas := p.meas ++ req ++ r }).respond r

/-- CHUNK_GET: the next part of a large response (R449). -/
def spdmChunkGet (req : Bytes) (s : State) : State :=
  let p := s.sec.spdm
  if p.chunk = [] then s.modSpdm fun p => { p with response := unexpectedRequest }
  else if req.length < 6 ∨ byteAt req 3 ≠ p.chunkHandle ∨ leNat req 4 2 ≠ p.chunkSeq then s.modSpdm fun p => { p with response := invalidRequest, chunk := [] }
  else
    let first := decide (p.chunkSeq = 0)
    let n := min p.chunk.length (s.spdmSize - if first then 16 else 12)
    let last := decide (n = p.chunk.length)
    let r := spdmHead 0x06 (b2n last) p.chunkHandle.toNat ++ toLe p.chunkSeq 2 ++ [0, 0] ++ toLe n 4 ++ (if first then toLe p.chunkLen 4 else []) ++ p.chunk.take n
    s.modSpdm fun p => { p with response := r, chunk := p.chunk.drop n, chunkSeq := p.chunkSeq + 1 }

/-! Vendor-defined requests (R446, R450) -/

def vendorId : Bytes := [0x31, 0x7A, 0, 0]

/-- The payload of a vendor-defined request under Cianber's identifier. -/
def vendorPayload (req : Bytes) : Option Bytes :=
  let n := leNat req 11 2
  if leNat req 4 2 = 1 ∧ byteAt req 6 = 4 ∧ slice req 7 4 = vendorId ∧ 13 + n = req.length ∧ 2 ≤ n then some (slice req 13 n) else none

def vendorResponse (b : Bytes) : Bytes := spdmHead 0x7E 0 0 ++ [1, 0, 4] ++ vendorId ++ toLe b.length 2 ++ b

/-- Vendor request code of a message, 0 for none. -/
def vendorCode (req : Bytes) : Nat := match vendorPayload req with | some b => leNat b 0 2 | none => 0

/-- GET_PQ_SIGNATURE: over what the signed response directly before it covered. -/
def pqSignature (signed : Option Bytes) (s : State) : State :=
  match signed with
  | none => s.respond unexpectedRequest
  | some m => s.respond (vendorResponse (Config.slhSign m))

/-- GET_NONCE. -/
def getNonce (s : State) : State :=
  let n := s.drawBytes 32
  (n.2.modSec fun c => { c with nonce := some (n.1, s.frame.time) }).respond (vendorResponse n.1)

/-- Is the nonce the one given, not older than 10 s (R446)? -/
def State.nonceOk (s : State) (n : Bytes) : Bool := match s.sec.nonce with | none => false | some (m, t) => decide (m = n) && decide (s.frame.time ≤ t + 10000000000)

/-- OWNER_SET (R446): slot, modulus, SLH-DSA key, UID, nonce, and a signature block on an owned module. -/
def ownerSet (b : Bytes) (s : State) : State :=
  let slot := leNat b 2 1
  let ok := decide (slot < 4) && !bit s.sec.ownerSet slot && decide (slice b 435 16 = s.gondola.uid) && s.nonceOk (slice b 451 32) && !s.safe &&
    if s.owned then decide (b.length = 483 + 16624) && zeros b 484 15 && s.ownerGood (leNat b 483 1) && decide (sigFails (s.sec.ownerKeys.getD (leNat b 483 1) ([], [])) b 483 = 0)
    else decide (b.length = 483) || decide (b.length = 483 + 16624)
  let s := s.modSec fun c => { c with nonce := none }
  if ok then (s.modSec fun c => { c with ownerSet := setBit c.ownerSet slot true, ownerKeys := setAt c.ownerKeys slot (slice b 3 384, slice b 387 48) }).respond (vendorResponse [])
  else s.respond invalidRequest

/-- OWNER_REVOKE (R446): slot, UID, nonce, signature block. -/
def ownerRevoke (b : Bytes) (s : State) : State :=
  let slot := leNat b 2 1
  let k := leNat b 51 1
  let others := (upTo 4).any fun i => decide (i ≠ slot) && s.ownerGood i
  let ok := decide (slot < 4) && bit s.sec.ownerSet slot && others && decide (slice b 3 16 = s.gondola.uid) && s.nonceOk (slice b 19 32) && !s.safe &&
    decide (b.length = 51 + 16624) && zeros b 52 15 && s.ownerGood k && decide (sigFails (s.sec.ownerKeys.getD k ([], [])) b 51 = 0)
  let s := s.modSec fun c => { c with nonce := none }
  if ok then (s.modSec fun c => { c with ownerRevoked := setBit c.ownerRevoked slot true }).respond (vendorResponse []) else s.respond invalidRequest

/-- A vendor-defined request (R450). `signed`: what the signed response directly before it covered. -/
def spdmVendor (req : Bytes) (signed : Option Bytes) (s : State) : State :=
  match vendorPayload req with
  | none => s.respond (unsupportedRequest 0xFE)
  | some b => match leNat b 0 2 with
    | 1 => s.respond (vendorResponse (Config.certChain 1))
    | 2 => pqSignature signed s
    | 3 => getNonce s
    | 4 => ownerSet b s
    | 5 => ownerRevoke b s
    | _ => s.respond (unsupportedRequest 0xFE)

/-- A whole SPDM request reaches the security core (R449). -/
def spdmRequest (req : Bytes) (s : State) : State :=
  let c := spdmCode req
  let signed := s.sec.spdm.lastSigned
  if req.length < 4 then s.respond invalidRequest
  else if c = 0x84 then spdmVersion req s
  else if byteAt req 0 ≠ 0x13 then s.respond (spdmError 0x41 0)
  else if c = 0x86 then spdmChunkGet req s
  else
    let s := s.modSpdm fun p => { p with lastSigned := none, chunk := [] }
    match c with
    | 0xE1 => spdmCapabilities req s
    | 0xE3 => spdmAlgorithms req s
    | _ =>
      if s.sec.spdm.stage ≠ 3 then s.respond unexpectedRequest
      else match c with
      | 0x81 => spdmDigests req s
      | 0x82 => spdmCertificate req s
      | 0x83 => spdmChallenge req s
      | 0xE0 => spdmMeasurements req s
      | 0xFE => spdmVendor req signed s
      | n => s.respond (unsupportedRequest n)

/-- CHUNK_SEND: a large request in parts; the last part runs it, and its response follows in the acknowledgement (R449). -/
def spdmChunkSend (req : Bytes) (s : State) : State :=
  let p := s.sec.spdm
  let first := decide (leNat req 4 2 = 0)
  let h := if first then 16 else 12
  let n := leNat req 8 4
  let len := if first then leNat req 12 4 else p.inLen
  let buf := (if first then [] else p.inBuf) ++ slice req h n
  let last := bit (byteAt req 2) 0
  let bad := decide (p.stage ≠ 3) || decide (req.length < h) || decide (req.length ≠ h + n) || decide (65536 < len) || decide (len < buf.length) || (!first && (decide (leNat req 4 2 ≠ p.inSeq) || decide (byteAt req 3 ≠ p.inHandle))) || (last && decide (buf.length ≠ len)) || decide ((byteAt buf 1).toNat = 0x85)
  if bad then s.modSpdm fun p => { p with response := if p.stage ≠ 3 then unexpectedRequest else invalidRequest, inBuf := [], inSeq := 0, lastSigned := none }
  else
    let ack := spdmHead 0x05 0 (byteAt req 3).toNat ++ toLe (leNat req 4 2) 2
    if last then
      let s := spdmRequest buf (s.modSpdm fun p => { p with inBuf := [], inSeq := 0 })
      s.modSpdm fun p => { p with response := ack ++ p.response }
    else s.modSpdm fun p => { p with response := ack, inBuf := buf, inSeq := leNat req 4 2 + 1, inHandle := byteAt req 3, inLen := len }

/-- A message of Security Send (R449). -/
def spdm (req : Bytes) (s : State) : State :=
  if spdmCode req = 0x85 ∧ byteAt req 0 = 0x13 then spdmChunkSend req s
  else if 4096 < req.length then s.respond invalidRequest else spdmRequest req s

/-- A request as its row gives it: whole, whether one message or CHUNK_SENDs carried it (R449, log 161). -/
def spdmWhole (req : Bytes) (s : State) : State :=
  if 65536 < req.length then s.respond invalidRequest
  else if 4096 < req.length ∧ s.sec.spdm.stage ≠ 3 then s.respond unexpectedRequest
  else spdmRequest req s

/-- Security Send (R449). -/
def securitySend (id : CmdId) (secp : Byte) (data : Bytes) (s : State) : State :=
  if secp = 0xE8 then (spdm data s).answer id stOk else s.answer id stInvalidField

/-- Security Receive (R449): the list of protocols, or the response that waits. -/
def securityReceive (id : CmdId) (secp : Byte) (len : Nat) (s : State) : State :=
  if secp = 0 then s.answer id stOk 0 (([0, 0, 0, 0, 0, 0, 0, 2, 0x00, 0xE8] : Bytes).take len)
  else if secp = 0xE8 then (s.modSpdm fun p => { p with response := [] }).answer id stOk 0 (s.sec.spdm.response.take len)
  else s.answer id stInvalidField

/-! Debug unlock (R454) -/

/-- The token in DBG_TOKEN_BUF. -/
def State.token (s : State) : Bytes := Sparse.getRun 0 s.dbg.token 0 16752

/-- LAST_RESULT of a check (R454, R456). -/
def State.tokenResult (s : State) : Nat :=
  let b := s.token
  let kind := (byteAt b 0x38).toNat
  let k := (byteAt b 0x80).toNat
  let key := if kind = 1 then s.sec.ownerKeys.getD k ([], []) else Config.vendorKey k
  if leNat b 0 4 ≠ 0x54474244 ∨ leNat b 4 2 ≠ 1 ∨ 16 ≤ leNat b 6 2 ∨ 1 < kind ∨ !zeros b 0x39 71 ∨ 3 < k ∨ !zeros b 0x81 15 then 2
  else if slice b 0x18 32 ≠ s.sec.dbgNonce ∨ slice b 8 16 ≠ s.gondola.uid then 3
  else if decide (kind = 1) ≠ s.owned then 4
  else if (if kind = 1 then !s.ownerGood k else bit s.sec.vendorRevoked k) then 5
  else match sigFails key b 0x80 with
    | 0 => 1
    | 1 => 6
    | _ => 7

/-- A new SEC_DBG_NONCE (R454, R456). -/
def State.newNonce (s : State) : State :=
  let n := s.drawBytes 32
  n.2.modSec fun c => { c with dbgNonce := n.1 }

/-- DBG_CMD UNLOCK: the check begins, or is refused after 16 failures (R454). -/
def unlock (s : State) : State :=
  if s.dbg.checking then s
  else if 16 ≤ s.sec.fails then s.modSec fun c => { c with lastResult := 8 }
  else { s with dbg := { s.dbg with checking := true } }

/-- The check ends (R454): the port unlocks with SCOPE, or the failure counts; nonce and token buffer are replaced. -/
def tokenChecked (s : State) : State :=
  if !s.dbg.checking then s else
    let r := s.tokenResult
    let b := s.token
    let s : State := { s with dbg := { s.dbg with checking := false, token := [] } }
    let s := s.modSec fun c =>
      if r = 1 then { c with lastResult := 1, unlocked := true, scope := BitVec.ofNat 4 (leNat b 6 2), keyKind := decide (byteAt b 0x38 = 1), keySlot := BitVec.ofNat 2 (byteAt b 0x80).toNat, tokenHash := Config.sha384 b }
      else { c with lastResult := BitVec.ofNat 8 r, fails := min 16 (c.fails + 1) }
    s.newNonce

end Sys2Proof.Machine
end

