-- ==== Sys2Proof/Machine/Power.lean ====
section
/-! DEFINITION. Input, power-up, resets, Hold, sleep, throttles, sensors, adaptive loops (20; 13 R306, R308; 01 R26). -/

namespace Sys2Proof.Machine

def State.modPower (s : State) (f : Power → Power) : State := { s with power := f s.power }

/-- ALERT_N is asserted (21 R481). -/
def State.alert (s : State) : Bool := decide (s.drogue.state ≠ 0) || decide (s.phase = .recovery) || decide (s.phase = .stopped ∧ s.power.rail ≠ 0)

/-! A module stop: a module reset, or an input loss (R457, R460, R461; 13 R306; 14 R328; 08 R201; 10 R246) -/

/-- Will a record be found durable after the stop: its page is programmed, or its program runs and is let end (13 R308)? -/
def State.survives (s : State) (seq : Nat) : Bool :=
  s.media.journal.all fun (r : JRec) => !decide (r.seq = seq) || match r.job with
    | none => true
    | some j => s.media.jobs.any fun x => decide (x.id = j) && x.running

/-- Hosts, the group and the contexts end (R461; 10 R246; 17 R420). Copies held for others and the placement directory stay on the media (17 R400, R419). -/
def State.stopLinks (s : State) (cut : Bool) : State :=
  let h := s.host
  let s : State := { s with
    host := { completions := h.completions, telemetry := if cut then [] else h.telemetry, telSeq := if cut then 0 else h.telSeq, errors := if cut then [] else h.errors, errCount := if cut then 0 else h.errCount, orphans := h.orphans, smbus := h.smbus }
    tether := { ({} : Tether) with lanes := if cut then List.replicate 32 {} else s.tether.lanes.map fun (l : Lane) => ({ taps := l.taps, tuned := l.tuned } : Lane) }
    group := { heldCopies := s.group.heldCopies.filterMap (HeldCopy.kept fun q => s.survives q), outbox := s.group.outbox, places := s.group.places } }
  let s := s.openContexts.foldl (fun (s : State) i => s.freeCtx i false) s
  { s with library := { s.library with contexts := [] } }

/-- Refits: a durable home flag makes the new version live; everything else of them is garbage (08 R201). -/
def State.stopRefits (s : State) (alive : Nat → Bool) : State :=
  let live := fun (j : Refit) => decide (j.phase = .committed) || decide (j.phase = .retiring) || (decide (j.phase = .flag) && match j.flagSeq with | some q => alive q | none => false)
  let dead := s.library.refits.filter fun j => !live j
  let s := dead.foldl (fun (s : State) j => ((s.freeObjs [j.work, j.newWeights, j.newState]).releaseScale j).dropRefit j.job) s
  let s : State := { s with library := { s.library with refits := s.library.refits.map fun (j : Refit) => if j.phase = .retiring then j else { j with phase := .committed } } }
  s.refitTick.refitTick

/-- Models that are not loaded in full go; stores under way are garbage (10 R233; log 37). -/
def State.stopModels (s : State) : State :=
  let s := (s.library.models.filter fun m => decide (m.state ≠ 2)).foldl State.releaseModel s
  let w := s.library.waits.foldl (fun (l : List W64) x => l ++ x.addrs) []
  let s := s.freeObjs w
  { s with library := { s.library with waits := [], models := s.library.models.map fun (m : Model) => { m with waiter := none, added := m.added.filter fun a => !w.contains a } } }

/-- Shards wait for their replay (12 R273); insertions and filter changes whose commit is durable are replayed. -/
def State.stopSearch (s : State) (alive : Nat → Bool) : State :=
  let gone := s.search.shards.filter fun x => decide (x.state = 3)
  let s := gone.foldl (fun (s : State) x => s.freeObjs x.addrs) s
  let h := s.search
  let keep := h.shards.filter fun x => decide (x.state ≠ 3)
  let has := fun (i : W64) (k : W16) => keep.any fun x => decide (x.index = i) && decide (x.shard = k)
  -- a delete whose record is not durable has not been
  let undone := fun (i : W64) (k : W16) => (h.deletes.filter fun j => !alive j.seq && decide (j.index = i) && decide (j.shard = k)).foldl (fun (l : List Nat) j => l ++ j.nodes) []
  let keep := keep.map fun (x : Shard) => { x with nodes := (undone x.index x.shard).foldl (fun l n => let d := Sparse.get ({} : Node) l n; if d.state = 2 then Sparse.set {} l n { d with state := 1 } else l) x.nodes }
  { s with search := {
      shards := keep.map fun (x : Shard) => { x with state := 2, waiter := none }
      filters := (h.filters.filter fun f => has f.index f.shard).map fun (f : Filter) => { f with dying := none }
      filterGens := h.filterGens
      changes := h.changes.filter fun c => alive c.seq
      inserts := (h.inserts.filter fun j => alive j.seq && has j.index j.shard && !j.published).map fun (j : InsertJob) => { j with id := none }
      repairs := h.repairs.filter fun r => has r.index r.shard && !(undone r.index r.shard).contains r.node } }

/-- Namespaces: a change takes effect exactly when its record is durable (14 R320, R321); KEY_MODE 1 loses its key with the power (19 R452). -/
def State.stopNamespaces (s : State) (alive : Nat → Bool) (cut : Bool) : State :=
  s.media.namespaces.foldl (fun (s : State) (n : Namespace) =>
    let ok := alive n.commit
    if (n.creating.isSome && !ok) || (n.deleting.isSome && ok) then s.dropNs n
    else
      let s := match n.formatting with
        | some (_, lbaf) => if ok then (n.groups.foldl State.clearGroupMap s).modNs n.nsid fun n => { n with lbaf := lbaf, nsze := n.bytes / (if lbaf = 1 then 65536 else 4096) } else s
        | none => s
      let s := s.modNs n.nsid fun n => { n with creating := none, formatting := none, deleting := none }
      if cut && decide (n.keyMode = 1) then
        let s := n.groups.foldl State.clearGroupMap s
        s.modSec fun c => { c with keys := c.keys.map (fun (k : NsKey) => if k.nsid = n.nsid then { k with draw := c.draws } else k), draws := c.draws + 1 }
      else s) s

/-- The Reel: T0 and T1 are empty; KV objects and work buffers go; index pieces come back with the replay of their shards (R461; 14 R339). Marks go with the copies in T1. Heat outlives a module reset, that of remote pieces too (09 R209). -/
def State.stopReel (s : State) (cut : Bool) : State :=
  let gone := s.reel.objects.filter fun o => decide (o.kind = .kv) || decide (o.kind = .work)
  let s := s.freeObjs (gone.map fun o => s.addrOf o.ofs)
  { s with reel := {
      objects := s.reel.objects.map fun (o : Obj) => { o with marks := [], pieces := o.pieces.map fun (p : Piece) => { p with early := 0, inT1 := if p.inT2 && !p.primT1 then false else p.inT1, reads := 0, planned := 0, heat := if cut then 0 else p.heat } }
      cache := if cut then [] else s.reel.cache.map fun (c : Cached) => { addr := c.addr, piece := c.piece, tenant := c.tenant, heat := c.heat, held := false, len := 0 }
      rank := s.rank
      nextOfs := s.reel.nextOfs } }

/-- A cluster after a module reset: fuses, and the counts marked kept (07 R185). -/
def Cluster.atStart (k : Cluster) (cut : Bool) : Cluster :=
  let q := k.seq
  { tiles := k.tiles.map fun (t : Tile) => ({ repair := t.repair } : Tile)
    seq := if cut then {} else { commitCnt := q.commitCnt, discardCnt := q.discardCnt, rerunCnt := q.rerunCnt, wdogCnt := q.wdogCnt, lateCnt := q.lateCnt } }

/-- Security core: what lies in fuses and in the boot store stays; a new nonce is drawn at the start (19 R440 to R456). -/
def State.stopSec (s : State) : State :=
  let c := s.sec
  ({ s with sec := { slots := c.slots, nextSlot := c.nextSlot, lastBoot := c.lastBoot, minSvn := c.minSvn, vendorRevoked := c.vendorRevoked, ownerSet := c.ownerSet, ownerRevoked := c.ownerRevoked, ownerKeys := c.ownerKeys, keys := c.keys, draws := c.draws } } : State).newNonce

/-- Everything that a module reset or, with `cut`, an input loss ends (R461). -/
def State.moduleStop (s : State) (cut : Bool) : State :=
  let alive := fun n => s.survives n
  let s := ((s.stopLinks cut).stopRefits alive).stopModels
  let s := s.stopSearch alive
  let s := (s.stopMedia cut).stopNamespaces alive cut
  let s := s.stopReel cut
  let s := s.stopSec
  let d := s.drogue
  let p := s.power
  { s with
    loft := {}
    clusters := s.clusters.map fun (k : Cluster) => k.atStart cut
    sched := if cut then {} else { refusedCnt := s.sched.refusedCnt, droppedCnt := s.sched.droppedCnt }
    sparReset := false
    bridle := {}
    media := { s.media with ctrls := if cut then List.replicate 8 {} else s.media.ctrls.map fun (k : Ctrl) => { dsp := { err := k.dsp.err } }, channels := [], slotGroups := s.media.slotGroups }
    drogue := if cut then {} else { entrySource := d.entrySource, first := d.first, fatal := d.fatal, firstMore := d.firstMore, fatalMore := d.fatalMore, cntCorr := d.cntCorr, cntDefer := d.cntDefer, cntLocal := d.cntLocal, cntFatal := d.cntFatal, total := d.total, bites := d.bites }
    parity := {}
    gondola := { stepping := s.gondola.stepping, uid := s.gondola.uid, poh := s.gondola.poh }
    dbg := { answers := s.dbg.answers }
    power := if cut then { enable := p.enable, inputOk := p.inputOk, pwrFail := true, thermalTrip := p.thermalTrip, rail := p.rail, cause := p.cause, avsFactory := p.avsFactory, avsTrim := p.avsFactory, holdupBad := p.holdupBad }
      else { enable := p.enable, inputOk := p.inputOk, holdupOk := p.holdupOk, holdupBad := p.holdupBad, rail := p.rail, tempHigh := p.tempHigh, overCrit := p.overCrit, railBad := p.railBad, avsFactory := p.avsFactory, avsTrim := p.avsTrim, avsLearned := p.avsLearned, drooping := p.drooping } }

/-- The module reset (R460): the timer keeps its counters and the tick that is due; everything starts again (02 R31). -/
def State.resetModule (s : State) (cause : BitVec 4) : State :=
  if !s.powered then s else
    let s := s.moduleStop false
    let f := s.frame
    { s with phase := .starting, frame := { time := f.time, num := f.num, tickTime := f.tickTime, nextTick := f.nextTick }, power := { s.power with cause := cause } }

/-- MOD_RESET_N is low for `ns` (R460). -/
def modReset (ns : Nat) (s : State) : State := if ns < 10000 then s else s.resetModule 2

/-- Input loss (R457; 13 R308): the sequence runs, and the rails are removed. -/
def State.inputLoss (s : State) (next : Phase) : State :=
  if !s.powered then s else { s.moduleStop true with phase := next, frame := {} }

/-- The voltage reaches BOD_MV: journal dies finish their pulse and start none; BOD is set (13 R308). -/
def holdupFalls (s : State) : State :=
  if s.powered || !s.power.pwrFail then s
  else (upTo 16).foldl (fun (s : State) i => (upTo 8).foldl (fun (s : State) t => s.modDie (8 * (32 * (i / 2) + i % 2) + t) fun x => { x with bod := true }) s) s

/-! Input and power-up (R457, R458) -/

/-- PWR_EN is asserted with the input at `mv`. -/
def pwrAssert (mv : Nat) (s : State) : State :=
  if s.power.enable then s else
    let s := s.modPower fun p => { p with enable := true }
    match s.phase with
    | .off _ => { s with phase := if 38000 ≤ mv ∧ mv ≤ 56000 then .sequencing else .off true }
    | _ => s

/-- PWR_EN is deasserted: an input loss (R457); a stopped sequence may be tried anew (R458). -/
def pwrDeassert (s : State) : State :=
  if !s.power.enable then s else
    let s := s.modPower fun p => { p with enable := false }
    if s.powered then (s.modPower fun p => { p with thermalTrip := false }).inputLoss (.off false) else { s with phase := .off false }

/-- The input has stayed from 38 V to 56 V for 100 ms after it caused an input loss (R457). -/
def inputBack (s : State) : State := if s.phase = .off true ∧ s.power.enable then { s with phase := .sequencing } else s

/-- A rail does not reach regulation: the sequence stops (R458). Rails count from 1 in their order. -/
def railTimeout (rail : Nat) (s : State) : State :=
  if s.phase = .sequencing then { s.modPower fun p => { p with rail := BitVec.ofNat 4 (rail + 1) } with phase := .stopped } else s

/-- Power-good (R458; 02 R32): the counters start from 0. -/
def powerGood (s : State) : State :=
  if s.phase ≠ .sequencing then s else
    { s with
      phase := .starting
      frame := {}
      media := { s.media with health := { s.media.health with powerCycles := s.media.health.powerCycles + 1 } }
      power := { s.power with pwrFail := false, rail := 0, inputOk := true, cause := if s.power.thermalTrip then 5 else 1 } }

/-- The cap in force, W (R457). -/
def State.capW (s : State) : Nat :=
  let c := match s.loft.image with | none => 1400 | some i => i.powerCapW
  let v := s.power.voltage.toNat
  if 36000 ≤ v ∧ v < 38000 then min c (37 * v / 1000) else c

/-- POWER_CAP_W. -/
def State.capSet (s : State) : Nat := match s.loft.image with | none => 1400 | some i => i.powerCapW

/-- The sum of the newest `n` samples of input power, each over 1 µs, in units of 10 µW. -/
def State.energy (s : State) (n : Nat) : Nat := sumBy id (s.power.samples.take n)

/-- Is the average over the newest `n` µs above `pm` thousandths of the cap? -/
def State.above (s : State) (n pm : Nat) : Bool := decide (s.capW * 100000 * n * pm < s.energy n * 1000)

/-- A sample of the input, 1 µs after the one before (R457). -/
def inputSample (mv ma10 : Nat) (s : State) : State :=
  let s := s.modPower fun p => { p with voltage := BitVec.ofNat 16 mv, current := BitVec.ofNat 16 ma10 }
  if !s.powered then s else
    let s := s.advance (min s.frame.nextTick (s.frame.time + 1000))
    let s := s.modPower fun p => { p with
      inputOk := decide (36000 ≤ mv) && decide (mv ≤ 58000)
      lowRun := if mv < 36000 then p.lowRun + 1 else 0
      highRun := if 58000 < mv then p.highRun + 1 else 0
      samples := (mv * ma10 :: p.samples).take 1000 }
    if 5 ≤ s.power.lowRun ∨ 5 ≤ s.power.highRun then (s.modPower fun p => { p with thermalTrip := false, inputOk := false }).inputLoss (.off true) else s

/-- The hold-up test (R459). -/
def holdupTest (us : Nat) (s : State) : State :=
  if !s.powered then s else s.modPower fun p => { p with holdupOk := decide (28000 ≤ us), holdupBad := decide (us < 28000) }

/-! Temperature and supply (R470; 18 R434) -/

/-- The quiet period begins when the last condition of SOURCE 12h clears (18 R434). -/
def State.supplyCleared (s : State) (was : Bool) : State := if was && !s.supplyBad && s.safe then s.restartQuiet else s

/-- Readings of the eight sensors, in 0.125 °C (R468, R470): a critical one reports SOURCE 12h once, one 10 °C above trips the module. -/
def sensorSample (l : List W16) (s : State) : State :=
  if !s.powered then s else
    let was := s.supplyBad
    let old := s.power.overCrit
    let s := s.modPower fun p => { p with
      tempNow := l
      tempHigh := (p.tempHigh.zip l).map fun (x : W16 × W16) => if x.1.toInt < x.2.toInt then x.2 else x.1 }
    let s := s.modPower fun p => { p with
      softSrc := mkBits 8 fun k => match sensorSoft k with | none => false | some t => decide (8 * (t : Int) ≤ s.reading k)
      overCrit := mkBits 8 fun k => decide (8 * (sensorCritical k : Int) ≤ s.reading k) }
    let s := (upTo 8).foldl (fun (s : State) k => if bit s.power.overCrit k && !bit old k then s.report_ (mkFault 0x12 0x0B00) else s) s
    let s := s.supplyCleared was
    if (upTo 8).any fun k => decide (8 * (sensorCritical k + 10 : Int) ≤ s.reading k) then
      (s.modPower fun p => { p with thermalTrip := true }).inputLoss .stopped
    else s.warnEvents

/-- A rail leaves ±8% of its set point for 10 µs, or is back within it (R470). -/
def railOut (rail : Nat) (s : State) : State :=
  if !s.powered || bit s.power.railBad rail then s
  else (s.modPower fun p => { p with railBad := setBit p.railBad rail true }).report_ (mkFault 0x12 0x0B00)
def railBack (rail : Nat) (s : State) : State :=
  if !s.powered then s else
    let was := s.supplyBad
    (s.modPower fun p => { p with railBad := setBit p.railBad rail false }).supplyCleared was

/-! Throttles (R467 to R469; 01 R26) -/

/-- Clusters that have not yet taken the target; sleeping ones take it when they wake (R464, R468). -/
def State.lagging (s : State) : BitVec 8 := mkBits 8 fun c => !(s.clusterAt c).asleep && decide ((s.clusterAt c).level ≠ s.power.target)

/-- A soft step in force on a cluster of a contract's slots is a cause of its requests' lateness (11 R263, R265). -/
def State.noteThrottle (s : State) : State :=
  let slow := fun (c : Nat) => (decide ((s.clusterAt c).level ≠ 0) || (decide (s.power.target ≠ 0) && !(s.clusterAt c).asleep) : Bool)
  s.noteCause 0 fun (r : Request) => decide (r.cls = 0) && match s.loft.image, s.contractFor r.contract with
    | some i, some (_, k) => (i.workClusters k).any slow
    | _, _ => false

/-- A new target (R468): idle clusters take it at once, the others at their next pass boundary; source 22 says so (07 R180). -/
def State.setTarget (s : State) (n : BitVec 3) : State :=
  let s := s.modPower fun p => { p with target := n, softCnt := satInc p.softCnt, lastStep := s.frame.time }
  ({ s with clusters := s.clusters.map fun (k : Cluster) => if k.asleep then k else if k.seq.run.isSome then k.pend (BitVec.ofNat 64 (2 ^ 22)) else { k with level := n } } : State).noteThrottle

def softDown (s : State) : State :=
  if s.powered && (s.above 50 1000 || decide (s.power.softSrc ≠ 0)) && decide (s.lagging = 0) && decide (s.power.target ≠ 7) then s.setTarget (s.power.target + 1) else s

/-- Is a sensor within 5 °C of its soft threshold, or above it? -/
def State.nearSoft (s : State) : Bool := (upTo 8).any fun k => match sensorSoft k with | none => false | some t => decide (8 * ((t : Int) - 5) ≤ s.reading k)

def softUp (s : State) : State :=
  if s.powered && !s.above 1000 900 && !s.above 50 900 && !s.nearSoft && decide (s.power.lastStep + 1000000 ≤ s.frame.time) && decide (s.power.target ≠ 0) then s.setTarget (s.power.target - 1) else s

/-- Sensors 0 and 1 against their hard thresholds less `d` °C. -/
def State.hardHot (s : State) (d : Nat) : Bool := [0, 1].any fun k => match sensorHard k with | none => false | some t => decide (8 * ((t : Int) - d) ≤ s.reading k)

/-- Does a condition of the hard throttle hold (R469)? -/
def State.mustFreeze (s : State) : Bool := decide (s.capW * 100000 * 1000 ≤ s.energy 1000) || s.hardHot 0

/-- Clusters whose clocks a freeze stops. -/
def State.awake (s : State) : BitVec 8 := mkBits 8 fun c => !(s.clusterAt c).asleep

/-- A freeze of some clusters in the frame that runs: an overrun of the frame, FROZEN for their passes, a cause for the class A requests (02 R45; 07 R175; 11 R263). -/
def State.chargeStop (s : State) (m : BitVec 8) : State :=
  if m = 0 then s else
    let s : State := { s with clusters := s.clusters.zipIdx.map fun (x : Cluster × Nat) => if bit m x.2 then x.1.noteRun fun (r : Running) => { r with ev := { r.ev with frozen := true } } else x.1 }
    (s.noteCause 1 fun (r : Request) => decide (r.cls = 0)).frameOverrun m true false

def State.chargeFreeze (s : State) : State := s.chargeStop s.awake

/-- Clusters halted through the debug port: their time is charged as frozen time (21 R493). -/
def State.chargeHalts (s : State) : State := s.chargeStop (mkBits 8 fun c => (s.clusterAt c).halted)

def hardThrottle (s : State) : State :=
  if s.powered && !s.power.frozen && !s.safe && !s.sparReset && !s.inHold && s.mustFreeze then
    (s.modPower fun p => { p with frozen := true, frozenFrom := s.frame.time, freezeCnt := satInc p.freezeCnt }).chargeFreeze
  else s

/-- FREEZE_END (R469): power at 0.98 of the cap or below, sensors 5 °C below their thresholds. -/
def freezeEnd (s : State) : State :=
  if s.power.frozen && !s.above 1000 980 && !s.hardHot 5 then (s.endFreeze).raiseAll 3 else s

/-! Adaptive loops (R472, R473) -/

/-- A trim moves by a step of 5 mV, within −60 mV and +30 mV. -/
def State.stepTrim (s : State) (g : Nat) (up : Bool) : State :=
  let t := (s.power.avsTrim.getD g 0).toInt
  let n := if up then min 6 (t + 1) else max (-12) (t - 1)
  s.modPower fun p => { p with avsTrim := setAt p.avsTrim g (BitVec.ofInt 8 n), avsLearned := if n = t then p.avsLearned else setBit p.avsLearned g true, avsGood := setAt p.avsGood g 0 }

/-- One millisecond of the loop for tile group `g`: margin in steps, its cluster's stretched cycles in thousandths. -/
def avsGroup (s : State) (g margin pm : Nat) : State :=
  if (s.clusterAt (g / 2)).asleep then s
  else if margin = 0 ∨ 10 < pm then
    let top := decide (s.power.avsTrim.getD g 0 = 6)
    let s := s.stepTrim g true
    if top ∧ margin = 0 then s.report_ (mkFault 0x11 0x0B00) else s
  else if 2 ≤ margin then
    let n := s.power.avsGood.getD g 0 + 1
    if 64 ≤ n then s.stepTrim g false else s.modPower fun p => { p with avsGood := setAt p.avsGood g n }
  else s.modPower fun p => { p with avsGood := setAt p.avsGood g 0 }

def avsLoop (margins pm : List Nat) (s : State) : State :=
  if !s.powered || s.inHold || s.sparReset then s
  else (upTo 16).foldl (fun (s : State) g => avsGroup s g (margins.getD g 0) (pm.getD (g / 2) 0)) s

/-- A tile group's rail falls 40 mV below its target, or has recovered (R473). -/
def droop (g : Nat) (s : State) : State :=
  if !s.powered || bit s.power.drooping g || (s.clusterAt (g / 2)).asleep then s
  else s.modPower fun p => { p with drooping := setBit p.drooping g true, droopCnt := satInc p.droopCnt }
def droopEnd (g : Nat) (s : State) : State := s.modPower fun p => { p with drooping := setBit p.drooping g false }

/-! Array Sleep (R463, R464; 07 R183) -/

/-- The table in force gives the cluster a class A slot. -/
def State.holdsA (s : State) (c : Nat) : Bool :=
  match s.loft.image with
  | none => false
  | some i => i.rows.any fun r => r.slots.any fun l => decide (l.cls = 0) && decide (0 < l.len) && bit l.clusters c

/-- A queued pass lists the cluster. -/
def State.listed (s : State) (c : Nat) : Bool := s.sched.entries.any fun e => decide (e.phase = .queued) && e.d.onCluster c

/-- The conditions of R464. -/
def State.mayDoze (s : State) (c : Nat) : Bool :=
  let k := s.clusterAt c
  !s.stopped c && k.seq.run.isNone && decide (64 ≤ k.idleFrames) && !s.listed c && !s.holdsA c

def sleepReq (c : Nat) (s : State) : State := if s.mayDoze c then s.raise c 23 else s

/-- The cluster saves its controller and sleeps; T0 is lost, its flip-masks are cleared (07 R183; 18 R424). -/
def sleepEnter (c : Nat) (s : State) : State :=
  if s.mayDoze c && !(s.clusterAt c).ic.busy then
    (s.modCluster c fun k =>
      { k.sleepT0 with asleep := true, ic := { k.ic with retPend := k.ic.pend, retEn := k.ic.en, retTaken := k.ic.taken, latched := 0 } }).parDisarm (parOfCluster c)
  else s

/-- An enabled event, a pass, or a class A slot of the image in force wakes the cluster (07 R183; R464). -/
def sleepWake (c : Nat) (s : State) : State :=
  let k := s.clusterAt c
  if k.asleep && (decide (k.ic.latched &&& k.ic.retEn ≠ 0) || s.listed c || s.holdsA c) then
    (s.modCluster c fun k => { k with
      asleep := false, level := s.power.target, idleFrames := 0
      ic := { k.ic with pend := k.ic.retPend ||| k.ic.latched, en := k.ic.retEn, taken := k.ic.retTaken, latched := 0 } }).modPower fun p => { p with wakes := satInc p.wakes }
  else s

/-! Hold (R465, R466) -/

/-- A write of PWR_HOLD_SET. -/
def holdSet (v : W32) (s : State) : State :=
  if !bit v 0 ∨ s.phase ≠ .up ∨ s.power.hold ≠ .none then s
  else
    let no := fun (n : BitVec 4) => s.modPower fun p => { p with holdRefused := n }
    if s.safe then no 2
    else if s.bare then no 1
    else if s.inGroup && decide (s.group.state ≠ 5) then no 3
    else s.modPower fun p => { p with hold := .asked }

/-- A write of PWR_HOLD_CLR: Hold ends; waiting commands run (R465). -/
def holdClr (v : W32) (s : State) : State :=
  if !bit v 0 ∨ s.power.hold = .none then s else (s.modPower fun p => { p with hold := .none }).settle

/-- Does nothing run any more: no pass, no program, no erase? -/
def State.quietMedia (s : State) : Bool :=
  s.clusters.all (fun k => k.seq.run.isNone) && s.media.jobs.isEmpty && s.media.dies.all fun (e : Nat × Die) => e.2.op.isNone

/-- Hold proceeds (R465): step 1 at a tick, then as what runs ends. -/
def State.holdTick (s : State) : State :=
  match s.power.hold with
  | .asked =>
    let s := s.reel.moves.foldl (fun (s : State) m => s.abortMove m true) s
    s.modPower fun p => { p with hold := .ending }
  | .ending => if s.quietMedia then (s.flushMedia true).kick.modPower fun p => { p with hold := .flushing } else s
  | .flushing =>
    if s.quietMedia && s.media.flushing.isNone then
      { s.modPower fun p => { p with hold := .held } with clusters := s.clusters.map Cluster.sleepT0 }
    else s
  | _ => s

/-- A fault reaches the Drogue (18 R425, R437): SOURCE 15h resets the module. -/
def State.fault (s : State) (f : FaultIn) : State := if f.source = 0x15 then (s.record .moduleFatal f).resetModule 4 else s.report_ f

/-- No management core has written for 100 ms (18 R437). -/
def watchdog (s : State) : State := if s.coresSilent then s.fault (mkFault 0x15 0x0C00 5) else s

end Sys2Proof.Machine
end

