-- ==== Sys2Proof/Machine/Upkeep.lean ====
section
/-! DEFINITION. What the Envelope reports: programs, erases and reads that end, dies that fail, flushes, reclamation, scrub, the rebuild at a start (13 R294 to R310; 14 R326 to R341). -/

namespace Sys2Proof.Machine

/-! Failed dies (13 R296, R303; 14 R338) -/

/-- A report about a die (18 R429): SPACE 3, ROW and DIE words. -/
def dieFault (d row : Nat) : FaultIn :=
  { source := 0x0A, master := BitVec.ofNat 16 (0x600 + dieCtrl d), access := 4, space := 3, addr := BitVec.ofNat 32 row
    addrHi := BitVec.ofNat 32 (dieCtrl d * 2 ^ 29 + dieTarget d * 32 + dieChan d % 32) }

/-- A die fails: the report, and its removal (R338). -/
def State.dieFails (s : State) (d : Nat) : State := if s.dieFailed d then s else s.report_ (dieFault d 0)

/-- 32 of a die's blocks retired within 168 power-on hours fail it (R338). -/
def State.countDie (s : State) (d : Nat) : State := if 32 ≤ ((s.dieAt d).retiredAt.filter fun t => decide (s.gondola.poh.toNat ≤ t + 168)).length then s.dieFails d else s

/-- A channel passed training at no setting: one report, and its eight dies are removed (13 R296). -/
def State.channelFails (s : State) (ch : Nat) : State :=
  let s := s.report_ (dieFault (8 * ch) 0)
  (upTo 8).foldl (fun (s : State) t =>
    let d := 8 * ch + t
    if (s.dieAt d).failed then s
    else if s.safe then s.modDrogue fun g => { g with waiting := if g.waiting.contains (.dieRemoved d) then g.waiting else g.waiting ++ [.dieRemoved d] }
    else s.removeDie d) s

/-- A controller trains its channels (13 R296). -/
def State.train (s : State) (n : Nat) (rates : List (BitVec 3)) : State :=
  let bad := ((upTo 32).map fun k => 32 * n + k).filter fun ch => (settingOf (rates.getD (ch % 32) 0).toNat).1 = 0 ∧ (upTo 8).any fun t => !(s.dieAt (8 * ch + t)).failed
  bad.foldl State.channelFails (s.trainCtrl n rates)

/-- An Envelope controller's reset has ended: its channels have trained (20 R460). -/
def envResetEnds (n : Nat) (rates : List (BitVec 3)) (s : State) : State :=
  if !(s.ctrlAt n).inReset then s else (((s.train n rates).modCtrl n fun k => { k with ready := true, inReset := false })).settle

/-! Programs, erases, reads -/

/-- In the safe state the journal writes the erase-end records, and nothing else (18 R431, R432). -/
def State.writeNow (s : State) (n : Nat) : State :=
  { s with media := { s.media with
    jobs := s.media.jobs.filter fun (j : ProgJob) => decide (j.id < n)
    journal := s.media.journal.map fun (r : JRec) => match r.job with | some j => if n ≤ j then { r with job := none } else r | none => r } }

/-- A program pass ends (13 R306, R307). -/
def programEnds (job : Nat) (fail : Bool) (s : State) : State :=
  match s.media.jobs.find? fun j => decide (j.id = job) && j.running with
  | none => s
  | some j => ((s.passEnds j fail).countDie j.at_.die).settle

/-- An erase ends (13 R304). -/
def eraseEnds (d : Nat) (fail : Bool) (s : State) : State :=
  match (s.dieAt d).op with
  | none => s
  | some o =>
    if o.code ≠ 4 then s else
      let n := s.media.nextJob
      let q := s.eraseEnds d fail
      let q := if s.safe then q.writeNow n else q
      (q.countDie d).settle

/-- Bytes through a staging group: an armed mask spoils them, and they are delivered with a mark (18 R422, R423). -/
def State.staged (s : State) (g : Nat) : Bool × State :=
  if Sparse.get (0 : W32) s.parity.masks g = 0 then (false, s)
  else
    let r := (s.parWrite g 0 64).parRead g 0 64
    (r.1, { r.2 with parity := { r.2.parity with bad := Sparse.clearRange r.2.parity.bad (g * 2 ^ 32) (g * 2 ^ 32 + 64) } })

/-- A read of a unit for a namespace command ends at step `step` of the ladder (13 R310; 14 R338). -/
def flashReadEnds (l step : Nat) (s : State) : State :=
  match s.recordAt (l / 2) (s.mapAt (l / 2)) with
  | none => s
  | some r =>
    if !(s.media.reads.any fun x => x.slots.contains l) then s
    else if s.sparReset || s.inHold then s
    else if s.dieFailed r.die then (s.slotRead l false).settle
    else if !s.dieReads r.die || !s.ladderOk r.die r.block step then s
    else
      let q := (s.ladder r.die r.block step).staged (0xC0 + dieCtrl r.die)
      let s := if 1 ≤ step ∧ step < 5 then q.2.corrected else q.2
      let bad := (decide (step = 5) && !s.hasCopy l) || q.1
      let s := if step = 5 ∧ s.hasCopy l then (s.writePart 3 false .recovery [(r.stripe, (r.unit0, r.unit1))]).2 else s
      (s.slotRead l bad).settle

/-- Longest time of a die operation, ns (13 R294). -/
def opNs (code : BitVec 3) : Nat :=
  match code.toNat with
  | 1 => 40000
  | 2 => 100000
  | 3 => 300000
  | 4 => 3200000
  | 5 => 150000
  | _ => 0

/-- A die is not ready 10 ms after the longest time of its operation (R338). -/
def dieTimeout (d : Nat) (s : State) : State :=
  match (s.dieAt d).op with
  | none => s
  | some o => if o.start + opNs o.code + 10000000 ≤ s.frame.time then (s.dieFails d).settle else s

/-- A calibration read (13 R309). -/
def calibrationRead (d b : Nat) (l : List Byte) (s : State) : State :=
  if s.dieReads d && !s.dieFailed d && decide (b < 2752) && (decide ((s.blkAt d b).state = .open_) || decide ((s.blkAt d b).state = .closed)) then s.setLevels d b l else s

/-! Class D work: flush, reclamation, scrub, temperature history -/

/-- Class D media work runs: an image is in force, and neither the safe state nor Hold stops it (03 R56; 18 R432; 20 R465). -/
def State.classD (s : State) : Bool := decide (s.phase = .up) && !s.bare && !s.safe && !s.holding

/-- A flush is due (14 R326). -/
def flushDue (s : State) : State :=
  if s.classD && (decide (s.media.flushFrame + 64 ≤ s.frame.num.toNat) || decide (268435456 ≤ s.media.durableBytes)) then (s.flushMedia false).settle else s

/-- Reclamation on a die (14 R330, R331): from fewer than 6 free blocks up to 12. -/
def gcStart (d : Nat) (bad : List Nat) (s : State) : State :=
  if !s.classD then s else
    let n := s.freeCount d
    let l := if n < 6 then (if s.media.collecting.contains d then s.media.collecting else s.media.collecting ++ [d]) else if 12 ≤ n then s.media.collecting.filter fun x => decide (x ≠ d) else s.media.collecting
    let s : State := { s with media := { s.media with collecting := l } }
    (s.gcBegin d bad).settle

/-- Collections of controller `n` whose copies are verified are committed (14 R331). -/
def gcCommit (n : Nat) (s : State) : State :=
  if s.safe || !s.powered then s
  else ((s.media.gcs.filter fun g => decide (dieCtrl g.die = n) && g.flag.isNone && s.gcVerified g).foldl State.gcWriteFlag s).settle

/-- A codeword read by scrub (14 R332, R334): past step 2 its block is refreshed; an uncorrectable one is fetched from a copy, or lost. -/
def scrub (d b cw step : Nat) (s : State) : State :=
  if !s.classD || !s.dieReads d || s.dieFailed d || !s.ladderOk d b step || decide ((s.blkAt d b).state ≠ .closed) then s
  else match s.media.records.find? fun r => decide (r.die = d) && decide (r.block = b) && decide (r.cw ≤ cw) && decide (cw < r.cw + r.ncw) && decide (s.mapAt r.stripe = r.word) with
    | none => s
    | some r =>
      let s := s.ladder d b step
      let s := if 1 ≤ step ∧ step < 5 then s.corrected else s
      if step ≠ 5 then s.settle
      else
        let gone := (r.unitsAt (cw - r.cw)).filter fun u => !s.hasCopy (2 * r.stripe + u)
        let s := gone.foldl (fun (s : State) u => s.markLost (2 * r.stripe + u)) s
        let s := if gone.isEmpty then s else s.journalMap [r.stripe]
        match s.recordAt r.stripe (s.mapAt r.stripe) with
        | none => s.settle
        | some q => ((s.writePart 3 false .recovery [(r.stripe, (q.unit0, q.unit1))]).2).settle

/-- A sample of the temperature history (14 R341). -/
def tempSample (s : State) : State :=
  if !s.powered then s else
    let i := min 63 ((s.reading 3 + 80) / 16).toNat
    s.modHealth fun h => { h with tempHist := Sparse.set 0 h.tempHist i (satInc (Sparse.get (0 : W32) h.tempHist i)) }

/-! The rebuild (14 R327 to R329) -/

/-- A die at a start: its calibration row (13 R303), its brown-out detector read and reset (13 R308). -/
def startDie (rb : RebuildIn) (s : State) (d : Nat) : State :=
  let both := rb.calBothBad.contains d
  let bod := (s.dieAt d).bod || (isJournalDie d && rb.bodDies.contains d)
  let n := dieCtrl d
  let s := if bod then s.modCtrl n fun k => { k with bodCnt := satInc k.bodCnt } else s
  let s := s.modDie d fun x => { x with calOk := !both, calCopy := !both && rb.calFirstBad.contains d, bod := false, sw := 0x8000 }
  if both then s.dieFails d else s

/-- Erase-uncertain blocks are counted and wait for their re-erase (13 R305; 14 R336); open blocks are abandoned (R329). -/
def startBlock (s : State) (e : Nat × Blk) : State :=
  let d := e.1 / 2752
  let b := e.1 % 2752
  match e.2.state with
  | .uncertain =>
    let s := s.modCtrl (dieCtrl d) fun k => { k with eraseUncCnt := satInc k.eraseUncCnt }
    { s with media := { s.media with eraseQueue := s.media.eraseQueue ++ [(d, b)] } }
  | .open_ => ((s.journal (.blockEvt d b 4 0)).2).modBlk d b fun x => { x with state := .closed, closedPoh := s.gondola.poh.toNat }
  | _ => s

/-- Records in wordlines that were not verified are rewritten to new blocks, and one MAP record commits the rewrites (R329 step 2; log 127). -/
def State.rewriteCut (s : State) : State :=
  let l := s.media.records.filter fun r => decide (s.mapAt r.stripe = r.word) && decide ((s.blkAt r.die r.block).state = .open_) && !(wlsOf r.die r.block r.cw r.ncw).all s.media.verified.contains
  let s := (l.foldl State.rewriteRec { s with media := { s.media with verified := [] } }).journalMap (l.map (·.stripe))
  { s with media := { s.media with verified := (s.media.records.filter fun r => decide ((s.blkAt r.die r.block).state = .open_) && s.media.openBlk.any fun o => decide (o.1 = r.die) && decide (o.2.1 = r.block)).foldl (fun v r => v ++ wlsOf r.die r.block r.cw r.ncw) [] } }

/-- A die's factory bad blocks, from its calibration row (13 R303). -/
def Die.badBlocks (x : Die) : List Nat := if x.calOk then (upTo (min 960 (leNat x.calRow 6 2))).map fun i => leNat x.calRow (0x100 + 4 * i) 4 % 4096 else []

/-- The factory bad blocks of a die are retired (R335). -/
def startBad (s : State) (e : Nat × Die) : State :=
  e.2.badBlocks.foldl (fun (s : State) b => if b < 2752 ∧ (s.blkAt e.1 b).state ≠ .retired then s.modBlk e.1 b fun x => { x with state := .retired } else s) s

/-- The firmware's start ends in the bare state (03 R56; 14 R327; 19 R443). -/
def rebuild (rb : RebuildIn) (s : State) : State :=
  if s.phase ≠ .rebuilding then s else
    let s := (upTo 8).foldl (fun (s : State) n => s.train n ((rb.rates.drop (32 * n)).take 32)) s
    let s := (upTo 2048).foldl (startDie rb) s
    let s := s.media.dies.foldl startBad s
    let s := s.media.dies.foldl (fun (s : State) e => s.countDie e.1) s
    let s : State := { s with media := { s.media with seq := s.media.seq - 1 + 2 ^ 24 } }
    let s : State := { s with media := { s.media with ctrls := s.media.ctrls.map fun (k : Ctrl) => { k with ready := true, hold := s.safe } } }
    let blocks := s.media.blocks
    let s := rb.lostSlots.foldl State.markLost s
    let s := s.rewriteCut
    let s := blocks.foldl startBlock s
    let s := s.modHealth fun h => { h with rebuildMs := rb.ms, parityRepairs := h.parityRepairs + rb.repaired, segmentLost := h.segmentLost || rb.segmentLost, unsafe_ := if s.media.flushNum ≠ 0 ∧ !s.media.clean then h.unsafe_ + 1 else h.unsafe_ }
    let s := ({ s with media := { s.media with flushFrame := s.frame.num.toNat, durableBytes := 0, flushing := some false } } : State).flushRest
    let s : State := { s with phase := .up, media := { s.media with jobs := [], journal := [] } }
    s.fuseFirmware.loadHandlers

/-- An index shard has replayed (12 R273). -/
def shardReplay (index : W64) (shard : W16) (s : State) : State :=
  if s.phase ≠ .up then s
  else match s.shardFor index shard with
    | none => s
    | some x => if x.state = 2 then s.modShard index shard fun x => { x with state := 1 } else s

end Sys2Proof.Machine
end

