-- ==== Sys2Proof/Machine/Window.lean ====
section
/-! DEFINITION. The register window: the block map, what every register reads, what a write does, unavailable blocks (22; the register tables of 02 to 21). -/

namespace Sys2Proof.Machine

/-- The blocks of the window (R499). -/
inductive WinBlock where
  | gon
  | frm
  | sch
  | spc (n : Nat)
  | qry
  | rel
  | par
  | env (n : Nat)
  | tet (p : Nat)
  | brd
  | drg
  | pwr
  | sec
  | dbg
  deriving DecidableEq, Repr

/-- The block of an address and the offset in it (R499); none where the address is unmapped. -/
def winBlock (a : Nat) : Option (WinBlock × Nat) :=
  if a < 0x00100000 then some (.gon, a)
  else if a < 0x00200000 then some (.frm, a - 0x00100000)
  else if a < 0x00300000 then some (.sch, a - 0x00200000)
  else if a < 0x01000000 then none
  else if a < 0x01200000 then some (.spc ((a - 0x01000000) / 0x40000), (a - 0x01000000) % 0x40000)
  else if a < 0x01400000 then none
  else if a < 0x01500000 then some (.qry, a - 0x01400000)
  else if a < 0x01800000 then none
  else if a < 0x01900000 then some (.rel, a - 0x01800000)
  else if a < 0x01C00000 then none
  else if a < 0x01D00000 then some (.par, a - 0x01C00000)
  else if a < 0x02000000 then none
  else if a < 0x02800000 then some (.env ((a - 0x02000000) / 0x100000), (a - 0x02000000) % 0x100000)
  else if a < 0x03000000 then none
  else if a < 0x03080000 then some (.tet ((a - 0x03000000) / 0x10000), (a - 0x03000000) % 0x10000)
  else if a < 0x03100000 then none
  else if a < 0x03200000 then some (.brd, a - 0x03100000)
  else if a < 0x04000000 then none
  else if a < 0x04100000 then some (.drg, a - 0x04000000)
  else if a < 0x05000000 then none
  else if a < 0x05100000 then some (.pwr, a - 0x05000000)
  else if a < 0x06000000 then none
  else if a < 0x06100000 then some (.sec, a - 0x06000000)
  else if a < 0x07000000 then none
  else if a < 0x07100000 then some (.dbg, a - 0x07000000)
  else none

/-- A register of fields: each with its lowest bit. -/
def pack (l : List (Nat × Nat)) : W32 := BitVec.ofNat 32 (sumBy (fun x : Nat × Nat => x.2 * 2 ^ x.1) l)

/-- A word with bit `i` for each `i` below `n` with `f i`. -/
def maskOf (n : Nat) (f : Nat → Bool) : Nat := sumBy (fun i => if f i then 2 ^ i else 0) (upTo n)

/-! Reads, block by block -/

/-- The frame at whose tick the pending image takes effect; 0 with none pending (03 R81). -/
def State.pendFrame (s : State) : Nat :=
  match s.loft.pending with
  | none => 0
  | some p => if p.mode = 1 then p.actFrame.toNat else (s.groupFrame + 1).toNat

/-- GON (03 R81, 17 R420, R509). -/
def State.gonReg (s : State) (o : Nat) : W32 :=
  let g := s.gondola
  let f := s.loft
  let r := s.group
  match o with
  | 0x00 => pack [(16, 0x0C1A), (8, 9), (0, g.stepping.toNat)]
  | 0x10 => le 32 g.uid 0
  | 0x14 => le 32 g.uid 4
  | 0x18 => le 32 g.uid 8
  | 0x1C => le 32 g.uid 12
  | 0x20 => lo32 g.fwVersion.toNat
  | 0x24 => hi32 g.fwVersion.toNat
  | 0x28 => g.poh
  | 0x30 => pack [(16, g.winMaster.toNat), (4, b2n g.winValid), (0, g.winCause.toNat)]
  | 0x34 => g.winBadAddr
  | 0x38 => g.winBadCnt
  | 0x100 => match f.image with
    | none => pack [(4, b2n f.checking.isSome), (3, b2n f.pending.isSome), (0, f.last.toNat)]
    | some i => pack [(16, i.schema), (6, b2n i.signed), (5, 1), (4, b2n f.checking.isSome), (3, b2n f.pending.isSome), (0, f.last.toNat)]
  | 0x104 => pack [(16, f.detail.toNat), (0, f.reason.toNat)]
  | 0x108 => match f.image with | some i => lo32 i.imageId | none => 0
  | 0x10C => match f.image with | some i => hi32 i.imageId | none => 0
  | 0x110 => if f.image.isSome then lo32 f.actFrame.toNat else 0
  | 0x114 => if f.image.isSome then hi32 f.actFrame.toNat else 0
  | 0x118 => lo32 s.pendFrame
  | 0x11C => hi32 s.pendFrame
  | 0x120 => f.count
  | 0x200 => pack [(16, match s.loft.image with | some i => i.rank | none => 0), (9, b2n r.declared), (8, b2n r.duplicate), (7, b2n r.noBeacon), (6, b2n r.running), (4, r.act.toNat), (0, r.state.toNat)]
  | 0x204 => pack [(24, r.pendSchema), (16, r.pendLevel), (8, r.schema), (0, r.level)]
  | 0x208 => lo32 r.epoch
  | 0x20C => hi32 r.epoch
  | 0x210 => pack [(16, s.memberRanks.length), (0, (r.failed.filter fun n => decide (n < r.expected)).length)]
  | 0x214 => r.declCnt
  | 0x218 => pack [(29, r.lastCause.toNat), (16, r.lastRank.toNat), (0, r.lastFrame.toNat)]
  | _ => 0

/-- FRM (02 R53, R54). -/
def State.frmReg (s : State) (o : Nat) : W32 :=
  let f := s.frame
  match o with
  | 0x00 => pack [(0, f.periodUs)]
  | 0x04 => pack [(4, b2n s.heldBit), (3, b2n s.loft.image.isSome), (0, f.syncState.toNat)]
  | 0x08 => lo32 f.num.toNat
  | 0x0C => hi32 f.num.toNat
  | 0x10 => lo32 f.grpOfs.toNat
  | 0x14 => hi32 f.grpOfs.toNat
  | 0x18 => match s.loft.image with | some i => pack [(16, i.rows.length), (0, f.rowIdx)] | none => 0
  | 0x20 => lo32 f.time
  | 0x24 => hi32 f.time
  | 0x30 => match s.loft.image with
    | some i => pack [(27, b2n i.outEn), (16, i.outDiv), (2, i.inDiv), (0, i.src)]
    | none => pack [(16, 1), (2, 1)]
  | 0x34 => f.phaseErr
  | 0x40 => f.ovrCnt
  | 0x44 => f.slotOvrCnt
  | 0x48 => pack [(24, f.lastOvrClusters.toNat), (23, b2n f.lastOvrFreeze), (22, b2n f.lastOvrLate), (0, f.lastOvrFrame.toNat)]
  | 0x50 => f.evt.zeroExtend 32
  | _ => 0

/-- A contract's registers (11 R267). -/
def State.ctReg (s : State) (i r : Nat) : W32 :=
  match s.sched.contracts[i]? with
  | none => 0
  | some e =>
    let window := match s.loft.image with | some m => (match m.contracts[i]? with | some c => c.window | none => 1) | none => 1
    match r with
    | 0x00 => pack [(0, e.id)]
    | 0x04 => pack [(16, e.inWindow window s.frame.num.toNat), (0, e.queued)]
    | 0x08 => e.admitCnt
    | 0x0C => e.refuseCnt
    | 0x10 => e.lateCnt
    | 0x14 => pack [(16, e.lastLateFrame.toNat), (0, e.lastLateCause.toNat)]
    | 0x18 => pack [(0, e.cap)]
    | 0x1C => e.maxLat.zeroExtend 32
    | _ => 0

/-- Passes of a class in the dispatcher's queues (07 R185). -/
def State.queuedIn (s : State) (cls : Nat) : Nat :=
  (s.sched.entries.filter fun (e : PassEntry) => e.waits && decide (e.d.ownerKey.1 = cls)).length

/-- SCH (07 R185, 11 R267). -/
def State.schReg (s : State) (o : Nat) : W32 :=
  let d := s.sched
  match o with
  | 0x00 => pack [(16, s.queuedIn 1), (0, s.queuedIn 0)]
  | 0x04 => pack [(16, s.queuedIn 3), (0, s.queuedIn 2)]
  | 0x10 => d.refusedCnt
  | 0x14 => d.droppedCnt
  | 0x18 => d.lastRefused
  | 0x20 => d.switchCnt
  | 0x24 => d.bMissCnt
  | _ => if 0x1000 ≤ o ∧ o < 0x3000 then s.ctReg ((o - 0x1000) / 0x20) (o % 0x20) else 0

/-- A STATE field: 4 asleep or in Hold, 3 frozen or halted, otherwise as the unit stands (05 R127, 21 R493, R506). -/
def State.stateCode (s : State) (c n : Nat) : Nat :=
  let k := s.clusterAt c
  if k.asleep || s.inHold then 4 else if s.power.frozen || k.halted then 3 else n

/-- A tile's registers (05 R130). -/
def State.mtReg (s : State) (c t r : Nat) : W32 :=
  let k := s.clusterAt c
  let x := k.tiles.getD t {}
  match r with
  | 0x00 => pack [(8, 8 * c + t), (4, unitOfTile k.fusion t), (0, posOfTile k.fusion t)]
  | 0x04 => pack [(4, b2n x.activeReg), (3, b2n (bit k.mask t)), (0, s.stateCode c x.state.toNat)]
  | 0x08 => x.flags.zeroExtend 32
  | 0x10 => x.repair
  | 0x18 => lo32 x.busy.toNat
  | 0x1C => hi32 x.busy.toNat
  | 0x20 => lo32 x.prod.toNat
  | 0x24 => hi32 x.prod.toNat
  | 0x28 => pack [(16, x.parPath.toNat), (0, x.parStore.toNat)]
  | _ => 0

/-- Sequencer (07 R185). -/
def State.seqReg (s : State) (c r : Nat) : W32 :=
  let k := s.clusterAt c
  let q := k.seq
  match r with
  | 0x00 => pack [(16, q.pc), (4, b2n q.bank), (3, b2n k.ic.busy), (0, s.stateCode c (if q.run.isSome then 2 else 0))]
  | 0x04 => q.passId
  | 0x08 => pack [(0, q.cyc)]
  | 0x10 => q.commitCnt
  | 0x14 => q.discardCnt
  | 0x18 => q.rerunCnt
  | 0x1C => q.wdogCnt
  | 0x20 => q.lateCnt
  | 0x30 => pack [(31, b2n q.fValid), (28, q.fCause.toNat), (24, q.fUnit.toNat), (12, q.fPc.toNat)]
  | 0x34 => q.fPass
  | _ => 0

/-- Interrupt controller (07 R184). -/
def State.icReg (s : State) (c r : Nat) : W32 :=
  let i := (s.clusterAt c).ic
  match r with
  | 0x00 => lo32 i.pend.toNat
  | 0x04 => hi32 i.pend.toNat
  | 0x18 => lo32 i.en.toNat
  | 0x1C => hi32 i.en.toNat
  | 0x30 => pack [(31, b2n i.busy), (0, i.source.toNat)]
  | 0x34 => i.taken
  | _ => 0

/-- Vector unit (06 R154, R155). -/
def State.vuReg (s : State) (c r : Nat) : W32 :=
  let k := s.clusterAt c
  let u := k.vu
  match r with
  | 0x00 => pack [(16, u.vl), (0, s.stateCode c (if k.seq.run.isSome then 2 else 0))]
  | 0x04 => u.flags.zeroExtend 32
  | 0x10 => pack [(31, b2n u.fValid), (20, u.fOp.toNat), (16, b2n u.fKind), (0, u.fLane.toNat)]
  | 0x14 => u.fAddr
  | 0x18 => lo32 u.busy.toNat
  | 0x1C => hi32 u.busy.toNat
  | 0x20 => lo32 u.ops.toNat
  | 0x24 => hi32 u.ops.toNat
  | 0x28 => pack [(16, u.parPath.toNat), (0, u.parStore.toNat)]
  | 0x2C => u.permCnt
  | 0x30 => u.emptyCnt
  | _ => 0

/-- SPC n (05 R130, 06 R154, 07 R184, R185, 08 R202). -/
def State.spcReg (s : State) (c o : Nat) : W32 :=
  let k := s.clusterAt c
  if o < 0x8000 then s.mtReg c (o / 0x1000) (o % 0x1000)
  else if o = 0x8000 then pack [(8, k.fusion), (0, b2n k.ovfIeee)]
  else if o = 0x8004 then k.mask.zeroExtend 32
  else if o = 0x8100 then pack [(31, b2n k.sct.valid), (30, b2n k.sct.loading), (0, k.sct.slotCount)]
  else if o = 0x8108 then lo32 k.sct.tableId.toNat
  else if o = 0x810C then hi32 k.sct.tableId.toNat
  else if o = 0x8110 then k.sct.loadCnt
  else if o < 0x10000 then 0
  else if o < 0x18000 then s.seqReg c (o - 0x10000)
  else if o < 0x20000 then s.icReg c (o - 0x18000)
  else if o < 0x30000 then s.vuReg c (o - 0x20000)
  else 0

/-- QRY (12 R293). -/
def State.qryReg (s : State) (o : Nat) : W32 :=
  let q := s.search
  match o with
  | 0x00 => pack [(31, b2n (match s.loft.image with | some i => decide (0 < i.qryStage) | none => false)), (16, s.queryContexts), (0, s.busyContexts.length)]
  | 0x08 => lo32 q.cmp.toNat
  | 0x0C => hi32 q.cmp.toNat
  | 0x10 => q.queryCnt
  | 0x14 => q.shortCnt
  | 0x18 => q.tombCnt
  | 0x1C => q.skipCnt
  | 0x20 => pack [(0, min q.repairs.length 0xFFFFFFFF)]
  | 0x24 => q.repairCnt
  | 0x28 => q.lateCnt
  | 0x2C => q.lossCnt
  | 0x30 => pack [(0, (q.jobs.filter fun (j : EmbedJob) => decide (j.state = 1)).length)]
  | _ => 0

/-- Tenants of the image and of what the module holds. -/
def State.tenantIds (s : State) : List Nat :=
  ((match s.loft.image with | some i => i.tenants.map (·.id) | none => []) ++ s.reel.objects.map (·.tenant) ++ s.reel.cache.map (·.tenant) ++ s.media.namespaces.map (·.tenant) ++
   s.group.heldCopies.map (·.tenant) ++ s.group.journals.map (·.tenant)).eraseDups

/-- A tenant's registers (09 R230). -/
def State.qtReg (s : State) (i r : Nat) : W32 :=
  match (match s.loft.image with | some m => m.tenants[i]? | none => none) with
  | none => 0
  | some t =>
    let move := sumBy (fun m : Move => if m.tenant = t.id then m.charge else 0) s.reel.moves
    match r with
    | 0x00 => pack [(0, t.id)]
    | 0x08 => lo32 (s.t0Of t.id)
    | 0x0C => hi32 (s.t0Of t.id)
    | 0x10 => lo32 (s.t1Of t.id)
    | 0x14 => hi32 (s.t1Of t.id)
    | 0x18 => lo32 (s.t2Of t.id)
    | 0x1C => hi32 (s.t2Of t.id)
    | 0x20 => lo32 (s.t3Of t.id)
    | 0x24 => hi32 (s.t3Of t.id)
    | 0x28 => lo32 move
    | 0x2C => hi32 move
    | 0x30 => Sparse.get (0 : W32) s.reel.refused t.id
    | _ => 0

/-- Bytes stored in T2 containers, and the logical bytes that they hold, copies and journals held for other modules among them (09 R206, R230). -/
def State.heldBytes (s : State) : Nat := sumBy HeldCopy.stored s.group.heldCopies + sumBy JournalHeld.stored s.group.journals
def State.t2Stored (s : State) : Nat := sumBy (fun o : Obj => o.stored) s.reel.objects + s.heldBytes
def Obj.logical (o : Obj) : Nat := sumBy (fun x : Piece × Nat => if x.1.inT2 then o.pieceLen x.2 else 0) o.pieces.zipIdx
def State.t2Logical (s : State) : Nat := sumBy Obj.logical s.reel.objects + s.heldBytes

/-- REL (09 R230). -/
def State.relReg (s : State) (o : Nat) : W32 :=
  let r := s.reel
  let sum := fun (f : Nat → Nat) => (sumBy f s.tenantIds : Nat)
  if s.bare ∧ 8 ≤ o ∧ o < 0x28 then 0 else
  match o with
  | 0x00 => pack [(16, r.moves.length), (2, b2n r.prefetchLate), (1, b2n (match s.loft.image with | some i => i.tenants.any fun t => s.t1Above t.id 15 0 | none => false)), (0, b2n s.loft.image.isSome)]
  | 0x08 => lo32 (sum s.t1Of)
  | 0x0C => hi32 (sum s.t1Of)
  | 0x10 => lo32 (sum s.t2Of)
  | 0x14 => hi32 (sum s.t2Of)
  | 0x18 => lo32 s.t2Stored
  | 0x1C => hi32 s.t2Stored
  | 0x20 => lo32 s.t2Logical
  | 0x24 => hi32 s.t2Logical
  | 0x30 => r.moveCnt
  | 0x34 => r.abortCnt
  | 0x38 => r.refetchCnt
  | 0x3C => r.horizonCnt
  | 0x40 => r.remoteFailCnt
  | 0x44 => r.demoteRefusedCnt
  | _ => if 0x10000 ≤ o ∧ o < 0x50000 then s.qtReg ((o - 0x10000) / 0x40) (o % 0x40) else 0

/-- PAR (18 R438). -/
def State.parReg (s : State) (o : Nat) : W32 :=
  let p := s.parity
  if o = 0 then pack [(31, b2n !p.masks.isEmpty), (8, b2n p.lastValid), (0, if p.lastValid then p.lastGroup.toNat else 0)]
  else if o = 4 then p.flipCnt
  else if 0x1000 ≤ o ∧ o < 0x1340 then Sparse.get (0 : W32) p.masks ((o - 0x1000) / 4)
  else if 0x2000 ≤ o ∧ o < 0x2340 then Sparse.get (0 : W32) p.poisonCnt ((o - 0x2000) / 4)
  else 0

/-- A channel's registers (13 R311). -/
def Channel.reg (c : Channel) (r : Nat) : W32 :=
  match r with
  | 0x0 => pack [(5, b2n c.trained), (4, b2n c.clamp), (3, b2n c.vccq), (0, c.rate.toNat)]
  | 0x4 => pack [(16, c.tadl.toNat), (0, c.twhr.toNat)]
  | 0x8 => pack [(28, c.readPre.toNat), (16, c.tccs.toNat), (0, c.trhw.toNat)]
  | _ => 0

/-- The port registers behind the register door (13 R298, R311). -/
def Dsp.reg (d : Dsp) (o : Nat) : W32 :=
  if o = 0x20 then pack [(31, b2n d.busy), (30, b2n d.done), (29, b2n d.swRet), (26, d.err.toNat), (23, d.phase.toNat), (0, d.sw.toNat)]
  else if 0x8000 ≤ o ∧ o < 0xC880 then le 32 d.buf (o - 0x8000)
  else 0

/-- An offset of a port register (13 R298). -/
def isDsp (o : Nat) : Bool := (decide (0x10 ≤ o) && decide (o ≤ 0x20)) || (decide (0x8000 ≤ o) && decide (o < 0xC880))

/-- ENV n (13 R311); the port registers as the debug port reads them. -/
def State.envReg (s : State) (n o : Nat) : W32 :=
  let k := s.ctrlAt n
  if isDsp o then k.dsp.reg o
  else if o = 0x00 then pack [(31, b2n k.ready), (30, b2n k.hold), (29, b2n k.pwrFail), (16, s.slowChannels n), (8, s.failedChannels n)]
  else if o = 0x30 then k.retryCnt
  else if o = 0x34 then k.ueccCnt
  else if o = 0x38 then k.eraseUncCnt
  else if o = 0x3C then k.bodCnt
  else if 0x1000 ≤ o ∧ o < 0x1200 then (s.chanAt (32 * n + (o - 0x1000) / 0x10)).reg (o % 0x10)
  else if 0x2000 ≤ o ∧ o < 0x2400 then
    let d := 256 * n + (o - 0x2000) / 4
    let x := s.dieAt d
    pack [(31, b2n x.calOk), (30, b2n (isJournalDie d)), (29, b2n (s.dieFailed d)), (28, b2n x.calCopy), (0, x.sw.toNat)]
  else 0

/-- TET p (16 R389). -/
def State.tetReg (s : State) (p o : Nat) : W32 :=
  let t := s.portAt p
  let cfg := match s.loft.image with | some i => i.ports[p]? | none => none
  let mtu := s.mtu
  let lane := fun (i : Nat) => (s.laneAt (4 * p + i) : Lane)
  match o with
  | 0x00 => pack [(31, b2n t.up), (30, b2n ((upTo 4).any fun i => (lane i).training)), (29, b2n t.squelched), (28, b2n t.degrade), (26, t.mode.toNat), (25, s.portNet p), (24, b2n t.addr), (20, maskOf 4 fun i => (lane i).locked)]
  | 0x04 => match cfg with
    | some c => pack [(4, mtu), (2, c.mode), (1, c.net), (0, b2n c.use)]
    | none => pack [(4, mtu), (1, s.portNet p), (0, 1)]
  | 0x40 => lo32 t.fecCorr.toNat
  | 0x44 => hi32 t.fecCorr.toNat
  | 0x48 => t.fecUncorr
  | 0x4C => t.downCnt
  | 0x50 => t.evt.zeroExtend 32
  | _ =>
    if 0x10 ≤ o ∧ o < 0x20 then
      let l := lane ((o - 0x10) / 4)
      pack [(31, b2n l.cdrLock), (30, b2n l.frameLock), (29, b2n l.rxReady), (28, b2n l.partnerReady), (27, b2n l.polInv), (26, b2n l.precodeTx), (24, l.logical.toNat), (0, l.bitErr.toNat)]
    else if 0x20 ≤ o ∧ o < 0x30 then
      let l := lane ((o - 0x20) / 4)
      pack [(24, (l.taps.getD 0 0).toNat), (16, (l.taps.getD 1 0).toNat), (8, (l.taps.getD 2 0).toNat), (0, (l.taps.getD 3 0).toNat)]
    else 0

/-- BRD (10 R254). -/
def State.brdReg (s : State) (o : Nat) : W32 :=
  let b := s.bridle
  let ctxs := s.library.contexts.map (·.2)
  match o with
  | 0x00 => pack [(16, ((s.tether.qps.filterMap fun (q : QueuePair) => q.peer).eraseDups).length), (1, b2n (ctxs.any fun (c : Context) => c.batches.any fun (x : Batch) => x.held)), (0, b2n s.exchanges)]
  | 0x08 => lo32 b.tx.toNat
  | 0x0C => hi32 b.tx.toNat
  | 0x10 => lo32 b.rx.toNat
  | 0x14 => hi32 b.rx.toNat
  | 0x20 => b.lateCnt
  | 0x24 => b.dupCnt
  | 0x28 => b.redirectCnt
  | 0x2C => b.staleCnt
  | 0x30 => b.badCnt
  | 0x34 => b.kvRepairCnt
  | 0x38 => pack [(16, (ctxs.filter fun (c : Context) => decide (c.state = 2)).length), (0, (ctxs.filter fun (c : Context) => decide (c.state ≠ 0)).length)]
  | _ => 0

/-- A capture's registers, from its INFO on (18 R439). -/
def Capture.reg (k : Capture) (r : Nat) : W32 :=
  match r with
  | 0x00 => pack [(31, b2n k.valid), (29, k.cls.toNat), (27, k.space.toNat), (24, k.access.toNat), (16, k.source.toNat), (0, k.master.toNat)]
  | 0x04 => k.addr
  | 0x08 => k.addrHi
  | 0x10 => lo32 k.time
  | 0x14 => hi32 k.time
  | 0x18 => lo32 k.frame.toNat
  | 0x1C => hi32 k.frame.toNat
  | _ => 0

/-- Milliseconds left in the quiet period (18 R439). -/
def State.quietLeft (s : State) : Nat :=
  match s.drogue.quietFrom with
  | none => 0
  | some t => ceilDiv (t + s.quietNs - s.frame.time) 1000000

/-- DRG (18 R439). -/
def State.drgReg (s : State) (o : Nat) : W32 :=
  let d := s.drogue
  match o with
  | 0x00 => pack [(30, d.state.toNat), (29, b2n d.self), (28, b2n d.quietFrom.isSome), (16, d.entrySource.toNat), (0, s.quietLeft)]
  | 0x50 => pack [(16, d.fatalMore.toNat), (0, d.firstMore.toNat)]
  | 0x60 => d.cntCorr
  | 0x64 => d.cntDefer
  | 0x68 => d.cntLocal
  | 0x6C => d.cntFatal
  | 0x70 => pack [(16, d.total.toNat), (0, min 4 s.recentExits)]
  | 0x84 => pack [(0, maskOf 5 fun n => bit d.hbSeen n && decide (s.frame.time ≤ d.hbTime.getD n 0 + 10000000))]
  | _ =>
    if 0x10 ≤ o ∧ o < 0x30 then d.first.reg (o - 0x10)
    else if 0x30 ≤ o ∧ o < 0x50 then d.fatal.reg (o - 0x30)
    else if 0x90 ≤ o ∧ o < 0xA4 then d.bites.getD ((o - 0x90) / 4) 0
    else 0

/-- PWR (20 R475). -/
def State.pwrReg (s : State) (o : Nat) : W32 :=
  let p := s.power
  match o with
  | 0x00 => pack [(31, b2n p.inputOk), (30, b2n p.pwrFail), (29, b2n p.holdupOk), (28, b2n p.thermalTrip), (27, b2n p.frozen), (24, p.target.toNat), (16, s.lagging.toNat), (8, p.softSrc.toNat), (7, b2n (decide (s.capW < s.capSet)))]
  | 0x04 => pack [(4, p.holdRefused.toNat), (1, b2n s.inHold), (0, b2n (decide (p.hold ≠ .none)))]
  | 0x10 => pack [(16, p.current.toNat), (0, p.voltage.toNat)]
  | 0x14 => pack [(16, s.capW), (0, s.energy 1000 / 100000000)]
  | 0x18 => pack ((upTo 8).map fun c => (3 * c, (s.clusterAt c).level.toNat))
  | 0x20 => p.softCnt
  | 0x24 => p.freezeCnt
  | 0x28 => lo32 p.freezeNs.toNat
  | 0x2C => hi32 p.freezeNs.toNat
  | 0x30 => p.droopCnt
  | 0x34 => pack [(8, p.wakes.toNat), (0, maskOf 8 fun c => (s.clusterAt c).asleep)]
  | 0x38 => pack [(4, p.rail.toNat), (0, p.cause.toNat)]
  | _ =>
    if 0x40 ≤ o ∧ o < 0x60 then pack [(16, (p.tempHigh.getD ((o - 0x40) / 4) 0).toNat), (0, (p.tempNow.getD ((o - 0x40) / 4) 0).toNat)]
    else if 0x80 ≤ o ∧ o < 0xC0 then
      let k := (o - 0x80) / 4
      pack [(16, (p.avsFactory.getD k 0).toNat), (8, b2n (bit p.avsLearned k)), (0, (p.avsTrim.getD k 0).toNat)]
    else 0

/-- SEC (19 R456). -/
def State.secReg (s : State) (o : Nat) : W32 :=
  let c := s.sec
  match o with
  | 0x00 => pack [(31, b2n c.bootOk), (30, b2n c.recovery), (29, b2n c.fallback), (28, b2n (decide (c.ownerSet &&& ~~~ c.ownerRevoked ≠ 0)))]
  | 0x04 => pack [(30, c.running.toNat), (28, c.nextSlot.toNat), (26, c.signer.toNat), (1, c.failed.toNat)]
  | 0x08 => pack [(8, c.runSvn.toNat), (0, c.minSvn.toNat)]
  | 0x10 => pack [(8, c.vendorRevoked.toNat), (4, c.ownerRevoked.toNat), (0, c.ownerSet.toNat)]
  | 0x20 => pack [(31, b2n c.unlocked), (24, c.scope.toNat), (23, b2n c.keyKind), (21, c.keySlot.toNat), (8, c.fails), (0, c.lastResult.toNat)]
  | _ => if 0x40 ≤ o ∧ o < 0x60 then le 32 c.dbgNonce (o - 0x40) else 0

/-- Which units are halted: cores at bits [11:8], clusters at [7:0] (21 R498). -/
def State.haltMask (s : State) : Nat := maskOf 8 (fun c => (s.clusterAt c).halted) + 256 * maskOf 4 fun k => (s.coreAt k).halted

/-- DBG (21 R498). -/
def State.dbgReg (s : State) (o : Nat) : W32 :=
  let d := s.dbg
  if o = 0x00 then pack [(16, 0x0C1A), (8, 9), (0, 1)]
  else if o = 0x04 then pack [(31, b2n s.sec.unlocked), (30, b2n (decide (s.phase = .recovery))), (29, b2n d.checking), (28, b2n d.waiting.isSome), (24, s.sec.scope.toNat), (12, d.fault.toNat)]
  else if o = 0x10 then pack [(0, s.haltMask)]
  else if o = 0x20 then d.hit.zeroExtend 32
  else if o = 0x30 then d.rcvLen
  else if 0x100 ≤ o ∧ o < 0x180 then d.sqBp.getD ((o - 0x100) / 4) 0
  else if 0x200 ≤ o ∧ o < 0x280 then d.coreBp.getD ((o - 0x200) / 4) 0
  else if 0x10000 ≤ o ∧ o < 0x14170 then le 32 (Sparse.getRun (0 : Byte) d.token (o - 0x10000) 4) 0
  else 0

/-- A register of a block as it stands. -/
def State.blockReg (s : State) (b : WinBlock) (o : Nat) : W32 :=
  match b with
  | .gon => s.gonReg o
  | .frm => s.frmReg o
  | .sch => s.schReg o
  | .spc n => s.spcReg n o
  | .qry => s.qryReg o
  | .rel => s.relReg o
  | .par => s.parReg o
  | .env n => s.envReg n o
  | .tet p => s.tetReg p o
  | .brd => s.brdReg o
  | .drg => s.drgReg o
  | .pwr => s.pwrReg o
  | .sec => s.secReg o
  | .dbg => s.dbgReg o

/-! Unavailable blocks (R506) -/

/-- The block is being reset. -/
def State.blockInReset (s : State) (b : WinBlock) : Bool :=
  match b with
  | .spc n => s.sparReset || (s.clusterAt n).inReset
  | .sch => s.sparReset
  | .qry => s.sparReset
  | .rel => s.sparReset
  | .env n => (s.ctrlAt n).inReset
  | .tet p => (s.portAt p).inReset
  | .brd => s.bridle.inReset
  | _ => false

/-- Writes to the block are dropped: it is in reset, its cluster sleeps, or the module is in Hold. -/
def State.blockAway (s : State) (b : WinBlock) : Bool :=
  s.blockInReset b || match b with
  | .spc n => (s.clusterAt n).asleep || s.inHold
  | .sch => s.inHold
  | .qry => s.inHold
  | .rel => s.inHold
  | .env _ => s.inHold
  | _ => false

/-- A cluster whose registers read their reset values, kept and cal fields apart. -/
def Cluster.atReset (k : Cluster) : Cluster :=
  { tiles := k.tiles.map fun (t : Tile) => ({ repair := t.repair } : Tile)
    seq := { commitCnt := k.seq.commitCnt, discardCnt := k.seq.discardCnt, rerunCnt := k.seq.rerunCnt, wdogCnt := k.seq.wdogCnt, lateCnt := k.seq.lateCnt } }

/-- The state whose registers a block in reset shows: reset values, kept fields as they are. -/
def State.resetView (s : State) (b : WinBlock) : State :=
  match b with
  | .spc n => s.modCluster n Cluster.atReset
  | .sch => { s with sched := { refusedCnt := s.sched.refusedCnt, droppedCnt := s.sched.droppedCnt } }
  | .qry => { s with search := {}, loft := {} }
  | .rel => { s with reel := {}, loft := {}, group := {}, media := { s.media with namespaces := [] } }
  | .env n => { s.modCtrl n (fun _ => {}) with media := { s.media with ctrls := setAt s.media.ctrls n {}, channels := Sparse.clearRange s.media.channels (32 * n) (32 * n + 32), dies := Sparse.clearRange s.media.dies (256 * n) (256 * n + 256) } }
  | .tet p =>
    { s with
      loft := {}
      tether := { s.tether with
        ports := setAt s.tether.ports p {}
        lanes := s.tether.lanes.zipIdx.map fun (x : Lane × Nat) => if x.2 / 4 = p then ({ taps := x.1.taps } : Lane) else x.1 } }
  | .brd => { s with bridle := {}, library := { s.library with contexts := [] }, tether := { s.tether with qps := [] }, loft := {} }
  | _ => s

/-- What a register reads (R502, R506). -/
def State.readReg (s : State) (b : WinBlock) (o : Nat) : W32 := if s.blockInReset b then (s.resetView b).blockReg b o else s.blockReg b o

/-- The parity group of a register that lies in one (18 R438), and its bytes there: the interrupt controllers. -/
def regGroup (b : WinBlock) (o : Nat) : Option Nat :=
  match b with
  | .spc n => if 0x18000 ≤ o ∧ o < 0x18038 then some (0xA8 + n) else none
  | _ => none

/-- The buffer of a die port is a data store: its read carries poison (R508). -/
def State.bufParity (s : State) (b : WinBlock) (o : Nat) : Bool × State :=
  match b with
  | .env n => if 0x8000 ≤ o ∧ o < 0xC880 ∧ !s.blockInReset b then s.parRead (0xC0 + n) (dspByte (o - 0x8000)) 4 else (false, s)
  | _ => (false, s)

/-- Does the register's read fail parity (R508)? Then the group counts it and the fault is reported. -/
def State.readParity (s : State) (b : WinBlock) (o master : Nat) : Bool × State :=
  match regGroup b o with
  | none => s.bufParity b o
  | some g =>
    if s.blockInReset b then (false, s) else
    match s.parTrip g 0 4 with
    | (false, _) => (false, s)
    | (true, s) => (true, s.fault { mkFault 4 master 0 with addr := BitVec.ofNat 32 (0x01000000 + (g - 0xA8) * 0x40000 + o) })

/-! Writes -/

/-- Who writes: a core serving Register Access, a core's own firmware, or the debug port. -/
inductive Via where
  | access
  | core
  | debug
  deriving DecidableEq, Repr

/-- A refused or dropped access is recorded (R509). -/
def State.winBad (s : State) (cause : BitVec 4) (master addr : Nat) : State :=
  { s with gondola := { s.gondola with winMaster := BitVec.ofNat 16 master, winCause := cause, winValid := true, winBadAddr := BitVec.ofNat 32 addr, winBadCnt := satInc s.gondola.winBadCnt } }

/-- The block whose unavailability drops a group's mask (R506, 18 R438). -/
def blockOfGroup (g : Nat) : Option WinBlock :=
  if g < 0x40 then some (.spc (g / 8))
  else if g < 0x80 then some (.spc ((g - 0x40) / 8))
  else if g < 0x98 then some (.spc (g % 8))
  else if g = 0x98 then some .qry
  else if g = 0x99 then some .brd
  else if g = 0x9A then some .rel
  else if 0xA0 ≤ g ∧ g < 0xB0 then some (.spc (g % 8))
  else if g = 0xB0 then some .sch
  else if 0xC0 ≤ g ∧ g < 0xC8 then some (.env (g - 0xC0))
  else if 0xC8 ≤ g ∧ g < 0xD0 then some (.tet (g - 0xC8))
  else none

/-- PAR_FLIP_MASK (18 R423, R424, R438). -/
def flipMask (g : Nat) (v : W32) (master : Nat) (s : State) : State :=
  if !parListed g then s
  else if (match blockOfGroup g with | some b => s.blockAway b | none => false) then s.winBad 3 master (0x01C01000 + 4 * g)
  else { s with parity := { s.parity with masks := Sparse.set 0 s.parity.masks g v } }

/-- A write of an interrupt controller's register: 4 bytes of its parity group (07 R182, R184; 18 R438). -/
def icWrite (c r : Nat) (v : W32) (s : State) : State :=
  let w := fun (f : State → State) => f (s.parWrite (0xA8 + c) 0 4)
  match r with
  | 0x08 => w (icPendSet c false v)
  | 0x0C => w (icPendSet c true v)
  | 0x10 => w (icPendClr c false v)
  | 0x14 => w (icPendClr c true v)
  | 0x20 => w (icEnSet c false v)
  | 0x24 => w (icEnSet c true v)
  | 0x28 => w (icEnClr c false v)
  | 0x2C => w (icEnClr c true v)
  | _ => s

/-- The effect of a write on a register of an available block (R9, R503). DBG registers are the debug port's (21 R492). -/
def State.writeReg (s : State) (via : Via) (master : Nat) (b : WinBlock) (o : Nat) (v : W32) : State :=
  match b with
  | .frm => if o = 0x54 then frmEvtClear v s else s
  | .spc c =>
    if o < 0x8000 ∧ o % 0x1000 = 0x0C then mtFlagsClear (8 * c + o / 0x1000) v s
    else if o = 0x20008 then vuFlagsClear c v s
    else if 0x18000 ≤ o ∧ o < 0x18038 then icWrite c (o - 0x18000) v s
    else s
  | .par => if 0x1000 ≤ o ∧ o < 0x1340 then flipMask ((o - 0x1000) / 4) v master s else s
  | .env n =>
    if isDsp o then
      if via ≠ .debug then s
      else if o = 0x10 then dspKey n v s.frame.time s
      else if o = 0x14 then dspCmd n v s.frame.time s
      else if o = 0x18 then dspAddr n v s.frame.time s
      else if o = 0x1C then dspData n v s.frame.time s
      else s
    else if 0x1000 ≤ o ∧ o < 0x1200 ∧ o % 0x10 = 4 then waitWrite (32 * n + (o - 0x1000) / 0x10) false v s
    else if 0x1000 ≤ o ∧ o < 0x1200 ∧ o % 0x10 = 8 then waitWrite (32 * n + (o - 0x1000) / 0x10) true v s
    else s
  | .tet p => if o = 0x54 then tetEvtClear p v s else s
  | .drg => if o = 0x04 then capClear v s else if o = 0x80 ∧ via = .core then heartbeat (BitVec.ofNat 16 master) v s else s
  | .pwr => if o = 0x08 then holdSet v s else if o = 0x0C then holdClr v s else s
  | _ => s

/-- One write of the window at a mapped, aligned address: dropped and recorded where the block is unavailable (R506). -/
def State.winWrite (s : State) (via : Via) (master : Nat) (b : WinBlock) (o addr : Nat) (v : W32) : State :=
  if s.blockAway b then s.winBad 3 master addr else s.writeReg via master b o v

/-! Register Access (15 R368; R500 to R509) -/

/-- Addresses of the command's registers. -/
def regAddrs (addr : W32) (n : Nat) : List Nat := (upTo n).map fun i => addr.toNat + 4 * i

/-- The answer of a command that no access is made for; none where its accesses are made. -/
def State.regRefused (s : State) (core : Nat) (addr cdw11 : W32) (rsv : BitVec 31) : Option State :=
  let n := bits cdw11 10 0
  if rsv ≠ 0 ∨ bits cdw11 31 11 ≠ 0 ∨ n = 0 ∨ 1024 < n ∨ 2 ^ 32 < addr.toNat + 4 * n then some s
  else if addr.toNat % 4 ≠ 0 then some (s.winBad 2 core addr.toNat)
  else match (regAddrs addr n).find? fun a => (winBlock a).isNone with
    | some a => some (s.winBad 1 core a)
    | none => none

/-- Reads one register for Register Access: the word, and whether it failed parity. -/
def State.accessRead (s : State) (core a : Nat) : (W32 × Bool) × State :=
  match winBlock a with
  | none => ((0, false), s)
  | some (b, o) =>
    if (match b with | .env _ => isDsp o | _ => false) then ((0, false), s) else
    match s.readParity b o core with
    | (true, t) => ((0, true), t)
    | (false, _) => ((s.readReg b o, false), s)

/-- Register Access read. -/
def regAccessRead (id : CmdId) (core : Nat) (addr cdw11 : W32) (rsv : BitVec 31) (s : State) : State :=
  match s.regRefused core addr cdw11 rsv with
  | some t => t.answer id stInvalidField
  | none =>
    let r := (regAddrs addr (bits cdw11 10 0)).foldl (fun (x : (Bytes × Bool) × State) a => match x.2.accessRead core a with | (v, t) => ((x.1.1 ++ toLe v.1.toNat 4, x.1.2 || v.2), t)) (([], false), s)
    r.2.answer id (if r.1.2 then stPoisoned else stOk) 0 r.1.1

/-- Register Access write. -/
def regAccessWrite (id : CmdId) (core : Nat) (addr cdw11 : W32) (rsv : BitVec 31) (data : List W32) (s : State) : State :=
  match s.regRefused core addr cdw11 rsv with
  | some t => t.answer id stInvalidField
  | none =>
    let s := ((regAddrs addr (bits cdw11 10 0)).zip data).foldl (fun (s : State) (x : Nat × W32) => match winBlock x.1 with | none => s | some (b, o) => s.winWrite .access core b o x.1 x.2) s
    s.answer id stOk

/-- A register write of a management core's or the security core's own firmware (R9, R500, R502, R506). -/
def coreWrite (master addr : Nat) (v : W32) (s : State) : State :=
  if !s.firmwareUp then s
  else if addr % 4 ≠ 0 then s.winBad 2 master addr
  else match winBlock addr with
    | none => s.winBad 1 master addr
    | some (b, o) => s.winWrite .core master b o addr v

end Sys2Proof.Machine
end

