-- ==== Sys2Proof/Machine/Gondola.lean ====
section
/-! DEFINITION. Admin commands as the management cores serve them, and those that wait for a halted core (03 R58 to R61; 15 R343 to R349, R354, R368; 19 R443, R449; 21 R495). -/

namespace Sys2Proof.Machine

/-- Loft Image Apply from its Dwords (03 R59). -/
def applyDwords (id : CmdId) (rsv : Bool) (mode : Nat) (cdw11 cdw12 : W32) (s : State) : State :=
  imageApply id (rsv || decide (bits cdw12 31 16 ≠ 0)) mode (cdw11.toNat + 2 ^ 32 * bits cdw12 15 0) s

/-- Firmware activation event kept since the start: it goes to the first controller that is enabled (19 R444; 15 R346). -/
def State.giveFwEvent (s : State) (ctrl : W16) : State :=
  if s.host.fwEvent && (match s.ctrlFor ctrl with | some c => c.ready | none => false) then ({ s with host := { s.host with fwEvent := false } }).eventTo ctrl evFirmware 0x200 else s

/-- Property Set: CC, and NSSR, whose value "NVMe" resets the module (R343; 20 R460). -/
def propertySet (id : CmdId) (ofs : W32) (v : W64) (s : State) : State :=
  match s.ctrlFor id.ctrl with
  | none => s
  | some _ =>
    if ofs = 0x14 then (setCc id (v.setWidth 32) s).giveFwEvent id.ctrl
    else if ofs = 0x20 then (if v.setWidth 32 = (0x4E564D65 : W32) then s.resetModule 3 else s.answer id stOk)
    else s.answer id stInvalidField

/-- What an admin command does on the core that serves it. Other commands than these are none of a core's. -/
def adminOp (i : Instr) (s : State) : State :=
  match i with
  | .loftImageTransfer id numd ofst data => imageTransfer id numd ofst data s
  | .loftImageApply id cdw10 cdw11 cdw12 => applyDwords id (decide (bits cdw10 31 2 ≠ 0)) (bits cdw10 1 0) cdw11 cdw12 s
  | .loftImageApplyActFrame id rsv cdw11 cdw12 => applyDwords id (decide (rsv ≠ 0)) 1 cdw11 cdw12 s
  | .loftImageCancel id rsv cdw11 cdw12 => applyDwords id (decide (rsv ≠ 0)) 3 cdw11 cdw12 s
  | .identify id cns nsid => identify id cns nsid s
  | .getLogPage id lid lsi ofs len => getLogPage id lid lsi ofs len s
  | .getFeatures id fid => getFeatures id fid s
  | .setFeatures id fid cdw11 => setFeatures id fid cdw11 s
  | .asyncEventRequest id => asyncEvent id s
  | .abort id _ => abortCmd id s
  | .keepAlive id => keepAlive id s
  | .firmwareImageDownload id ofst data => fwDownload id ofst data s
  | .firmwareCommitReplace id slot => fwCommit id 0 slot.toNat s
  | .firmwareCommitActivate id slot => fwCommit id 1 slot.toNat s
  | .firmwareCommitSlot id slot => fwCommit id 2 slot.toNat s
  | .securitySend id secp data => securitySend id secp data s
  | .securityReceive id secp len => securityReceive id secp len s
  | .registerAccessRead id core addr cdw11 rsv => regAccessRead id core addr cdw11 rsv s
  | .registerAccessWrite id core addr cdw11 rsv data => regAccessWrite id core addr cdw11 rsv data s
  | .namespaceCreate id nsze lbaf b => (createNamespace id nsze lbaf.toNat b s).settle
  | .namespaceDelete id nsid => (deleteNamespace id nsid.toNat s).settle
  | .formatNvm id nsid lbaf ses => (formatNvm id nsid lbaf.toNat ses.toNat s).settle
  | _ => s

/-- The core that serves a waiting admin command. -/
def adminCore (i : Instr) (id : CmdId) : Nat :=
  match i with
  | .registerAccessRead _ core _ _ _ => core
  | .registerAccessWrite _ core _ _ _ _ => core
  | _ => coreOf id

/-- The first admin command that waits for core `k`. -/
def State.heldOn (s : State) (k : Nat) : Option (CmdId × Instr) :=
  s.host.open_.findSome? fun (o : OpenCmd) => match o.held with
    | some i => if o.id.sq = 0 ∧ adminCore i o.id = k then some (o.id, i) else none
    | none => none

/-- Admin commands that waited for core `k` run, in their order, while it is not halted. -/
def State.resumeCore (k : Nat) : Nat → State → State
  | 0, s => s
  | n + 1, s =>
    if (s.coreAt k).halted then s else
    match s.heldOn k with
    | none => s
    | some (id, i) => State.resumeCore k n (adminOp i (s.leave id))

/-- An admin command arrives. -/
def adminIn (id : CmdId) (i : Instr) (s : State) : State := adminOn (adminCore i id) id i (adminOp i) s

/-! The meanings -/

/-- LOFT_IMAGE_TRANSFER (R58). -/
def execLoftImageTransfer (id : CmdId) (numd ofst : W32) (data : Bytes) (s : State) : Host.Outcome State Fault Refusal := .next (adminIn id (.loftImageTransfer id numd ofst data) s)
/-- LOFT_IMAGE_APPLY (R60). -/
def execLoftImageApply (id : CmdId) (cdw10 cdw11 cdw12 : W32) (s : State) : Host.Outcome State Fault Refusal := .next (adminIn id (.loftImageApply id cdw10 cdw11 cdw12) s)
/-- LOFT_IMAGE_APPLY with ACT_MODE 1 (R61). -/
def execLoftImageApplyActFrame (id : CmdId) (rsv : BitVec 30) (cdw11 cdw12 : W32) (s : State) : Host.Outcome State Fault Refusal := .next (adminIn id (.loftImageApplyActFrame id rsv cdw11 cdw12) s)
/-- LOFT_IMAGE_APPLY with ACT_MODE 3 (R61). -/
def execLoftImageCancel (id : CmdId) (rsv : BitVec 30) (cdw11 cdw12 : W32) (s : State) : Host.Outcome State Fault Refusal := .next (adminIn id (.loftImageCancel id rsv cdw11 cdw12) s)
/-- IDENTIFY (R345, R346). -/
def execIdentify (id : CmdId) (cns : Byte) (nsid : W32) (s : State) : Host.Outcome State Fault Refusal := .next (adminIn id (.identify id cns nsid) s)
/-- GET_LOG_PAGE (R346). -/
def execGetLogPage (id : CmdId) (lid : Byte) (lsi : W16) (ofs len : Nat) (s : State) : Host.Outcome State Fault Refusal := .next (adminIn id (.getLogPage id lid lsi ofs len) s)
/-- GET_FEATURES (R346). -/
def execGetFeatures (id : CmdId) (fid : Byte) (s : State) : Host.Outcome State Fault Refusal := .next (adminIn id (.getFeatures id fid) s)
/-- SET_FEATURES (R57, R346). -/
def execSetFeatures (id : CmdId) (fid : Byte) (cdw11 : W32) (s : State) : Host.Outcome State Fault Refusal := .next (adminIn id (.setFeatures id fid cdw11) s)
/-- ASYNCHRONOUS_EVENT_REQUEST (R346). -/
def execAsyncEventRequest (id : CmdId) (s : State) : Host.Outcome State Fault Refusal := .next (adminIn id (.asyncEventRequest id) s)
/-- ABORT (R356). -/
def execAbort (id : CmdId) (victim : CmdId) (s : State) : Host.Outcome State Fault Refusal := .next (adminIn id (.abort id victim) s)
/-- KEEP_ALIVE (R346). -/
def execKeepAlive (id : CmdId) (s : State) : Host.Outcome State Fault Refusal := .next (adminIn id (.keepAlive id) s)
/-- KEEP_ALIVE_TIMEOUT (R354). -/
def execKeepAliveTimeout (ctrl : W16) (s : State) : Host.Outcome State Fault Refusal := .next (keepAliveExpired ctrl s).settle
/-- FIRMWARE_IMAGE_DOWNLOAD (R443). -/
def execFirmwareImageDownload (id : CmdId) (ofst : W32) (data : Bytes) (s : State) : Host.Outcome State Fault Refusal := .next (adminIn id (.firmwareImageDownload id ofst data) s)
/-- FIRMWARE_COMMIT, action 000b (R443). -/
def execFirmwareCommitReplace (id : CmdId) (slot : BitVec 3) (s : State) : Host.Outcome State Fault Refusal := .next (adminIn id (.firmwareCommitReplace id slot) s)
/-- FIRMWARE_COMMIT, action 001b (R443). -/
def execFirmwareCommitActivate (id : CmdId) (slot : BitVec 3) (s : State) : Host.Outcome State Fault Refusal := .next (adminIn id (.firmwareCommitActivate id slot) s)
/-- FIRMWARE_COMMIT, action 010b (R443). -/
def execFirmwareCommitSlot (id : CmdId) (slot : BitVec 3) (s : State) : Host.Outcome State Fault Refusal := .next (adminIn id (.firmwareCommitSlot id slot) s)
/-- SECURITY_SEND (R449). -/
def execSecuritySend (id : CmdId) (secp : Byte) (data : Bytes) (s : State) : Host.Outcome State Fault Refusal := .next (adminIn id (.securitySend id secp data) s)
/-- SECURITY_RECEIVE (R449). -/
def execSecurityReceive (id : CmdId) (secp : Byte) (len : Nat) (s : State) : Host.Outcome State Fault Refusal := .next (adminIn id (.securityReceive id secp len) s)
/-- REGISTER_ACCESS_READ (R368). -/
def execRegisterAccessRead (id : CmdId) (core : Fin 4) (addr cdw11 : W32) (rsv : BitVec 31) (s : State) : Host.Outcome State Fault Refusal := .next (adminIn id (.registerAccessRead id core addr cdw11 rsv) s)
/-- REGISTER_ACCESS_WRITE (R368). The data pointer supplies COUNT dwords; a term with another number of them is no command. -/
def execRegisterAccessWrite (id : CmdId) (core : Fin 4) (addr cdw11 : W32) (rsv : BitVec 31) (data : List W32) (s : State) : Host.Outcome State Fault Refusal :=
  if data.length = bits cdw11 10 0 then .next (adminIn id (.registerAccessWrite id core addr cdw11 rsv data) s).settle else .fault .illFormed
/-- REGISTER_WRITE (R9): a core's own firmware writes the window. The debug port's writes are frames. -/
def execRegisterWrite (master : W16) (addr v : W32) (s : State) : Host.Outcome State Fault Refusal :=
  if master.toNat < 5 then .next (coreWrite master.toNat addr.toNat v s).settle else .fault .illFormed
/-- NAMESPACE_CREATE (R348). -/
def execNamespaceCreate (id : CmdId) (nsze : W64) (lbaf : BitVec 4) (cianber : Bytes) (s : State) : Host.Outcome State Fault Refusal := .next (adminIn id (.namespaceCreate id nsze lbaf cianber) s)
/-- NAMESPACE_DELETE (R348). -/
def execNamespaceDelete (id : CmdId) (nsid : W32) (s : State) : Host.Outcome State Fault Refusal := .next (adminIn id (.namespaceDelete id nsid) s)
/-- FORMAT_NVM (R349). -/
def execFormatNvm (id : CmdId) (nsid : W32) (lbaf : BitVec 4) (ses : BitVec 3) (s : State) : Host.Outcome State Fault Refusal := .next (adminIn id (.formatNvm id nsid lbaf ses) s)
/-- CONNECT (R343). -/
def execConnect (id : CmdId) (port : Fin 8) (sqsize : W16) (kato : W32) (s : State) : Host.Outcome State Fault Refusal := .next (connectCmd id port sqsize kato s)
/-- PROPERTY_GET (R343). -/
def execPropertyGet (id : CmdId) (ofs : W32) (s : State) : Host.Outcome State Fault Refusal := .next (propertyGet id ofs s)
/-- PROPERTY_SET (R343). -/
def execPropertySet (id : CmdId) (ofs : W32) (v : W64) (s : State) : Host.Outcome State Fault Refusal := .next (propertySet id ofs v s).settle
/-- DISCONNECT (R355). -/
def execDisconnect (id : CmdId) (s : State) : Host.Outcome State Fault Refusal := .next (disconnectCmd id s).settle
/-- TRANSPORT_CONNECTION_LOST (R354). -/
def execTransportConnectionLost (ctrl sq : W16) (s : State) : Host.Outcome State Fault Refusal := .next (connectionLost ctrl sq s).settle
/-- IMAGE_CHECK_DONE (R76). -/
def execImageCheckDone (s : State) : Host.Outcome State Fault Refusal := .next (checkDone s)
/-- PAR_FLIP_MASK (R423): a write of a group's mask by Register Access. -/
def execParFlipMask (g : Byte) (v : W32) (s : State) : Host.Outcome State Fault Refusal := .next (if s.firmwareUp then flipMask g.toNat v 0 s else s)
/-- FRM_EVT_CLR (R55). -/
def execFrmEvtClr (v : W32) (s : State) : Host.Outcome State Fault Refusal := .next (if s.firmwareUp then frmEvtClear v s else s)

end Sys2Proof.Machine
end

