-- ==== Sys2Proof/Machine/Issue.lean ====
section
/-! DEFINITION. The words of a cluster's program and its handlers (06 R134 to R151; 07 R161 to R165, R177, R181). -/

namespace Sys2Proof.Machine

/-- A handler's word, and the `n` words it spans, are read with their parity: an error is SOURCE 04h (07 R181; 18 R426, R438). -/
def fetched (c n : Nat) (w : W64) (f : State → State) (s : State) : State :=
  if (s.clusterAt c).ic.busy && s.atWord c w then
    match s.parTrip (0xA8 + c) (handlerByte (s.clusterAt c).ic.pc) (8 * n) with
    | (true, s) => (s.fault (mkFault 4 (0x300 + c))).settle
    | (false, s) => f s
  else f s

/-- SLI issues (R162). -/
def issueSli (c : Nat) (w : W64) (s : State) : State := issueSeq 0x22 c w (fun v => seqSli c v.d (w.setWidth 32)) s

/-- END issues (R162). -/
def issueEnd (c : Nat) (w : W64) (s : State) : State := issueSeq 0x3F c w (fun _ => seqEnd c) s

/-- The word at the program counter of cluster `c`, of its program or of the handler that runs, issues, whatever it is (21 R494): a step of the debug port. A run record counts as one word. -/
def issueNext (c : Nat) (s : State) : State :=
  let k := s.clusterAt c
  match k.wordAhead 0 with
  | none => s
  | some w =>
    fetched c (if bits w 63 58 = 0x20 then 4 else 1) w (fun s => match bits w 63 58 with
    | 0x20 =>
      let at_ := fun (i : Nat) => ((k.wordAhead i).getD 0 : W64)
      seqMrun c { w0 := w, w1 := at_ 1, w2 := at_ 2, w3 := at_ 3 } s
    | 0x21 => issueSeq 0x21 c w (seqMwait c) s
    | 0x22 => issueSli c w s
    | 0x23 => issueSeq 0x23 c w (seqSadd c) s
    | 0x24 => issueSeq 0x24 c w (seqSld c) s
    | 0x25 => issueSeq 0x25 c w (seqBr c) s
    | 0x26 => issueSeq 0x26 c w (seqSpawn c) s
    | 0x27 => issueSeq 0x27 c w (seqSignal c) s
    | 0x28 => leaveHandler c s
    | 0x3F => issueEnd c w s
    | op => issueVector op c w s) s

/-- VNOP (R134). -/
def execVnop (c : Fin 8) (w : W64) (s : State) : Host.Outcome State Fault Refusal := if bits w 63 58 = 0x00 then .next (fetched c 1 w (issueVector 0x00 c w) s) else .fault .illFormed
/-- VSETVL (R136). -/
def execVsetvl (c : Fin 8) (w : W64) (s : State) : Host.Outcome State Fault Refusal := if bits w 63 58 = 0x01 then .next (fetched c 1 w (issueVector 0x01 c w) s) else .fault .illFormed
/-- VLD (R136, R143). -/
def execVld (c : Fin 8) (w : W64) (s : State) : Host.Outcome State Fault Refusal := if bits w 63 58 = 0x02 then .next (fetched c 1 w (issueVector 0x02 c w) s) else .fault .illFormed
/-- VST (R136, R144). -/
def execVst (c : Fin 8) (w : W64) (s : State) : Host.Outcome State Fault Refusal := if bits w 63 58 = 0x03 then .next (fetched c 1 w (issueVector 0x03 c w) s) else .fault .illFormed
/-- VGATHER (R136, R151). -/
def execVgather (c : Fin 8) (w : W64) (s : State) : Host.Outcome State Fault Refusal := if bits w 63 58 = 0x04 then .next (fetched c 1 w (issueVector 0x04 c w) s) else .fault .illFormed
/-- VPERM (R145). -/
def execVperm (c : Fin 8) (w : W64) (s : State) : Host.Outcome State Fault Refusal := if bits w 63 58 = 0x05 then .next (fetched c 1 w (issueVector 0x05 c w) s) else .fault .illFormed
/-- VBCAST (R136). -/
def execVbcast (c : Fin 8) (w : W64) (s : State) : Host.Outcome State Fault Refusal := if bits w 63 58 = 0x06 then .next (fetched c 1 w (issueVector 0x06 c w) s) else .fault .illFormed
/-- VCVT (R146). -/
def execVcvt (c : Fin 8) (w : W64) (s : State) : Host.Outcome State Fault Refusal := if bits w 63 58 = 0x07 then .next (fetched c 1 w (issueVector 0x07 c w) s) else .fault .illFormed
/-- VADD (R135, R139). -/
def execVadd (c : Fin 8) (w : W64) (s : State) : Host.Outcome State Fault Refusal := if bits w 63 58 = 0x08 then .next (fetched c 1 w (issueVector 0x08 c w) s) else .fault .illFormed
/-- VMUL (R135). -/
def execVmul (c : Fin 8) (w : W64) (s : State) : Host.Outcome State Fault Refusal := if bits w 63 58 = 0x09 then .next (fetched c 1 w (issueVector 0x09 c w) s) else .fault .illFormed
/-- VFMA (R139). -/
def execVfma (c : Fin 8) (w : W64) (s : State) : Host.Outcome State Fault Refusal := if bits w 63 58 = 0x0A then .next (fetched c 1 w (issueVector 0x0A c w) s) else .fault .illFormed
/-- VCMP (R141). -/
def execVcmp (c : Fin 8) (w : W64) (s : State) : Host.Outcome State Fault Refusal := if bits w 63 58 = 0x0B then .next (fetched c 1 w (issueVector 0x0B c w) s) else .fault .illFormed
/-- VSEL (R136). -/
def execVsel (c : Fin 8) (w : W64) (s : State) : Host.Outcome State Fault Refusal := if bits w 63 58 = 0x0C then .next (fetched c 1 w (issueVector 0x0C c w) s) else .fault .illFormed
/-- VMIN (R141). -/
def execVmin (c : Fin 8) (w : W64) (s : State) : Host.Outcome State Fault Refusal := if bits w 63 58 = 0x0D then .next (fetched c 1 w (issueVector 0x0D c w) s) else .fault .illFormed
/-- VMAX (R141). -/
def execVmax (c : Fin 8) (w : W64) (s : State) : Host.Outcome State Fault Refusal := if bits w 63 58 = 0x0E then .next (fetched c 1 w (issueVector 0x0E c w) s) else .fault .illFormed
/-- VMLOG (R136). -/
def execVmlog (c : Fin 8) (w : W64) (s : State) : Host.Outcome State Fault Refusal := if bits w 63 58 = 0x0F then .next (fetched c 1 w (issueVector 0x0F c w) s) else .fault .illFormed
/-- VRED (R147 to R150). -/
def execVred (c : Fin 8) (w : W64) (s : State) : Host.Outcome State Fault Refusal := if bits w 63 58 = 0x10 then .next (fetched c 1 w (issueVector 0x10 c w) s) else .fault .illFormed
/-- MRUN (R163): the run record is this word and the next three. -/
def execMrun (c : Fin 8) (r : RunRec) (s : State) : Host.Outcome State Fault Refusal := if bits r.w0 63 58 = 0x20 then .next (fetched c 4 r.w0 (seqMrun c r) s) else .fault .illFormed
/-- SLI (R162). -/
def execSli (c : Fin 8) (w : W64) (s : State) : Host.Outcome State Fault Refusal := if bits w 63 58 = 0x22 then .next (fetched c 1 w (issueSli c w) s) else .fault .illFormed
/-- MWAIT (R162). -/
def execMwait (c : Fin 8) (w : W64) (s : State) : Host.Outcome State Fault Refusal := if bits w 63 58 = 0x21 then .next (fetched c 1 w (issueSeq 0x21 c w (seqMwait c)) s) else .fault .illFormed
/-- SADD (R162). -/
def execSadd (c : Fin 8) (w : W64) (s : State) : Host.Outcome State Fault Refusal := if bits w 63 58 = 0x23 then .next (fetched c 1 w (issueSeq 0x23 c w (seqSadd c)) s) else .fault .illFormed
/-- SLD (R162). -/
def execSld (c : Fin 8) (w : W64) (s : State) : Host.Outcome State Fault Refusal := if bits w 63 58 = 0x24 then .next (fetched c 1 w (issueSeq 0x24 c w (seqSld c)) s) else .fault .illFormed
/-- BR (R162). -/
def execBr (c : Fin 8) (w : W64) (s : State) : Host.Outcome State Fault Refusal := if bits w 63 58 = 0x25 then .next (fetched c 1 w (issueSeq 0x25 c w (seqBr c)) s) else .fault .illFormed
/-- SPAWN (R177). -/
def execSpawn (c : Fin 8) (w : W64) (s : State) : Host.Outcome State Fault Refusal := if bits w 63 58 = 0x26 then .next (fetched c 1 w (issueSeq 0x26 c w (seqSpawn c)) s) else .fault .illFormed
/-- SIGNAL (R162). -/
def execSignal (c : Fin 8) (w : W64) (s : State) : Host.Outcome State Fault Refusal := if bits w 63 58 = 0x27 then .next (fetched c 1 w (issueSeq 0x27 c w (seqSignal c)) s) else .fault .illFormed
/-- HRET (R162, R181). -/
def execHret (c : Fin 8) (s : State) : Host.Outcome State Fault Refusal := .next (fetched c 1 hretWord (leaveHandler c) s)
/-- END (R162). Its word is 3Fh in the OP field and zeros. -/
def execEndProgram (c : Fin 8) (s : State) : Host.Outcome State Fault Refusal := .next (fetched c 1 0xFC00000000000000 (issueEnd c 0xFC00000000000000) s)

end Sys2Proof.Machine
end

