-- ==== Sys2Proof/Machine/Debug.lean ====
section
/-! DEFINITION. The debug port, ROM recovery and the SMBus devices (19 R454; 21). -/

namespace Sys2Proof.Machine

def State.modDbg (s : State) (f : Dbg → Dbg) : State := { s with dbg := f s.dbg }

/-- The port answers: the security core's firmware runs, or ROM recovery does (22 R507). -/
def State.dbgUp (s : State) : Bool := s.firmwareUp || decide (s.phase = .recovery)

/-! Halt and step (R493 to R496) -/

/-- A write of DBG_HALT_SET; a core that restarts is not halted (R495). -/
def haltSet (v : W32) (s : State) : State :=
  let s : State := { s with
    clusters := s.clusters.zipIdx.map fun (x : Cluster × Nat) => if bit v x.2 then { x.1 with halted := true } else x.1
    gondola := { s.gondola with cores := s.gondola.cores.zipIdx.map fun (x : Core × Nat) => if bit v (8 + x.2) && !x.1.restarting then { x.1 with halted := true } else x.1 } }
  s.chargeHalts

/-- A write of DBG_HALT_CLR: the units resume, and their DBG_HIT bits clear; admin commands that waited run. -/
def haltClr (v : W32) (s : State) : State :=
  let s : State := { s with
    clusters := s.clusters.zipIdx.map fun (x : Cluster × Nat) => if bit v x.2 then { x.1 with halted := false } else x.1
    gondola := { s.gondola with cores := s.gondola.cores.zipIdx.map fun (x : Core × Nat) => if bit v (8 + x.2) then { x.1 with halted := false } else x.1 }
    dbg := { s.dbg with hit := clearBits s.dbg.hit (v.setWidth 12) } }
  (upTo 4).foldl (fun (s : State) k => State.resumeCore k s.host.open_.length s) s

/-- A step of a halted cluster: one word of its program, or one of the handler that runs (R494). Under a hard throttle it does not run (R496). -/
def stepCluster (c : Nat) (s : State) : State :=
  let k := s.clusterAt c
  if !k.halted then s
  else (issueNext c (s.modCluster c fun k => { k with halted := false })).modCluster c fun k => { k with halted := !k.inReset }

/-- A write of DBG_STEP. A step of a core issues one instruction of its firmware, which the module's registers do not show (R495). -/
def dbgStep (v : W32) (s : State) : State := (upTo 8).foldl (fun (s : State) c => if bit v c then stepCluster c s else s) s

/-- A breakpoint of a sequencer or a core matches: the unit halts before the word issues (R493 to R495). -/
def breakpointHit (u : BpUnit) (s : State) : State :=
  if !s.dbgUp then s else
  match u with
  | .cluster c =>
    let k := s.clusterAt c
    let hit := (upTo 4).any fun i =>
      let b := s.dbg.sqBp.getD (4 * c + i) 0
      bit b 31 && (if bit b 30 then k.ic.busy && decide (bits b 11 0 = k.ic.pc) else !k.ic.busy && decide (bits b 11 0 = k.seq.pc) && match k.seq.run with | some r => !r.ended | none => false)
    if hit && !k.halted then ((s.modCluster c fun k => { k with halted := true }).modDbg fun d => { d with hit := setBit d.hit c true }).chargeHalts else s
  | .core k pc =>
    let hit := (upTo 8).any fun i =>
      let b := s.dbg.coreBp.getD (8 * k + i) 0
      bit b 0 && decide (bits b 31 2 = bits pc 31 2)
    let x := s.coreAt k
    if hit && !x.halted && !x.restarting then (s.modCore k fun x => { x with halted := true }).modDbg fun d => { d with hit := setBit d.hit (8 + k) true } else s

/-- DBG_CMD RELOCK: every halted unit resumes, every breakpoint is disabled, the port locks (R496). -/
def relock (s : State) : State :=
  let s := haltClr 0xFFF s
  let s := s.modDbg fun d => { d with sqBp := d.sqBp.map fun b => setBit b 31 false, coreBp := d.coreBp.map fun b => setBit b 0 false }
  s.modSec fun c => { c with unlocked := false, scope := 0, keyKind := false, keySlot := 0, tokenHash := [] }

/-! ROM recovery (R497) -/

/-- The last FAULT (R498). -/
def State.dbgFault (s : State) (n : BitVec 4) : State := s.modDbg fun d => { d with fault := n }

/-- DBG_CMD RCV_COMMIT: the image goes into slot 1 and is checked; the module starts again from it. -/
def rcvCommit (s : State) : State :=
  let n := s.dbg.rcvLen.toNat
  let b := s.dbg.rcv
  let s := s.modDbg fun d => { d with rcv := [] }
  if n % 4 ≠ 0 ∨ 67108864 < n ∨ b.length ≠ n then s.dbgFault 5
  else
    let s := s.modSec fun c => { c with slots := setAt c.slots 0 (some b) }
    if s.fwOk b then (s.modSec fun c => { c with nextSlot := 1 }).resetModule s.power.cause else s.dbgFault 5

/-! Which accesses the port allows (R492) -/

/-- Registers whose accesses need HALT. -/
def needsHalt (o : Nat) : Bool := decide (o = 0x14) || decide (o = 0x18) || decide (o = 0x1C) || (decide (0x100 ≤ o) && decide (o < 0x180)) || (decide (0x200 ≤ o) && decide (o < 0x280))

/-- A register that a locked port may read. -/
def openRead (b : WinBlock) (o : Nat) : Bool :=
  match b with
  | .dbg => decide (o = 0) || decide (o = 4)
  | .sec => decide (o = 0x20) || (decide (0x40 ≤ o) && decide (o < 0x60))
  | _ => false

/-- A write that a locked port may make: the token buffer, and DBG_CMD code UNLOCK. -/
def openWrite (b : WinBlock) (o : Nat) (v : W32) : Bool :=
  match b with
  | .dbg => (decide (0x10000 ≤ o) && decide (o < 0x14170)) || (decide (o = 8) && decide (bits v 7 0 = 1))
  | _ => false

/-- An access for ROM recovery alone. -/
def recoveryAccess (b : WinBlock) (o : Nat) (write : Bool) (v : W32) : Bool :=
  match b with
  | .dbg => decide (o = 0x30) || decide (o = 0x34) || (write && decide (o = 8) && decide (bits v 7 0 = 4))
  | _ => false

/-- Does the port allow an access of a register, or of the Loft (`none`)? -/
def State.dbgAllows (s : State) (t : Option (WinBlock × Nat)) (write : Bool) (v : W32) : Bool :=
  let scope := fun (n : Nat) => (s.sec.unlocked && bit s.sec.scope n : Bool)
  let rw := scope (if write then 2 else 1)
  match t with
  | none => rw && decide (s.phase ≠ .recovery)
  | some (b, o) =>
    if recoveryAccess b o write v then decide (s.phase = .recovery)
    else if (if write then openWrite b o v else openRead b o) then true
    else if s.phase = .recovery then false
    else match b with
      | .dbg => if needsHalt o then scope 0 else rw
      | .env _ => if isDsp o then scope 3 && rw else rw
      | _ => rw

/-- A write of a DBG register (R498). -/
def dbgWrite (o : Nat) (v : W32) (s : State) : State :=
  if o = 0x08 then
    match bits v 7 0 with
    | 1 => unlock s
    | 2 => relock s
    | 3 => s.dbgFault 0
    | 4 => rcvCommit s
    | _ => s
  else if o = 0x14 then haltSet v s
  else if o = 0x18 then haltClr v s
  else if o = 0x1C then dbgStep v s
  else if o = 0x30 then s.modDbg fun d => { d with rcvLen := v, rcv := [] }
  else if o = 0x34 then s.modDbg fun d => { d with rcv := d.rcv ++ toLe v.toNat 4 }
  else if 0x100 ≤ o ∧ o < 0x180 then s.modDbg fun d => { d with sqBp := setAt d.sqBp ((o - 0x100) / 4) (v &&& 0xC0000FFF) }
  else if 0x200 ≤ o ∧ o < 0x280 then s.modDbg fun d => { d with coreBp := setAt d.coreBp ((o - 0x200) / 4) (v &&& 0xFFFFFFFD) }
  else if 0x10000 ≤ o ∧ o < 0x14170 then s.modDbg fun d => { d with token := Sparse.setRun 0 d.token (o - 0x10000) (toLe v.toNat 4) }
  else s

/-- A window write of the debug port at a mapped, aligned address. -/
def State.portWrite (s : State) (b : WinBlock) (o addr : Nat) (v : W32) : State :=
  match b with
  | .dbg => dbgWrite o v s
  | b => s.winWrite .debug 5 b o addr v

/-- A register write of the debugger that its frame has brought to the block: the same checks, no answer of its own. -/
def State.debugRow (s : State) (addr : Nat) (v : W32) : State :=
  match winBlock addr with
  | none => s
  | some (b, o) => if s.dbgUp && s.dbgAllows (some (b, o)) true v then s.portWrite b o addr v else s

/-! Frames (R488 to R491) -/

/-- The module drives its answer, and the access is no longer pending. -/
def State.dbgAnswer (s : State) (ack : Ack) (data : Option W32 := none) : State :=
  s.modDbg fun d => { d with waiting := none, answers := d.answers ++ [{ ack := ack, data := data }] }

/-- FAULT, with its cause (R490, R498). -/
def State.dbgFail (s : State) (n : BitVec 4) : State := (s.dbgFault n).dbgAnswer .fault

/-- The last address moves (R489). -/
def State.dbgAt (s : State) (f : DbgFrame) : State := s.modDbg fun d => { d with lastWide := f.wide, lastAddr := f.addr }

/-- The read of a frame that is allowed. -/
def frameRead (f : DbgFrame) (s : State) : State :=
  if f.wide then
    if rankOf f.addr ≠ s.rank then s.dbgFail 2 else
    match s.objFor f.addr with
    | none => s.dbgFail 2
    | some _ => (s.dbgAt f).dbgAnswer (if s.markedObj f.addr 4 then .poison else .ok) (some (le 32 (s.readObj f.addr 4) 0))
  else match winBlock f.addr.toNat with
    | none => (s.winBad 1 5 f.addr.toNat).dbgFail 2
    | some (b, o) =>
      let v := s.readReg b o
      match s.readParity b o 5 with
      | (p, t) => (t.dbgAt f).dbgAnswer (if p then .poison else .ok) (some v)

/-- The write of a frame that is allowed. -/
def frameWrite (f : DbgFrame) (s : State) : State :=
  if f.wide then
    if rankOf f.addr ≠ s.rank then s.dbgFail 2 else
    match s.objFor f.addr with
    | none => s.dbgFail 2
    | some o => if o.kind.readOnly then s.dbgFail 3 else ((((s.touchWrite f.addr 4).writeObj f.addr (toLe f.data.toNat 4))).dbgAt f).dbgAnswer .ok
  else match winBlock f.addr.toNat with
    | none => (s.winBad 1 5 f.addr.toNat).dbgFail 2
    | some (b, o) => ((s.dbgAnswer .ok).dbgAt f).portWrite b o f.addr.toNat f.data

/-- A frame with its address and data in hand. `wait`: the access is not done within the frame (R490). -/
def frameRun (f : DbgFrame) (write wait : Bool) (s : State) : State :=
  let t := if f.wide then none else winBlock (f.addr.toNat / 4 * 4)
  let allowed := match t, f.wide with
    | none, false => s.dbgAllows (some (.gon, 0)) write f.data
    | t, _ => s.dbgAllows t write f.data
  let even := decide ((sumBy (fun i => b2n (bit f.data i)) (upTo 32) + b2n f.par) % 2 = 0)
  if s.dbg.waiting.isSome ∧ s.dbg.waiting ≠ some f then s.modDbg fun d => { d with answers := d.answers ++ [{ ack := .wait, data := none }] }
  else if write && even then s.dbgFail 1
  else if !allowed then s.dbgAnswer .denied
  else if f.addr.toNat % 4 ≠ 0 then (if f.wide then s else s.winBad 2 5 f.addr.toNat).dbgFail 4
  else if wait then (s.dbgAnswer .wait).modDbg fun d => { d with waiting := some f }
  else if write then frameWrite f s
  else frameRead f s

/-- A frame arrives. A header error leaves DBG_DIO ignored until a line reset (R491). -/
def frameIn (hdr : Bool) (f : DbgFrame) (write wait : Bool) (s : State) : State :=
  if !s.dbgUp || s.dbg.lineError then s
  else if !hdr then s.modDbg fun d => { d with lineError := true }
  else frameRun f write wait s

/-- The address of RD_NEXT and WR_NEXT. -/
def State.dbgNext (s : State) : W64 := if s.dbg.lastWide then s.dbg.lastAddr + 4 else BitVec.ofNat 64 ((s.dbg.lastAddr.toNat + 4) % 2 ^ 32)

/-- A line reset: at least 56 clocks high, then 2 low (R491). -/
def lineReset (high low : Nat) (s : State) : State := if s.dbgUp && decide (56 ≤ high) && decide (2 ≤ low) then s.modDbg fun d => { d with lineError := false, waiting := none } else s

/-! SMBus (R483) -/

/-- CRC-8 of SMBus, one byte and a run of bytes. -/
def crc8Bits (c : Byte) : Nat → Byte
  | 0 => c
  | n + 1 => crc8Bits (if bit c 7 then (c <<< 1) ^^^ 7 else c <<< 1) n
def crc8 (b : Bytes) : Byte := b.foldl (fun c x => crc8Bits (c ^^^ x) 8) 0

/-- Composite temperature in the basic management command's byte (log 10). -/
def miTemp (k : Nat) : Byte := if 273 + 127 ≤ k then 0x7F else if 273 ≤ k then BitVec.ofNat 8 (k - 273) else if k ≤ 273 - 60 then 0xC4 else BitVec.ofNat 8 (256 - (273 - k))

/-- The basic management data with its PEC (log 10). -/
def State.miData (s : State) : Bytes :=
  let flags := (Config.identifyByte 0x6A 1 &&& 0x88) ||| 0x37 ||| (if s.phase = .up then 0 else 0x40)
  let b : Bytes := [6, flags, ~~~ s.warning 358, miTemp (s.kelvin 3), BitVec.ofNat 8 (min 255 s.wearPct), 0, 0]
  b ++ [crc8 ([0xD4, 0, 0xD5] ++ b)]

/-- The device at 6Ah answers from power-good until input loss; other codes return no data. -/
def nvmeMiBasic (code : Byte) (s : State) : State :=
  if !s.powered then s else { s with host := { s.host with smbus := s.host.smbus ++ [if code = 0 then s.miData else []] } }

/-- The FRU EEPROM of 2 KiB answers whenever 3V3_AUX is present. -/
def fruRead (ofs len : Nat) (s : State) : State :=
  { s with host := { s.host with smbus := s.host.smbus ++ [((upTo len).filter fun i => decide (ofs + i < 2048)).map fun i => Config.fruByte (ofs + i)] } }

/-! The meanings -/

/-- RD (R489). -/
def execRd (hdr wide : Bool) (addr : W64) (wait : Bool) (s : State) : Host.Outcome State Fault Refusal :=
  if wide ∨ addr.toNat < 2 ^ 32 then .next (frameIn hdr { op := 1, wide := wide, addr := addr, data := 0, par := false } false wait s).settle else .fault .illFormed
/-- WR (R489). -/
def execWr (hdr wide : Bool) (addr : W64) (v : W32) (par wait : Bool) (s : State) : Host.Outcome State Fault Refusal :=
  if wide ∨ addr.toNat < 2 ^ 32 then .next (frameIn hdr { op := 2, wide := wide, addr := addr, data := v, par := par } true wait s).settle else .fault .illFormed
/-- RD_NEXT (R489). -/
def execRdNext (hdr wait : Bool) (s : State) : Host.Outcome State Fault Refusal := .next (frameIn hdr { op := 3, wide := s.dbg.lastWide, addr := s.dbgNext, data := 0, par := false } false wait s).settle
/-- WR_NEXT (R489). -/
def execWrNext (hdr : Bool) (v : W32) (par wait : Bool) (s : State) : Host.Outcome State Fault Refusal := .next (frameIn hdr { op := 4, wide := s.dbg.lastWide, addr := s.dbgNext, data := v, par := par } true wait s).settle
/-- WR_SAME (R489). -/
def execWrSame (hdr : Bool) (v : W32) (par wait : Bool) (s : State) : Host.Outcome State Fault Refusal := .next (frameIn hdr { op := 5, wide := s.dbg.lastWide, addr := s.dbg.lastAddr, data := v, par := par } true wait s).settle
/-- LINE_RESET (R491). -/
def execLineReset (high low : Nat) (s : State) : Host.Outcome State Fault Refusal := .next (lineReset high low s)
/-- UNLOCK (R454, R498). -/
def execUnlock (s : State) : Host.Outcome State Fault Refusal := .next (s.debugRow 0x07000008 1)
/-- TOKEN_CHECK_DONE (R454). -/
def execTokenCheckDone (s : State) : Host.Outcome State Fault Refusal := .next (tokenChecked s)
/-- RELOCK (R496). -/
def execRelock (s : State) : Host.Outcome State Fault Refusal := .next (s.debugRow 0x07000008 2).settle
/-- CLR_FAULT (R498). -/
def execClrFault (s : State) : Host.Outcome State Fault Refusal := .next (s.debugRow 0x07000008 3)
/-- DBG_RCV_DATA (R497). -/
def execDbgRcvData (v : W32) (s : State) : Host.Outcome State Fault Refusal := .next (s.debugRow 0x07000034 v)
/-- RCV_COMMIT (R497). -/
def execRcvCommit (s : State) : Host.Outcome State Fault Refusal := .next (s.debugRow 0x07000008 4)
/-- DBG_HALT_SET (R493, R495). -/
def execDbgHaltSet (v : W32) (s : State) : Host.Outcome State Fault Refusal := .next (s.debugRow 0x07000014 v)
/-- DBG_HALT_CLR (R493, R495). -/
def execDbgHaltClr (v : W32) (s : State) : Host.Outcome State Fault Refusal := .next (s.debugRow 0x07000018 v).settle
/-- DBG_STEP (R494). -/
def execDbgStep (v : W32) (s : State) : Host.Outcome State Fault Refusal := .next (s.debugRow 0x0700001C v)
/-- BREAKPOINT_HIT (R493 to R495). -/
def execBreakpointHit (u : BpUnit) (s : State) : Host.Outcome State Fault Refusal := .next (breakpointHit u s)
/-- NVME_MI_BASIC (R483). -/
def execNvmeMiBasic (code : Byte) (s : State) : Host.Outcome State Fault Refusal := .next (nvmeMiBasic code s)
/-- FRU_READ (R483). -/
def execFruRead (ofs len : Nat) (s : State) : Host.Outcome State Fault Refusal := .next (fruRead ofs len s)

end Sys2Proof.Machine
end

