-- ==== Sys2Proof/Machine/Tick.lean ====
section
/-! DEFINITION. What the module does at a tick, in the order of 02 R34. -/

namespace Sys2Proof.Machine

/-- Power-on hours, counted from FRM_TIME (14 R341). -/
def State.countHours (s : State) (before : Nat) : State :=
  { s with gondola := { s.gondola with poh := s.gondola.poh + BitVec.ofNat 32 (s.frame.time / 3600000000000 - before / 3600000000000) } }

/-- A slot closes; the pass of its owner that still runs there gets SLOT_CLOSE (R44; 07 R180). -/
def slotEnds (c k : Nat) (s : State) : State :=
  match (s.clusterAt c).slot with
  | none => s
  | some o =>
    if o.idx ≠ k then s else
      let s := closeSlot c k s
      match (s.clusterAt c).seq.run with
      | some r => if r.owner = o.owner then s.raise c 6 else s
      | none => s

/-- The guard band of a class A slot begins (R42; 07 R180). -/
def guardStarts (c k : Nat) (s : State) : State :=
  match s.bandSlot c k 250 with
  | none => s
  | some (l, _) => if s.rowsRun && decide (l.cls = 0) then (guardBegin c k s).raise c 7 else s

/-- Slots whose end lies behind the tick are closed (02 R44): none reaches over it. -/
def State.endSlots (s : State) : State :=
  (upTo 8).foldl (fun (s : State) c => match (s.clusterAt c).slot with
    | some o => if o.closeAt ≤ s.frame.time then slotEnds c o.idx s else s
    | none => s) s

/-- Rows that waited for lock start (R48). -/
def State.releaseRows (s : State) : State :=
  if s.frame.startRows then { s with frame := { s.frame with held := false, startRows := false } } else s

/-- Step 3: the row index against the table in force (R33). -/
def State.pickRow (s : State) : State :=
  match s.loft.image with
  | none => s
  | some i => { s with frame := { s.frame with rowIdx := i.rowIdx s.groupFrame.toNat } }

/-- The frame table is read as its row is opened: a parity error there is SOURCE 10h (18 R426, R438). -/
def State.readTable (s : State) : State :=
  if !s.rowsRun then s else
  match s.parTrip 0xB0 parTable 64 with
  | (true, s) => s.report_ (mkFault 0x10 0x0A00)
  | (false, s) => s

/-- Clusters that a new table gives a class A slot wake at the tick (20 R464). -/
def State.wakeForSlots (s : State) : State :=
  (upTo 8).foldl (fun (s : State) c => if (s.clusterAt c).asleep && s.holdsA c then sleepWake c s else s) s

/-- A class A request that waits for a return past the tick at which it was due is late with cause REMOTE (11 R264). -/
def State.noteRemote (s : State) : State :=
  let num := s.frame.num.toNat
  let late := s.bridle.unanswered.filter fun (d : Dispatch) => match d.sent with | some f => decide (f + 1 < num) | none => false
  let ids := late.foldl (fun (l : List CmdId) d => match s.ctxIndex d.ctx with
    | none => l
    | some i => match (s.ctxAt i).batches with | [] => l | b :: _ => b.id :: l) []
  s.noteCause 2 fun (r : Request) => decide (r.cls = 0) && ids.contains r.id

/-- Step 4: the Bridle exchange, in the states of R52 that let it run. -/
def State.exchange (s : State) : State :=
  if s.exchanges then s.brdExchange else s

/-- The tokens that contexts appended per frame: the last 8 frames (10 R249). -/
def State.shiftRecent (s : State) : State :=
  { s with library := { s.library with contexts := s.library.contexts.map fun (e : Nat × Context) => (e.1, { e.2 with recent := (0 :: e.2.recent).take 9 }) } }

/-- Idle clusters take the structure that waited for them, and count the frame (03 R79; 20 R464). -/
def State.clusterTick (s : State) : State :=
  { s with clusters := s.clusters.map fun (k : Cluster) =>
      let k := k.takeNext
      if k.seq.run.isNone then { k with idleFrames := k.idleFrames + 1 } else k }

/-- A frozen clock, and clusters halted by the debug port, are charged to every frame they last into (02 R45; 21 R493). -/
def State.chargeFrame (s : State) : State := (if s.power.frozen then s.chargeFreeze else s).chargeHalts

/-- The work of a tick in a module that runs. -/
def State.tickUp (s : State) (stepped : Bool) : State :=
  let s := s.endSlots.activateDue.releaseRows.pickRow.readTable
  let s := (s.wakeForSlots.raiseAll 8).noteRemote.noteThrottle
  let s := s.exchange
  let s := (s.closeGroups true).startErases.kick
  let s := s.planPasses.reelTick.unloadTick.refitTick.searchTick
  let s := s.windowTick.switchTick
  let s := s.homeQps.groupTick.shiftRecent.stopTick
  let s := s.clusterTick.chargeFrame.holdTick.warnEvents
  let s : State := { s with frame := { s.frame with syncOut := s.syncOutAt stepped } }
  s.settle

/-- A tick (R34). Before the firmware's start has ended, the counters alone advance. -/
def tick (move trim : Int) (s : State) : State :=
  if !s.powered then s else
    let before := s.frame.time
    let stepped := s.frame.stepping
    let t := s.frame.boundary move
    let s := s.advance t
    let s := ({ s with frame := s.frame.tick move trim }).countExpected
    let s := s.countHours before
    if s.phase = .up then s.tickUp stepped else s

end Sys2Proof.Machine
end

