-- ==== Sys2Proof/Machine/PowerRows.lean ====
section
/-! DEFINITION. The rows of power, sensors, throttles, Hold and the frame timer. -/

namespace Sys2Proof.Machine

/-- A write of a register by Register Access, for the rows that name one register (R9; 15 R368). Where the block is unavailable it is dropped and recorded (22 R506). Before firmware runs, nobody writes. -/
def accessWrite (addr : Nat) (v : W32) (s : State) : State :=
  if !s.firmwareUp then s
  else match winBlock addr with
    | none => s
    | some (b, o) => s.winWrite .access 0 b o addr v

/-- A slot opens; a switch slot brings its target (R34, R44; 11 R262). -/
def slotBegins (c k : Nat) (s : State) : State :=
  let s := openSlot c k s
  match (s.clusterAt c).slot with
  | some o => if o.idx = k then s.switchOpen c else s
  | none => s

/-- PWR_EN_ASSERT (R458). -/
def execPwrEnAssert (mv : Nat) (s : State) : Host.Outcome State Fault Refusal := .next (pwrAssert mv s)

/-- POWER_GOOD (R458). -/
def execPowerGood (s : State) : Host.Outcome State Fault Refusal := .next (powerGood s)

/-- RAIL_TIMEOUT (R458). -/
def execRailTimeout (rail : Fin 6) (s : State) : Host.Outcome State Fault Refusal := .next (railTimeout rail.val s)

/-- PWR_EN_DEASSERT (R457). -/
def execPwrEnDeassert (s : State) : Host.Outcome State Fault Refusal := .next (pwrDeassert s)

/-- INPUT_SAMPLE (R457, R467 to R469). -/
def execInputSample (mv ma10 : Nat) (s : State) : Host.Outcome State Fault Refusal := .next (inputSample mv ma10 s)

/-- INPUT_RESTORED (R457). -/
def execInputRestored (s : State) : Host.Outcome State Fault Refusal := .next (inputBack s)

/-- HOLDUP_BOD (R308). -/
def execHoldupBod (s : State) : Host.Outcome State Fault Refusal := .next (holdupFalls s)

/-- HOLDUP_TEST (R459). -/
def execHoldupTest (estimateUs : Nat) (s : State) : Host.Outcome State Fault Refusal := .next ((holdupTest estimateUs s).warnEvents)

/-- MODULE_RESET (R460). -/
def execModuleReset (lowNs : Nat) (s : State) : Host.Outcome State Fault Refusal := .next (modReset lowNs s)

/-- BOOT (R444). -/
def execBoot (s : State) : Host.Outcome State Fault Refusal := .next (boot s)

/-- MAP_REBUILD (R327). -/
def execMapRebuild (rb : RebuildIn) (s : State) : Host.Outcome State Fault Refusal := .next (rebuild rb s)

/-- SHARD_REPLAY (R273). -/
def execShardReplay (index : BitVec 64) (shard : BitVec 16) (s : State) : Host.Outcome State Fault Refusal := .next ((shardReplay index shard s).settle)

/-- SENSOR_SAMPLE (R468, R470: one reading for each of the eight sensors). -/
def execSensorSample (readings : List (BitVec 16)) (s : State) : Host.Outcome State Fault Refusal := if readings.length = 8 then .next (sensorSample readings s) else .fault .illFormed

/-- RAIL_EXCURSION (R470). -/
def execRailExcursion (rail : Fin 6) (s : State) : Host.Outcome State Fault Refusal := .next (railOut rail.val s)

/-- RAIL_RECOVERED (R434, R470). -/
def execRailRecovered (rail : Fin 6) (s : State) : Host.Outcome State Fault Refusal := .next (railBack rail.val s)

/-- SOFT_STEP_DOWN (R468). -/
def execSoftStepDown (s : State) : Host.Outcome State Fault Refusal := .next (softDown s)

/-- SOFT_STEP_UP (R468). -/
def execSoftStepUp (s : State) : Host.Outcome State Fault Refusal := .next (softUp s)

/-- HARD_THROTTLE (R469). -/
def execHardThrottle (s : State) : Host.Outcome State Fault Refusal := .next (hardThrottle s)

/-- FREEZE_END (R469). -/
def execFreezeEnd (s : State) : Host.Outcome State Fault Refusal := .next ((freezeEnd s).settle)

/-- DROOP (R473). -/
def execDroop (g : Fin 16) (s : State) : Host.Outcome State Fault Refusal := .next (droop g.val s)

/-- DROOP_RECOVERED (R473). -/
def execDroopRecovered (g : Fin 16) (s : State) : Host.Outcome State Fault Refusal := .next (droopEnd g.val s)

/-- AVS_LOOP (R472). -/
def execAvsLoop (margins stretchPm : List Nat) (s : State) : Host.Outcome State Fault Refusal := .next (avsLoop margins stretchPm s)

/-- SLEEP_REQ (R464). -/
def execSleepReq (c : Fin 8) (s : State) : Host.Outcome State Fault Refusal := .next (sleepReq c.val s)

/-- ARRAY_SLEEP_ENTER (R183). -/
def execArraySleepEnter (c : Fin 8) (s : State) : Host.Outcome State Fault Refusal := .next (sleepEnter c.val s)

/-- ARRAY_SLEEP_WAKE (R183). -/
def execArraySleepWake (c : Fin 8) (s : State) : Host.Outcome State Fault Refusal := .next (sleepWake c.val s)

/-- PWR_HOLD_SET (R465: a write of the window). -/
def execPwrHoldSet (v : BitVec 32) (s : State) : Host.Outcome State Fault Refusal := .next (accessWrite 0x05000008 v s)

/-- PWR_HOLD_CLR (R465). -/
def execPwrHoldClr (v : BitVec 32) (s : State) : Host.Outcome State Fault Refusal := .next ((accessWrite 0x0500000C v s).settle)

/-- TICK (R34). -/
def execTick (move : TickIn) (s : State) : Host.Outcome State Fault Refusal := .next (tick move.move move.trim s)

/-- SLOT_OPEN (R34, R44; 11 R262). -/
def execSlotOpen (c : Fin 8) (slot : Fin 16) (s : State) : Host.Outcome State Fault Refusal := .next (slotBegins c.val slot.val s)

/-- SLOT_CLOSE (R44). -/
def execSlotClose (c : Fin 8) (slot : Fin 16) (s : State) : Host.Outcome State Fault Refusal := .next (slotEnds c.val slot.val s)

/-- GUARD (R42). -/
def execGuardBand (c : Fin 8) (slot : Fin 16) (s : State) : Host.Outcome State Fault Refusal := .next (guardStarts c.val slot.val s)

/-- CLOSING_WINDOW (R43). -/
def execClosingWindow (c : Fin 8) (slot : Fin 16) (s : State) : Host.Outcome State Fault Refusal := .next (closingBegin c.val slot.val s)

/-- SYNC_IN_EDGE (R47 to R49). -/
def execSyncInEdge (t : Nat) (s : State) : Host.Outcome State Fault Refusal := .next (if s.powered then syncEdge t s else s)

/-- SYNC_ACQUIRE_TIMEOUT (R48). -/
def execSyncAcquireTimeout (s : State) : Host.Outcome State Fault Refusal := .next (acquireTimeout s)

/-- SYNC_LOST (R49). -/
def execSyncLost (s : State) : Host.Outcome State Fault Refusal := .next (syncLost s)

end Sys2Proof.Machine
end

