-- ==== Sys2Proof/Machine/DrogueRows.lean ====
section
/-! DEFINITION. The rows of faults, heartbeats, the security core and block resets that end. -/

namespace Sys2Proof.Machine

/-- A message to the security core by the row of its request (19 R449, R450): the term's request code is the row's. -/
def spdmRow (code vendor : Nat) (req : Bytes) (s : State) : Host.Outcome State Fault Refusal :=
  if spdmCode req = code ∧ (vendor = 0 ∨ vendorCode req = vendor) then .next (if s.firmwareUp then spdmWhole req s else s) else .fault .illFormed

/-- FAULT_REPORT (R425 to R430: SOURCE is one of R426). -/
def execFaultReport (f : FaultIn) (s : State) : Host.Outcome State Fault Refusal := if (sourceClass f.source).isSome then .next (if s.powered then (s.fault f).settle else s) else .fault .illFormed

/-- QUIET_PERIOD_END (R434). -/
def execQuietPeriodEnd (s : State) : Host.Outcome State Fault Refusal := .next ((quietEnds s).settle)

/-- DROGUE_PARITY_ERROR (R436). -/
def execDrogueParityError (s : State) : Host.Outcome State Fault Refusal := .next (if s.powered then (drogueParity s).settle else s)

/-- DRG_CAP_CLR (R429, R439). -/
def execDrgCapClr (v : BitVec 32) (s : State) : Host.Outcome State Fault Refusal := .next (accessWrite 0x04000004 v s)

/-- DRG_HB (R437). -/
def execDrgHb (master : BitVec 16) (v : BitVec 32) (s : State) : Host.Outcome State Fault Refusal := .next (if s.firmwareUp then (heartbeat master v s).settle else s)

/-- HEARTBEAT_MISS (R437). -/
def execHeartbeatMiss (core : Fin 5) (s : State) : Host.Outcome State Fault Refusal := .next ((heartbeatMiss core.val s).settle)

/-- MANAGEMENT_WATCHDOG (R437). -/
def execManagementWatchdog (s : State) : Host.Outcome State Fault Refusal := .next (watchdog s)

/-- GET_VERSION (R449). -/
def execGetVersion (req : Bytes) (s : State) : Host.Outcome State Fault Refusal := spdmRow 0x84 0 req s

/-- GET_CAPABILITIES (R449). -/
def execGetCapabilities (req : Bytes) (s : State) : Host.Outcome State Fault Refusal := spdmRow 0xE1 0 req s

/-- NEGOTIATE_ALGORITHMS (R449). -/
def execNegotiateAlgorithms (req : Bytes) (s : State) : Host.Outcome State Fault Refusal := spdmRow 0xE3 0 req s

/-- GET_DIGESTS (R448, R449). -/
def execGetDigests (req : Bytes) (s : State) : Host.Outcome State Fault Refusal := spdmRow 0x81 0 req s

/-- GET_CERTIFICATE (R448, R449). -/
def execGetCertificate (req : Bytes) (s : State) : Host.Outcome State Fault Refusal := spdmRow 0x82 0 req s

/-- CHALLENGE (R449). -/
def execChallenge (req : Bytes) (s : State) : Host.Outcome State Fault Refusal := spdmRow 0x83 0 req s

/-- GET_MEASUREMENTS (R449, R451). -/
def execGetMeasurements (req : Bytes) (s : State) : Host.Outcome State Fault Refusal := spdmRow 0xE0 0 req s

/-- CHUNK_GET (R449). -/
def execChunkGet (req : Bytes) (s : State) : Host.Outcome State Fault Refusal := spdmRow 0x86 0 req s

/-- GET_PQ_CERT (R448, R450). -/
def execGetPqCert (req : Bytes) (s : State) : Host.Outcome State Fault Refusal := spdmRow 0xFE 1 req s

/-- GET_PQ_SIGNATURE (R450). -/
def execGetPqSignature (req : Bytes) (s : State) : Host.Outcome State Fault Refusal := spdmRow 0xFE 2 req s

/-- GET_NONCE (R446, R450). -/
def execGetNonce (req : Bytes) (s : State) : Host.Outcome State Fault Refusal := spdmRow 0xFE 3 req s

/-- OWNER_SET (R446, R450). -/
def execOwnerSet (req : Bytes) (s : State) : Host.Outcome State Fault Refusal := spdmRow 0xFE 4 req s

/-- OWNER_REVOKE (R446, R450). -/
def execOwnerRevoke (req : Bytes) (s : State) : Host.Outcome State Fault Refusal := spdmRow 0xFE 5 req s

/-- CLUSTER_RESET_DONE (05 R128; R460). -/
def execClusterResetDone (c : Fin 8) (s : State) : Host.Outcome State Fault Refusal := .next (clusterResetDone c.val s)

/-- BRIDLE_RESET_DONE (10 R244; R460). -/
def execBridleResetDone (s : State) : Host.Outcome State Fault Refusal := .next (bridleResetDone s)

/-- CORE_RESTART_DONE (18 R437; R460). -/
def execCoreRestartDone (core : Fin 4) (s : State) : Host.Outcome State Fault Refusal := .next (coreRestarted core.val s)

end Sys2Proof.Machine
end

