-- ==== Sys2Proof/Machine/GroupRows.lean ====
section
/-! DEFINITION. The rows of Novzeow messages and the group's timeouts. -/

namespace Sys2Proof.Machine

/-- A message that the module takes as a member: of its type, from a member, outside the safe state (17 R390, R391; 18 R432). -/
def State.takes (s : State) (b : Bytes) (type : Nat) : Bool := decide (s.phase = .up) && !s.safe && s.nvOk b type && s.fromMember b

/-- Work of the group that the safe state stops (18 R431, R432). -/
def serving (f : State → State) (s : State) : State := if s.safe || decide (s.phase ≠ .up) then s else (f s).settle

/-- DISCOVER (R392). -/
def execDiscover (net : Fin 2) (msg : Bytes) (s : State) : Host.Outcome State Fault Refusal := .next (discoverIn net.val msg s)

/-- HELLO (R392). -/
def execHello (net : Fin 2) (msg : Bytes) (s : State) : Host.Outcome State Fault Refusal := .next (helloIn net.val msg s)

/-- BEACON (02 R46, R50; R394 to R397, R415). -/
def execBeacon (net : Fin 2) (msg : Bytes) (t : Nat) (s : State) : Host.Outcome State Fault Refusal := .next (if s.phase = .up then (beaconIn net.val msg t s).settle else s)

/-- JOIN (R395 to R397). -/
def execJoin (net : Fin 2) (msg : Bytes) (s : State) : Host.Outcome State Fault Refusal := .next (serving (joinIn net.val msg) s)

/-- JOIN_RETRY (R395). -/
def execJoinRetry (s : State) : Host.Outcome State Fault Refusal := .next (serving joinRetry s)

/-- ADMIT (R396). -/
def execAdmitMsg (net : Fin 2) (msg : Bytes) (s : State) : Host.Outcome State Fault Refusal := .next (let _ := net; serving (admitIn msg) s)

/-- REJECT (R397). -/
def execReject (net : Fin 2) (msg : Bytes) (s : State) : Host.Outcome State Fault Refusal := .next (let _ := net; serving (rejectIn msg) s)

/-- READY (R396, R412). -/
def execReady (msg : Bytes) (s : State) : Host.Outcome State Fault Refusal := .next (serving (readyIn msg) s)

/-- READY_TIMEOUT (R396). -/
def execReadyTimeout (rank : BitVec 16) (s : State) : Host.Outcome State Fault Refusal := .next (serving (readyTimeout rank.toNat) s)

/-- ADMISSION_DEADLINE (R398). -/
def execAdmissionDeadline (rank : BitVec 16) (s : State) : Host.Outcome State Fault Refusal := .next (serving (admissionDeadline rank.toNat) s)

/-- NO_BEACON (R394). -/
def execNoBeacon (s : State) : Host.Outcome State Fault Refusal := .next (noBeacon s)

/-- STATUS (R392, R407). -/
def execStatus (net : Fin 2) (msg : Bytes) (s : State) : Host.Outcome State Fault Refusal := .next (let _ := net; serving (statusIn msg) s)

/-- STATUS_TIMEOUT (R407). -/
def execStatusTimeout (rank : BitVec 16) (s : State) : Host.Outcome State Fault Refusal := .next (serving (statusTimeout rank.toNat) s)

/-- FAIL (R407, R408). -/
def execFailMsg (msg : Bytes) (s : State) : Host.Outcome State Fault Refusal := .next ((failIn msg s).settle)

/-- PLACE (R400). -/
def execPlace (msg : Bytes) (s : State) : Host.Outcome State Fault Refusal := .next (if s.takes msg nvPlace then (s.takePlace msg).settle else s)

/-- PLACE_ACK (R400). -/
def execPlaceAck (msg : Bytes) (s : State) : Host.Outcome State Fault Refusal := .next (if s.takes msg nvPlaceAck then (s.takePlaceAck msg).settle else s)

/-- PLACEMENT_RETRY (R401). -/
def execPlacementRetry (s : State) : Host.Outcome State Fault Refusal := .next (serving placementRetry s)

/-- COPY (R403 to R405). -/
def execCopy (msg : Bytes) (s : State) : Host.Outcome State Fault Refusal := .next (if s.takes msg nvCopy then (s.takeCopy msg).settle else s)

/-- COPY_ACK (R403 to R405). -/
def execCopyAck (msg : Bytes) (s : State) : Host.Outcome State Fault Refusal := .next (if s.takes msg nvCopyAck then (s.takeCopyAck msg).settle else s)

/-- MIRROR_ACK_TIMEOUT (R404). -/
def execMirrorAckTimeout (copyId : BitVec 64) (s : State) : Host.Outcome State Fault Refusal := .next (serving (mirrorTimeout copyId) s)

/-- JOURNAL (R406). -/
def execJournal (msg : Bytes) (s : State) : Host.Outcome State Fault Refusal := .next (if s.takes msg nvJournal then (s.takeJournal msg).settle else s)

/-- JOURNAL_ACK (10 R249; R406). -/
def execJournalAck (msg : Bytes) (s : State) : Host.Outcome State Fault Refusal := .next (if s.takes msg nvJournalAck then (s.takeJournalAck msg).settle else s)

/-- NOVZEOW_QUERY (R416). -/
def execNovzeowQuery (msg : Bytes) (s : State) : Host.Outcome State Fault Refusal := .next (serving (queryIn msg) s)

/-- ANSWER (R416). -/
def execAnswer (msg : Bytes) (s : State) : Host.Outcome State Fault Refusal := .next (serving (answerIn msg) s)

/-- LEVEL (R418). -/
def execLevel (msg : Bytes) (s : State) : Host.Outcome State Fault Refusal := .next (serving (levelIn msg) s)

/-- TAKEOVER (R414). -/
def execTakeover (msg : Bytes) (s : State) : Host.Outcome State Fault Refusal := .next (serving (takeoverIn msg) s)

/-- VOTE (R414). -/
def execVote (msg : Bytes) (s : State) : Host.Outcome State Fault Refusal := .next (serving (voteIn msg) s)

/-- TAKEOVER_TIMEOUT (R414). -/
def execTakeoverTimeout (s : State) : Host.Outcome State Fault Refusal := .next (serving takeoverTimeout s)

/-- LOCATE (R411). -/
def execLocate (net : Fin 2) (msg : Bytes) (s : State) : Host.Outcome State Fault Refusal := .next (serving (locateIn net.val msg) s)

/-- DRAIN (R419). -/
def execDrain (net : Fin 2) (msg : Bytes) (s : State) : Host.Outcome State Fault Refusal := .next (serving (drainIn net.val msg) s)

/-- DRAIN_DONE (R419). -/
def execDrainDone (rank : BitVec 16) (s : State) : Host.Outcome State Fault Refusal := .next (serving (drainDone rank.toNat) s)

end Sys2Proof.Machine
end

