-- ==== Sys2Proof/Machine/HostRows.lean ====
section
/-! DEFINITION. The rows of I/O commands and of the events of models, contexts, refits and search. -/

namespace Sys2Proof.Machine

/-- A node record reaches a waiting context through the query engine's staging (12 R281; 18 R438). -/
def nodeIn (ctx : Nat) (marked : Bool) (s : State) : State :=
  if s.sparReset || !(s.search.queries.any fun q => q.shards.any fun k => decide (k.ctx = some ctx) && decide (k.stage = .traverse)) then s else
  match s.staged 0x98 with
  | (bad, s) => (nodeRead ctx (marked || bad) s).settle

/-- An I/O command arrives on its queue (15 R343, R352): it waits for what ORDERED asks, and starts. Nothing arrives on a queue that is not connected, or under the identifier of a command still open. -/
def ioIn (h : IoHdr) (nvm : Bool) (i : Instr) (s : State) : State :=
  if !s.queueUp h.id || s.isOpen h.id then s
  else (s.enter h.id (bit h.cdw3 0) (some i) (if nvm then none else some h.resLen) h.tenant.toNat (if nvm then h.nsid.toNat else 0)).settle

/-- Does the parameter block belong to the row: its OP byte at offset `o` is the row's `n`? The first row stands for every OP above the last, `m`, and for 0 too. -/
def opRow (b : Bytes) (o n m : Nat) : Bool :=
  let v := (byteAt b o).toNat
  if n = 1 then decide (v ≤ 1) || decide (m < v) else decide (v = n)

/-- Write: data that fails parity in the buffers of the port it comes through is not written (09 R227; 18 R422, R438). -/
def writeIn (h : IoHdr) (slba : W64) (nlb : W16) (data : Bytes) (s : State) : State :=
  let p := match s.ctrlFor h.id.ctrl with | some c => c.port | none => 0
  if !s.queueUp h.id || s.isOpen h.id then s else
  match s.staged (0xC8 + p) with
  | (true, s) => ((s.enter h.id (bit h.cdw3 0)).biteCmd 3 h.id).complete h.id stPoisoned
  | (false, s) => ioIn h true (.write h slba nlb data) s

/-- FLUSH (R350). -/
def execFlush (h : IoHdr) (s : State) : Host.Outcome State Fault Refusal := .next (ioIn h true (.flush h) s)

/-- WRITE (R350, R353). -/
def execWrite (h : IoHdr) (slba : BitVec 64) (nlb : BitVec 16) (data : Bytes) (s : State) : Host.Outcome State Fault Refusal := .next (writeIn h slba nlb data s)

/-- READ (R350). -/
def execRead (h : IoHdr) (slba : BitVec 64) (nlb : BitVec 16) (s : State) : Host.Outcome State Fault Refusal := .next (ioIn h true (.read h slba nlb) s)

/-- WRITE_ZEROES (R350). -/
def execWriteZeroes (h : IoHdr) (slba : BitVec 64) (nlb : BitVec 16) (s : State) : Host.Outcome State Fault Refusal := .next (ioIn h true (.writeZeroes h slba nlb) s)

/-- DATASET_MANAGEMENT (R350). -/
def execDatasetManagement (h : IoHdr) (attrs : BitVec 32) (ranges : List (BitVec 64 × BitVec 32)) (s : State) : Host.Outcome State Fault Refusal := .next (ioIn h true (.datasetManagement h attrs ranges) s)

/-- MODEL_LOAD_BEGIN (15 R361; 10 R233: an OP that no row has comes here too, and is an invalid field). -/
def execModelLoadBegin (h : IoHdr) (pb : Bytes) (s : State) : Host.Outcome State Fault Refusal := if opRow pb 0 1 5 then .next (ioIn h false (.modelLoadBegin h pb) s) else .fault .illFormed

/-- MODEL_LOAD_DATA (15 R361; 10 R233). -/
def execModelLoadData (h : IoHdr) (pb : Bytes) (s : State) : Host.Outcome State Fault Refusal := if opRow pb 0 2 5 then .next (ioIn h false (.modelLoadData h pb) s) else .fault .illFormed

/-- MODEL_LOAD_COMMIT (15 R361, R362; 10 R233). -/
def execModelLoadCommit (h : IoHdr) (pb : Bytes) (s : State) : Host.Outcome State Fault Refusal := if opRow pb 0 3 5 then .next (ioIn h false (.modelLoadCommit h pb) s) else .fault .illFormed

/-- MODEL_LOAD_ADD_SCALE (15 R362). -/
def execModelLoadAddScale (h : IoHdr) (pb : Bytes) (s : State) : Host.Outcome State Fault Refusal := if opRow pb 0 4 5 then .next (ioIn h false (.modelLoadAddScale h pb) s) else .fault .illFormed

/-- MODEL_LOAD_ABANDON (15 R361; 10 R233). -/
def execModelLoadAbandon (h : IoHdr) (pb : Bytes) (s : State) : Host.Outcome State Fault Refusal := if opRow pb 0 5 5 then .next (ioIn h false (.modelLoadAbandon h pb) s) else .fault .illFormed

/-- MODEL_UNLOAD (10 R234). -/
def execModelUnload (h : IoHdr) (pb : Bytes) (s : State) : Host.Outcome State Fault Refusal := .next (ioIn h false (.modelUnload h pb) s)

/-- LIST_MODELS (15 R361). -/
def execListModels (h : IoHdr) (pb : Bytes) (s : State) : Host.Outcome State Fault Refusal := .next (ioIn h false (.listModels h pb) s)

/-- OPEN_CONTEXT (10 R247). -/
def execOpenContext (h : IoHdr) (pb : Bytes) (s : State) : Host.Outcome State Fault Refusal := .next (ioIn h false (.openContext h pb) s)

/-- CLOSE_CONTEXT (10 R250). -/
def execCloseContext (h : IoHdr) (pb : Bytes) (s : State) : Host.Outcome State Fault Refusal := .next (ioIn h false (.closeContext h pb) s)

/-- GET_CONTEXT (15 R361; 10 R245). -/
def execGetContext (h : IoHdr) (pb : Bytes) (s : State) : Host.Outcome State Fault Refusal := .next (ioIn h false (.getContext h pb) s)

/-- TOKEN_BATCH (10 R248, R253; 15 R363). -/
def execTokenBatch (h : IoHdr) (pb : Bytes) (plan : Plan) (s : State) : Host.Outcome State Fault Refusal := .next (ioIn h false (.tokenBatch h pb plan) s)

/-- REFIT_EXPERT (08 R197 to R200). -/
def execRefitExpert (h : IoHdr) (pb : Bytes) (s : State) : Host.Outcome State Fault Refusal := .next (ioIn h false (.refitExpert h pb) s)

/-- EMBEDDING_JOB (12 R290 to R292). -/
def execEmbeddingJob (h : IoHdr) (pb : Bytes) (outDim : Nat) (s : State) : Host.Outcome State Fault Refusal := .next (ioIn h false (.embeddingJob h pb outDim) s)

/-- CREATE_INDEX (12 R271; 15 R364). -/
def execCreateIndex (h : IoHdr) (pb : Bytes) (s : State) : Host.Outcome State Fault Refusal := .next (ioIn h false (.createIndex h pb) s)

/-- DESTROY_INDEX (15 R364). -/
def execDestroyIndex (h : IoHdr) (pb : Bytes) (s : State) : Host.Outcome State Fault Refusal := .next (ioIn h false (.destroyIndex h pb) s)

/-- INSERT (12 R274, R275). -/
def execInsert (h : IoHdr) (pb : Bytes) (s : State) : Host.Outcome State Fault Refusal := .next (ioIn h false (.insert h pb) s)

/-- DELETE (12 R277). -/
def execDelete (h : IoHdr) (pb : Bytes) (s : State) : Host.Outcome State Fault Refusal := .next (ioIn h false (.delete h pb) s)

/-- QUERY (12 R280 to R288). -/
def execQuery (h : IoHdr) (pb : Bytes) (plan : Plan) (s : State) : Host.Outcome State Fault Refusal := .next (ioIn h false (.query h pb plan) s)

/-- FILTER_CREATE (12 R285; 15 R364: an OP that no row has comes here too, and is an invalid field). -/
def execFilterCreate (h : IoHdr) (pb : Bytes) (s : State) : Host.Outcome State Fault Refusal := if opRow pb 10 1 6 then .next (ioIn h false (.filterCreate h pb) s) else .fault .illFormed

/-- FILTER_ADD_IDS (12 R285; 15 R364). -/
def execFilterAddIds (h : IoHdr) (pb : Bytes) (s : State) : Host.Outcome State Fault Refusal := if opRow pb 10 2 6 then .next (ioIn h false (.filterAddIds h pb) s) else .fault .illFormed

/-- FILTER_REMOVE_IDS (12 R285; 15 R364). -/
def execFilterRemoveIds (h : IoHdr) (pb : Bytes) (s : State) : Host.Outcome State Fault Refusal := if opRow pb 10 3 6 then .next (ioIn h false (.filterRemoveIds h pb) s) else .fault .illFormed

/-- FILTER_FILL_ALL (12 R285; 15 R364). -/
def execFilterFillAll (h : IoHdr) (pb : Bytes) (s : State) : Host.Outcome State Fault Refusal := if opRow pb 10 4 6 then .next (ioIn h false (.filterFillAll h pb) s) else .fault .illFormed

/-- FILTER_COMBINE (12 R285; 15 R364). -/
def execFilterCombine (h : IoHdr) (pb : Bytes) (s : State) : Host.Outcome State Fault Refusal := if opRow pb 10 5 6 then .next (ioIn h false (.filterCombine h pb) s) else .fault .illFormed

/-- FILTER_DESTROY (12 R285; 15 R364). -/
def execFilterDestroy (h : IoHdr) (pb : Bytes) (s : State) : Host.Outcome State Fault Refusal := if opRow pb 10 6 6 then .next (ioIn h false (.filterDestroy h pb) s) else .fault .illFormed

/-- MODEL_LOAD_TIMEOUT (15 R362). -/
def execModelLoadTimeout (model : BitVec 64) (s : State) : Host.Outcome State Fault Refusal := .next ((loadTimeout model s).settle)

/-- BUDDY_ACK_TIMEOUT (10 R247). -/
def execBuddyAckTimeout (handle : BitVec 32) (s : State) : Host.Outcome State Fault Refusal := .next ((buddyTimeout handle s).settle)

/-- CONTEXT_CLOSE_DONE (10 R250). -/
def execContextCloseDone (handle : BitVec 32) (s : State) : Host.Outcome State Fault Refusal := .next ((closeDone handle s).settle)

/-- REFIT_COMMIT (08 R200). -/
def execRefitCommit (job : Nat) (s : State) : Host.Outcome State Fault Refusal := .next ((refitCommit job s).settle)

/-- REFIT_SHADOW_TIMEOUT (08 R200). -/
def execRefitShadowTimeout (job : Nat) (s : State) : Host.Outcome State Fault Refusal := .next ((refitShadowTimeout job s).settle)

/-- NODE_READ_DONE (12 R279, R281). -/
def execNodeReadDone (ctx : Nat) (marked : Bool) (s : State) : Host.Outcome State Fault Refusal := .next (nodeIn ctx marked s)

/-- GROUP_QUERY_TIMEOUT (12 R288). -/
def execGroupQueryTimeout (queryId : BitVec 64) (s : State) : Host.Outcome State Fault Refusal := .next ((groupQueryTimeout queryId s).settle)

/-- INDEX_REPAIR (12 R278). -/
def execIndexRepair (s : State) : Host.Outcome State Fault Refusal := .next ((indexRepair s).settle)

end Sys2Proof.Machine
end

