-- ==== Sys2Proof/Machine/LinkRows.lean ====
section
/-! DEFINITION. The rows of ports and queue pairs that end something. -/

namespace Sys2Proof.Machine

/-- A port loses signal or lock on a lane for 10 µs (16 R388). -/
def portFalls (p : Nat) (s : State) : State := if (s.portAt p).up then (s.portLost p).settle else s

/-- A local ACK timeout of a queue pair; one that is exhausted loses its connection (15 R354; 16 R384). -/
def ackTimeout (qp : Nat) (s : State) : State :=
  match s.qpFor qp with
  | none => s
  | some q =>
    let t := ackRetry qp s
    if !q.exhausted s.frame.time then t else
    match q.ctrl with
    | none => t
    | some (n, k) => (if k = 0 then t.dropController n else t.loseQueue n k false).settle

/-- PORT_DOWN (R388). -/
def execPortDown (p : Fin 8) (lane : Fin 4) (s : State) : Host.Outcome State Fault Refusal := .next (let _ := lane; portFalls p.val s)

/-- ACK_TIMEOUT (R384). -/
def execAckTimeout (qp : Nat) (s : State) : Host.Outcome State Fault Refusal := .next (ackTimeout qp s)

/-- TET_EVT_CLR (R389). -/
def execTetEvtClr (p : Fin 8) (v : BitVec 32) (s : State) : Host.Outcome State Fault Refusal := .next (accessWrite (0x03000000 + p.val * 0x10000 + 0x54) v s)

end Sys2Proof.Machine
end

