-- ==== Sys2Proof/Machine/MediaRows.lean ====
section
/-! DEFINITION. The rows of the die service port, of flash and of media management. -/

namespace Sys2Proof.Machine

/-- Address of a controller's register in the window (22 R501). -/
def envAddr (n o : Nat) : Nat := 0x02000000 + n * 0x100000 + o

/-- A write of the register door at time `t`: the debug port's alone, under its scope (13 R298; 21 R490; 22 R506). -/
def dspWrite (n o : Nat) (v : W32) (t : Nat) (s : State) : State := if s.dbgUp then (s.advance t).debugRow (envAddr n o) v else s

/-- The firmware door takes a command: the controller is ready and not in a reset, its firmware runs, and Hold and the safe state leave a program or an erase no place (13 R298, R306; 20 R465). -/
def State.doorOpen (s : State) (n cmd : Nat) : Bool :=
  let k := s.ctrlAt n
  s.firmwareUp && k.ready && !k.inReset && !s.sparReset && !s.inHold && (decide (cmd < 16) || (!k.hold && !k.pwrFail))

/-- A read command of the die service port through either door (R299, R300); a data write that launches another command is not this row's. -/
def dspRead (n cmd : Nat) (door : DspDoor) (s : State) : State :=
  match door with
  | .register data t => if (s.dspAt n).phase = 4 ∧ (s.dspAt n).cmd.toNat ≠ cmd then s else dspWrite n 0x1C data t s
  | .firmware .. => if s.doorOpen n cmd then dspDoor n cmd door s else s

/-- A firmware command that programs: its die may program now, or is failed and refuses it (02 R39; 13 R300, R301). -/
def dspProgram (n cmd : Nat) (die row data : W32) (p : Pass) (s : State) : State :=
  let d := dieOfWord n die
  if s.doorOpen n cmd && (s.dieFailed d || s.dieMayProgram d p) then dspFirmware n cmd [die, row] data s else s

/-- ENV_DSP_KEY (R299, R301). -/
def execEnvDspKey (n : Fin 8) (v : BitVec 32) (t : Nat) (s : State) : Host.Outcome State Fault Refusal := .next (dspWrite n.val 0x10 v t s)

/-- ENV_DSP_CMD (R299 to R301). -/
def execEnvDspCmd (n : Fin 8) (v : BitVec 32) (t : Nat) (s : State) : Host.Outcome State Fault Refusal := .next (dspWrite n.val 0x14 v t s)

/-- ENV_DSP_ADDR (R299, R301). -/
def execEnvDspAddr (n : Fin 8) (v : BitVec 32) (t : Nat) (s : State) : Host.Outcome State Fault Refusal := .next (dspWrite n.val 0x18 v t s)

/-- READ_STATUS (R300, R302). -/
def execReadStatus (n : Fin 8) (door : DspDoor) (s : State) : Host.Outcome State Fault Refusal := .next (dspRead n.val 1 door s)

/-- READ_PAGE (R300). -/
def execReadPage (n : Fin 8) (door : DspDoor) (s : State) : Host.Outcome State Fault Refusal := .next (dspRead n.val 2 door s)

/-- READ_CAL_ROW (R300, R303). -/
def execReadCalRow (n : Fin 8) (door : DspDoor) (s : State) : Host.Outcome State Fault Refusal := .next (dspRead n.val 3 door s)

/-- READ_LEVELS (R300, R309). -/
def execReadLevels (n : Fin 8) (door : DspDoor) (s : State) : Host.Outcome State Fault Refusal := .next (dspRead n.val 4 door s)

/-- PROGRAM_SLC (R300, R306: the page's contents stay with the die). -/
def execProgramSlc (n : Fin 8) (die row : BitVec 32) (data : Bytes) (s : State) : Host.Outcome State Fault Refusal := .next (let _ := data; dspProgram n.val 16 die row 0 .slc s)

/-- PROGRAM_TLC (R294, R300, R306: `fine` is the second of the two passes). -/
def execProgramTlc (n : Fin 8) (die row : BitVec 32) (fine : Bool) (data : Bytes) (s : State) : Host.Outcome State Fault Refusal := .next (let _ := data; dspProgram n.val 17 die row (BitVec.ofNat 32 (b2n fine)) (if fine then .fine else .foggy) s)

/-- ERASE (R300, R304). -/
def execErase (n : Fin 8) (die row : BitVec 32) (s : State) : Host.Outcome State Fault Refusal := .next (if s.doorOpen n.val 18 then dspFirmware n.val 18 [die, row] 0 s else s)

/-- DIE_RESET (R300). -/
def execDieReset (n : Fin 8) (die : BitVec 32) (s : State) : Host.Outcome State Fault Refusal := .next (if s.doorOpen n.val 19 then dspFirmware n.val 19 [die] 0 s else s)

/-- DSP_DONE (R300, R302). -/
def execDspDone (n : Fin 8) (page : Bytes) (step : Fin 6) (s : State) : Host.Outcome State Fault Refusal := .next ((dspDone n.val page step.val s).settle)

/-- DSP_TIMEOUT (R301). -/
def execDspTimeout (n : Fin 8) (s : State) : Host.Outcome State Fault Refusal := .next (dspTimeout n.val s)

/-- CH_WAIT_WRITE (R297). -/
def execChWaitWrite (ch : Fin 256) (second : Bool) (v : BitVec 32) (s : State) : Host.Outcome State Fault Refusal := .next (accessWrite (envAddr (ch.val / 32) (0x1000 + 0x10 * (ch.val % 32) + (if second then 8 else 4))) v s)

/-- PROGRAM_DONE (R306, R307). -/
def execProgramDone (job : Nat) (fail : Bool) (s : State) : Host.Outcome State Fault Refusal := .next (programEnds job fail s)

/-- ERASE_DONE (R304). -/
def execEraseDone (die : Fin 2048) (fail : Bool) (s : State) : Host.Outcome State Fault Refusal := .next (eraseEnds die.val fail s)

/-- FLASH_READ (R310). -/
def execFlashRead (slot : Nat) (step : Fin 6) (s : State) : Host.Outcome State Fault Refusal := .next (flashReadEnds slot step.val s)

/-- DIE_TIMEOUT (R338). -/
def execDieTimeout (die : Fin 2048) (s : State) : Host.Outcome State Fault Refusal := .next (dieTimeout die.val s)

/-- CALIBRATION_READ (R309: seven TLC offsets and one SLC offset). -/
def execCalibrationRead (die : Fin 2048) (block : Nat) (levels : List (BitVec 8)) (s : State) : Host.Outcome State Fault Refusal := if levels.length = 8 then .next (calibrationRead die.val block levels s) else .fault .illFormed

/-- MEDIA_FLUSH (R326). -/
def execMediaFlush (s : State) : Host.Outcome State Fault Refusal := .next (flushDue s)

/-- GC_START (R330, R331). -/
def execGcStart (die : Fin 2048) (bad : List Nat) (s : State) : Host.Outcome State Fault Refusal := .next (gcStart die.val bad s)

/-- GC_COMMIT (R331). -/
def execGcCommit (n : Fin 8) (s : State) : Host.Outcome State Fault Refusal := .next (gcCommit n.val s)

/-- SCRUB (R332, R334). -/
def execScrub (die : Fin 2048) (block cw : Nat) (step : Fin 6) (s : State) : Host.Outcome State Fault Refusal := .next (scrub die.val block cw step.val s)

/-- TEMP_HIST_SAMPLE (R341). -/
def execTempHistSample (s : State) : Host.Outcome State Fault Refusal := .next (tempSample s)

/-- ENVELOPE_CONTROLLER_RESET_DONE (13 R296; 20 R460). -/
def execEnvelopeControllerResetDone (n : Fin 8) (rates : List (BitVec 3)) (s : State) : Host.Outcome State Fault Refusal := .next (envResetEnds n.val rates s)

end Sys2Proof.Machine
end

