-- ==== Sys2Proof/Machine/ReelRows.lean ====
section
/-! DEFINITION. The rows of the Reel and the Bridle. -/

namespace Sys2Proof.Machine

/-- A fetch ends; the bytes pass through the Reel's staging (18 R438). -/
def fetchIn (addr : W64) (piece : Nat) (bad : List Nat) (steps : List (Nat × Fin 6)) (data : Bytes) (marks : List Nat) (s : State) : State :=
  let open_ := s.reel.moves.any (fun m => decide (m.addr = addr) && decide (m.piece = piece)) || s.reel.plan.any fun f => decide (f.addr = addr) && decide (f.piece = piece)
  if s.sparReset || s.inHold || decide (s.phase ≠ .up) || !open_ then s else
  match s.staged 0x9A with
  | (true, s) => ((fetchEnds addr piece bad steps data (0 :: marks) s).markObj (addr + BitVec.ofNat 64 (piece * 1048576)) 64).settle
  | (false, s) => (fetchEnds addr piece bad steps data marks s).settle

/-- A token-batch message arrives: in a module that runs, outside the safe state and a Spar reset, it is taken (10 R241; 18 R432). -/
def messageIn (net : Nat) (b : Bytes) (t : Nat) (s : State) : State :=
  if s.bare || s.safe || s.sparReset || s.inHold || decide (s.phase ≠ .up) then s else
  match s.staged 0x99 with
  | (bad, s) => (s.brdTake net b t bad).settle

/-- FETCH_DONE (R210, R220, R224). -/
def execFetchDone (addr : BitVec 64) (piece : Nat) (got : FetchIn) (s : State) : Host.Outcome State Fault Refusal := .next (fetchIn addr piece got.bad got.steps got.data got.marks s)

/-- MOVE_ABORT_TIMEOUT (R213). -/
def execMoveAbortTimeout (mv : Nat) (s : State) : Host.Outcome State Fault Refusal := .next ((moveTimeout mv s).settle)

/-- REFETCH (R226). -/
def execRefetch (addr : BitVec 64) (t1Ok t2Ok t3Ok : Bool) (s : State) : Host.Outcome State Fault Refusal := .next (if s.sparReset || decide (s.phase ≠ .up) then s else (refetchUnit addr t1Ok t2Ok t3Ok s).settle)

/-- KV_REPAIR (10 R252). -/
def execKvRepair (handle : BitVec 32) (unit : Nat) (s : State) : Host.Outcome State Fault Refusal := .next (if s.sparReset || s.safe || decide (s.phase ≠ .up) then s else kvRepair handle unit s)

/-- BRIDLE_MESSAGE (R241 to R244). -/
def execBridleMessage (msg : MessageIn) (t : Nat) (s : State) : Host.Outcome State Fault Refusal := .next (messageIn msg.net.val msg.msg t s)

/-- DROP_NOTICE (R242). -/
def execDropNotice (msg : Bytes) (s : State) : Host.Outcome State Fault Refusal := .next (if s.bridle.inReset then s else s.brdNoticed msg)

/-- DISPATCH_TIMEOUT (R242). -/
def execDispatchTimeout (ctx pos : BitVec 32) (layer : BitVec 16) (slot : BitVec 8) (s : State) : Host.Outcome State Fault Refusal := .next (s.brdTimeout ctx pos layer slot)

end Sys2Proof.Machine
end

