-- ==== Sys2Proof/Machine/SparRows.lean ====
section
/-! DEFINITION. The rows of passes, clusters and their interrupt controllers. -/

namespace Sys2Proof.Machine

/-- The unit that an event of a cluster needs: it is powered and not in a reset. -/
def State.clusterUp (s : State) (c : Nat) : Bool := decide (s.phase = .up) && !s.sparReset && !(s.clusterAt c).asleep && !(s.clusterAt c).inReset

/-- A pass starts; its queue entry is read first (18 R426, R438). -/
def passStarts (c uid t : Nat) (s : State) : State :=
  match s.firstEligible c (max t s.frame.time) with
  | some e =>
    if decide (e.uid = uid) && s.mayStart c && (s.parTrip 0xB0 (parEntry uid) 64).1 then ((s.parTrip 0xB0 (parEntry uid) 64).2).fault (mkFault 0x10 0x0A00)
    else startPass c uid t s
  | none => s

/-- The run-cycle counter passes MAX_US × 1,750 (07 R170). -/
def passLate (c : Nat) (s : State) : State :=
  match s.runEntry c with
  | some e =>
    if s.stopped c then s
    else s.modCluster c fun (k : Cluster) =>
      let k := k.markLate
      { k with seq := { k.seq with cyc := max k.seq.cyc (e.d.maxUs * 1750 + 1) } }
  | none => s

/-- The watchdog ends a pass, and its report brings the cluster reset (07 R174; 18 R426). -/
def watchdogEnds (c t : Nat) (s : State) : State :=
  if (s.clusterAt c).seq.run.isNone || s.stopped c then s
  else ((watchdogPass c (s.advance t)).fault (mkFault 4 (0x300 + c))).settle

/-- A parity error on a tile's paths (05 R126; 18 R426). -/
def tilePath (tile : Nat) (s : State) : State :=
  if !s.clusterUp (tile / 8) then s else
  match tileFault tile s with
  | (true, s) => (s.fault (mkFault 3 (0x100 + tile))).settle
  | (false, s) => s.settle

/-- A poisoned read of read-only weights (05 R125; 07 R173). -/
def weightMark (tile : Nat) (s : State) : State :=
  match s.runEntry (tile / 8) with
  | some e => if e.d.wtRo && !s.stopped (tile / 8) then (weightPoison (tile / 8) (tile % 8) s).settle else s
  | none => s

/-- A Reel write into a cluster's stores passes through the Reel's staging (18 R438). -/
def reelWrite (c : Nat) (f : Fill) (s : State) : State :=
  if !s.clusterUp c then s else
  match s.staged 0x9A with
  | (true, s) => reelFill c f true s
  | (false, s) => reelFill c f false s

/-- The controller enters a handler; a parity error on its registers is SOURCE 04h (07 R181; 18 R426, R438). -/
def handlerIn (c : Nat) (s : State) : State :=
  if s.stopped c || (s.clusterAt c).ic.busy || (s.clusterAt c).ic.next.isNone then s else
  match s.parTrip (0xA8 + c) 0 4 with
  | (true, s) => (s.fault (mkFault 4 (0x300 + c))).settle
  | (false, s) => enterHandler c s

/-- Addresses of a cluster's registers in the window (22 R501). -/
def spcAddr (c o : Nat) : Nat := 0x01000000 + c * 0x40000 + o

/-- PASS_SUBMIT (R160, R166: a descriptor is 128 bytes). -/
def execPassSubmit (desc : Bytes) (prog : List (BitVec 64)) (src : PassSrc) (s : State) : Host.Outcome State Fault Refusal := if desc.length = 128 then .next (submitPass desc prog src s).settle else .fault .illFormed

/-- PROGRAM_LOAD (R161, R165). -/
def execProgramLoad (c : Fin 8) (uid : Nat) (s : State) : Host.Outcome State Fault Refusal := .next ((loadProgram c.val uid s).settle)

/-- PASS_START (R167, R170). -/
def execPassStart (c : Fin 8) (uid : Nat) (t : Nat) (s : State) : Host.Outcome State Fault Refusal := .next (passStarts c.val uid t s)

/-- RUN_DONE (R162, R180). -/
def execRunDone (c : Fin 8) (u : Fin 8) (s : State) : Host.Outcome State Fault Refusal := .next ((runDrains c.val u.val s).settle)

/-- PASS_COMMIT (R171). -/
def execPassCommit (c : Fin 8) (cycles t : Nat) (s : State) : Host.Outcome State Fault Refusal := .next ((commitPass c.val cycles t s).settle)

/-- LATE (R170). -/
def execLate (c : Fin 8) (s : State) : Host.Outcome State Fault Refusal := .next (passLate c.val s)

/-- TILE_PARITY_ERROR (05 R126; 18 R426). -/
def execTileParityError (tile : Fin 64) (s : State) : Host.Outcome State Fault Refusal := .next (tilePath tile.val s)

/-- VECTOR_PARITY_ERROR (06 R152). -/
def execVectorParityError (c : Fin 8) (s : State) : Host.Outcome State Fault Refusal := .next (if s.clusterUp c.val then (vectorFault c.val s).settle else s)

/-- WT_POISON (R173). -/
def execWtPoison (tile : Fin 64) (s : State) : Host.Outcome State Fault Refusal := .next (weightMark tile.val s)

/-- REEL_RELOAD (R173). -/
def execReelReload (c : Fin 8) (what : ReloadIn) (s : State) : Host.Outcome State Fault Refusal := .next (if s.sparReset then s else reloadEnd c.val what.uid what.bad s)

/-- REEL_DONE (05 R118; R180). -/
def execReelDone (c : Fin 8) (fill : Fill) (s : State) : Host.Outcome State Fault Refusal := .next (reelWrite c.val fill s)

/-- SCALE_STORE_LOAD (08 R191). -/
def execScaleStoreLoad (c : Fin 8) (what : ReloadIn) (s : State) : Host.Outcome State Fault Refusal := .next (loadScales c.val what.uid what.bad s)

/-- WDOG (R174). -/
def execWdog (c : Fin 8) (t : Nat) (s : State) : Host.Outcome State Fault Refusal := .next (watchdogEnds c.val t s)

/-- SPAR_RESET_DONE (01 R18; 18 R434; 20 R460). -/
def execSparResetDone (s : State) : Host.Outcome State Fault Refusal := .next ((sparResetDone s).settle)

/-- HANDLER_ENTRY (R181). -/
def execHandlerEntry (c : Fin 8) (s : State) : Host.Outcome State Fault Refusal := .next (handlerIn c.val s)

/-- SPC_IC_PEND_SET (R182, R184). -/
def execSpcIcPendSet (c : Fin 8) (hi : Bool) (v : BitVec 32) (s : State) : Host.Outcome State Fault Refusal := .next (accessWrite (spcAddr c.val (0x18008 + 4 * b2n hi)) v s)

/-- SPC_IC_PEND_CLR (R182, R184). -/
def execSpcIcPendClr (c : Fin 8) (hi : Bool) (v : BitVec 32) (s : State) : Host.Outcome State Fault Refusal := .next (accessWrite (spcAddr c.val (0x18010 + 4 * b2n hi)) v s)

/-- SPC_IC_EN_SET (R182, R184). -/
def execSpcIcEnSet (c : Fin 8) (hi : Bool) (v : BitVec 32) (s : State) : Host.Outcome State Fault Refusal := .next (accessWrite (spcAddr c.val (0x18020 + 4 * b2n hi)) v s)

/-- SPC_IC_EN_CLR (R182, R184). -/
def execSpcIcEnClr (c : Fin 8) (hi : Bool) (v : BitVec 32) (s : State) : Host.Outcome State Fault Refusal := .next (accessWrite (spcAddr c.val (0x18028 + 4 * b2n hi)) v s)

/-- SPC_MT_FLAGS_CLR (05 R127). -/
def execSpcMtFlagsClr (tile : Fin 64) (v : BitVec 32) (s : State) : Host.Outcome State Fault Refusal := .next (accessWrite (spcAddr (tile.val / 8) (0x1000 * (tile.val % 8) + 0x0C)) v s)

/-- SPC_VU_FLAGS_CLR (06 R152). -/
def execSpcVuFlagsClr (c : Fin 8) (v : BitVec 32) (s : State) : Host.Outcome State Fault Refusal := .next (accessWrite (spcAddr c.val 0x20008) v s)

end Sys2Proof.Machine
end

