-- ==== Sys2Proof/Machine/Dispatch.lean ====
section
/-! DEFINITION. exec: one arm for each command, each one call of its meaning. -/

namespace Sys2Proof.Machine

/-- What command `i` does to state `s`, its queue apart. -/
def exec (i : Instr) (s : State) : Host.Outcome State Fault Refusal :=
  match i with
  | .pwrEnAssert mv => Sys2Proof.Machine.execPwrEnAssert mv s
  | .powerGood => Sys2Proof.Machine.execPowerGood s
  | .railTimeout rail => Sys2Proof.Machine.execRailTimeout rail s
  | .pwrEnDeassert => Sys2Proof.Machine.execPwrEnDeassert s
  | .inputSample mv ma10 => Sys2Proof.Machine.execInputSample mv ma10 s
  | .inputRestored => Sys2Proof.Machine.execInputRestored s
  | .holdupBod => Sys2Proof.Machine.execHoldupBod s
  | .holdupTest estimateUs => Sys2Proof.Machine.execHoldupTest estimateUs s
  | .moduleReset lowNs => Sys2Proof.Machine.execModuleReset lowNs s
  | .boot => Sys2Proof.Machine.execBoot s
  | .mapRebuild rb => Sys2Proof.Machine.execMapRebuild rb s
  | .shardReplay index shard => Sys2Proof.Machine.execShardReplay index shard s
  | .sensorSample readings => Sys2Proof.Machine.execSensorSample readings s
  | .railExcursion rail => Sys2Proof.Machine.execRailExcursion rail s
  | .softStepDown => Sys2Proof.Machine.execSoftStepDown s
  | .softStepUp => Sys2Proof.Machine.execSoftStepUp s
  | .hardThrottle => Sys2Proof.Machine.execHardThrottle s
  | .freezeEnd => Sys2Proof.Machine.execFreezeEnd s
  | .droop g => Sys2Proof.Machine.execDroop g s
  | .avsLoop margins stretchPm => Sys2Proof.Machine.execAvsLoop margins stretchPm s
  | .sleepReq c => Sys2Proof.Machine.execSleepReq c s
  | .arraySleepEnter c => Sys2Proof.Machine.execArraySleepEnter c s
  | .arraySleepWake c => Sys2Proof.Machine.execArraySleepWake c s
  | .pwrHoldSet v => Sys2Proof.Machine.execPwrHoldSet v s
  | .pwrHoldClr v => Sys2Proof.Machine.execPwrHoldClr v s
  | .tick move => Sys2Proof.Machine.execTick move s
  | .slotOpen c slot => Sys2Proof.Machine.execSlotOpen c slot s
  | .slotClose c slot => Sys2Proof.Machine.execSlotClose c slot s
  | .guardBand c slot => Sys2Proof.Machine.execGuardBand c slot s
  | .closingWindow c slot => Sys2Proof.Machine.execClosingWindow c slot s
  | .syncInEdge t => Sys2Proof.Machine.execSyncInEdge t s
  | .syncAcquireTimeout => Sys2Proof.Machine.execSyncAcquireTimeout s
  | .syncLost => Sys2Proof.Machine.execSyncLost s
  | .frmEvtClr v => Sys2Proof.Machine.execFrmEvtClr v s
  | .loftImageTransfer id numd ofst data => Sys2Proof.Machine.execLoftImageTransfer id numd ofst data s
  | .loftImageApply id cdw10 cdw11 cdw12 => Sys2Proof.Machine.execLoftImageApply id cdw10 cdw11 cdw12 s
  | .loftImageApplyActFrame id rsv cdw11 cdw12 => Sys2Proof.Machine.execLoftImageApplyActFrame id rsv cdw11 cdw12 s
  | .loftImageCancel id rsv cdw11 cdw12 => Sys2Proof.Machine.execLoftImageCancel id rsv cdw11 cdw12 s
  | .imageCheckDone => Sys2Proof.Machine.execImageCheckDone s
  | .identify id cns nsid => Sys2Proof.Machine.execIdentify id cns nsid s
  | .getLogPage id lid lsi ofs len => Sys2Proof.Machine.execGetLogPage id lid lsi ofs len s
  | .getFeatures id fid => Sys2Proof.Machine.execGetFeatures id fid s
  | .setFeatures id fid cdw11 => Sys2Proof.Machine.execSetFeatures id fid cdw11 s
  | .asyncEventRequest id => Sys2Proof.Machine.execAsyncEventRequest id s
  | .abort id victim => Sys2Proof.Machine.execAbort id victim s
  | .keepAlive id => Sys2Proof.Machine.execKeepAlive id s
  | .keepAliveTimeout ctrl => Sys2Proof.Machine.execKeepAliveTimeout ctrl s
  | .firmwareImageDownload id ofst data => Sys2Proof.Machine.execFirmwareImageDownload id ofst data s
  | .firmwareCommitReplace id slot => Sys2Proof.Machine.execFirmwareCommitReplace id slot s
  | .firmwareCommitActivate id slot => Sys2Proof.Machine.execFirmwareCommitActivate id slot s
  | .firmwareCommitSlot id slot => Sys2Proof.Machine.execFirmwareCommitSlot id slot s
  | .securitySend id secp data => Sys2Proof.Machine.execSecuritySend id secp data s
  | .securityReceive id secp len => Sys2Proof.Machine.execSecurityReceive id secp len s
  | .registerAccessRead id core addr cdw11 rsv => Sys2Proof.Machine.execRegisterAccessRead id core addr cdw11 rsv s
  | .registerAccessWrite id core addr cdw11 rsv data => Sys2Proof.Machine.execRegisterAccessWrite id core addr cdw11 rsv data s
  | .registerWrite master addr v => Sys2Proof.Machine.execRegisterWrite master addr v s
  | .namespaceCreate id nsze lbaf cianber => Sys2Proof.Machine.execNamespaceCreate id nsze lbaf cianber s
  | .namespaceDelete id nsid => Sys2Proof.Machine.execNamespaceDelete id nsid s
  | .formatNvm id nsid lbaf ses => Sys2Proof.Machine.execFormatNvm id nsid lbaf ses s
  | .connect id port sqsize kato => Sys2Proof.Machine.execConnect id port sqsize kato s
  | .propertyGet id ofs => Sys2Proof.Machine.execPropertyGet id ofs s
  | .propertySet id ofs v => Sys2Proof.Machine.execPropertySet id ofs v s
  | .disconnect id => Sys2Proof.Machine.execDisconnect id s
  | .transportConnectionLost ctrl sq => Sys2Proof.Machine.execTransportConnectionLost ctrl sq s
  | .flush h => Sys2Proof.Machine.execFlush h s
  | .write h slba nlb data => Sys2Proof.Machine.execWrite h slba nlb data s
  | .read h slba nlb => Sys2Proof.Machine.execRead h slba nlb s
  | .writeZeroes h slba nlb => Sys2Proof.Machine.execWriteZeroes h slba nlb s
  | .datasetManagement h attrs ranges => Sys2Proof.Machine.execDatasetManagement h attrs ranges s
  | .modelLoadBegin h pb => Sys2Proof.Machine.execModelLoadBegin h pb s
  | .modelLoadData h pb => Sys2Proof.Machine.execModelLoadData h pb s
  | .modelLoadCommit h pb => Sys2Proof.Machine.execModelLoadCommit h pb s
  | .modelLoadAddScale h pb => Sys2Proof.Machine.execModelLoadAddScale h pb s
  | .modelLoadAbandon h pb => Sys2Proof.Machine.execModelLoadAbandon h pb s
  | .modelLoadTimeout model => Sys2Proof.Machine.execModelLoadTimeout model s
  | .modelUnload h pb => Sys2Proof.Machine.execModelUnload h pb s
  | .listModels h pb => Sys2Proof.Machine.execListModels h pb s
  | .openContext h pb => Sys2Proof.Machine.execOpenContext h pb s
  | .buddyAckTimeout handle => Sys2Proof.Machine.execBuddyAckTimeout handle s
  | .closeContext h pb => Sys2Proof.Machine.execCloseContext h pb s
  | .contextCloseDone handle => Sys2Proof.Machine.execContextCloseDone handle s
  | .getContext h pb => Sys2Proof.Machine.execGetContext h pb s
  | .tokenBatch h pb plan => Sys2Proof.Machine.execTokenBatch h pb plan s
  | .refitExpert h pb => Sys2Proof.Machine.execRefitExpert h pb s
  | .refitCommit job => Sys2Proof.Machine.execRefitCommit job s
  | .refitShadowTimeout job => Sys2Proof.Machine.execRefitShadowTimeout job s
  | .embeddingJob h pb outDim => Sys2Proof.Machine.execEmbeddingJob h pb outDim s
  | .createIndex h pb => Sys2Proof.Machine.execCreateIndex h pb s
  | .destroyIndex h pb => Sys2Proof.Machine.execDestroyIndex h pb s
  | .insert h pb => Sys2Proof.Machine.execInsert h pb s
  | .delete h pb => Sys2Proof.Machine.execDelete h pb s
  | .query h pb plan => Sys2Proof.Machine.execQuery h pb plan s
  | .nodeReadDone ctx marked => Sys2Proof.Machine.execNodeReadDone ctx marked s
  | .groupQueryTimeout queryId => Sys2Proof.Machine.execGroupQueryTimeout queryId s
  | .filterCreate h pb => Sys2Proof.Machine.execFilterCreate h pb s
  | .filterAddIds h pb => Sys2Proof.Machine.execFilterAddIds h pb s
  | .filterRemoveIds h pb => Sys2Proof.Machine.execFilterRemoveIds h pb s
  | .filterFillAll h pb => Sys2Proof.Machine.execFilterFillAll h pb s
  | .filterCombine h pb => Sys2Proof.Machine.execFilterCombine h pb s
  | .filterDestroy h pb => Sys2Proof.Machine.execFilterDestroy h pb s
  | .indexRepair => Sys2Proof.Machine.execIndexRepair s
  | .passSubmit desc prog src => Sys2Proof.Machine.execPassSubmit desc prog src s
  | .programLoad c uid => Sys2Proof.Machine.execProgramLoad c uid s
  | .passStart c uid t => Sys2Proof.Machine.execPassStart c uid t s
  | .vnop c w => Sys2Proof.Machine.execVnop c w s
  | .vsetvl c w => Sys2Proof.Machine.execVsetvl c w s
  | .vld c w => Sys2Proof.Machine.execVld c w s
  | .vst c w => Sys2Proof.Machine.execVst c w s
  | .vgather c w => Sys2Proof.Machine.execVgather c w s
  | .vperm c w => Sys2Proof.Machine.execVperm c w s
  | .vbcast c w => Sys2Proof.Machine.execVbcast c w s
  | .vcvt c w => Sys2Proof.Machine.execVcvt c w s
  | .vadd c w => Sys2Proof.Machine.execVadd c w s
  | .vmul c w => Sys2Proof.Machine.execVmul c w s
  | .vfma c w => Sys2Proof.Machine.execVfma c w s
  | .vcmp c w => Sys2Proof.Machine.execVcmp c w s
  | .vsel c w => Sys2Proof.Machine.execVsel c w s
  | .vmin c w => Sys2Proof.Machine.execVmin c w s
  | .vmax c w => Sys2Proof.Machine.execVmax c w s
  | .vmlog c w => Sys2Proof.Machine.execVmlog c w s
  | .vred c w => Sys2Proof.Machine.execVred c w s
  | .mrun c r => Sys2Proof.Machine.execMrun c r s
  | .mwait c w => Sys2Proof.Machine.execMwait c w s
  | .sli c w => Sys2Proof.Machine.execSli c w s
  | .sadd c w => Sys2Proof.Machine.execSadd c w s
  | .sld c w => Sys2Proof.Machine.execSld c w s
  | .br c w => Sys2Proof.Machine.execBr c w s
  | .spawn c w => Sys2Proof.Machine.execSpawn c w s
  | .signal c w => Sys2Proof.Machine.execSignal c w s
  | .hret c => Sys2Proof.Machine.execHret c s
  | .endProgram c => Sys2Proof.Machine.execEndProgram c s
  | .runDone c u => Sys2Proof.Machine.execRunDone c u s
  | .passCommit c cycles t => Sys2Proof.Machine.execPassCommit c cycles t s
  | .late c => Sys2Proof.Machine.execLate c s
  | .tileParityError tile => Sys2Proof.Machine.execTileParityError tile s
  | .vectorParityError c => Sys2Proof.Machine.execVectorParityError c s
  | .wtPoison tile => Sys2Proof.Machine.execWtPoison tile s
  | .reelReload c what => Sys2Proof.Machine.execReelReload c what s
  | .reelDone c fill => Sys2Proof.Machine.execReelDone c fill s
  | .scaleStoreLoad c what => Sys2Proof.Machine.execScaleStoreLoad c what s
  | .wdog c t => Sys2Proof.Machine.execWdog c t s
  | .sparResetDone => Sys2Proof.Machine.execSparResetDone s
  | .handlerEntry c => Sys2Proof.Machine.execHandlerEntry c s
  | .spcIcPendSet c hi v => Sys2Proof.Machine.execSpcIcPendSet c hi v s
  | .spcIcPendClr c hi v => Sys2Proof.Machine.execSpcIcPendClr c hi v s
  | .spcIcEnSet c hi v => Sys2Proof.Machine.execSpcIcEnSet c hi v s
  | .spcIcEnClr c hi v => Sys2Proof.Machine.execSpcIcEnClr c hi v s
  | .spcMtFlagsClr tile v => Sys2Proof.Machine.execSpcMtFlagsClr tile v s
  | .spcVuFlagsClr c v => Sys2Proof.Machine.execSpcVuFlagsClr c v s
  | .fetchDone addr piece got => Sys2Proof.Machine.execFetchDone addr piece got s
  | .moveAbortTimeout mv => Sys2Proof.Machine.execMoveAbortTimeout mv s
  | .refetch addr t1Ok t2Ok t3Ok => Sys2Proof.Machine.execRefetch addr t1Ok t2Ok t3Ok s
  | .kvRepair handle unit => Sys2Proof.Machine.execKvRepair handle unit s
  | .bridleMessage msg t => Sys2Proof.Machine.execBridleMessage msg t s
  | .dropNotice msg => Sys2Proof.Machine.execDropNotice msg s
  | .dispatchTimeout ctx pos layer slot => Sys2Proof.Machine.execDispatchTimeout ctx pos layer slot s
  | .envDspKey n v t => Sys2Proof.Machine.execEnvDspKey n v t s
  | .envDspCmd n v t => Sys2Proof.Machine.execEnvDspCmd n v t s
  | .envDspAddr n v t => Sys2Proof.Machine.execEnvDspAddr n v t s
  | .readStatus n door => Sys2Proof.Machine.execReadStatus n door s
  | .readPage n door => Sys2Proof.Machine.execReadPage n door s
  | .readCalRow n door => Sys2Proof.Machine.execReadCalRow n door s
  | .readLevels n door => Sys2Proof.Machine.execReadLevels n door s
  | .programSlc n die row data => Sys2Proof.Machine.execProgramSlc n die row data s
  | .programTlc n die row fine data => Sys2Proof.Machine.execProgramTlc n die row fine data s
  | .erase n die row => Sys2Proof.Machine.execErase n die row s
  | .dieReset n die => Sys2Proof.Machine.execDieReset n die s
  | .dspDone n page step => Sys2Proof.Machine.execDspDone n page step s
  | .dspTimeout n => Sys2Proof.Machine.execDspTimeout n s
  | .chWaitWrite ch second v => Sys2Proof.Machine.execChWaitWrite ch second v s
  | .programDone job fail => Sys2Proof.Machine.execProgramDone job fail s
  | .eraseDone die fail => Sys2Proof.Machine.execEraseDone die fail s
  | .flashRead slot step => Sys2Proof.Machine.execFlashRead slot step s
  | .dieTimeout die => Sys2Proof.Machine.execDieTimeout die s
  | .calibrationRead die block levels => Sys2Proof.Machine.execCalibrationRead die block levels s
  | .mediaFlush => Sys2Proof.Machine.execMediaFlush s
  | .gcStart die bad => Sys2Proof.Machine.execGcStart die bad s
  | .gcCommit n => Sys2Proof.Machine.execGcCommit n s
  | .scrub die block cw step => Sys2Proof.Machine.execScrub die block cw step s
  | .tempHistSample => Sys2Proof.Machine.execTempHistSample s
  | .signalDetect lane => Sys2Proof.Machine.execSignalDetect lane s
  | .trainingFrame lane ctl sts crcCtl crcSts self => Sys2Proof.Machine.execTrainingFrame lane ctl sts crcCtl crcSts self s
  | .trainingTimeout lane => Sys2Proof.Machine.execTrainingTimeout lane s
  | .trainingModeSwitch p => Sys2Proof.Machine.execTrainingModeSwitch p s
  | .alignmentMarker lane am pairs bitErr corr uncorr => Sys2Proof.Machine.execAlignmentMarker lane am pairs bitErr corr uncorr s
  | .portDown p lane => Sys2Proof.Machine.execPortDown p lane s
  | .portRetrain p => Sys2Proof.Machine.execPortRetrain p s
  | .fecDegrade lane => Sys2Proof.Machine.execFecDegrade lane s
  | .addressAcquired p => Sys2Proof.Machine.execAddressAcquired p s
  | .congestionNotification qp => Sys2Proof.Machine.execCongestionNotification qp s
  | .rateRaise qp => Sys2Proof.Machine.execRateRaise qp s
  | .ackTimeout qp => Sys2Proof.Machine.execAckTimeout qp s
  | .ptpEventMessage p egress seq t => Sys2Proof.Machine.execPtpEventMessage p egress seq t s
  | .tetEvtClr p v => Sys2Proof.Machine.execTetEvtClr p v s
  | .discover net msg => Sys2Proof.Machine.execDiscover net msg s
  | .hello net msg => Sys2Proof.Machine.execHello net msg s
  | .beacon net msg t => Sys2Proof.Machine.execBeacon net msg t s
  | .join net msg => Sys2Proof.Machine.execJoin net msg s
  | .joinRetry => Sys2Proof.Machine.execJoinRetry s
  | .admitMsg net msg => Sys2Proof.Machine.execAdmitMsg net msg s
  | .reject net msg => Sys2Proof.Machine.execReject net msg s
  | .ready msg => Sys2Proof.Machine.execReady msg s
  | .readyTimeout rank => Sys2Proof.Machine.execReadyTimeout rank s
  | .admissionDeadline rank => Sys2Proof.Machine.execAdmissionDeadline rank s
  | .noBeacon => Sys2Proof.Machine.execNoBeacon s
  | .status net msg => Sys2Proof.Machine.execStatus net msg s
  | .statusTimeout rank => Sys2Proof.Machine.execStatusTimeout rank s
  | .failMsg msg => Sys2Proof.Machine.execFailMsg msg s
  | .place msg => Sys2Proof.Machine.execPlace msg s
  | .placeAck msg => Sys2Proof.Machine.execPlaceAck msg s
  | .placementRetry => Sys2Proof.Machine.execPlacementRetry s
  | .copy msg => Sys2Proof.Machine.execCopy msg s
  | .copyAck msg => Sys2Proof.Machine.execCopyAck msg s
  | .mirrorAckTimeout copyId => Sys2Proof.Machine.execMirrorAckTimeout copyId s
  | .journal msg => Sys2Proof.Machine.execJournal msg s
  | .journalAck msg => Sys2Proof.Machine.execJournalAck msg s
  | .novzeowQuery msg => Sys2Proof.Machine.execNovzeowQuery msg s
  | .answer msg => Sys2Proof.Machine.execAnswer msg s
  | .level msg => Sys2Proof.Machine.execLevel msg s
  | .takeover msg => Sys2Proof.Machine.execTakeover msg s
  | .vote msg => Sys2Proof.Machine.execVote msg s
  | .takeoverTimeout => Sys2Proof.Machine.execTakeoverTimeout s
  | .locate net msg => Sys2Proof.Machine.execLocate net msg s
  | .drain net msg => Sys2Proof.Machine.execDrain net msg s
  | .drainDone rank => Sys2Proof.Machine.execDrainDone rank s
  | .faultReport f => Sys2Proof.Machine.execFaultReport f s
  | .quietPeriodEnd => Sys2Proof.Machine.execQuietPeriodEnd s
  | .drogueParityError => Sys2Proof.Machine.execDrogueParityError s
  | .drgCapClr v => Sys2Proof.Machine.execDrgCapClr v s
  | .drgHb master v => Sys2Proof.Machine.execDrgHb master v s
  | .heartbeatMiss core => Sys2Proof.Machine.execHeartbeatMiss core s
  | .managementWatchdog => Sys2Proof.Machine.execManagementWatchdog s
  | .parFlipMask g v => Sys2Proof.Machine.execParFlipMask g v s
  | .getVersion req => Sys2Proof.Machine.execGetVersion req s
  | .getCapabilities req => Sys2Proof.Machine.execGetCapabilities req s
  | .negotiateAlgorithms req => Sys2Proof.Machine.execNegotiateAlgorithms req s
  | .getDigests req => Sys2Proof.Machine.execGetDigests req s
  | .getCertificate req => Sys2Proof.Machine.execGetCertificate req s
  | .challenge req => Sys2Proof.Machine.execChallenge req s
  | .getMeasurements req => Sys2Proof.Machine.execGetMeasurements req s
  | .chunkGet req => Sys2Proof.Machine.execChunkGet req s
  | .getPqCert req => Sys2Proof.Machine.execGetPqCert req s
  | .getPqSignature req => Sys2Proof.Machine.execGetPqSignature req s
  | .getNonce req => Sys2Proof.Machine.execGetNonce req s
  | .ownerSet req => Sys2Proof.Machine.execOwnerSet req s
  | .ownerRevoke req => Sys2Proof.Machine.execOwnerRevoke req s
  | .rd hdr wide addr wait => Sys2Proof.Machine.execRd hdr wide addr wait s
  | .wr hdr wide addr v par wait => Sys2Proof.Machine.execWr hdr wide addr v par wait s
  | .rdNext hdr wait => Sys2Proof.Machine.execRdNext hdr wait s
  | .wrNext hdr v par wait => Sys2Proof.Machine.execWrNext hdr v par wait s
  | .wrSame hdr v par wait => Sys2Proof.Machine.execWrSame hdr v par wait s
  | .lineReset high low => Sys2Proof.Machine.execLineReset high low s
  | .unlock => Sys2Proof.Machine.execUnlock s
  | .tokenCheckDone => Sys2Proof.Machine.execTokenCheckDone s
  | .relock => Sys2Proof.Machine.execRelock s
  | .clrFault => Sys2Proof.Machine.execClrFault s
  | .dbgRcvData v => Sys2Proof.Machine.execDbgRcvData v s
  | .rcvCommit => Sys2Proof.Machine.execRcvCommit s
  | .dbgHaltSet v => Sys2Proof.Machine.execDbgHaltSet v s
  | .dbgHaltClr v => Sys2Proof.Machine.execDbgHaltClr v s
  | .dbgStep v => Sys2Proof.Machine.execDbgStep v s
  | .breakpointHit u => Sys2Proof.Machine.execBreakpointHit u s
  | .nvmeMiBasic code => Sys2Proof.Machine.execNvmeMiBasic code s
  | .fruRead ofs len => Sys2Proof.Machine.execFruRead ofs len s
  | .clusterResetDone c => Sys2Proof.Machine.execClusterResetDone c s
  | .envelopeControllerResetDone n rates => Sys2Proof.Machine.execEnvelopeControllerResetDone n rates s
  | .bridleResetDone => Sys2Proof.Machine.execBridleResetDone s
  | .coreRestartDone core => Sys2Proof.Machine.execCoreRestartDone core s
  | .railRecovered rail => Sys2Proof.Machine.execRailRecovered rail s
  | .droopRecovered g => Sys2Proof.Machine.execDroopRecovered g s

end Sys2Proof.Machine
end

