-- ==== Sys2Proof/Safety.lean ====
section
/-! DEFINITION. What counts as a safe run, in the terms the statements use: the shape that every state keeps, and the states in which the module works. -/

namespace Sys2Proof.Machine

/-- The numbers of blocks that the module has (00 R8): clusters, Envelope controllers, ports, lanes, management cores. -/
abbrev State.Shape (s : State) : Prop :=
  s.clusters.length = 8 ∧ s.media.ctrls.length = 8 ∧ s.tether.ports.length = 8 ∧ s.tether.lanes.length = 32 ∧ s.gondola.cores.length = 4

/-- The stores of the module that hold data by address are in canonical form (09 R204; 14 R315; 18 R423). -/
abbrev State.Canonical (s : State) : Prop :=
  Sparse.wf (0 : W32) s.parity.masks = true ∧ Sparse.wf false s.parity.bad = true

/-- No step of the run from `s` over its queue faults or is refused. -/
def Runs : Nat → State → Prop
  | 0, _ => True
  | n + 1, s => ∃ t, step s = .next t ∧ Runs n t

end Sys2Proof.Machine
end

