-- ==== Sys2Proof/WellFormed.lean ====
section
/-! DEFINITION. Which terms are commands that a sender can send. A term that is not well formed is refused by its meaning with the fault `illFormed`. -/

namespace Sys2Proof

open Machine

/-- Is the term a command of its row: does a program word carry the row's operation code (06 R134; 07 R162), a parameter block its OP (15 R361, R364), a message its request code (19 R449, R450); are lists as long as the row's data (21 R489; 13 R309; 20 R470; 07 R157; 15 R368); does a register write name a core (00 R9), and a fault report a SOURCE of 18 R426? -/
def Instr.wellFormed (i : Instr) : Bool :=
  match i with
  | .pwrEnAssert _ => true
  | .powerGood => true
  | .railTimeout _ => true
  | .pwrEnDeassert => true
  | .inputSample _ _ => true
  | .inputRestored => true
  | .holdupBod => true
  | .holdupTest _ => true
  | .moduleReset _ => true
  | .boot => true
  | .mapRebuild _ => true
  | .shardReplay _ _ => true
  | .sensorSample readings => decide (readings.length = 8)
  | .railExcursion _ => true
  | .softStepDown => true
  | .softStepUp => true
  | .hardThrottle => true
  | .freezeEnd => true
  | .droop _ => true
  | .avsLoop _ _ => true
  | .sleepReq _ => true
  | .arraySleepEnter _ => true
  | .arraySleepWake _ => true
  | .pwrHoldSet _ => true
  | .pwrHoldClr _ => true
  | .tick _ => true
  | .slotOpen _ _ => true
  | .slotClose _ _ => true
  | .guardBand _ _ => true
  | .closingWindow _ _ => true
  | .syncInEdge _ => true
  | .syncAcquireTimeout => true
  | .syncLost => true
  | .frmEvtClr _ => true
  | .loftImageTransfer _ _ _ _ => true
  | .loftImageApply _ _ _ _ => true
  | .loftImageApplyActFrame _ _ _ _ => true
  | .loftImageCancel _ _ _ _ => true
  | .imageCheckDone => true
  | .identify _ _ _ => true
  | .getLogPage _ _ _ _ _ => true
  | .getFeatures _ _ => true
  | .setFeatures _ _ _ => true
  | .asyncEventRequest _ => true
  | .abort _ _ => true
  | .keepAlive _ => true
  | .keepAliveTimeout _ => true
  | .firmwareImageDownload _ _ _ => true
  | .firmwareCommitReplace _ _ => true
  | .firmwareCommitActivate _ _ => true
  | .firmwareCommitSlot _ _ => true
  | .securitySend _ _ _ => true
  | .securityReceive _ _ _ => true
  | .registerAccessRead _ _ _ _ _ => true
  | .registerAccessWrite _ _ _ cdw11 _ data => decide (data.length = bits cdw11 10 0)
  | .registerWrite master _ _ => decide (master.toNat < 5)
  | .namespaceCreate _ _ _ _ => true
  | .namespaceDelete _ _ => true
  | .formatNvm _ _ _ _ => true
  | .connect _ _ _ _ => true
  | .propertyGet _ _ => true
  | .propertySet _ _ _ => true
  | .disconnect _ => true
  | .transportConnectionLost _ _ => true
  | .flush _ => true
  | .write _ _ _ _ => true
  | .read _ _ _ => true
  | .writeZeroes _ _ _ => true
  | .datasetManagement _ _ _ => true
  | .modelLoadBegin _ pb => opRow pb 0 1 5
  | .modelLoadData _ pb => opRow pb 0 2 5
  | .modelLoadCommit _ pb => opRow pb 0 3 5
  | .modelLoadAddScale _ pb => opRow pb 0 4 5
  | .modelLoadAbandon _ pb => opRow pb 0 5 5
  | .modelLoadTimeout _ => true
  | .modelUnload _ _ => true
  | .listModels _ _ => true
  | .openContext _ _ => true
  | .buddyAckTimeout _ => true
  | .closeContext _ _ => true
  | .contextCloseDone _ => true
  | .getContext _ _ => true
  | .tokenBatch _ _ _ => true
  | .refitExpert _ _ => true
  | .refitCommit _ => true
  | .refitShadowTimeout _ => true
  | .embeddingJob _ _ _ => true
  | .createIndex _ _ => true
  | .destroyIndex _ _ => true
  | .insert _ _ => true
  | .delete _ _ => true
  | .query _ _ _ => true
  | .nodeReadDone _ _ => true
  | .groupQueryTimeout _ => true
  | .filterCreate _ pb => opRow pb 10 1 6
  | .filterAddIds _ pb => opRow pb 10 2 6
  | .filterRemoveIds _ pb => opRow pb 10 3 6
  | .filterFillAll _ pb => opRow pb 10 4 6
  | .filterCombine _ pb => opRow pb 10 5 6
  | .filterDestroy _ pb => opRow pb 10 6 6
  | .indexRepair => true
  | .passSubmit desc _ _ => decide (desc.length = 128)
  | .programLoad _ _ => true
  | .passStart _ _ _ => true
  | .vnop _ w => decide (bits w 63 58 = 0)
  | .vsetvl _ w => decide (bits w 63 58 = 1)
  | .vld _ w => decide (bits w 63 58 = 2)
  | .vst _ w => decide (bits w 63 58 = 3)
  | .vgather _ w => decide (bits w 63 58 = 4)
  | .vperm _ w => decide (bits w 63 58 = 5)
  | .vbcast _ w => decide (bits w 63 58 = 6)
  | .vcvt _ w => decide (bits w 63 58 = 7)
  | .vadd _ w => decide (bits w 63 58 = 8)
  | .vmul _ w => decide (bits w 63 58 = 9)
  | .vfma _ w => decide (bits w 63 58 = 10)
  | .vcmp _ w => decide (bits w 63 58 = 11)
  | .vsel _ w => decide (bits w 63 58 = 12)
  | .vmin _ w => decide (bits w 63 58 = 13)
  | .vmax _ w => decide (bits w 63 58 = 14)
  | .vmlog _ w => decide (bits w 63 58 = 15)
  | .vred _ w => decide (bits w 63 58 = 16)
  | .mrun _ r => decide (bits r.w0 63 58 = 0x20)
  | .mwait _ w => decide (bits w 63 58 = 33)
  | .sli _ w => decide (bits w 63 58 = 34)
  | .sadd _ w => decide (bits w 63 58 = 35)
  | .sld _ w => decide (bits w 63 58 = 36)
  | .br _ w => decide (bits w 63 58 = 37)
  | .spawn _ w => decide (bits w 63 58 = 38)
  | .signal _ w => decide (bits w 63 58 = 39)
  | .hret _ => true
  | .endProgram _ => true
  | .runDone _ _ => true
  | .passCommit _ _ _ => true
  | .late _ => true
  | .tileParityError _ => true
  | .vectorParityError _ => true
  | .wtPoison _ => true
  | .reelReload _ _ => true
  | .reelDone _ _ => true
  | .scaleStoreLoad _ _ => true
  | .wdog _ _ => true
  | .sparResetDone => true
  | .handlerEntry _ => true
  | .spcIcPendSet _ _ _ => true
  | .spcIcPendClr _ _ _ => true
  | .spcIcEnSet _ _ _ => true
  | .spcIcEnClr _ _ _ => true
  | .spcMtFlagsClr _ _ => true
  | .spcVuFlagsClr _ _ => true
  | .fetchDone _ _ _ => true
  | .moveAbortTimeout _ => true
  | .refetch _ _ _ _ => true
  | .kvRepair _ _ => true
  | .bridleMessage _ _ => true
  | .dropNotice _ => true
  | .dispatchTimeout _ _ _ _ => true
  | .envDspKey _ _ _ => true
  | .envDspCmd _ _ _ => true
  | .envDspAddr _ _ _ => true
  | .readStatus _ _ => true
  | .readPage _ _ => true
  | .readCalRow _ _ => true
  | .readLevels _ _ => true
  | .programSlc _ _ _ _ => true
  | .programTlc _ _ _ _ _ => true
  | .erase _ _ _ => true
  | .dieReset _ _ => true
  | .dspDone _ _ _ => true
  | .dspTimeout _ => true
  | .chWaitWrite _ _ _ => true
  | .programDone _ _ => true
  | .eraseDone _ _ => true
  | .flashRead _ _ => true
  | .dieTimeout _ => true
  | .calibrationRead _ _ levels => decide (levels.length = 8)
  | .mediaFlush => true
  | .gcStart _ _ => true
  | .gcCommit _ => true
  | .scrub _ _ _ _ => true
  | .tempHistSample => true
  | .signalDetect _ => true
  | .trainingFrame _ _ _ _ _ _ => true
  | .trainingTimeout _ => true
  | .trainingModeSwitch _ => true
  | .alignmentMarker _ _ _ _ _ _ => true
  | .portDown _ _ => true
  | .portRetrain _ => true
  | .fecDegrade _ => true
  | .addressAcquired _ => true
  | .congestionNotification _ => true
  | .rateRaise _ => true
  | .ackTimeout _ => true
  | .ptpEventMessage _ _ _ _ => true
  | .tetEvtClr _ _ => true
  | .discover _ _ => true
  | .hello _ _ => true
  | .beacon _ _ _ => true
  | .join _ _ => true
  | .joinRetry => true
  | .admitMsg _ _ => true
  | .reject _ _ => true
  | .ready _ => true
  | .readyTimeout _ => true
  | .admissionDeadline _ => true
  | .noBeacon => true
  | .status _ _ => true
  | .statusTimeout _ => true
  | .failMsg _ => true
  | .place _ => true
  | .placeAck _ => true
  | .placementRetry => true
  | .copy _ => true
  | .copyAck _ => true
  | .mirrorAckTimeout _ => true
  | .journal _ => true
  | .journalAck _ => true
  | .novzeowQuery _ => true
  | .answer _ => true
  | .level _ => true
  | .takeover _ => true
  | .vote _ => true
  | .takeoverTimeout => true
  | .locate _ _ => true
  | .drain _ _ => true
  | .drainDone _ => true
  | .faultReport f => (sourceClass f.source).isSome
  | .quietPeriodEnd => true
  | .drogueParityError => true
  | .drgCapClr _ => true
  | .drgHb _ _ => true
  | .heartbeatMiss _ => true
  | .managementWatchdog => true
  | .parFlipMask _ _ => true
  | .getVersion req => decide (spdmCode req = 132)
  | .getCapabilities req => decide (spdmCode req = 225)
  | .negotiateAlgorithms req => decide (spdmCode req = 227)
  | .getDigests req => decide (spdmCode req = 129)
  | .getCertificate req => decide (spdmCode req = 130)
  | .challenge req => decide (spdmCode req = 131)
  | .getMeasurements req => decide (spdmCode req = 224)
  | .chunkGet req => decide (spdmCode req = 134)
  | .getPqCert req => decide (spdmCode req = 254) && (decide (1 = 0) || decide (vendorCode req = 1))
  | .getPqSignature req => decide (spdmCode req = 254) && (decide (2 = 0) || decide (vendorCode req = 2))
  | .getNonce req => decide (spdmCode req = 254) && (decide (3 = 0) || decide (vendorCode req = 3))
  | .ownerSet req => decide (spdmCode req = 254) && (decide (4 = 0) || decide (vendorCode req = 4))
  | .ownerRevoke req => decide (spdmCode req = 254) && (decide (5 = 0) || decide (vendorCode req = 5))
  | .rd _ wide addr _ => wide || decide (addr.toNat < 2 ^ 32)
  | .wr _ wide addr _ _ _ => wide || decide (addr.toNat < 2 ^ 32)
  | .rdNext _ _ => true
  | .wrNext _ _ _ _ => true
  | .wrSame _ _ _ _ => true
  | .lineReset _ _ => true
  | .unlock => true
  | .tokenCheckDone => true
  | .relock => true
  | .clrFault => true
  | .dbgRcvData _ => true
  | .rcvCommit => true
  | .dbgHaltSet _ => true
  | .dbgHaltClr _ => true
  | .dbgStep _ => true
  | .breakpointHit _ => true
  | .nvmeMiBasic _ => true
  | .fruRead _ _ => true
  | .clusterResetDone _ => true
  | .envelopeControllerResetDone _ _ => true
  | .bridleResetDone => true
  | .coreRestartDone _ => true
  | .railRecovered _ => true
  | .droopRecovered _ => true

end Sys2Proof
end

