-- ==== Sys2Proof/Certificates/Slice0/Obligations.lean ====
section
/-! DEFINITION. The statements for the provers. -/

namespace Sys2Proof.Machine

/-- Step 1 of R34: FRM_TIME reaches the boundary, the timer ticks, an expected event falls due, and the power-on hours count. -/
def State.ticked (s : State) (move trim : Int) : State :=
  ({ s.advance (s.frame.boundary move) with frame := (s.advance (s.frame.boundary move)).frame.tick move trim } : State).countExpected.countHours s.frame.time

/-- The last step of a tick: SYNC_OUT. -/
def State.driveSyncOut (s : State) (stepped : Bool) : State := { s with frame := { s.frame with syncOut := s.syncOutAt stepped } }

/-- The admin commands that a management core serves, and the identifier of each. -/
def adminId : Instr → Option CmdId
  | .loftImageTransfer id _ _ _ => some id
  | .loftImageApply id _ _ _ => some id
  | .loftImageApplyActFrame id _ _ _ => some id
  | .loftImageCancel id _ _ _ => some id
  | .identify id _ _ => some id
  | .getLogPage id _ _ _ _ => some id
  | .getFeatures id _ => some id
  | .setFeatures id _ _ => some id
  | .asyncEventRequest id => some id
  | .abort id _ => some id
  | .keepAlive id => some id
  | .firmwareImageDownload id _ _ => some id
  | .firmwareCommitReplace id _ => some id
  | .firmwareCommitActivate id _ => some id
  | .firmwareCommitSlot id _ => some id
  | .securitySend id _ _ => some id
  | .securityReceive id _ _ => some id
  | .registerAccessRead id _ _ _ _ => some id
  | .namespaceCreate id _ _ _ => some id
  | .namespaceDelete id _ => some id
  | .formatNvm id _ _ _ => some id
  | _ => none

/-- The admin queue of the command is connected, its controller enabled, the command new, and the core that serves it runs. -/
abbrev State.serves (s : State) (i : Instr) (id : CmdId) : Prop :=
  s.adminUp id = true ∧ s.isOpen id = false ∧ (s.coreAt (adminCore i id)).halted = false

/-- The I/O commands: the header of each, and whether it is of the NVM command set. -/
def ioOf : Instr → Option (IoHdr × Bool)
  | .flush h => some (h, true)
  | .write h _ _ _ => some (h, true)
  | .read h _ _ => some (h, true)
  | .writeZeroes h _ _ => some (h, true)
  | .datasetManagement h _ _ => some (h, true)
  | .modelLoadBegin h _ => some (h, false)
  | .modelLoadData h _ => some (h, false)
  | .modelLoadCommit h _ => some (h, false)
  | .modelLoadAddScale h _ => some (h, false)
  | .modelLoadAbandon h _ => some (h, false)
  | .modelUnload h _ => some (h, false)
  | .listModels h _ => some (h, false)
  | .openContext h _ => some (h, false)
  | .closeContext h _ => some (h, false)
  | .getContext h _ => some (h, false)
  | .tokenBatch h _ _ => some (h, false)
  | .refitExpert h _ => some (h, false)
  | .embeddingJob h _ _ => some (h, false)
  | .createIndex h _ => some (h, false)
  | .destroyIndex h _ => some (h, false)
  | .insert h _ => some (h, false)
  | .delete h _ => some (h, false)
  | .query h _ _ => some (h, false)
  | .filterCreate h _ => some (h, false)
  | .filterAddIds h _ => some (h, false)
  | .filterRemoveIds h _ => some (h, false)
  | .filterFillAll h _ => some (h, false)
  | .filterCombine h _ => some (h, false)
  | .filterDestroy h _ => some (h, false)
  | _ => none

/-- The parameter block of a Cianber command. -/
def ioBlock : Instr → Bytes
  | .modelLoadBegin _ b => b
  | .modelLoadData _ b => b
  | .modelLoadCommit _ b => b
  | .modelLoadAddScale _ b => b
  | .modelLoadAbandon _ b => b
  | .modelUnload _ b => b
  | .listModels _ b => b
  | .openContext _ b => b
  | .closeContext _ b => b
  | .getContext _ b => b
  | .tokenBatch _ b _ => b
  | .refitExpert _ b => b
  | .embeddingJob _ b _ => b
  | .createIndex _ b => b
  | .destroyIndex _ b => b
  | .insert _ b => b
  | .delete _ b => b
  | .query _ b _ => b
  | .filterCreate _ b => b
  | .filterAddIds _ b => b
  | .filterRemoveIds _ b => b
  | .filterFillAll _ b => b
  | .filterCombine _ b => b
  | .filterDestroy _ b => b
  | _ => []

/-- The state with the command entered among the open ones. -/
def State.taken (s : State) (h : IoHdr) (nvm : Bool) : State :=
  s.enter h.id (bit h.cdw3 0) none (if nvm then none else some h.resLen) h.tenant.toNat (if nvm then h.nsid.toNat else 0)

/-- The command entered among the open ones, not started yet. -/
def State.entered (s : State) (i : Instr) (h : IoHdr) (nvm : Bool) : State :=
  s.enter h.id (bit h.cdw3 0) (some i) (if nvm then none else some h.resLen) h.tenant.toNat (if nvm then h.nsid.toNat else 0)

/-- What the end of other work brings about, before a command that waits may start: parts of writes, moves, loads, refits, search structures, host commands, namespaces. -/
def State.endings (s : State) : State :=
  let r := s.settleMedia
  (((r.2.reelParts r.1).settleLoads.settleRefits.settleHeld).settleSearch.settleHost r.1).settleNamespaces

/-- Does the command need search buffers in the image? -/
def searchCmd : Instr → Bool
  | .createIndex _ _ => true
  | .destroyIndex _ _ => true
  | .insert _ _ => true
  | .delete _ _ => true
  | .query _ _ _ => true
  | .filterCreate _ _ => true
  | .filterAddIds _ _ => true
  | .filterRemoveIds _ _ => true
  | .filterFillAll _ _ => true
  | .filterCombine _ _ => true
  | .filterDestroy _ _ => true
  | _ => false

/-- Length of an object under load after a DATA that ends at `n`. -/
def loadLen (m : Model) (obj l e n : Nat) : Nat := max n (match m.loadObj obj l e with | none => 0 | some o => o.len)
/-- Ranges of an embedding job's source that lie in lost units, from its first byte (R290). -/
def jobBad (s : State) (nsid slba len : Nat) : List (Nat × Nat) :=
  match s.nsFor nsid with
  | none => []
  | some n => (upTo (ceilDiv len 65536 + 1)).filterMap fun k => if s.slotLost (n.slot (slba * n.blockLen / 65536 + k)) then some (65536 * k - slba * n.blockLen % 65536, 65536) else none
/-- May one more context open under a contract: the image, and a pending image, has it for the tenant, and fewer contexts than it lets have it (R247)? -/
def contractOpens (s : State) (cid tenant : Nat) : Bool :=
  let n := (s.library.contexts.filter fun e => decide (e.2.state ≠ 0) && decide (e.2.cls = 0) && decide (e.2.contract = cid)).length
  let one := fun (i : Image) => match i.contracts.find? fun c => decide (c.id = cid) with | none => false | some c => decide (c.tenant = tenant) && decide (n < c.maxContexts)
  (match s.loft.image with | none => false | some i => one i) && (match s.loft.pending with | none => true | some p => one p.image)

/-- The shard that a CREATE_INDEX block describes, and the sizes of its five objects (R270, R271). -/
def newShard (b : Bytes) (h : IoHdr) : Shard :=
  { index := le 64 b 0, shard := le 16 b 0x12, tenant := h.tenant.toNat, state := 1, vecFmt := byteAt b 0x0D, metric := leNat b 0x0E 1, degree := leNat b 0x0F 1, dim := leNat b 0x10 2, count := leNat b 0x14 2, shadowed := bit (byteAt b 0x16) 0, entryCount := leNat b 0x17 1, capacity := leNat b 0x20 8, proj := b.drop 0x80, waiter := some h.id }
def Shard.sizes (x : Shard) : List Nat := [x.capacity * 512, x.capacity * x.vecLen, 2048 * x.dim, x.capacity * 32, 512]

/-- The word stands at the program counter of the cluster's program, or of the handler that runs, the sequencer may issue it, and the read of the `n` words it spans passes parity. -/
abbrev State.ready (s : State) (c : Nat) (w : W64) (n : Nat := 1) : Prop :=
  s.atWord c w = true ∧
  ((s.clusterAt c).ic.busy = true → s.parity.isBad (0xA8 + c) (handlerByte (s.clusterAt c).ic.pc) (8 * n) = false) ∧
  ((s.clusterAt c).ic.busy = false → s.parity.isBad (0xA0 + c) ((if (s.clusterAt c).seq.bank then 32768 else 0) + 8 * (s.clusterAt c).seq.pc) (8 * n) = false)

/-- The vector words: cluster, word, and the operation code of each row (R136). -/
def vecWord : Instr → Option (Fin 8 × W64 × Nat)
  | .vnop c w => some (c, w, 0x00)
  | .vsetvl c w => some (c, w, 0x01)
  | .vld c w => some (c, w, 0x02)
  | .vst c w => some (c, w, 0x03)
  | .vgather c w => some (c, w, 0x04)
  | .vperm c w => some (c, w, 0x05)
  | .vbcast c w => some (c, w, 0x06)
  | .vcvt c w => some (c, w, 0x07)
  | .vadd c w => some (c, w, 0x08)
  | .vmul c w => some (c, w, 0x09)
  | .vfma c w => some (c, w, 0x0A)
  | .vcmp c w => some (c, w, 0x0B)
  | .vsel c w => some (c, w, 0x0C)
  | .vmin c w => some (c, w, 0x0D)
  | .vmax c w => some (c, w, 0x0E)
  | .vmlog c w => some (c, w, 0x0F)
  | .vred c w => some (c, w, 0x10)
  | _ => none

/-- The sequencer words that are one word long and not SLI, MRUN or END: cluster, word, operation code (R162). -/
def seqWord : Instr → Option (Fin 8 × W64 × Nat)
  | .mwait c w => some (c, w, 0x21)
  | .sadd c w => some (c, w, 0x23)
  | .sld c w => some (c, w, 0x24)
  | .br c w => some (c, w, 0x25)
  | .spawn c w => some (c, w, 0x26)
  | .signal c w => some (c, w, 0x27)
  | _ => none

/-- The result of lane `i` of an element-wise word, by the table of R136: arithmetic on the lanes of the sources, exact and then put into FD. -/
def laneValue (c : Nat) (w : VWord) (s : State) (i : Nat) : W32 :=
  let fa := (readSpec w.fa).code
  let lane := fun r => decodeElem fa ((s.vLane c r i).1.toNat % 2 ^ fmtWidth fa)
  let put := fun v => BitVec.ofNat 32 (putResult (readSpec w.fd).code (s.clusterAt c).ovfIeee v).1
  match w.op with
  | 0x05 => if (s.vLane c w.b i).1.toNat < (s.clusterAt c).vu.vl then lowBits w.fa (s.vLane c w.a (s.vLane c w.b i).1.toNat).1 else 0
  | 0x06 => BitVec.ofNat 32 ((s.sReg c w.a).val.toNat % 2 ^ fmtWidth (readSpec w.fd).code)
  | 0x08 => put ((lane w.a).add (if w.sub % 2 = 1 then (lane w.b).neg else lane w.b))
  | 0x09 => put ((lane w.a).mul (lane w.b))
  | 0x0A => put (((lane w.a).mul (lane w.b)).add (if w.sub % 2 = 1 then (lane w.c).neg else lane w.c))
  | 0x0C => lowBits w.fa (if (s.mBit c w.k i).1 then (s.vLane c w.a i).1 else (s.vLane c w.b i).1)
  | 0x0D => put (pick false (lane w.a) (lane w.b))
  | _ => put (pick true (lane w.a) (lane w.b))

/-- The rows whose result goes lane by lane to V[D], VCVT and the loads apart. -/
def laneRow (op : Nat) : Bool := decide (op = 0x05) || decide (op = 0x06) || (decide (0x08 ≤ op) && decide (op ≤ 0x0E) && decide (op ≠ 0x0B))

/-- The debug port may write this register of the controller's die service port (R298, R492). -/
abbrev State.dspScope (s : State) (n : Fin 8) (o : Nat) (v : W32) : Prop :=
  s.dbgUp = true ∧ s.dbgAllows (some (.env n.val, o)) true v = true ∧ s.blockAway (.env n.val) = false

/-- The read commands of the die service port: controller, code, door (R300). -/
def dspReadRow : Instr → Option (Fin 8 × Nat × DspDoor)
  | .readStatus n d => some (n, 1, d)
  | .readPage n d => some (n, 2, d)
  | .readCalRow n d => some (n, 3, d)
  | .readLevels n d => some (n, 4, d)
  | _ => none

/-- The port of a controller with its command running. -/
def State.dspStarted (s : State) (n cmd : Nat) (addrs : List W32) (data : W32) : State :=
  s.modDsp n fun d => { d with busy := true, done := false, phase := 0, cmd := BitVec.ofNat 8 cmd, addrs := addrs, data := data }

/-- The group's work runs: the firmware is up and the module is not in the safe state (R431, R432). -/
abbrev State.inService (s : State) : Prop := s.safe = false ∧ s.phase = .up

/-- What is held of a copy's subject with one part more: from the start anew for the first part of a model's object, each part at its offset, index commits one after the other; a part of a model's object waits to be acknowledged (R403 to R405). -/
def copyHeld (b : Bytes) (n kind : Nat) (p : Place) (s : State) : HeldCopy :=
  let h : HeldCopy := match s.heldFor p with
    | none => { kind := p.kind, key1 := p.key1, key2 := p.key2, tenant := leNat b 0x44 4, version := 0, inVersion := p.version, from_ := p.home, whole := false, bytes := [], len := 0 }
    | some h => if kind = 1 ∧ leNat b 0x60 8 = 0 then { h with bytes := [], len := 0, inVersion := p.version, from_ := p.home, newAddr := 0, newState := 0, flagSeq := none, acks := [] } else { h with from_ := p.home }
  let at_ := if kind = 3 then h.len else leNat b 0x60 8
  { h with bytes := Sparse.setRun 0 h.bytes at_ (slice b 0x70 n), len := max h.len (at_ + n), whole := h.whole || (bit (byteAt b 0x41) 0 && decide (kind ≠ 1)), acks := if kind = 1 then h.acks ++ [slice b 0x58 16] else h.acks }
/-- The part in place of what was held; objects of a copy begun before and not finished are freed. -/
def copyIn (b : Bytes) (n kind : Nat) (p : Place) (s : State) : State :=
  let old : List W64 := match s.heldFor p with | none => [] | some h => [h.newAddr, h.newState].filter fun a => decide (a ≠ 0)
  let t := if kind = 1 ∧ leNat b 0x60 8 = 0 ∧ (s.heldFor p).isSome = true then s.freeObjs old else s
  { (t.dropHeld p) with group := { (t.dropHeld p).group with heldCopies := (t.dropHeld p).group.heldCopies ++ [copyHeld b n kind p s] } }

/-- The query's parameter block in a NOVZEOW_QUERY, after its list of shards (R416). -/
def queryBlock (b : Bytes) : Bytes := slice b (0x60 + pad8 (2 * leNat b 0x58 2)) (leNat b 0x50 4)

/-- The rows of SPDM requests: the request code of the row, its vendor request code, and the message. -/
def spdmOf : Instr → Option (Nat × Nat × Bytes)
  | .getVersion b => some (0x84, 0, b)
  | .getCapabilities b => some (0xE1, 0, b)
  | .negotiateAlgorithms b => some (0xE3, 0, b)
  | .getDigests b => some (0x81, 0, b)
  | .getCertificate b => some (0x82, 0, b)
  | .challenge b => some (0x83, 0, b)
  | .getMeasurements b => some (0xE0, 0, b)
  | .chunkGet b => some (0x86, 0, b)
  | .getPqCert b => some (0xFE, 1, b)
  | .getPqSignature b => some (0xFE, 2, b)
  | .getNonce b => some (0xFE, 3, b)
  | .ownerSet b => some (0xFE, 4, b)
  | .ownerRevoke b => some (0xFE, 5, b)
  | _ => none
/-- A request of version 1.3 that fits, to a security core that runs and has agreed its algorithms. -/
abbrev State.spdmReady (s : State) (b : Bytes) : Prop := s.firmwareUp = true ∧ s.sec.spdm.stage = 3 ∧ byteAt b 0 = 0x13 ∧ 4 ≤ b.length ∧ b.length ≤ 65536
/-- The security core as any request but CHUNK_GET finds it: what was signed before and a chunk left over are forgotten. -/
def State.spdmFresh (s : State) : State := s.modSpdm fun p => { p with lastSigned := none, chunk := [] }

/-- The frames of the debug port: header right, what is asked, write or read, and whether the access is not done within the frame (R488 to R490). -/
def dbgFrameOf (s : State) : Instr → Option (Bool × DbgFrame × Bool × Bool)
  | .rd hdr wide addr wait => some (hdr, { op := 1, wide := wide, addr := addr, data := 0, par := false }, false, wait)
  | .wr hdr wide addr v par wait => some (hdr, { op := 2, wide := wide, addr := addr, data := v, par := par }, true, wait)
  | .rdNext hdr wait => some (hdr, { op := 3, wide := s.dbg.lastWide, addr := s.dbgNext, data := 0, par := false }, false, wait)
  | .wrNext hdr v par wait => some (hdr, { op := 4, wide := s.dbg.lastWide, addr := s.dbgNext, data := v, par := par }, true, wait)
  | .wrSame hdr v par wait => some (hdr, { op := 5, wide := s.dbg.lastWide, addr := s.dbg.lastAddr, data := v, par := par }, true, wait)
  | _ => none
/-- An address in the register window has 32 bits. -/
abbrev DbgFrame.fits (f : DbgFrame) : Prop := f.op ≤ 2 → f.wide = true ∨ f.addr.toNat < 2 ^ 32
/-- The port takes frames: it is up, and no header error came since the last line reset (R491). -/
abbrev State.lineOk (s : State) : Prop := s.dbgUp = true ∧ s.dbg.lineError = false
/-- What a frame that is answered leaves: no access waits, and the answer is driven. -/
def State.dbgAnswered (s : State) (a : Ack) (v : Option W32) : State := { s with dbg := { s.dbg with waiting := none, answers := s.dbg.answers ++ [{ ack := a, data := v }] } }
/-- Data and its parity bit have an odd number of ones (R488). -/
abbrev DbgFrame.odd (f : DbgFrame) : Prop := (sumBy (fun i => b2n (bit f.data i)) (upTo 32) + b2n f.par) % 2 = 1
/-- Rows that write a debug register: its offset and the value (R498). -/
def dbgWriteOf : Instr → Option (Nat × W32)
  | .unlock => some (0x08, 1)
  | .relock => some (0x08, 2)
  | .clrFault => some (0x08, 3)
  | .rcvCommit => some (0x08, 4)
  | .dbgRcvData v => some (0x34, v)
  | .dbgHaltSet v => some (0x14, v)
  | .dbgHaltClr v => some (0x18, v)
  | .dbgStep v => some (0x1C, v)
  | _ => none

/-- An integer as R89's formats hold it: lowest and highest value of each code. -/
def intLimits : Nat → Option (Int × Int)
  | 8 => some (-2147483648, 2147483647)
  | 9 => some (-32768, 32767)
  | 10 => some (-128, 127)
  | 11 => some (0, 255)
  | 12 => some (-8, 7)
  | 13 => some (-2, 1)
  | _ => none

/-- Bit `b` of a sketch: bit b mod 8 of byte floor(b / 8) (R268). -/
def sketchBit (x : Bytes) (b : Nat) : Bool := bit (byteAt x (b / 8)) (b % 8)

/-- Reset values of registers by block and offset, from the Reset columns of the chapters. -/
def resetColumn : List (WinBlock × Nat × W32) :=
  [(.frm, 0x0, 0x7D0), (.frm, 0x4, 0x10), (.frm, 0x18, 0x0), (.frm, 0x30, 0x10004), (.frm, 0x34, 0x0), (.frm, 0x48, 0x0),
   (.gon, 0x100, 0x0), (.gon, 0x104, 0x0), (.gon, 0x120, 0x0), (.spc 0, 0x4, 0x0), (.spc 0, 0x28, 0x0), (.spc 0, 0x8000, 0x0),
   (.spc 0, 0x8004, 0x0), (.spc 0, 0x20000, 0x2000000), (.spc 0, 0x20010, 0x0), (.spc 0, 0x20014, 0x0), (.spc 0, 0x20028, 0x0), (.spc 0, 0x18030, 0x0),
   (.spc 0, 0x18034, 0x0), (.sch, 0x18, 0x0), (.spc 0, 0x8100, 0x0), (.spc 0, 0x8110, 0x0), (.rel, 0x0, 0x0), (.rel, 0x10000, 0x0),
   (.brd, 0x0, 0x0), (.brd, 0x38, 0x0), (.sch, 0x1000, 0x0), (.qry, 0x0, 0x0), (.qry, 0x20, 0x0), (.qry, 0x30, 0x0),
   (.env 0, 0x0, 0x0), (.env 0, 0x20, 0x0), (.env 0, 0x1000, 0x0), (.env 0, 0x1004, 0x1800100), (.env 0, 0x1008, 0x82800140), (.env 0, 0x8000, 0x0),
   (.tet 0, 0x10, 0x0), (.gon, 0x200, 0x0), (.gon, 0x204, 0x0), (.gon, 0x210, 0x0), (.gon, 0x214, 0x0), (.gon, 0x218, 0x0),
   (.par, 0x0, 0x0), (.par, 0x4, 0x0), (.par, 0x1000, 0x0), (.par, 0x2000, 0x0), (.drg, 0x4, 0x0), (.drg, 0x80, 0x0),
   (.drg, 0x84, 0x0), (.sec, 0x0, 0x0), (.sec, 0x20, 0x0), (.pwr, 0x10, 0x0), (.pwr, 0x14, 0x5780000), (.pwr, 0x18, 0x0),
   (.pwr, 0x34, 0x0), (.dbg, 0x0, 0xC1A0901), (.dbg, 0x4, 0x0), (.dbg, 0x8, 0x0), (.dbg, 0x100, 0x0), (.dbg, 0x200, 0x0),
   (.dbg, 0x10000, 0x0), (.gon, 0x30, 0x0), (.gon, 0x34, 0x0), (.gon, 0x38, 0x0)]

end Sys2Proof.Machine

open Sys2Proof Sys2Proof.Machine

/-- Power-up: PWR_EN, the input, rails and power-good (R457, R458). -/
def Obligations.InputAndPowerUpSequence : Prop :=
  (∀ (s : State) (mv : Nat) (u : Bool), s.phase = .off u → s.power.enable = false → 38000 ≤ mv → mv ≤ 56000 → exec (.pwrEnAssert mv) s = .next { s with phase := .sequencing, power := { s.power with enable := true } }) ∧
  (∀ (s : State), s.phase = .off true → s.power.enable = true → exec .inputRestored s = .next { s with phase := .sequencing }) ∧
  (∀ (s : State) (rail : Fin 6), s.phase = .sequencing → exec (.railTimeout rail) s = .next { s with phase := .stopped, power := { s.power with rail := BitVec.ofNat 4 (rail.val + 1) } }) ∧
  (∀ (s : State), s.phase = .sequencing → exec .powerGood s = .next { s with phase := .starting, frame := {}, media := { s.media with health := { s.media.health with powerCycles := s.media.health.powerCycles + 1 } }, power := { s.power with pwrFail := false, rail := 0, inputOk := true, cause := if s.power.thermalTrip then 5 else 1 } }) ∧
  (∀ (s : State), s.phase = .stopped → s.power.enable = true → exec .pwrEnDeassert s = .next { s with phase := .off false, power := { s.power with enable := false } }) ∧
  (∀ (mv : Nat) (s : State), exec (.pwrEnAssert mv) s = .next (pwrAssert mv s)) ∧
  (∀ (s : State), exec .powerGood s = .next (powerGood s)) ∧
  (∀ (rail : Fin 6) (s : State), exec (.railTimeout rail) s = .next (railTimeout rail.val s)) ∧
  (∀ (s : State), exec .pwrEnDeassert s = .next (pwrDeassert s)) ∧
  (∀ (s : State), exec .inputRestored s = .next (inputBack s))

/-- Module reset, boot ROM and rebuild (R327, R444, R460, R273). -/
def Obligations.ModuleResetAndStart : Prop :=
  (∀ (s : State) (ns : Nat), s.powered = true → 10000 ≤ ns → ∃ t, exec (.moduleReset ns) s = .next t ∧ t.phase = .starting ∧ t.loft = {} ∧ t.bridle = {} ∧ t.parity = {} ∧ t.power.cause = 2 ∧ t.dbg = { answers := t.dbg.answers }) ∧
  (∀ (s : State), s.phase = .starting → ∃ t, exec .boot s = .next t ∧ ((t.phase = .rebuilding ∧ t.sec.bootOk = true) ∨ (t.phase = .recovery ∧ t.sec.recovery = true))) ∧
  (∀ (s : State) (rb : RebuildIn), s.phase = .rebuilding → ∃ t, exec (.mapRebuild rb) s = .next t ∧ t.phase = .up ∧ t.media.jobs = [] ∧ t.media.journal = []) ∧
  (∀ (s : State) (i : W64) (k : W16) (x : Shard), s.phase = .up → s.shardFor i k = some x → x.state = 2 → exec (.shardReplay i k) s = .next (s.modShard i k fun x => { x with state := 1 }).settle) ∧
  (∀ (lowNs : Nat) (s : State), exec (.moduleReset lowNs) s = .next (modReset lowNs s)) ∧
  (∀ (s : State), exec .boot s = .next (boot s)) ∧
  (∀ (rb : RebuildIn) (s : State), exec (.mapRebuild rb) s = .next (rebuild rb s)) ∧
  (∀ (index : BitVec 64) (shard : BitVec 16) (s : State), exec (.shardReplay index shard) s = .next ((shardReplay index shard s).settle))

/-- A sample of the input, the fifth one out of range in a row, and the hold-up bank (R457, R308, R459, R461). -/
def Obligations.InputSamples : Prop :=
  (∀ (s : State) (mv ma : Nat), s.powered = true → (mv < 36000 → s.power.lowRun < 4) → (58000 < mv → s.power.highRun < 4) → exec (.inputSample mv ma) s = .next (((s.modPower fun p => { p with voltage := BitVec.ofNat 16 mv, current := BitVec.ofNat 16 ma }).advance (min s.frame.nextTick (s.frame.time + 1000))).modPower fun p => { p with inputOk := decide (36000 ≤ mv) && decide (mv ≤ 58000), lowRun := if mv < 36000 then p.lowRun + 1 else 0, highRun := if 58000 < mv then p.highRun + 1 else 0, samples := (mv * ma :: p.samples).take 1000 })) ∧
  (∀ (s : State) (mv ma : Nat), s.powered = true → mv < 36000 → s.power.lowRun = 4 → ∃ t, exec (.inputSample mv ma) s = .next t ∧ t.phase = .off true ∧ t.power.pwrFail = true ∧ t.power.inputOk = false ∧ t.loft = {} ∧ t.frame = {} ∧ t.bridle = {} ∧ t.parity = {} ∧ t.drogue = {} ∧ t.power.avsTrim = t.power.avsFactory) ∧
  (∀ (s : State), s.powered = false → s.power.pwrFail = true → exec .holdupBod s = .next ((upTo 16).foldl (fun (q : State) i => (upTo 8).foldl (fun (q : State) t => q.modDie (8 * (32 * (i / 2) + i % 2) + t) fun x => { x with bod := true }) q) s)) ∧
  (∀ (s : State) (us : Nat), s.powered = true → exec (.holdupTest us) s = .next ({ s with power := { s.power with holdupOk := decide (28000 ≤ us), holdupBad := decide (us < 28000) } } : State).warnEvents) ∧
  (∀ (mv ma10 : Nat) (s : State), exec (.inputSample mv ma10) s = .next (inputSample mv ma10 s)) ∧
  (∀ (s : State), exec .holdupBod s = .next (holdupFalls s)) ∧
  (∀ (estimateUs : Nat) (s : State), exec (.holdupTest estimateUs) s = .next ((holdupTest estimateUs s).warnEvents))

/-- Temperatures and supply rails: critical values are fault reports of SOURCE 12h (R470, R468, R434). -/
def Obligations.SensorsAndRails : Prop :=
  (∀ (s : State) (l : List W16), s.powered = true → l.length = 8 → s.power.overCrit = 0 → s.power.railBad = 0 → (∀ k < 8, (l.getD k 0).toInt < 8 * (sensorCritical k : Int)) → exec (.sensorSample l) s = .next ({ s with power := { s.power with tempNow := l, tempHigh := (s.power.tempHigh.zip l).map (fun x => if x.1.toInt < x.2.toInt then x.2 else x.1), softSrc := mkBits 8 (fun k => match sensorSoft k with | none => false | some t => decide (8 * (t : Int) ≤ (l.getD k 0).toInt)), overCrit := 0 } } : State).warnEvents) ∧
  (∀ (s : State) (l : List W16), s.powered = true → l.length = 8 → (∀ j < 8, (l.getD j 0).toInt < 8 * (sensorCritical j + 10 : Int)) → exec (.sensorSample l) s = .next ((((upTo 8).foldl (fun (q : State) k => if bit q.power.overCrit k && !bit s.power.overCrit k then q.report_ (mkFault 0x12 0x0B00) else q) { s with power := { s.power with tempNow := l, tempHigh := (s.power.tempHigh.zip l).map (fun x => if x.1.toInt < x.2.toInt then x.2 else x.1), softSrc := mkBits 8 (fun k => match sensorSoft k with | none => false | some t => decide (8 * (t : Int) ≤ (l.getD k 0).toInt)), overCrit := mkBits 8 (fun k => decide (8 * (sensorCritical k : Int) ≤ (l.getD k 0).toInt)) } }).supplyCleared s.supplyBad).warnEvents)) ∧
  (∀ (s : State) (l : List W16) (k : Nat), s.powered = true → l.length = 8 → k < 8 → 8 * (sensorCritical k + 10 : Int) ≤ (l.getD k 0).toInt → ∃ t, exec (.sensorSample l) s = .next t ∧ t.phase = .stopped ∧ t.power.thermalTrip = true ∧ t.loft = {} ∧ t.frame = {}) ∧
  (∀ (s : State) (l : List W16), l.length ≠ 8 → exec (.sensorSample l) s = .fault .illFormed) ∧
  (∀ (s : State) (r : Fin 6), s.powered = true → exec (.railExcursion r) s = .next (if bit s.power.railBad r.val then s else ({ s with power := { s.power with railBad := setBit s.power.railBad r.val true } } : State).report_ (mkFault 0x12 0x0B00))) ∧
  (∀ (s : State) (r : Fin 6), s.powered = true → s.safe = false → exec (.railRecovered r) s = .next { s with power := { s.power with railBad := setBit s.power.railBad r.val false } }) ∧
  (∀ (readings : List (BitVec 16)) (s : State), readings.length = 8 → exec (.sensorSample readings) s = .next (sensorSample readings s)) ∧
  (∀ (rail : Fin 6) (s : State), exec (.railExcursion rail) s = .next (railOut rail.val s)) ∧
  (∀ (rail : Fin 6) (s : State), exec (.railRecovered rail) s = .next (railBack rail.val s))

/-- Soft steps, the hard throttle, droop detectors and the voltage loop (R468, R469, R472, R473). -/
def Obligations.ThrottlesAndDroop : Prop :=
  (∀ (s : State), s.powered = true → s.above 50 1000 = true ∨ s.power.softSrc ≠ 0 → s.lagging = 0 → s.power.target ≠ 7 → ∃ t, exec .softStepDown s = .next t ∧ t.power = { s.power with target := s.power.target + 1, softCnt := satInc s.power.softCnt, lastStep := s.frame.time } ∧ t.media = s.media ∧ t.search = s.search ∧ t.group = s.group ∧ t.pending = s.pending ∧
    ∀ c, (s.clusterAt c).asleep = false → (s.clusterAt c).seq.run = none → c < s.clusters.length → (t.clusterAt c).level = s.power.target + 1) ∧
  (∀ (s : State), s.powered = true → s.above 1000 900 = false → s.above 50 900 = false → s.nearSoft = false → s.power.lastStep + 1000000 ≤ s.frame.time → s.power.target ≠ 0 → ∃ t, exec .softStepUp s = .next t ∧ t.power = { s.power with target := s.power.target - 1, softCnt := satInc s.power.softCnt, lastStep := s.frame.time } ∧ t.media = s.media ∧ t.search = s.search ∧ t.group = s.group ∧ t.pending = s.pending) ∧
  (∀ (s : State), s.powered = true → s.power.frozen = false → s.safe = false → s.sparReset = false → s.inHold = false → s.mustFreeze = true → ∃ t, exec .hardThrottle s = .next t ∧ t.power = { s.power with frozen := true, frozenFrom := s.frame.time, freezeCnt := satInc s.power.freezeCnt } ∧ t.frame.time = s.frame.time ∧ t.media = s.media ∧ t.pending = s.pending) ∧
  (∀ (s : State), s.power.frozen = false → exec .freezeEnd s = .next s.settle) ∧
  (∀ (s : State), s.power.frozen = true → s.above 1000 980 = false → s.hardHot 5 = false → exec .freezeEnd s = .next (s.endFreeze.raiseAll 3).settle ∧ s.endFreeze.power.frozen = false) ∧
  (∀ (s : State) (g : Fin 16), s.powered = true → bit s.power.drooping g.val = false → (s.clusterAt (g.val / 2)).asleep = false → exec (.droop g) s = .next { s with power := { s.power with drooping := setBit s.power.drooping g.val true, droopCnt := satInc s.power.droopCnt } }) ∧
  (∀ (s : State) (g : Fin 16), exec (.droopRecovered g) s = .next { s with power := { s.power with drooping := setBit s.power.drooping g.val false } }) ∧
  (∀ (s : State) (m pm : List Nat), s.powered = true → s.inHold = false → s.sparReset = false → exec (.avsLoop m pm) s = .next ((upTo 16).foldl (fun (s : State) g => avsGroup s g (m.getD g 0) (pm.getD (g / 2) 0)) s)) ∧
  (∀ (s : State) (g margin pm : Nat), (s.clusterAt (g / 2)).asleep = false → 2 ≤ margin → pm ≤ 10 → g < 16 → s.power.avsTrim.length = 16 → s.power.avsGood.length = 16 → -12 ≤ (s.power.avsTrim.getD g 0).toInt → (s.power.avsTrim.getD g 0).toInt ≤ 6 → (avsGroup s g margin pm).power.avsTrim.getD g 0 = if 63 ≤ s.power.avsGood.getD g 0 then BitVec.ofInt 8 (max (-12) ((s.power.avsTrim.getD g 0).toInt - 1)) else s.power.avsTrim.getD g 0) ∧
  (∀ (s : State), exec .softStepDown s = .next (softDown s)) ∧
  (∀ (s : State), exec .softStepUp s = .next (softUp s)) ∧
  (∀ (s : State), exec .hardThrottle s = .next (hardThrottle s)) ∧
  (∀ (s : State), exec .freezeEnd s = .next ((freezeEnd s).settle)) ∧
  (∀ (g : Fin 16) (s : State), exec (.droop g) s = .next (droop g.val s)) ∧
  (∀ (margins stretchPm : List Nat) (s : State), exec (.avsLoop margins stretchPm) s = .next (avsLoop margins stretchPm s))

/-- Array Sleep and Hold: the conditions and what they leave (R464, R183, R465). -/
def Obligations.SleepAndHold : Prop :=
  (∀ (s : State) (c : Fin 8), s.mayDoze c.val = true → exec (.sleepReq c) s = .next (s.raise c.val 23)) ∧
  (∀ (s : State) (c : Fin 8), s.mayDoze c.val = true → (s.clusterAt c.val).ic.busy = false → exec (.arraySleepEnter c) s = .next ((s.modCluster c.val fun k => { k.sleepT0 with asleep := true, ic := { k.ic with retPend := k.ic.pend, retEn := k.ic.en, retTaken := k.ic.taken, latched := 0 } }).parDisarm (parOfCluster c.val))) ∧
  (∀ (s : State) (c : Fin 8), (s.clusterAt c.val).asleep = true → s.listed c.val = true ∨ s.holdsA c.val = true → exec (.arraySleepWake c) s = .next { s.modCluster c.val (fun k => { k with asleep := false, level := s.power.target, idleFrames := 0, ic := { k.ic with pend := k.ic.retPend ||| k.ic.latched, en := k.ic.retEn, taken := k.ic.retTaken, latched := 0 } }) with power := { s.power with wakes := satInc s.power.wakes } }) ∧
  (∀ (s : State), s.firmwareUp = true → s.phase = .up → s.power.hold = .none → s.safe = false → s.bare = false → s.inGroup = false → exec (.pwrHoldSet 1) s = .next { s with power := { s.power with hold := .asked } }) ∧
  (∀ (s : State), s.firmwareUp = true → s.phase = .up → s.power.hold = .held → exec (.pwrHoldClr 1) s = .next ({ s with power := { s.power with hold := .none } } : State).settle.settle) ∧
  (∀ (c : Fin 8) (s : State), exec (.sleepReq c) s = .next (sleepReq c.val s)) ∧
  (∀ (c : Fin 8) (s : State), exec (.arraySleepEnter c) s = .next (sleepEnter c.val s)) ∧
  (∀ (c : Fin 8) (s : State), exec (.arraySleepWake c) s = .next (sleepWake c.val s)) ∧
  (∀ (v : BitVec 32) (s : State), exec (.pwrHoldSet v) s = .next (accessWrite 0x05000008 v s)) ∧
  (∀ (v : BitVec 32) (s : State), exec (.pwrHoldClr v) s = .next ((accessWrite 0x0500000C v s).settle))

/-- A boundary moves by at most 16 us, and slewing never adds to the phase error (R34, R46, R47). -/
def Obligations.BoundaryMove : Prop :=
  (∀ (f : Frame) (m tr : Int), f.rate.natAbs ≤ 16000 → (f.rate + f.slew m).natAbs ≤ 16000 ∧ (f.tick m tr).rate.natAbs ≤ 16000) ∧
  (∀ (f : Frame) (m : Int), (f.residual - f.slew m).natAbs ≤ f.residual.natAbs ∧ (0 ≤ f.residual → 0 ≤ f.residual - f.slew m) ∧ (f.residual ≤ 0 → f.residual - f.slew m ≤ 0)) ∧
  (∀ (f : Frame) (m : Int), f.syncState ≠ 3 → f.boundary m = f.nextTick) ∧
  (∀ (f : Frame) (m tr : Int), (f.tick m tr).num = f.num + 1 ∧ (f.tick m tr).tickTime = f.boundary m ∧ (f.tick m tr).nextTick = (((f.tick m tr).tickTime + f.periodUs * 1000 : Nat) + (f.tick m tr).rate).toNat ∧ (f.tick m tr).residual = f.residual - f.slew m ∧ (f.tick m tr).grpOfs = f.grpOfs ∧ (f.tick m tr).periodUs = f.periodUs ∧ (f.tick m tr).evt = f.evt)

/-- A tick: the counters alone before firmware runs, the steps of R34 in order once it runs (R34, R341). -/
def Obligations.TickOrder : Prop :=
  (∀ (s : State) (m tr : Int), s.powered = true → s.phase ≠ .up → exec (.tick ⟨m, tr⟩) s = .next (s.ticked m tr)) ∧
  (∀ (s : State) (m tr : Int), s.powered = true → s.phase = .up → exec (.tick ⟨m, tr⟩) s = .next ((((((((s.ticked m tr).endSlots.activateDue.releaseRows.pickRow.readTable.wakeForSlots.raiseAll 8).noteRemote.noteThrottle.exchange.closeGroups true).startErases.kick).planPasses.reelTick.unloadTick.refitTick.searchTick.windowTick.switchTick.homeQps.groupTick.shiftRecent.stopTick.clusterTick).chargeFrame.holdTick.warnEvents).driveSyncOut s.frame.stepping).settle)) ∧
  (∀ (s : State) (m tr : Int), s.powered = false → exec (.tick ⟨m, tr⟩) s = .next s) ∧
  (∀ (move : TickIn) (s : State), exec (.tick move) s = .next (tick move.move move.trim s))

/-- Slots open and close, guard bands and closing windows begin (R42, R43, R44). -/
def Obligations.SlotsAndBands : Prop :=
  (∀ (s : State) (c : Fin 8) (k : Fin 16) (r : Row) (l : Slot), s.rowNow = some r → r.slotOn c.val k.val = some l → s.rowsRun = true → (s.clusterAt c.val).asleep = false → (s.clusterAt c.val).inReset = false → (s.clusterAt c.val).seq.run = none → l.kind = 0 → (s.clusterAt c.val).owedBy l.ownerKey < l.len * 1000 → c.val < s.clusters.length → exec (.slotOpen c k) s = .next ((s.advance (s.frame.tickTime + l.start * 1000 + (s.clusterAt c.val).owedBy l.ownerKey)).modCluster c.val fun q => { q.setOwed l.ownerKey 0 with slot := some { idx := k.val, owner := l.ownerKey, kind := l.kind, openedAt := (s.frame.tickTime + l.start * 1000 + (s.clusterAt c.val).owedBy l.ownerKey), closeAt := s.frame.tickTime + l.start * 1000 + l.len * 1000 } })) ∧
  (∀ (s : State) (c : Fin 8) (k : Fin 16) (r : Row) (l : Slot), s.rowNow = some r → r.slotOn c.val k.val = some l → s.rowsRun = true → (s.clusterAt c.val).asleep = false → (s.clusterAt c.val).inReset = false → (s.clusterAt c.val).seq.run = none → l.kind ≠ 0 → 0 < l.len → c.val < s.clusters.length → exec (.slotOpen c k) s = .next (((s.advance (s.frame.tickTime + l.start * 1000)).modCluster c.val fun q => { q with slot := some { idx := k.val, owner := l.ownerKey, kind := l.kind, openedAt := s.frame.tickTime + l.start * 1000, closeAt := s.frame.tickTime + l.start * 1000 + l.len * 1000 } }).switchOpen c.val)) ∧
  (∀ (s : State) (c : Fin 8) (k : Fin 16) (r : Row) (l : Slot), s.rowNow = some r → r.slotOn c.val k.val = some l → s.rowsRun = true → (s.clusterAt c.val).asleep = false → (s.clusterAt c.val).inReset = false → (s.clusterAt c.val).slot = none → l.kind = 0 → l.len * 1000 ≤ (s.clusterAt c.val).owedBy l.ownerKey → exec (.slotOpen c k) s = .next (s.modCluster c.val fun q => q.setOwed l.ownerKey ((s.clusterAt c.val).owedBy l.ownerKey - l.len * 1000))) ∧
  (∀ (s : State) (c : Fin 8) (k : Fin 16) (o : OpenSlot), (s.clusterAt c.val).slot = some o → o.idx = k.val → (s.clusterAt c.val).seq.run = none → exec (.slotClose c k) s = .next ((s.advance o.closeAt).modCluster c.val fun q => { q with slot := none })) ∧
  (∀ (s : State) (c : Fin 8) (k : Fin 16) (o : OpenSlot) (r : Running), (s.clusterAt c.val).slot = some o → o.idx = k.val → (s.clusterAt c.val).seq.run = some r → r.owner = o.owner → c.val < s.clusters.length → exec (.slotClose c k) s = .next (((s.advance o.closeAt).modCluster c.val fun q => { q with slot := none, seq := { q.seq with run := q.seq.run.map fun r => r.slotCloses o } }).raise c.val 6)) ∧
  (∀ (s : State) (c : Fin 8) (k : Fin 16) (l : Slot) (t : Nat), s.bandSlot c.val k.val 250 = some (l, t) → s.rowsRun = true → l.cls = 0 → exec (.guardBand c k) s = .next (((s.advance (t - 250000)).modCluster c.val fun q => { q with guard := some (t, l.ownerKey) }).raise c.val 7)) ∧
  (∀ (s : State) (c : Fin 8) (k : Fin 16) (l : Slot) (t : Nat), s.bandSlot c.val k.val 200 = some (l, t) → s.rowsRun = true → l.cls = 3 → exec (.closingWindow c k) s = .next ((s.advance (t - 200000)).modCluster c.val fun q => { q with closing := some t })) ∧
  (∀ (c : Fin 8) (slot : Fin 16) (s : State), exec (.slotOpen c slot) s = .next (slotBegins c.val slot.val s)) ∧
  (∀ (c : Fin 8) (slot : Fin 16) (s : State), exec (.slotClose c slot) s = .next (slotEnds c.val slot.val s)) ∧
  (∀ (c : Fin 8) (slot : Fin 16) (s : State), exec (.guardBand c slot) s = .next (guardStarts c.val slot.val s)) ∧
  (∀ (c : Fin 8) (slot : Fin 16) (s : State), exec (.closingWindow c slot) s = .next (closingBegin c.val slot.val s))

/-- SYNC_IN edges: acquisition, lock, slewing, spurious edges, loss and return of sync (R46, R47, R48, R49). -/
def Obligations.TimerLock : Prop :=
  (∀ (s : State) (t : Nat) (i : Image), s.powered = true → s.loft.image = some i → i.src = 1 → s.frame.syncState = 1 → s.frame.lastEvent = none → exec (.syncInEdge t) s = .next (({ s.advance t with frame := { (s.advance t).frame with nextTick := t, lastEvent := some t, phaseErr := 0, stepping := true } } : State).setFrmEvt 0)) ∧
  (∀ (s : State) (t : Nat) (i : Image) (l : Nat), s.powered = true → s.loft.image = some i → i.src = 1 → s.frame.syncState = 1 → s.frame.lastEvent = some l → ((t : Int) - (s.expected i.inDiv t : Int)).natAbs ≤ 1000 → exec (.syncInEdge t) s = .next { (s.advance t).acceptEvent (s.expected i.inDiv t) ((t : Int) - (s.expected i.inDiv t : Int)) 2 with frame := { ((s.advance t).acceptEvent (s.expected i.inDiv t) ((t : Int) - (s.expected i.inDiv t : Int)) 2).frame with startRows := true, lastEvent := none } }) ∧
  (∀ (s : State) (t : Nat) (i : Image) (l : Nat), s.powered = true → s.loft.image = some i → i.src = 1 → s.frame.syncState = 1 → s.frame.lastEvent = some l → 1000 < ((t : Int) - (s.expected i.inDiv t : Int)).natAbs → exec (.syncInEdge t) s = .next (s.advance t)) ∧
  (∀ (s : State) (t : Nat) (i : Image), s.powered = true → s.loft.image = some i → i.src = 1 → s.frame.syncState = 3 ∨ (s.frame.syncState = 2 ∧ 4 * ((t : Int) - (s.expected i.inDiv t : Int)).natAbs ≤ s.periodNs) → exec (.syncInEdge t) s = .next ((s.advance t).acceptEvent (s.expected i.inDiv t) ((t : Int) - (s.expected i.inDiv t : Int)) (if ((t : Int) - (s.expected i.inDiv t : Int)).natAbs ≤ 1000 then 2 else 3))) ∧
  (∀ (s : State) (t : Nat) (i : Image), s.powered = true → s.loft.image = some i → i.src = 1 → s.frame.syncState = 2 → s.periodNs < 4 * ((t : Int) - (s.expected i.inDiv t : Int)).natAbs → exec (.syncInEdge t) s = .next ((s.advance t).setFrmEvt 1)) ∧
  (∀ (s : State) (t : Nat) (i : Image) (l : Nat), s.powered = true → s.loft.image = some i → i.src = 1 → s.frame.syncState = 0 ∨ s.frame.syncState = 4 → s.frame.lastEvent = some l → ((t : Int) - ((l + i.inDiv * s.periodNs : Nat) : Int)).natAbs ≤ 1000 → 7 ≤ s.frame.goodEvents → exec (.syncInEdge t) s = .next (({ (s.advance t).acceptEvent (s.expected i.inDiv t) ((t : Int) - (s.expected i.inDiv t : Int)) 3 with frame := { ((s.advance t).acceptEvent (s.expected i.inDiv t) ((t : Int) - (s.expected i.inDiv t : Int)) 3).frame with goodEvents := 0, lastEvent := none, atLimit := true } } : State).setFrmEvt 3)) ∧
  (∀ (s : State) (t : Nat) (i : Image) (l : Nat), s.powered = true → s.loft.image = some i → i.src = 1 → s.frame.syncState = 0 ∨ s.frame.syncState = 4 → s.frame.lastEvent = some l → ((t : Int) - ((l + i.inDiv * s.periodNs : Nat) : Int)).natAbs ≤ 1000 → s.frame.goodEvents < 7 → exec (.syncInEdge t) s = .next { s.advance t with frame := { (s.advance t).frame with goodEvents := s.frame.goodEvents + 1, lastEvent := some t } }) ∧
  (∀ (s : State) (t : Nat) (i : Image), s.powered = true → s.loft.image = some i → i.src ≠ 1 → exec (.syncInEdge t) s = .next (s.advance t)) ∧
  (∀ (s : State) (i : Image), s.frame.syncState = 1 → s.loft.image = some i → 16 * i.eventFrames ≤ s.frame.acqFrames → exec .syncAcquireTimeout s = .next (({ s with frame := { s.frame with syncState := 0, startRows := true, goodEvents := 0, lastEvent := none } } : State).setFrmEvt 2)) ∧
  (∀ (s : State), s.sourceLost = true → exec .syncLost s = .next (({ s with frame := { s.frame with syncState := 4, goodEvents := 0, lastEvent := none } } : State).setFrmEvt 2)) ∧
  (∀ (t : Nat) (s : State), exec (.syncInEdge t) s = .next (if s.powered then syncEdge t s else s)) ∧
  (∀ (s : State), exec .syncAcquireTimeout s = .next (acquireTimeout s)) ∧
  (∀ (s : State), exec .syncLost s = .next (syncLost s))

/-- FRM_EVT is sticky, each setting is recorded, and a write of 1 clears (R55). -/
def Obligations.FrameEvents : Prop :=
  (∀ (s : State) (n : Nat) (m : Nat), n < 5 → m < 5 → (s.setFrmEvt n).frame.evt.getLsbD m = (decide (m = n) || s.frame.evt.getLsbD m) ∧ (s.setFrmEvt n).host.telSeq = s.host.telSeq + 1 ∧ (s.setFrmEvt n).host.telemetry.getLast? = some { seq := s.host.telSeq + 1, frame := s.groupFrame, block := 2, event := BitVec.ofNat 16 n, unit := 0, detail := 0 }) ∧
  (∀ (s : State) (v : W32), s.firmwareUp = true → exec (.frmEvtClr v) s = .next { s with frame := { s.frame with evt := s.frame.evt &&& ~~~(v.setWidth 5) } }) ∧
  (∀ (v : W32) (s : State), exec (.frmEvtClr v) s = .next (if s.firmwareUp then frmEvtClear v s else s))

/-- What posting a completion changes: the completion, the error log, nothing else (R346, R357, R369). -/
def Obligations.CompletionPosted : Prop :=
  (∀ (s : State) (id : CmdId) (t : Status) (dw0 dw1 : W32) (data : Bytes), ∃ u, s.answer id t dw0 data dw1 = u ∧ u = { s with host := u.host } ∧ u.host.completions = s.host.completions ++ [{ id := id, sct := t.sct, sc := t.sc, dnr := t.dnr, dw0 := dw0, dw1 := dw1, data := data }] ∧ u.host.open_ = s.host.open_ ∧ u.host.ctrls = s.host.ctrls ∧ u.host.telemetry = s.host.telemetry ∧ (t.good = true → u.host.errors = s.host.errors ∧ u.host.errCount = s.host.errCount) ∧ (t.good = false → u.host.errCount = s.host.errCount + 1 ∧ u.host.errors.length ≤ 64)) ∧
  (∀ (s : State) (id : CmdId) (t : Status) (dw0 dw1 : W32) (data : Bytes), s.isOpen id = true → (s.complete id t dw0 dw1 data).isOpen id = false ∧ (s.complete id t dw0 dw1 data).pending = s.pending ∧ ∃ d w, (s.complete id t dw0 dw1 data).host.completions = s.host.completions ++ [{ id := id, sct := t.sct, sc := t.sc, dnr := t.dnr, dw0 := dw0, dw1 := w, data := d }] ∧ (∀ n, s.resLenOf id = some n → d = data.take n ∧ w = if n < data.length then dw1 ||| 0x800 else dw1) ∧ (s.resLenOf id = none → d = data ∧ w = dw1)) ∧
  (∀ (s : State) (id : CmdId) (t : Status) (dw0 dw1 : W32) (data : Bytes), s.isOpen id = false → s.complete id t dw0 dw1 data = s)

/-- An admin command runs at once on the core that serves it, or waits while that core is halted (R343, R346, R495). -/
def Obligations.AdminCommandsRun : Prop :=
  (∀ (i : Instr) (id : CmdId) (s : State), adminId i = some id → s.serves i id → exec i s = .next (adminOp i s)) ∧
  (∀ (i : Instr) (id : CmdId) (s : State), adminId i = some id → s.adminUp id = true → s.isOpen id = false → (s.coreAt (adminCore i id)).halted = true → exec i s = .next (s.enter id false (some i))) ∧
  (∀ (i : Instr) (id : CmdId) (s : State), adminId i = some id → s.adminUp id = false ∨ s.isOpen id = true → exec i s = .next s)

/-- Loft Image Transfer, Apply, Cancel and the end of the checks (R58, R59, R60, R61, R76, R80). -/
def Obligations.LoftImageLoading : Prop :=
  (∀ (id : CmdId) (numd ofst : W32) (data : Bytes) (s : State), s.serves (.loftImageTransfer id numd ofst data) id → s.loft.checking = none → s.loft.pending = none → numd.toNat ≤ 32767 → 4 * ofst.toNat + 4 * (numd.toNat + 1) ≤ 524288 → exec (.loftImageTransfer id numd ofst data) s = .next (({ s with loft := { s.loft with staging := Sparse.setRun 0 (if 4 * ofst.toNat = 0 then [] else s.loft.staging) (4 * ofst.toNat) (slice data 0 (4 * (numd.toNat + 1))), extent := max (if 4 * ofst.toNat = 0 then 0 else s.loft.extent) (4 * ofst.toNat + 4 * (numd.toNat + 1)) } } : State).answer id stOk)) ∧
  (∀ (id : CmdId) (c0 c1 c2 : W32) (s : State), s.serves (.loftImageApply id c0 c1 c2) id → s.holding = false → s.loft.checking = none → s.loft.pending = none → bits c0 31 2 = 0 → bits c2 31 16 = 0 → bits c0 1 0 = 0 ∨ bits c0 1 0 = 1 → exec (.loftImageApply id c0 c1 c2) s = .next { s.enter id with loft := { s.loft with checking := some { id := id, mode := bits c0 1 0, actFrame := BitVec.ofNat 48 (c1.toNat + 2 ^ 32 * bits c2 15 0) } } }) ∧
  (∀ (id : CmdId) (c0 c1 c2 : W32) (s : State), s.serves (.loftImageApply id c0 c1 c2) id → s.holding = false → bits c0 1 0 = 2 → exec (.loftImageApply id c0 c1 c2) s = .next (s.answer id stInvalidField)) ∧
  (∀ (id : CmdId) (c1 c2 : W32) (s : State), s.serves (.loftImageApplyActFrame id 0 c1 c2) id → s.holding = false → bits c2 31 16 = 0 → s.loft.checking = none → s.loft.pending = none → exec (.loftImageApplyActFrame id 0 c1 c2) s = .next { s.enter id with loft := { s.loft with checking := some { id := id, mode := 1, actFrame := BitVec.ofNat 48 (c1.toNat + 2 ^ 32 * bits c2 15 0) } } }) ∧
  (∀ (id : CmdId) (c1 c2 : W32) (s : State) (p : Pending), s.serves (.loftImageCancel id 0 c1 c2) id → s.holding = false → bits c2 31 16 = 0 → s.loft.pending = some p → exec (.loftImageCancel id 0 c1 c2) s = .next (((({ s with loft := { s.loft with pending := none, last := 4 } } : State).completeOpt p.id stAbortRequested).telemetry 1 4 0).answer id stOk)) ∧
  (∀ (s : State) (c : Checking), s.loft.checking = some c → exec .imageCheckDone s = .next (match (s.checkImage c).1 with
    | none => if c.mode = 1 then ({ s with loft := { s.loft with checking := none, pending := some { id := none, mode := 1, actFrame := c.actFrame, image := (s.checkImage c).2 } } } : State).complete c.id stOk (c.actFrame.setWidth 32)
      else { s with loft := { s.loft with checking := none, pending := some { id := some c.id, mode := c.mode, actFrame := s.groupFrame + 1, image := (s.checkImage c).2 } } }
    | some v => (({ s with loft := { s.loft with checking := none, last := 2, reason := BitVec.ofNat 8 v.reason, detail := BitVec.ofNat 16 v.detail } } : State).complete c.id v.status (BitVec.ofNat 32 (if v.status = stContract then v.detail * 65536 + v.test else if v.status = stGroupLevel then 0 else v.reason + v.detail * 65536))).telemetry 1 2 0 (v.reason + v.detail * 65536))) ∧
  (∀ (s : State), s.loft.checking = none → exec .imageCheckDone s = .next s) ∧
  (∀ (id : CmdId) (numd ofst : W32) (data : Bytes) (s : State), exec (.loftImageTransfer id numd ofst data) s = .next (adminIn id (.loftImageTransfer id numd ofst data) s)) ∧
  (∀ (id : CmdId) (cdw10 cdw11 cdw12 : W32) (s : State), exec (.loftImageApply id cdw10 cdw11 cdw12) s = .next (adminIn id (.loftImageApply id cdw10 cdw11 cdw12) s)) ∧
  (∀ (id : CmdId) (rsv : BitVec 30) (cdw11 cdw12 : W32) (s : State), exec (.loftImageApplyActFrame id rsv cdw11 cdw12) s = .next (adminIn id (.loftImageApplyActFrame id rsv cdw11 cdw12) s)) ∧
  (∀ (id : CmdId) (rsv : BitVec 30) (cdw11 cdw12 : W32) (s : State), exec (.loftImageCancel id rsv cdw11 cdw12) s = .next (adminIn id (.loftImageCancel id rsv cdw11 cdw12) s)) ∧
  (∀ (s : State), exec .imageCheckDone s = .next (checkDone s))

/-- Identify, logs, features, events, Abort and Keep Alive (R57, R343, R346, R354, R356). -/
def Obligations.AdminAnswers : Prop :=
  (∀ (id : CmdId) (nsid : W32) (s : State) (n : Namespace), s.serves (.identify id 0 nsid) id → s.nsFor nsid.toNat = some n → exec (.identify id 0 nsid) s = .next (s.answer id stOk 0 (State.identNamespace n))) ∧
  (∀ (id : CmdId) (lid : Byte) (lsi : W16) (ofs len : Nat) (s : State) (p : Bytes), s.serves (.getLogPage id lid lsi ofs len) id → s.logPage id.ctrl lid lsi = some p → ofs ≤ p.length → exec (.getLogPage id lid lsi ofs len) s = .next (s.answer id stOk 0 (slice p ofs len))) ∧
  (∀ (id : CmdId) (lid : Byte) (lsi : W16) (ofs len : Nat) (s : State), s.serves (.getLogPage id lid lsi ofs len) id → s.logPage id.ctrl lid lsi = none → exec (.getLogPage id lid lsi ofs len) s = .next (s.answer id stInvalidField)) ∧
  (∀ (id : CmdId) (s : State) (c : HostCtrl), s.serves (.getFeatures id 0x0B) id → s.ctrlFor id.ctrl = some c → exec (.getFeatures id 0x0B) s = .next (s.answer id stOk c.aec)) ∧
  (∀ (id : CmdId) (v : W32) (s : State), s.serves (.setFeatures id 0x02 v) id → exec (.setFeatures id 0x02 v) s = .next (s.answer id (if s.loft.image = none then stNotLoaded else stSequence))) ∧
  (∀ (id : CmdId) (v : W32) (s : State), s.serves (.setFeatures id 0x0B v) id → exec (.setFeatures id 0x0B v) s = .next (if v &&& 0x061F = v then (s.modHostCtrl id.ctrl fun c => { c with aec := v }).answer id stOk else s.answer id stInvalidField)) ∧
  (∀ (id : CmdId) (s : State) (c : HostCtrl), s.serves (.asyncEventRequest id) id → s.ctrlFor id.ctrl = some c → exec (.asyncEventRequest id) s = .next (if 8 ≤ c.aers.length then s.answer id stSequence else match c.events with
    | e :: r => (s.modHostCtrl id.ctrl fun c => { c with events := r }).answer id stOk e
    | [] => s.modHostCtrl id.ctrl fun c => { c with aers := c.aers ++ [id] })) ∧
  (∀ (id v : CmdId) (s : State), s.serves (.abort id v) id → exec (.abort id v) s = .next (s.answer id stOk 1)) ∧
  (∀ (id : CmdId) (s : State), s.serves (.keepAlive id) id → exec (.keepAlive id) s = .next ((s.modHostCtrl id.ctrl fun c => { c with lastKa := s.frame.time }).answer id stOk)) ∧
  (∀ (n : W16) (s : State) (c : HostCtrl), s.ctrlFor n = some c → c.lastKa + c.kato * 1000000 ≤ s.frame.time → exec (.keepAliveTimeout n) s = .next (s.dropController n).settle) ∧
  (∀ (id : CmdId) (cns : Byte) (nsid : W32) (s : State), exec (.identify id cns nsid) s = .next (adminIn id (.identify id cns nsid) s)) ∧
  (∀ (id : CmdId) (lid : Byte) (lsi : W16) (ofs len : Nat) (s : State), exec (.getLogPage id lid lsi ofs len) s = .next (adminIn id (.getLogPage id lid lsi ofs len) s)) ∧
  (∀ (id : CmdId) (fid : Byte) (s : State), exec (.getFeatures id fid) s = .next (adminIn id (.getFeatures id fid) s)) ∧
  (∀ (id : CmdId) (fid : Byte) (cdw11 : W32) (s : State), exec (.setFeatures id fid cdw11) s = .next (adminIn id (.setFeatures id fid cdw11) s)) ∧
  (∀ (id : CmdId) (s : State), exec (.asyncEventRequest id) s = .next (adminIn id (.asyncEventRequest id) s)) ∧
  (∀ (id : CmdId) (victim : CmdId) (s : State), exec (.abort id victim) s = .next (adminIn id (.abort id victim) s)) ∧
  (∀ (id : CmdId) (s : State), exec (.keepAlive id) s = .next (adminIn id (.keepAlive id) s)) ∧
  (∀ (ctrl : W16) (s : State), exec (.keepAliveTimeout ctrl) s = .next ((keepAliveExpired ctrl s).settle))

/-- Firmware download and commit (R443, R432). -/
def Obligations.FirmwareUpdate : Prop :=
  (∀ (id : CmdId) (ofst : W32) (data : Bytes) (s : State), s.serves (.firmwareImageDownload id ofst data) id → 4 * ofst.toNat % 4096 = 0 → data.length % 4096 = 0 → data ≠ [] → 4 * ofst.toNat + data.length ≤ 67108864 → exec (.firmwareImageDownload id ofst data) s = .next (({ s with sec := { s.sec with download := Sparse.setRun 0 s.sec.download (4 * ofst.toNat) data, downloadLen := max s.sec.downloadLen (4 * ofst.toNat + data.length) } } : State).answer id stOk)) ∧
  (∀ (id : CmdId) (sl : BitVec 3) (s : State), s.serves (.firmwareCommitReplace id sl) id → s.safe = true → exec (.firmwareCommitReplace id sl) s = .next (s.answer id stSequence)) ∧
  (∀ (id : CmdId) (sl : BitVec 3) (s : State), s.serves (.firmwareCommitReplace id sl) id → s.safe = false → 1 ≤ sl.toNat → sl.toNat ≤ 3 → sl.toNat ≠ s.sec.running.toNat → exec (.firmwareCommitReplace id sl) s = .next (if ({ s with sec := { s.sec with download := [], downloadLen := 0 } } : State).fwOk s.downloaded then ({ s with sec := { s.sec with download := [], downloadLen := 0, slots := setAt s.sec.slots (sl.toNat - 1) (some s.downloaded) } } : State).answer id stOk else ({ s with sec := { s.sec with download := [], downloadLen := 0 } } : State).answer id stFwImage)) ∧
  (∀ (id : CmdId) (sl : BitVec 3) (s : State), s.serves (.firmwareCommitActivate id sl) id → s.safe = false → 1 ≤ sl.toNat → sl.toNat ≤ 3 → sl.toNat ≠ s.sec.running.toNat → exec (.firmwareCommitActivate id sl) s = .next (if ({ s with sec := { s.sec with download := [], downloadLen := 0 } } : State).fwOk s.downloaded then ({ s with sec := { s.sec with download := [], downloadLen := 0, slots := setAt s.sec.slots (sl.toNat - 1) (some s.downloaded), nextSlot := BitVec.ofNat 2 sl.toNat } } : State).answer id stOk else ({ s with sec := { s.sec with download := [], downloadLen := 0 } } : State).answer id stFwImage)) ∧
  (∀ (id : CmdId) (sl : BitVec 3) (s : State), s.serves (.firmwareCommitSlot id sl) id → s.safe = false → 1 ≤ sl.toNat → sl.toNat ≤ 3 → sl.toNat ≠ s.sec.running.toNat → exec (.firmwareCommitSlot id sl) s = .next (if s.slotOk sl.toNat then ({ s with sec := { s.sec with nextSlot := BitVec.ofNat 2 sl.toNat } } : State).answer id stOk else s.answer id stFwImage)) ∧
  (∀ (id : CmdId) (sl : BitVec 3) (s : State), s.serves (.firmwareCommitSlot id sl) id → s.safe = false → sl.toNat ≠ 0 → sl.toNat = s.sec.running.toNat ∨ 3 < sl.toNat → exec (.firmwareCommitSlot id sl) s = .next (s.answer id stFwSlot)) ∧
  (∀ (id : CmdId) (ofst : W32) (data : Bytes) (s : State), exec (.firmwareImageDownload id ofst data) s = .next (adminIn id (.firmwareImageDownload id ofst data) s)) ∧
  (∀ (id : CmdId) (slot : BitVec 3) (s : State), exec (.firmwareCommitReplace id slot) s = .next (adminIn id (.firmwareCommitReplace id slot) s)) ∧
  (∀ (id : CmdId) (slot : BitVec 3) (s : State), exec (.firmwareCommitActivate id slot) s = .next (adminIn id (.firmwareCommitActivate id slot) s)) ∧
  (∀ (id : CmdId) (slot : BitVec 3) (s : State), exec (.firmwareCommitSlot id slot) s = .next (adminIn id (.firmwareCommitSlot id slot) s))

/-- Register Access, firmware writes, and the accesses that are refused or dropped (R368, R423, R438, R449, R501, R503, R506, R509). -/
def Obligations.RegisterWindow : Prop :=
  (∀ (id : CmdId) (core : Fin 4) (addr : W32) (s : State) (b : WinBlock) (o : Nat), s.serves (.registerAccessRead id core addr 1 0) id → addr.toNat % 4 = 0 → winBlock addr.toNat = some (b, o) → s.parity.bad = [] → exec (.registerAccessRead id core addr 1 0) s = .next (s.answer id stOk 0 (toLe (match b with | .env _ => if isDsp o then (0 : W32) else s.readReg b o | _ => s.readReg b o).toNat 4))) ∧
  (∀ (id : CmdId) (core : Fin 4) (addr c : W32) (s : State), s.serves (.registerAccessRead id core addr c 0) id → addr.toNat % 4 ≠ 0 → bits c 31 11 = 0 → 1 ≤ bits c 10 0 → bits c 10 0 ≤ 1024 → addr.toNat + 4 * bits c 10 0 ≤ 2 ^ 32 → exec (.registerAccessRead id core addr c 0) s = .next ((s.winBad 2 core.val addr.toNat).answer id stInvalidField)) ∧
  (∀ (id : CmdId) (core : Fin 4) (addr v : W32) (s : State) (b : WinBlock) (o : Nat), s.serves (.registerAccessWrite id core addr 1 0 [v]) id → addr.toNat % 4 = 0 → winBlock addr.toNat = some (b, o) → exec (.registerAccessWrite id core addr 1 0 [v]) s = .next (((if s.blockAway b then s.winBad 3 core.val addr.toNat else s.writeReg .access core.val b o v).answer id stOk).settle)) ∧
  (∀ (id : CmdId) (core : Fin 4) (addr c : W32) (rsv : BitVec 31) (d : List W32) (s : State), d.length ≠ bits c 10 0 → exec (.registerAccessWrite id core addr c rsv d) s = .fault .illFormed) ∧
  (∀ (m : W16) (addr v : W32) (s : State) (b : WinBlock) (o : Nat), m.toNat < 5 → s.firmwareUp = true → addr.toNat % 4 = 0 → winBlock addr.toNat = some (b, o) → exec (.registerWrite m addr v) s = .next (if s.blockAway b then s.winBad 3 m.toNat addr.toNat else s.writeReg .core m.toNat b o v).settle) ∧
  (∀ (m : W16) (addr v : W32) (s : State), m.toNat < 5 → s.firmwareUp = true → addr.toNat % 4 ≠ 0 ∨ winBlock addr.toNat = none → exec (.registerWrite m addr v) s = .next (s.winBad (if addr.toNat % 4 ≠ 0 then 2 else 1) m.toNat addr.toNat).settle) ∧
  (∀ (id : CmdId) (p : Byte) (d : Bytes) (s : State), s.serves (.securitySend id p d) id → exec (.securitySend id p d) s = .next (if p = 0xE8 then (spdm d s).answer id stOk else s.answer id stInvalidField)) ∧
  (∀ (id : CmdId) (len : Nat) (s : State), s.serves (.securityReceive id 0xE8 len) id → exec (.securityReceive id 0xE8 len) s = .next (({ s with sec := { s.sec with spdm := { s.sec.spdm with response := [] } } } : State).answer id stOk 0 (s.sec.spdm.response.take len))) ∧
  (∀ (g : Byte) (v : W32) (s : State), s.firmwareUp = true → parListed g.toNat = true → exec (.parFlipMask g v) s = .next (if (match blockOfGroup g.toNat with | some b => s.blockAway b | none => false) then s.winBad 3 0 (0x01C01000 + 4 * g.toNat) else { s with parity := { s.parity with masks := Sparse.set 0 s.parity.masks g.toNat v } })) ∧
  (∀ (id : CmdId) (secp : Byte) (data : Bytes) (s : State), exec (.securitySend id secp data) s = .next (adminIn id (.securitySend id secp data) s)) ∧
  (∀ (id : CmdId) (secp : Byte) (len : Nat) (s : State), exec (.securityReceive id secp len) s = .next (adminIn id (.securityReceive id secp len) s)) ∧
  (∀ (id : CmdId) (core : Fin 4) (addr cdw11 : W32) (rsv : BitVec 31) (s : State), exec (.registerAccessRead id core addr cdw11 rsv) s = .next (adminIn id (.registerAccessRead id core addr cdw11 rsv) s)) ∧
  (∀ (id : CmdId) (core : Fin 4) (addr cdw11 : W32) (rsv : BitVec 31) (data : List W32) (s : State), data.length = bits cdw11 10 0 → exec (.registerAccessWrite id core addr cdw11 rsv data) s = .next ((adminIn id (.registerAccessWrite id core addr cdw11 rsv data) s).settle)) ∧
  (∀ (master : W16) (addr v : W32) (s : State), master.toNat < 5 → exec (.registerWrite master addr v) s = .next ((coreWrite master.toNat addr.toNat v s).settle)) ∧
  (∀ (g : Byte) (v : W32) (s : State), exec (.parFlipMask g v) s = .next (if s.firmwareUp then flipMask g.toNat v 0 s else s))

/-- Namespace Create, Delete and Format: refusals and the changes they begin (R348, R349, R432, R453, R465). -/
def Obligations.NamespaceManagement : Prop :=
  (∀ (id : CmdId) (nsze : W64) (lbaf : BitVec 4) (b : Bytes) (s : State) (t : Status), s.serves (.namespaceCreate id nsze lbaf b) id → s.nsRefusal = some t → exec (.namespaceCreate id nsze lbaf b) s = .next (s.answer id t).settle) ∧
  (∀ (id : CmdId) (nsze : W64) (lbaf : BitVec 4) (b : Bytes) (s : State), s.serves (.namespaceCreate id nsze lbaf b) id → s.nsRefusal = none → s.hasTenant (leNat b 0 4) = true → leNat b 4 1 = 0 → (byteAt b 5).toNat ≤ 1 → zeros b 6 10 = true → lbaf = 0 → nsze.toNat * 4096 ≠ 0 → nsze.toNat * 4096 % 1048576 = 0 → s.media.namespaces.length < 1024 → nsze.toNat * 4096 / 1048576 ≤ s.freeGroups → exec (.namespaceCreate id nsze lbaf b) s = .next
    (let nsid := ((upTo 1025).find? fun i => decide (1 ≤ i) && (s.nsFor i).isNone).getD 0
     let g := s.pickGroups (nsze.toNat * 4096 / 1048576)
     let q := (s.useGroups g).commitParts [.directory 2 nsid]
     (({ q.2 with
        media := { q.2.media with namespaces := q.2.media.namespaces ++ [{ nsid := nsid, nsze := nsze.toNat, lbaf := 0, tenant := leNat b 0 4, shadows := 0, keyMode := byteAt b 5, groups := g, creating := some id, commit := q.1 }] }
        sec := { q.2.sec with keys := q.2.sec.keys ++ [{ nsid := nsid, mode := byteAt b 5, draw := q.2.sec.draws }], draws := q.2.sec.draws + 1 } } : State).enter id).settle).settle) ∧
  (∀ (id : CmdId) (nsid : W32) (s : State) (n : Namespace), s.serves (.namespaceDelete id nsid) id → s.nsRefusal = none → s.nsFor nsid.toNat = some n → n.creating = none → n.formatting = none → n.deleting = none → (s.nsMode n).isSome = true → exec (.namespaceDelete id nsid) s = .next ((((s.commitParts [.directory 2 nsid.toNat]).2.modNs nsid.toNat fun n => { n with deleting := some id, commit := (s.commitParts [.directory 2 nsid.toNat]).1 }).enter id).settle).settle) ∧
  (∀ (id : CmdId) (lbaf : BitVec 4) (ses : BitVec 3) (s : State), s.serves (.formatNvm id 0xFFFFFFFF lbaf ses) id → s.nsRefusal = none → s.media.namespaces = [] → lbaf.toNat ≤ 1 → ses.toNat ≤ 2 → exec (.formatNvm id 0xFFFFFFFF lbaf ses) s = .next (s.answer id stOk).settle) ∧
  (∀ (id : CmdId) (nsid : W32) (lbaf : BitVec 4) (ses : BitVec 3) (s : State) (n : Namespace), s.serves (.formatNvm id nsid lbaf ses) id → s.nsRefusal = none → nsid ≠ 0xFFFFFFFF → (s.media.namespaces.filter (fun n => decide (n.nsid = nsid.toNat)) = [n]) → lbaf.toNat ≤ 1 → ses.toNat ≤ 2 → s.nsBusy n.nsid = false → n.creating = none → n.formatting = none → n.deleting = none → s.nsMode n = some false → exec (.formatNvm id nsid lbaf ses) s = .next (((s.enter id).formatOne id lbaf.toNat (decide (1 ≤ ses.toNat)) n).settle).settle) ∧
  (∀ (id : CmdId) (nsze : W64) (lbaf : BitVec 4) (cianber : Bytes) (s : State), exec (.namespaceCreate id nsze lbaf cianber) s = .next (adminIn id (.namespaceCreate id nsze lbaf cianber) s)) ∧
  (∀ (id : CmdId) (nsid : W32) (s : State), exec (.namespaceDelete id nsid) s = .next (adminIn id (.namespaceDelete id nsid) s)) ∧
  (∀ (id : CmdId) (nsid : W32) (lbaf : BitVec 4) (ses : BitVec 3) (s : State), exec (.formatNvm id nsid lbaf ses) s = .next (adminIn id (.formatNvm id nsid lbaf ses) s))

/-- Connect, controller properties, Disconnect and lost connections (R343, R354, R355, R460). -/
def Obligations.Connections : Prop :=
  (∀ (id : CmdId) (p : Fin 8) (q : W16) (kato : W32) (s : State), s.phase = .up → (s.portAt p.val).up = true → (s.portAt p.val).addr = true → s.tether.qps.length < 65536 → id.sq = 0 → (s.host.ctrls.any (fun c => decide (c.cntlid = id.ctrl)) = false) → s.host.ctrls.length < 64 → 1000 ≤ kato.toNat → kato.toNat ≤ 60000 → q ≠ 0 → q.toNat ≤ 31 → exec (.connect id p q kato) s = .next ((({ s with host := { s.host with ctrls := s.host.ctrls ++ [{ cntlid := id.ctrl, port := p.val, kato := ceilDiv kato.toNat 100 * 100, lastKa := s.frame.time, queues := [{ sq := 0, size := q }] }] } } : State).openHostQp p.val id.ctrl 0).answer id stOk (id.ctrl.setWidth 32))) ∧
  (∀ (id : CmdId) (p : Fin 8) (q : W16) (kato : W32) (s : State), s.phase = .up → (s.portAt p.val).up = true → (s.portAt p.val).addr = true → s.tether.qps.length < 65536 → id.sq = 0 → (s.host.ctrls.any (fun c => decide (c.cntlid = id.ctrl)) = true) → exec (.connect id p q kato) s = .next (s.answer id stSequence)) ∧
  (∀ (id : CmdId) (p : Fin 8) (q : W16) (kato : W32) (s : State) (c : HostCtrl), s.phase = .up → (s.portAt p.val).up = true → (s.portAt p.val).addr = true → s.tether.qps.length < 65536 → id.sq ≠ 0 → s.ctrlFor id.ctrl = some c → c.port = p.val → c.ready = true → c.hasQueue id.sq = false → c.queues.length - 1 < bits c.numQueues 15 0 + 1 → (sumBy (fun (c : HostCtrl) => c.queues.length - 1) s.host.ctrls < 4096) → q ≠ 0 → q.toNat ≤ 4095 → exec (.connect id p q kato) s = .next (((s.modHostCtrl id.ctrl fun c => { c with queues := c.queues ++ [{ sq := id.sq, size := q }] }).openHostQp p.val id.ctrl id.sq).answer id stOk (id.ctrl.setWidth 32))) ∧
  (∀ (id : CmdId) (s : State) (c : HostCtrl), s.ctrlFor id.ctrl = some c → exec (.propertyGet id 0x1C) s = .next (s.answer id stOk (BitVec.ofNat 32 (b2n c.ready + 4 * c.shst.toNat)))) ∧
  (∀ (id : CmdId) (v : W64) (s : State) (c : HostCtrl), s.ctrlFor id.ctrl = some c → bit c.cc 0 = false → bit (v.setWidth 32) 0 = true → bits (v.setWidth 32) 15 14 = 0 → s.host.fwEvent = false → exec (.propertySet id 0x14 v) s = .next ((((s.modHostCtrl id.ctrl fun c => { c with cc := v.setWidth 32 }).modHostCtrl id.ctrl fun c => { c with ready := true, shst := 0 }).answer id stOk).settle)) ∧
  (∀ (id : CmdId) (v : W64) (s : State) (c : HostCtrl), s.ctrlFor id.ctrl = some c → v.setWidth 32 = (0x4E564D65 : W32) → exec (.propertySet id 0x20 v) s = .next (s.resetModule 3).settle) ∧
  (∀ (id : CmdId) (s : State) (c : HostCtrl), s.ctrlFor id.ctrl = some c → c.hasQueue id.sq = true → exec (.disconnect id) s = .next (if id.sq = 0 then (s.dropController id.ctrl).answer id stOk else (s.loseQueue id.ctrl id.sq true).answer id stOk).settle) ∧
  (∀ (n q : W16) (s : State) (c : HostCtrl), s.ctrlFor n = some c → c.hasQueue q = true → exec (.transportConnectionLost n q) s = .next (if q = 0 then s.dropController n else s.loseQueue n q false).settle) ∧
  (∀ (id : CmdId) (port : Fin 8) (sqsize : W16) (kato : W32) (s : State), exec (.connect id port sqsize kato) s = .next (connectCmd id port sqsize kato s)) ∧
  (∀ (id : CmdId) (ofs : W32) (s : State), exec (.propertyGet id ofs) s = .next (propertyGet id ofs s)) ∧
  (∀ (id : CmdId) (ofs : W32) (v : W64) (s : State), exec (.propertySet id ofs v) s = .next ((propertySet id ofs v s).settle)) ∧
  (∀ (id : CmdId) (s : State), exec (.disconnect id) s = .next ((disconnectCmd id s).settle)) ∧
  (∀ (ctrl sq : W16) (s : State), exec (.transportConnectionLost ctrl sq) s = .next ((connectionLost ctrl sq s).settle))

/-- What the loss of a controller removes (R354, R355). -/
def Obligations.QueuesEnd : Prop :=
  ∀ (s : State) (n : W16), (s.dropController n).ctrlFor n = none ∧ (s.dropController n).tether.qps.all (fun q => match q.ctrl with | none => true | some (k, _) => decide (k ≠ n)) = true

/-- An I/O command is entered, and starts in the same step unless something holds it back (R18, R343, R350, R352, R438, R465). -/
def Obligations.IoCommandsArrive : Prop :=
  (∀ (i : Instr) (h : IoHdr) (nvm : Bool) (s : State), ioOf i = some (h, nvm) → i.wellFormed = true → s.queueUp h.id = true → s.isOpen h.id = false → s.parity.masks = [] → exec i s = .next (s.entered i h nvm).settle) ∧
  (∀ (i : Instr) (h : IoHdr) (nvm : Bool) (s : State), ioOf i = some (h, nvm) → i.wellFormed = true → s.host.open_ = [] → s.queueUp h.id = true → s.ioBlocked = false → s.parity.masks = [] → (s.entered i h nvm).endings = s.entered i h nvm → exec i s = .next (((startIo i (s.taken h nvm)).settleHost []).kick)) ∧
  (∀ (i : Instr) (h : IoHdr) (nvm : Bool) (s : State), ioOf i = some (h, nvm) → i.wellFormed = true → s.queueUp h.id = true → s.isOpen h.id = false → s.parity.masks = [] → s.sparReset = true → exec i s = .next (s.entered i h nvm).kick) ∧
  (∀ (i : Instr) (h : IoHdr) (nvm : Bool) (s : State), ioOf i = some (h, nvm) → i.wellFormed = true → s.queueUp h.id = true → s.isOpen h.id = false → s.parity.masks = [] → s.sparReset = false → s.holding = true ∨ s.phase ≠ .up → (s.entered i h nvm).endings = s.entered i h nvm → exec i s = .next (((s.entered i h nvm).settleHost []).kick)) ∧
  (∀ (h : IoHdr) (a : W64) (n : W16) (d : Bytes) (s t : State) (c : HostCtrl), s.queueUp h.id = true → s.isOpen h.id = false → s.ctrlFor h.id.ctrl = some c → s.staged (0xC8 + c.port) = (true, t) → exec (.write h a n d) s = .next (((t.enter h.id (bit h.cdw3 0)).biteCmd 3 h.id).complete h.id stPoisoned)) ∧
  (∀ (i : Instr) (h : IoHdr) (nvm : Bool) (s : State), ioOf i = some (h, nvm) → i.wellFormed = true → s.queueUp h.id = false ∨ s.isOpen h.id = true → exec i s = .next s)

/-- Flush, Read, Write, Write Zeroes and Dataset Management when they start (R347, R350, R353, R357). -/
def Obligations.NvmCommands : Prop :=
  (∀ (h : IoHdr) (s : State), startIo (.flush h) s = s.complete h.id (match s.nvmRefusal h false with | some t => t | none => stOk)) ∧
  (∀ (h : IoHdr) (a : W64) (n : W16) (d : Bytes) (s : State) (x : Namespace), s.nvmRefusal h true = none → s.nsFor h.nsid.toNat = some x → a.toNat + (n.toNat + 1) ≤ x.nsze → (n.toNat + 1) * x.blockLen ≤ 1048576 → startIo (.write h a n d) s = s.hostChange h x [(a.toNat * x.blockLen, (n.toNat + 1) * x.blockLen)] (some (slice d 0 ((n.toNat + 1) * x.blockLen)))) ∧
  (∀ (h : IoHdr) (a : W64) (n : W16) (d : Bytes) (s : State) (x : Namespace), s.nvmRefusal h true = none → s.nsFor h.nsid.toNat = some x → x.nsze < a.toNat + (n.toNat + 1) → startIo (.write h a n d) s = s.complete h.id stInvalidField ∧ startIo (.writeZeroes h a n) s = s.complete h.id stInvalidField) ∧
  (∀ (h : IoHdr) (a : W64) (n : W16) (s : State) (x : Namespace), s.nvmRefusal h true = none → s.nsFor h.nsid.toNat = some x → a.toNat + (n.toNat + 1) ≤ x.nsze → startIo (.writeZeroes h a n) s = s.hostChange h x [(a.toNat * x.blockLen, (n.toNat + 1) * x.blockLen)] none) ∧
  (∀ (h : IoHdr) (a : W64) (n : W16) (s : State) (x : Namespace), s.nvmRefusal h false = none → s.nsFor h.nsid.toNat = some x → a.toNat + (n.toNat + 1) ≤ x.nsze → (n.toNat + 1) * x.blockLen ≤ 1048576 → s.nsLost x (a.toNat * x.blockLen) ((n.toNat + 1) * x.blockLen) = false → ((upTo (((a.toNat * x.blockLen + (n.toNat + 1) * x.blockLen - 1) / 65536 + 1) - a.toNat * x.blockLen / 65536)).all (fun k => !s.onFlash (x.slot (a.toNat * x.blockLen / 65536 + k))) = true) → s.media.reads = [] → startIo (.read h a n) s = (s.modHealth fun y => { y with hostReads := y.hostReads + 1, bytesRead := y.bytesRead + (n.toNat + 1) * x.blockLen }).complete h.id stOk 0 0 (s.nsBytes x (a.toNat * x.blockLen) ((n.toNat + 1) * x.blockLen))) ∧
  (∀ (h : IoHdr) (a : W32) (r : List (W64 × W32)) (s : State) (x : Namespace), s.nvmRefusal h true = none → s.nsFor h.nsid.toNat = some x → startIo (.datasetManagement h a r) s = if bit a 2 = false then s.complete h.id stOk else if r.any (fun r => (x.range r.1.toNat r.2.toNat).isNone) then s.complete h.id stInvalidField else s.hostChange h x (r.filterMap fun r => x.range r.1.toNat r.2.toNat) none) ∧
  (∀ (h : IoHdr) (s : State), exec (.flush h) s = .next (ioIn h true (.flush h) s)) ∧
  (∀ (h : IoHdr) (slba : BitVec 64) (nlb : BitVec 16) (data : Bytes) (s : State), exec (.write h slba nlb data) s = .next (writeIn h slba nlb data s)) ∧
  (∀ (h : IoHdr) (slba : BitVec 64) (nlb : BitVec 16) (s : State), exec (.read h slba nlb) s = .next (ioIn h true (.read h slba nlb) s)) ∧
  (∀ (h : IoHdr) (slba : BitVec 64) (nlb : BitVec 16) (s : State), exec (.writeZeroes h slba nlb) s = .next (ioIn h true (.writeZeroes h slba nlb) s)) ∧
  (∀ (h : IoHdr) (attrs : BitVec 32) (ranges : List (BitVec 64 × BitVec 32)) (s : State), exec (.datasetManagement h attrs ranges) s = .next (ioIn h true (.datasetManagement h attrs ranges) s))

/-- What every Cianber I/O command answers in the safe state, the bare state, without query buffers, and to a wrong header (R2, R56, R352, R357, R432). -/
def Obligations.CianberRefusals : Prop :=
  (∀ (i : Instr) (h : IoHdr) (s : State), ioOf i = some (h, false) → s.safe = true → startIo i s = s.complete h.id stInterrupted) ∧
  (∀ (i : Instr) (h : IoHdr) (s : State), ioOf i = some (h, false) → s.safe = false → s.loft.image = none → startIo i s = s.complete h.id stNotLoaded) ∧
  (∀ (i : Instr) (h : IoHdr) (s : State) (m : Image), ioOf i = some (h, false) → searchCmd i = true → s.safe = false → s.loft.image = some m → m.qryStage = 0 → startIo i s = s.complete h.id stNotLoaded) ∧
  (∀ (i : Instr) (h : IoHdr) (s : State) (m : Image), ioOf i = some (h, false) → s.safe = false → s.loft.image = some m → m.qryStage ≠ 0 ∨ searchCmd i = false → s.outside = true → startIo i s = s.complete h.id stSequence) ∧
  (∀ (i : Instr) (h : IoHdr) (s : State) (m : Image), ioOf i = some (h, false) → s.safe = false → s.loft.image = some m → m.qryStage ≠ 0 ∨ searchCmd i = false → s.outside = false → 2 ≤ h.cdw3.toNat ∨ h.sglOk = false ∨ h.nsid ≠ 0 ∨ s.hasTenant h.tenant.toNat = false ∨ 67108864 < (ioBlock i).length ∨ 67108864 < h.resLen → startIo i s = s.complete h.id (if 2 ≤ h.cdw3.toNat then stInvalidField else if h.sglOk = false then stSgl else stInvalidField))

/-- Load, unload and list models (R233, R234, R361, R362). -/
def Obligations.ModelCommands : Prop :=
  (∀ (h : IoHdr) (b : Bytes) (s : State) (m : Model), s.cianberRefusal h false b.length = none → s.modelFor (le 64 b 8) = some m → startIo (.modelLoadBegin h b) s = s.complete h.id stInvalidField) ∧
  (∀ (h : IoHdr) (b : Bytes) (s : State) (m : Model), s.cianberRefusal h false b.length = none → fieldsOk b [(0, 1), (8, 8)] = true → s.modelFor (le 64 b 8) = some m → m.state = 1 → m.tenant = h.tenant.toNat → m.waiter = none → startIo (.modelLoadAbandon h b) s = (s.releaseModel m).complete h.id stOk) ∧
  (∀ (h : IoHdr) (b : Bytes) (s : State) (m : Model), s.cianberRefusal h false b.length = none → fieldsOk b [(0, 1), (8, 8)] = true → s.modelFor (le 64 b 8) = some m → m.state = 1 → m.tenant = h.tenant.toNat → m.waiter = none → startIo (.modelLoadCommit h b) s = if !m.whole s.m2bf16 || !s.loadTablesOk m then (s.releaseModel m).complete h.id stInvalidField else if (s.storeObjs (m.objs.map (·.addr))).1 = false then (s.releaseModel m).complete h.id stCapacity else (s.storeObjs (m.objs.map (·.addr))).2.modModel m.id fun m => { m with waiter := some h.id }) ∧
  (∀ (h : IoHdr) (b : Bytes) (s : State), s.cianberRefusal h false b.length = none → s.library.models = [] → startIo (.modelLoadData h b) s = s.complete h.id stInvalidField ∧ startIo (.modelLoadAddScale h b) s = s.complete h.id stInvalidField) ∧
  (∀ (h : IoHdr) (b : Bytes) (s : State) (m : Model), s.cianberRefusal h false b.length = none → fieldsOk b [(0, 8)] = true → s.modelFor (le 64 b 0) = some m → m.state = 2 → m.tenant = h.tenant.toNat → s.library.contexts = [] → s.library.refits = [] → startIo (.modelUnload h b) s = s.modModel m.id fun m => { m with state := 3, waiter := some h.id }) ∧
  (∀ (h : IoHdr) (b : Bytes) (s : State) (m : Model), s.cianberRefusal h false b.length = none → fieldsOk b [(0, 8)] = true → s.modelFor (le 64 b 0) = some m → m.state = 2 → m.tenant = h.tenant.toNat → ((s.library.contexts.any fun e => decide (e.2.state ≠ 0) && decide (e.2.model = m.id)) = true) → startIo (.modelUnload h b) s = s.complete h.id stSequence) ∧
  (∀ (h : IoHdr) (b : Bytes) (s : State), s.cianberRefusal h false b.length = none → fieldsOk b [(0, 8)] = true → startIo (.listModels h b) s = (let l := sortBy (fun (a c : Model) => decide (a.id < c.id)) (s.library.models.filter fun m => decide (m.tenant = h.tenant.toNat) && decide (le 64 b 0 ≤ m.id))
    s.complete h.id stOk (BitVec.ofNat 32 (min l.length (match s.resLenOf h.id with | none => l.length | some n => n / 128))) 0 (l.foldl (fun d m => d ++ m.entry) []))) ∧
  (∀ (k : W64) (s : State) (m : Model), s.modelFor k = some m → m.state = 1 → m.waiter = none → m.lastData + 4096 ≤ s.frame.num.toNat → exec (.modelLoadTimeout k) s = .next (s.releaseModel m).settle) ∧
  (∀ (h : IoHdr) (b : Bytes) (s : State), s.cianberRefusal h false b.length = none → byteAt b 0 = 1 → b.length = 0x90 → fieldsOk b [(0, 1), (8, 8), (0x10, 128)] = true → entryOk (le 64 b 8) b 0x10 = true → s.modelFor (le 64 b 8) = none → (readModel b 0x10).weightBits ≤ 1600000000000000 → s.fitsFusion (readModel b 0x10) ≠ [] → s.pendingFits (readModel b 0x10).fusion = true → ((s.loft.pending.any fun p => (p.image.tenant? h.tenant.toNat).isNone) = false) → startIo (.modelLoadBegin h b) s =
    (let m := { readModel b 0x10 with tenant := h.tenant.toNat, state := 1, lastData := s.frame.num.toNat }
     ({ s with library := { s.library with models := s.library.models ++ [m] } }).complete h.id stOk 0 0 m.entry)) ∧
  (∀ (h : IoHdr) (b data : Bytes) (s : State) (m : Model) (obj l e ofs n src : Nat), s.cianberRefusal h false b.length = none → leNat b 0x10 2 = obj ∧ leNat b 0x12 2 = l ∧ leNat b 0x14 4 = e ∧ leNat b 0x18 8 = ofs ∧ leNat b 0x20 4 = n ∧ leNat b 0x24 1 = src → fieldsOk b [(0, 1), (8, 8), (0x10, 0x15), (0x28, 4), (0x30, 8), (0x40, b.length - 0x40)] = true → 1 ≤ n ∧ n ≤ 1048576 ∧ obj ≤ 6 ∧ src ≤ 1 → (b.length = 0x40 + (if src = 0 then n else 0)) → s.modelFor (le 64 b 8) = some m → m.state = 1 ∧ m.tenant = h.tenant.toNat ∧ m.waiter = none → s.sourceClosed src (leNat b 0x28 4) = false → l < m.layers ∧ e < m.experts → obj = 1 ∨ obj = 6 ∨ (l = 0 ∧ e = 0) → ((obj = 5 ∨ obj = 6) → m.refitOk = true) → (obj = 2 → ofs + n ≤ m.layers * m.experts * 64) → s.source b src 0x40 (leNat b 0x28 4) (leNat b 0x30 8) n h.tenant.toNat = some data → s.sourceLostData src (leNat b 0x28 4) (leNat b 0x30 8) n = false → (s.fits h.tenant.toNat 2 ((objLen (loadLen m obj l e (ofs + n)) - (match m.loadObj obj l e with | none => 0 | some o => objLen o.len)) / 65536) = true) → pieceCount (objLen (loadLen m obj l e (ofs + n))) ≤ s.freeGroups → startIo (.modelLoadData h b) s =
    (let old := m.loadObj obj l e
     let len := loadLen m obj l e (ofs + n)
     let r := s.growObj h.tenant.toNat (loadKind obj) (if obj = 1 then (match m.expertAt l e with | some x => x.wFmt | none => 0) else 0) old len
     let t := r.2.writeObj (r.1 + BitVec.ofNat 64 ofs) data
     let o : LoadObj := { object := obj, layer := l, expert := e, addr := r.1, len := len, written := (match old with | none => [] | some o => o.written) ++ [(ofs, n)] }
     let t := t.modModel (le 64 b 8) fun m => { m with objs := (m.objs.filter fun x => !x.is obj l e) ++ [o], lastData := t.frame.num.toNat }
     let t := if obj ≠ 2 then t else t.modModel (le 64 b 8) fun m =>
       { m with table := (upTo (len / 64)).map fun k => (k, ({ home := t.rank, params := leNat (t.readObj r.1 len) (64 * k + 0x20) 8, wFmt := byteAt (t.readObj r.1 len) (64 * k + 0x28) } : Expert)) }
     t.complete h.id stOk)) ∧
  (∀ (h : IoHdr) (b : Bytes) (s : State) (m : Model), s.cianberRefusal h false b.length = none → fieldsOk b [(0, 1), (8, 8), (0x40, b.length - 0x40)] = true → s.modelFor (le 64 b 8) = some m → m.state = 2 → m.tenant = h.tenant.toNat → scaleTableOk (b.drop 0x40) = true → scaleTableLen (b.drop 0x40) = (b.drop 0x40).length → s.fits h.tenant.toNat 2 (units (b.drop 0x40).length) = true → pieceCount (objLen (b.drop 0x40).length) ≤ s.freeGroups → startIo (.modelLoadAddScale h b) s =
    (let r := s.allocT2 h.tenant.toNat .scale 0 (b.drop 0x40).length
     let q := (r.2.writeObj r.1 (b.drop 0x40)).storeObj r.1
     if q.1 = false then s.complete h.id stCapacity else
       let t := q.2.modModel m.id fun m => { m with added := m.added ++ [r.1] }
       { t with library := { t.library with waits := t.library.waits ++ [{ id := h.id, addrs := [r.1], dw0 := 0, data := toLe r.1.toNat 8 }] } })) ∧
  (∀ (h : IoHdr) (pb : Bytes) (s : State), opRow pb 0 1 5 → exec (.modelLoadBegin h pb) s = .next (ioIn h false (.modelLoadBegin h pb) s)) ∧
  (∀ (h : IoHdr) (pb : Bytes) (s : State), opRow pb 0 2 5 → exec (.modelLoadData h pb) s = .next (ioIn h false (.modelLoadData h pb) s)) ∧
  (∀ (h : IoHdr) (pb : Bytes) (s : State), opRow pb 0 3 5 → exec (.modelLoadCommit h pb) s = .next (ioIn h false (.modelLoadCommit h pb) s)) ∧
  (∀ (h : IoHdr) (pb : Bytes) (s : State), opRow pb 0 4 5 → exec (.modelLoadAddScale h pb) s = .next (ioIn h false (.modelLoadAddScale h pb) s)) ∧
  (∀ (h : IoHdr) (pb : Bytes) (s : State), opRow pb 0 5 5 → exec (.modelLoadAbandon h pb) s = .next (ioIn h false (.modelLoadAbandon h pb) s)) ∧
  (∀ (model : BitVec 64) (s : State), exec (.modelLoadTimeout model) s = .next ((loadTimeout model s).settle)) ∧
  (∀ (h : IoHdr) (pb : Bytes) (s : State), exec (.modelUnload h pb) s = .next (ioIn h false (.modelUnload h pb) s)) ∧
  (∀ (h : IoHdr) (pb : Bytes) (s : State), exec (.listModels h pb) s = .next (ioIn h false (.listModels h pb) s))

/-- Contexts, token batches, refits and their timeouts (R199, R200, R245, R247, R248, R250, R290, R361). -/
def Obligations.ContextsAndBatches : Prop :=
  (∀ (h : IoHdr) (b : Bytes) (s : State) (i : Nat), s.cianberRefusal h false b.length = none → fieldsOk b [(0, 4)] = true → s.ctxOf (le 32 b 0) h.tenant.toNat = some i → startIo (.getContext h b) s = s.complete h.id stOk 0 0 (s.ctxEntry i)) ∧
  (∀ (h : IoHdr) (b : Bytes) (s : State) (i : Nat), s.cianberRefusal h false b.length = none → fieldsOk b [(0, 4)] = true → s.ctxOf (le 32 b 0) h.tenant.toNat = some i → (s.ctxAt i).state ≠ 3 → (s.ctxAt i).opening = none → startIo (.closeContext h b) s =
    (let t := (((s.ctxPasses (le 32 b 0)).filter PassEntry.waits).foldl State.dropPass s).modCtx i fun c => { c with state := 3, closer := some h.id, closedTokens := match (s.ctxAt i).batches with | [] => 0 | x :: _ => x.emitted }
     (s.ctxAt i).batches.foldl (fun t x => t.finishBatch i x stAbortRequested) { t with bridle := { t.bridle with unanswered := t.bridle.unanswered.filter fun d => !decide (d.ctx = le 32 b 0) } })) ∧
  (∀ (h : IoHdr) (b : Bytes) (s : State) (i : Nat), s.cianberRefusal h false b.length = none → fieldsOk b [(0, 4)] = true → s.ctxOf (le 32 b 0) h.tenant.toNat = some i → (s.ctxAt i).state = 3 → startIo (.closeContext h b) s = s.complete h.id stSequence) ∧
  (∀ (x : W32) (s : State) (i : Nat), s.ctxIndex x = some i → (s.ctxAt i).state = 3 → s.ctxPasses x = [] → exec (.contextCloseDone x) s = .next ((s.freeCtx i true).completeOpt (s.ctxAt i).closer stOk (BitVec.ofNat 32 (s.ctxAt i).closedTokens)).settle) ∧
  (∀ (h : IoHdr) (b : Bytes) (p : Plan) (s : State) (i : Nat) (m : Model) (t : Status), s.cianberRefusal h false b.length = none → fieldsOk b [(0, 0x28), (0x40, b.length - 0x40)] = true → 1 ≤ leNat b 4 4 → leNat b 4 4 ≤ 65536 → leNat b 8 2 ≤ 4096 → leNat b 0x0A 2 = 0 → leNat b 0x0C 4 = 0 → b.length = 0x40 + 4 * leNat b 4 4 → leNat b 0x10 8 = 0 → s.ctxOf (le 32 b 0) h.tenant.toNat = some i → (s.ctxAt i).cls ≠ 1 → s.modelFor (s.ctxAt i).model = some m → s.batchRefusal (s.ctxAt i) m none (leNat b 4 4 + leNat b 8 2) = some t → t ≠ stQuota → startIo (.tokenBatch h b p) s = s.complete h.id t) ∧
  (∀ (h : IoHdr) (b : Bytes) (s : State), s.cianberRefusal h false b.length = none → s.library.models = [] → startIo (.openContext h b) s = s.complete h.id stInvalidField) ∧
  (∀ (x : W32) (s : State) (i : Nat), s.ctxIndex x = some i → (s.ctxAt i).opening.isSome = true → (s.ctxAt i).openTicks ≤ s.frame.num.toNat → exec (.buddyAckTimeout x) s = .next ((s.modCtx i fun c => { c with buddy := 0xFFFF, journaled := 0, sentTo := 0, entrySent := false }).finishOpen i).settle) ∧
  (∀ (j : Nat) (s : State) (r : Refit) (q : Nat), (s.library.refits.find? (fun r => decide (r.job = j)) = some r) → r.phase = .flag → r.flagSeq = some q → exec (.refitCommit j) s = .next (if s.durable q then s.modRefit j fun r => { r with phase := .committed } else s).settle) ∧
  (∀ (j : Nat) (s : State) (r : Refit), (s.library.refits.find? (fun r => decide (r.job = j)) = some r) → s.frame.num.toNat < r.started + 64 → exec (.refitShadowTimeout j) s = .next s.settle) ∧
  (∀ (h : IoHdr) (b : Bytes) (s : State), s.cianberRefusal h false b.length = none → fieldsOk b [(0, 10), (0x0C, 7), (0x14, 0x20), (0x38, 9), (0x44, 12), (0x80, b.length - 0x80)] = true → leNat b 0x12 1 = 0 → leNat b 0x18 8 < 2 ^ 48 → leNat b 0x40 1 ≤ 1 → startIo (.refitExpert h b) s = s.complete h.id stContract) ∧
  (∀ (h : IoHdr) (b : Bytes) (n : Nat) (s : State), s.cianberRefusal h false b.length = none → fieldsOk b [(0, 0x15), (0x16, 4), (0x20, 9), (0x2C, 0x14), (0x40, b.length - 0x40)] = true → leNat b 0x14 1 = 0 → le 16 b 0x12 ≠ 0 → 16 ≤ leNat b 0x16 2 → leNat b 0x16 2 ≤ 8192 → leNat b 0x18 2 = 0 → leNat b 0x28 1 ≤ 1 → leNat b 0x20 8 < 2 ^ 48 → startIo (.embeddingJob h b n) s = s.complete h.id stContract) ∧
  (∀ (h : IoHdr) (b : Bytes) (s : State) (m : Model) (i : Nat), s.cianberRefusal h false b.length = none → fieldsOk b [(0, 8), (8, 4), (0x0C, 1), (0x0E, 2)] = true → leNat b 0x0C 1 ≤ 2 → leNat b 0x0C 1 = 0 ∨ leNat b 0x0E 2 = 0 → s.modelFor (le 64 b 0) = some m → m.state = 2 → m.tenant = h.tenant.toNat → 1 ≤ leNat b 8 4 → leNat b 8 4 ≤ 1048576 → s.freeEntry = some i → (leNat b 0x0C 1 = 0 → contractOpens s (leNat b 0x0E 2) h.tenant.toNat = true) → s.fits h.tenant.toNat 1 (1 + units m.extentLen) = true → startIo (.openContext h b) s =
    (let r := s.allocT1 h.tenant.toNat .work 0 8192
     let t := r.2.modCtx i fun c => { gen := c.gen, state := 1, tenant := h.tenant.toNat, model := m.id, maxTokens := leNat b 8 4, cls := leNat b 0x0C 1, contract := if leNat b 0x0C 1 = 0 then leNat b 0x0E 2 else 0, extentList := r.1, openFrame := r.2.groupFrame.toNat, opening := some h.id, openTicks := s.frame.num.toNat + 16 }
     if s.grouped then t.askBuddy i else t.finishOpen i)) ∧
  (∀ (h : IoHdr) (b : Bytes) (p : Plan) (s : State) (i : Nat) (m : Model) (n : Nat) (w : Option Nat), s.cianberRefusal h false b.length = none → fieldsOk b [(0, 0x28), (0x40, b.length - 0x40)] = true → leNat b 4 4 = n ∧ 1 ≤ n ∧ n ≤ 65536 → leNat b 8 2 ≤ 4096 → (w = (if leNat b 0x0A 2 = 1 then some (leNat b 0x0C 4) else none)) → leNat b 0x0A 2 = 1 ∨ (leNat b 0x0A 2 = 0 ∧ leNat b 0x0C 4 = 0) → b.length = 0x40 + 4 * n → leNat b 0x10 8 < 2 ^ 48 → s.ctxOf (le 32 b 0) h.tenant.toNat = some i → ((s.ctxAt i).cls = 1 ↔ leNat b 0x10 8 ≠ 0) → s.modelFor (s.ctxAt i).model = some m → s.batchRefusal (s.ctxAt i) m w (n + leNat b 8 2) = none → ((s.ctxAt i).cls = 0 → s.admits (s.ctxAt i).contract h.tenant.toNat p m.fusion = true) → startIo (.tokenBatch h b p) s =
    (let toks := (upTo n).map fun k => le 32 b (0x40 + 4 * k)
     let x : Batch := { id := h.id, inputs := toks, generate := leNat b 8 2, seed := le 64 b 0x18, temperature := le 32 b 0x20, topP := le 32 b 0x24, deadline := leNat b 0x10 8, left := toks, rewind := w }
     let c := s.ctxAt i
     let t := (s.admitRequest h.id c.cls c.contract h.tenant.toNat (leNat b 0x10 8) p).modCtx i fun c => { c with batches := c.batches ++ [x] }
     if c.batches.isEmpty then t.startBatch i else t)) ∧
  (∀ (h : IoHdr) (b : Bytes) (s : State) (m : Model) (x : Expert) (l e cls : Nat), s.cianberRefusal h false b.length = none → fieldsOk b [(0, 10), (0x0C, 7), (0x14, 0x20), (0x38, 9), (0x44, 12), (0x80, b.length - 0x80)] = true → leNat b 8 2 = l ∧ leNat b 0x0C 4 = e ∧ leNat b 0x12 1 = cls → (cls = 1 ∧ 1 ≤ leNat b 0x18 8 ∧ leNat b 0x18 8 < 2 ^ 48) ∨ (cls = 2 ∧ leNat b 0x18 8 = 0) → leNat b 0x40 1 = 0 ∨ (leNat b 0x40 1 = 1 ∧ (s.source b 1 0 (leNat b 0x44 4) (leNat b 0x48 8) 0 h.tenant.toNat).isSome = true) → s.sourceClosed (leNat b 0x40 1) (leNat b 0x44 4) = false → s.modelFor (le 64 b 0) = some m → m.state = 2 ∧ m.tenant = h.tenant.toNat ∧ l < m.layers ∧ e < m.experts ∧ m.refitOk = true → le 64 b 0x38 = 0 ∨ m.added.contains (le 64 b 0x38) = true → m.expertAt l e = some x → x.home = s.rank → ((s.library.refits.any fun j => decide (j.model = m.id) && decide (j.layer = l) && decide (j.expert = e) && decide (j.phase ≠ .retiring)) = false) → (((s.fitsFusion m).all fun c => (s.clusterAt c).ovfIeee) = false) → ((s.library.refits.filter fun j => decide (j.phase ≠ .retiring)).length < 16) → 1 ≤ leNat b 0x10 2 ∧ leNat b 0x10 2 ≤ 64 ∧ 1 ≤ leNat b 0x14 4 ∧ leNat b 0x14 4 ≤ 16384 → s.fits h.tenant.toNat 1 (units (refitWork x.params (leNat b 0x14 4) m.hidden x.vBf16)) = true → s.fits h.tenant.toNat 2 (units x.bytes + units (refitStateLen x.params x.vBf16)) = true → pieceCount (objLen x.bytes) + pieceCount (objLen (refitStateLen x.params x.vBf16)) ≤ s.freeGroups → startIo (.refitExpert h b) s =
    (let w := s.allocT1 h.tenant.toNat .work 0 (refitWork x.params (leNat b 0x14 4) m.hidden x.vBf16)
     let n := w.2.allocT2 h.tenant.toNat .weight x.wFmt x.bytes
     let r := n.2.allocT2 h.tenant.toNat .refitState 0 (refitStateLen x.params x.vBf16)
     let t := r.2
     let j : Refit := { job := t.library.nextJob, id := h.id, model := m.id, tenant := h.tenant.toNat, layer := l, expert := e, steps := leNat b 0x10 2, perStep := leNat b 0x14 4, cls := cls, hyper := (upTo 5).map fun k => le 32 b (0x20 + 4 * k), newScale := le 64 b 0x38, phase := .streaming, work := w.1, newWeights := n.1, newState := r.1, started := t.frame.num.toNat, poisoned := t.sourceLostData (leNat b 0x40 1) (leNat b 0x44 4) (leNat b 0x48 8) (4 * leNat b 0x10 2 * leNat b 0x14 4 * m.hidden) }
     ({ t with library := { t.library with refits := t.library.refits ++ [j], nextJob := t.library.nextJob + 1 } }).admitRequest h.id cls 0 h.tenant.toNat (leNat b 0x18 8) { workCus := 0, stages := 0, fusion := 0, pieces := [] })) ∧
  (∀ (j : Nat) (s : State) (r : Refit), (s.library.refits.find? (fun r => decide (r.job = j)) = some r) → r.phase = .shadow → r.started + 64 ≤ s.frame.num.toNat → exec (.refitShadowTimeout j) s = .next
    (let l := (s.group.copies.filter fun (c : CopyOut) => decide (c.for_ = CopyFor.refit j)).map fun (c : CopyOut) => c.copyId
     let t := (s.reel.moves.filter fun (m : Move) => m.copyId.any l.contains).foldl (fun (s : State) m => s.abortMove m true) s
     let t := { t with group := { t.group with copies := t.group.copies.filter fun (c : CopyOut) => !decide (c.for_ = CopyFor.refit j) } }
     match t.modelFor r.model with
     | none => t
     | some m =>
       let p := t.newPlace 1 m.id (BitVec.ofNat 32 (r.layer * 65536 + r.expert)) 0 1
       let t := match t.placeOf p with | none => t | some q => (t.storePlace { q with shadow1 := 0xFFFF }).report [{ q with shadow1 := 0xFFFF }]
       let k := r.layer * m.experts + r.expert
       (t.modModel m.id fun m => { m with table := m.table.map fun (y : Nat × Expert) => if y.1 = k then (k, { y.2 with shadow := 0xFFFF, weightsShadow := 0 }) else y }).settleRefits).settle) ∧
  (∀ (h : IoHdr) (b data : Bytes) (n : Nat) (s : State) (x : Shard) (m : Model) (cls src len : Nat), s.cianberRefusal h false b.length = none → fieldsOk b [(0, 0x15), (0x16, 4), (0x20, 9), (0x2C, 0x14), (0x40, b.length - 0x40)] = true → leNat b 0x14 1 = cls ∧ leNat b 0x28 1 = src ∧ src ≤ 1 → (cls = 1 ∧ 1 ≤ leNat b 0x20 8 ∧ leNat b 0x20 8 < 2 ^ 48) ∨ (cls = 2 ∧ leNat b 0x20 8 = 0) → le 16 b 0x12 ≠ 0 → 16 ≤ leNat b 0x16 2 ∧ leNat b 0x16 2 ≤ 8192 ∧ 2 * leNat b 0x18 2 ≤ leNat b 0x16 2 → s.shardCheck (le 64 b 8) (le 16 b 0x10) h.tenant.toNat = none → s.shardFor (le 64 b 8) (le 16 b 0x10) = some x → s.modelFor (le 64 b 0) = some m → (len = (if src = 0 then b.length - 0x40 else leNat b 0x38 8 * (match s.nsFor (leNat b 0x2C 4) with | some n => n.blockLen | none => 4096))) → s.sourceClosed src (leNat b 0x2C 4) = false → s.source b src 0x40 (leNat b 0x2C 4) (leNat b 0x30 8) len h.tenant.toNat = some data → m.state = 2 ∧ m.tenant = h.tenant.toNat ∧ n = x.dim → ((s.search.jobs.filter fun j => decide (j.state = 1)).length < 64) → ((s.search.jobs.any fun j => decide (j.state = 1) && decide (j.jobId = le 16 b 0x12)) = false) → startIo (.embeddingJob h b n) s =
    (let bad := if src = 0 then [] else jobBad s (leNat b 0x2C 4) (leNat b 0x30 8) len
     let j : EmbedJob := { jobId := le 16 b 0x12, id := h.id, tenant := h.tenant.toNat, model := m.id, index := x.index, shard := x.shard, cls := cls, chunk := leNat b 0x16 2, overlap := leNat b 0x18 2, src := data, state := 1, bad := bad }
     let kept := s.search.jobs.filter fun y => !decide (y.jobId = le 16 b 0x12)
     let oldest := if 64 ≤ (kept.filter fun y => decide (y.tenant = h.tenant.toNat)).length then (kept.find? fun y => decide (y.tenant = h.tenant.toNat) && decide (y.state ≠ 1)).map (·.jobId) else none
     (s.modSearch fun g => { g with jobs := (kept.filter fun y => decide (some y.jobId ≠ oldest)) ++ [j] }).admitRequest h.id cls 0 h.tenant.toNat (leNat b 0x20 8) { workCus := 0, stages := 0, fusion := 0, pieces := [] })) ∧
  (∀ (h : IoHdr) (pb : Bytes) (s : State), exec (.openContext h pb) s = .next (ioIn h false (.openContext h pb) s)) ∧
  (∀ (handle : BitVec 32) (s : State), exec (.buddyAckTimeout handle) s = .next ((buddyTimeout handle s).settle)) ∧
  (∀ (h : IoHdr) (pb : Bytes) (s : State), exec (.closeContext h pb) s = .next (ioIn h false (.closeContext h pb) s)) ∧
  (∀ (handle : BitVec 32) (s : State), exec (.contextCloseDone handle) s = .next ((closeDone handle s).settle)) ∧
  (∀ (h : IoHdr) (pb : Bytes) (s : State), exec (.getContext h pb) s = .next (ioIn h false (.getContext h pb) s)) ∧
  (∀ (h : IoHdr) (pb : Bytes) (plan : Plan) (s : State), exec (.tokenBatch h pb plan) s = .next (ioIn h false (.tokenBatch h pb plan) s)) ∧
  (∀ (h : IoHdr) (pb : Bytes) (s : State), exec (.refitExpert h pb) s = .next (ioIn h false (.refitExpert h pb) s)) ∧
  (∀ (job : Nat) (s : State), exec (.refitCommit job) s = .next ((refitCommit job s).settle)) ∧
  (∀ (job : Nat) (s : State), exec (.refitShadowTimeout job) s = .next ((refitShadowTimeout job s).settle)) ∧
  (∀ (h : IoHdr) (pb : Bytes) (outDim : Nat) (s : State), exec (.embeddingJob h pb outDim) s = .next (ioIn h false (.embeddingJob h pb outDim) s))

/-- What the search commands do to a shard and its filters (R270, R274, R277, R280, R285, R364). -/
def Obligations.SearchCommands : Prop :=
  (∀ (h : IoHdr) (b : Bytes) (s : State) (t : Status), s.cianberRefusal h true b.length = none → fieldsOk b [(0, 10)] = true → s.shardCheck (le 64 b 0) (le 16 b 8) h.tenant.toNat = some t → startIo (.destroyIndex h b) s = s.complete h.id t) ∧
  (∀ (h : IoHdr) (b : Bytes) (s : State), s.cianberRefusal h true b.length = none → fieldsOk b [(0, 10)] = true → s.shardCheck (le 64 b 0) (le 16 b 8) h.tenant.toNat = none → startIo (.destroyIndex h b) s = s.modShard (le 64 b 0) (le 16 b 8) fun x => { x with state := 3, waiter := some h.id }) ∧
  (∀ (h : IoHdr) (b : Bytes) (s : State) (t : Status), s.cianberRefusal h true b.length = none → fieldsOk b [(0, 10), (0x0C, 4), (0x40, b.length - 0x40)] = true → 1 ≤ leNat b 0x0C 4 → leNat b 0x0C 4 ≤ 65536 → b.length = 0x40 + 8 * leNat b 0x0C 4 → s.shardCheck (le 64 b 0) (le 16 b 8) h.tenant.toNat = some t → startIo (.delete h b) s = s.complete h.id t) ∧
  (∀ (h : IoHdr) (b : Bytes) (s : State) (x : Shard) (n : Nat) (r : List Nat × Shard), s.cianberRefusal h true b.length = none → fieldsOk b [(0, 10), (0x0C, 4), (0x40, b.length - 0x40)] = true → leNat b 0x0C 4 = n ∧ 1 ≤ n ∧ n ≤ 65536 → b.length = 0x40 + 8 * n → s.shardCheck (le 64 b 0) (le 16 b 8) h.tenant.toNat = none → s.shardFor (le 64 b 0) (le 16 b 8) = some x → (r = ((upTo n).map fun i => le 64 b (0x40 + 8 * i)).foldl (fun (a : List Nat × Shard) i => match a.2.find i with | none => a | some k => (a.1 ++ [k], a.2.modNode k fun d => { d with state := 2 })) ([], x)) → startIo (.delete h b) s =
    (let s1 := s.putShard x r.2 r.1
     let q := s1.indexCommit x
     (q.2.modSearch fun y => { y with deletes := y.deletes ++ [{ id := h.id, index := x.index, shard := x.shard, seq := q.1, count := r.1.length, nodes := r.1 }], repairs := y.repairs ++ r.1.map fun k => { index := x.index, shard := x.shard, node := k, frame := s1.groupFrame.toNat } }).shadowCommit x.index x.shard (some h.id) q.1 r.1)) ∧
  (∀ (h : IoHdr) (b : Bytes) (s : State) (x : Shard) (f : Filter), s.cianberRefusal h true b.length = none → fieldsOk b [(0, 0x20), (0x40, b.length - 0x40)] = true → leNat b 0x0A 1 = 6 → leNat b 0x0B 1 ≤ 2 → s.shardCheck (le 64 b 0) (le 16 b 8) h.tenant.toNat = none → s.shardFor (le 64 b 0) (le 16 b 8) = some x → s.filterOf (le 32 b 0x0C) x = some f → startIo (.filterDestroy h b) s = s.modSearch fun y => { y with filters := y.filters.map fun g => if g.idx = f.idx then { g with dying := some h.id } else g }) ∧
  (∀ (h : IoHdr) (b : Bytes) (s : State) (x : Shard) (f : Filter), s.cianberRefusal h true b.length = none → fieldsOk b [(0, 0x20), (0x40, b.length - 0x40)] = true → leNat b 0x0A 1 = 4 → leNat b 0x0B 1 ≤ 2 → s.shardCheck (le 64 b 0) (le 16 b 8) h.tenant.toNat = none → s.shardFor (le 64 b 0) (le 16 b 8) = some x → s.filterOf (le 32 b 0x0C) x = some f → startIo (.filterFillAll h b) s = s.changeFilter h.id x f.idx (s.bitsAfter f) true 0) ∧
  (∀ (h : IoHdr) (b : Bytes) (s : State) (x : Shard) (f : Filter), s.cianberRefusal h true b.length = none → fieldsOk b [(0, 0x20), (0x40, b.length - 0x40)] = true → leNat b 0x0A 1 = 2 ∨ leNat b 0x0A 1 = 3 → leNat b 0x0B 1 ≤ 2 → 1 ≤ leNat b 0x1C 4 → leNat b 0x1C 4 ≤ 65536 → b.length = 0x40 + 8 * leNat b 0x1C 4 → s.shardCheck (le 64 b 0) (le 16 b 8) h.tenant.toNat = none → s.shardFor (le 64 b 0) (le 16 b 8) = some x → s.filterOf (le 32 b 0x0C) x = some f → (let found := ((upTo (leNat b 0x1C 4)).map fun k => le 64 b (0x40 + 8 * k)).filterMap x.find
    let t := s.changeFilter h.id x f.idx (found.foldl (fun m k => Marks.put m k (decide (leNat b 0x0A 1 = 2))) (s.bitsAfter f)) false (BitVec.ofNat 32 (leNat b 0x1C 4 - found.length))
    startIo (.filterAddIds h b) s = t ∧ startIo (.filterRemoveIds h b) s = t)) ∧
  (∀ (h : IoHdr) (b : Bytes) (s : State) (x : Shard) (f fa fb : Filter), s.cianberRefusal h true b.length = none → fieldsOk b [(0, 0x20), (0x40, b.length - 0x40)] = true → leNat b 0x0A 1 = 5 → leNat b 0x0B 1 ≤ 2 → s.shardCheck (le 64 b 0) (le 16 b 8) h.tenant.toNat = none → s.shardFor (le 64 b 0) (le 16 b 8) = some x → s.filterOf (le 32 b 0x0C) x = some f → s.filterOf (le 32 b 0x10) x = some fa → s.filterOf (le 32 b 0x14) x = some fb → startIo (.filterCombine h b) s = s.changeFilter h.id x f.idx (match leNat b 0x0B 1 with | 0 => (s.bitsAfter fa).filter fun e => Marks.has (s.bitsAfter fb) e.1 | 1 => (s.bitsAfter fb).foldl (fun m (e : Nat × Bool) => Marks.put m e.1 true) (s.bitsAfter fa) | _ => (s.bitsAfter fa).filter fun e => !Marks.has (s.bitsAfter fb) e.1) false 0) ∧
  (∀ (h : IoHdr) (b : Bytes) (s : State) (x : Shard) (f : Filter), s.cianberRefusal h true b.length = none → fieldsOk b [(0, 0x20), (0x40, b.length - 0x40)] = true → leNat b 0x0A 1 = 1 → leNat b 0x0B 1 ≤ 2 → s.shardCheck (le 64 b 0) (le 16 b 8) h.tenant.toNat = none → s.shardFor (le 64 b 0) (le 16 b 8) = some x → f ∈ s.search.filters → f.tenant = h.tenant.toNat → f.tag = le 32 b 0x18 → f.tag ≠ 0 → startIo (.filterCreate h b) s = s.complete h.id stInvalidField) ∧
  (∀ (h : IoHdr) (b : Bytes) (p : Plan) (s : State), s.cianberRefusal h true b.length = none → shardEntryOk b = false → 4096 < leNat b 0x0C 4 ∨ leNat b 0x0C 4 = 0 → queryOk b (readQuery b) = false → startIo (.createIndex h b) s = s.complete h.id stInvalidField ∧ startIo (.insert h b) s = s.complete h.id stInvalidField ∧ startIo (.query h b p) s = s.complete h.id stInvalidField) ∧
  (∀ (h : IoHdr) (b : Bytes) (s : State), s.cianberRefusal h true b.length = none → 0x80 ≤ b.length → shardEntryOk b = true → b.length = 0x80 + 2048 * leNat b 0x10 2 → s.shardFor (le 64 b 0) (le 16 b 0x12) = none → ((s.search.shards.any fun y => decide (y.index = le 64 b 0) && decide (y.tenant ≠ h.tenant.toNat)) = false) → s.search.shards.length < 256 → (sumBy (fun (y : Shard) => y.capacity) s.search.shards + leNat b 0x20 8 ≤ 32000000000) → (s.fits h.tenant.toNat 2 (sumBy (fun n => units n) (newShard b h).sizes) = true) → (sumBy (fun n => pieceCount (objLen n)) (newShard b h).sizes ≤ s.freeGroups) → startIo (.createIndex h b) s =
    (let r := (newShard b h).sizes.zipIdx.foldl (fun (a : List W64 × State) z =>
       let q := a.2.allocT2 h.tenant.toNat (if z.2 = 2 then .weight else .index) (if z.2 = 2 then 1 else 0) z.1
       (a.1 ++ [q.1], q.2)) ([], s)
     let x := { newShard b h with addrs := r.1 }
     let q := (r.2.writeObj (x.addr 2) x.proj).storeObj (x.addr 2)
     if q.1 = false then ((r.2.writeObj (x.addr 2) x.proj).freeObjs x.addrs).complete h.id stCapacity else
       let t := ((q.2.modSearch fun g => { g with shards := g.shards ++ [x] }).journal (.directory 3 x.shard.toNat)).2
       if t.inGroup then t.report [t.newPlace 3 x.index (BitVec.ofNat 32 x.shard.toNat) 0 (b2n x.shadowed)] else t)) ∧
  (∀ (h : IoHdr) (b : Bytes) (s : State) (x : Shard) (n : Nat) (l : List (W64 × Bytes)), s.cianberRefusal h true b.length = none → fieldsOk b [(0, 0x10), (0x40, b.length - 0x40)] = true → leNat b 0x0C 4 = n ∧ 1 ≤ n ∧ n ≤ 4096 → leNat b 0x0A 2 ≤ 1 → s.shardCheck (le 64 b 0) (le 16 b 8) h.tenant.toNat = none → s.shardFor (le 64 b 0) (le 16 b 8) = some x → b.length = 0x40 + pad8 (8 + x.vecLen) * n → (l = ((upTo n).map fun i => (le 64 b (0x40 + pad8 (8 + x.vecLen) * i), slice b (0x40 + pad8 (8 + x.vecLen) * i + 8) x.vecLen))) → (((l.map (·.1)).any fun i => decide (i = BitVec.allOnes 64)) = false) → (l.map (·.1)).eraseDups.length = n → (leNat b 0x0A 2 = 1 ∨ ((l.map (·.1)).filter fun i => (x.find i).isSome) = []) → (x.metric = 2 → (l.any fun v => x.zeroNorm v.2) = false) → (n - ((l.map (·.1)).filter fun i => (x.find i).isSome).length ≤ (s.freeSlots x n).length) → startIo (.insert h b) s = s.insertVecs x (some h.id) l) ∧
  (∀ (h : IoHdr) (b : Bytes) (p : Plan) (s : State) (x : Shard) (q : QueryParams) (f : Option Nat), s.cianberRefusal h true b.length = none → readQuery b = q → queryOk b q = true → q.group = false ∧ q.shard ≠ 0xFFFF → ((s.search.shards.filter fun x => decide (x.index = q.index) && decide (x.shard.toNat = q.shard) && x.shadowOf.isNone) = [x]) → s.shardCheck x.index x.shard h.tenant.toNat = none → x.tenant = h.tenant.toNat ∧ x.state = 1 ∧ x.waiter = none → q.given = true ∨ q.vec.length = q.vecLen x → ((q.filter = 0 ∧ f = none) ∨ (q.filter ≠ 0 ∧ ∃ g, s.filterOf q.filter x = some g ∧ f = some g.idx)) → (q.cls = 0 → s.admits q.contract h.tenant.toNat p p.fusion.toNat = true) → s.fits h.tenant.toNat 1 (units (65536 + 8 * q.budget)) = true → startIo (.query h b p) s =
    (let t := s.admitRequest h.id q.cls q.contract h.tenant.toNat q.deadline p
     t.beginQuery h.id h.tenant.toNat q [(x, (f, false))] none none [] (match t.requestOf h.id with | some r => r.deadline | none => q.deadline))) ∧
  (∀ (h : IoHdr) (b : Bytes) (s : State) (x : Shard) (i : Nat), s.cianberRefusal h true b.length = none → fieldsOk b [(0, 0x20), (0x40, b.length - 0x40)] = true → leNat b 0x0A 1 = 1 → leNat b 0x0B 1 ≤ 2 → s.shardCheck (le 64 b 0) (le 16 b 8) h.tenant.toNat = none → s.shardFor (le 64 b 0) (le 16 b 8) = some x → (le 32 b 0x18 = 0 ∨ (s.search.filters.any fun f => decide (f.tenant = h.tenant.toNat) && decide (f.tag = le 32 b 0x18)) = false) → (((upTo 4096).find? fun i => !(s.search.filters.any fun f => decide (f.idx = i))) = some i) → s.fits h.tenant.toNat 2 (units (ceilDiv x.capacity 8)) = true → pieceCount (objLen (ceilDiv x.capacity 8)) ≤ s.freeGroups → startIo (.filterCreate h b) s =
    (let r := s.allocT2 h.tenant.toNat .index 0 (ceilDiv x.capacity 8)
     let g := Sparse.get 0 s.search.filterGens i
     let f : Filter := { idx := i, gen := g, index := x.index, shard := x.shard, tenant := h.tenant.toNat, tag := le 32 b 0x18, addr := r.1 }
     (r.2.modSearch fun y => { y with filters := y.filters ++ [f], filterGens := Sparse.set 0 y.filterGens i ((g + 1) % 1048576) }).changeFilter h.id x i [] false (BitVec.ofNat 32 (g * 4096 + i)))) ∧
  (∀ (h : IoHdr) (pb : Bytes) (s : State), exec (.createIndex h pb) s = .next (ioIn h false (.createIndex h pb) s)) ∧
  (∀ (h : IoHdr) (pb : Bytes) (s : State), exec (.destroyIndex h pb) s = .next (ioIn h false (.destroyIndex h pb) s)) ∧
  (∀ (h : IoHdr) (pb : Bytes) (s : State), exec (.insert h pb) s = .next (ioIn h false (.insert h pb) s)) ∧
  (∀ (h : IoHdr) (pb : Bytes) (s : State), exec (.delete h pb) s = .next (ioIn h false (.delete h pb) s)) ∧
  (∀ (h : IoHdr) (pb : Bytes) (plan : Plan) (s : State), exec (.query h pb plan) s = .next (ioIn h false (.query h pb plan) s)) ∧
  (∀ (h : IoHdr) (pb : Bytes) (s : State), opRow pb 10 1 6 → exec (.filterCreate h pb) s = .next (ioIn h false (.filterCreate h pb) s)) ∧
  (∀ (h : IoHdr) (pb : Bytes) (s : State), opRow pb 10 2 6 → exec (.filterAddIds h pb) s = .next (ioIn h false (.filterAddIds h pb) s)) ∧
  (∀ (h : IoHdr) (pb : Bytes) (s : State), opRow pb 10 3 6 → exec (.filterRemoveIds h pb) s = .next (ioIn h false (.filterRemoveIds h pb) s)) ∧
  (∀ (h : IoHdr) (pb : Bytes) (s : State), opRow pb 10 4 6 → exec (.filterFillAll h pb) s = .next (ioIn h false (.filterFillAll h pb) s)) ∧
  (∀ (h : IoHdr) (pb : Bytes) (s : State), opRow pb 10 5 6 → exec (.filterCombine h pb) s = .next (ioIn h false (.filterCombine h pb) s)) ∧
  (∀ (h : IoHdr) (pb : Bytes) (s : State), opRow pb 10 6 6 → exec (.filterDestroy h pb) s = .next (ioIn h false (.filterDestroy h pb) s))

/-- A node read, a group query past its deadline, and the repair queue (R278, R279, R281, R288). -/
def Obligations.SearchEvents : Prop :=
  (∀ (c : Nat) (m : Bool) (s : State), s.sparReset = false → ((s.search.queries.any fun q => q.shards.any fun k => decide (k.ctx = some c) && decide (k.stage = .traverse)) = true) → s.parity.masks = [] → exec (.nodeReadDone c m) s = .next (nodeRead c m s).settle) ∧
  (∀ (c : Nat) (m : Bool) (s : State), ((s.search.queries.any fun q => q.shards.any fun k => decide (k.ctx = some c) && decide (k.stage = .traverse)) = false) → exec (.nodeReadDone c m) s = .next s) ∧
  (∀ (g : W64) (s : State) (q : Query), (s.search.queries.find? (fun q => decide (q.groupId = some g) && q.answerTo.isNone) = some q) → q.cls ≠ 2 → q.deadline ≤ s.groupFrame.toNat → q.awaiting ≠ [] → exec (.groupQueryTimeout g) s = .next (s.modQuery q.id fun q => { q with awaiting := [], missing := q.missing + sumBy (fun (a : Nat × Nat) => if q.awaiting.contains a.1 then a.2 else 0) q.asked }).settle) ∧
  (∀ (g : W64) (s : State) (q : Query), (s.search.queries.find? (fun q => decide (q.groupId = some g) && q.answerTo.isNone) = some q) → q.awaiting = [] → exec (.groupQueryTimeout g) s = .next s.settle) ∧
  (∀ (s : State), s.search.repairs = [] → exec .indexRepair s = .next s.settle) ∧
  (∀ (s : State) (r : Repair) (l : List Repair) (x : Shard), s.search.repairs = r :: l → s.shardFor r.index r.shard = some x → (x.nodeAt r.node).state = 2 → exec .indexRepair s = .next
    (let s0 := s.modSearch fun h => { h with repairs := l }
     let s1 := (s0.putShard x (x.repair r.node) [r.node]).clearNodeBits r.index r.shard [r.node]
     let s2 := s1.modSearch fun h => { h with repairCnt := satInc h.repairCnt, lateCnt := if r.frame + 64 < s.groupFrame.toNat then satInc h.lateCnt else h.lateCnt }
     let q := s2.indexCommit x
     (q.2.shadowCommit r.index r.shard none q.1 (r.node :: (x.nodeAt r.node).nbrs.map (·.node))).settle)) ∧
  (∀ (ctx : Nat) (marked : Bool) (s : State), exec (.nodeReadDone ctx marked) s = .next (nodeIn ctx marked s)) ∧
  (∀ (queryId : BitVec 64) (s : State), exec (.groupQueryTimeout queryId) s = .next ((groupQueryTimeout queryId s).settle)) ∧
  (∀ (s : State), exec .indexRepair s = .next ((indexRepair s).settle))

/-- Submission, program load and start of a pass (R160, R161, R165, R166, R167, R170). -/
def Obligations.PassQueue : Prop :=
  (∀ (desc b : Bytes) (prog : List W64) (src : PassSrc) (s : State), desc.length = 128 → b = s.dueDesc desc src → s.dispatching = true → s.passCount < 16384 → src.staged = false → s.descFails b src.firmware s.loft.image = [] → exec (.passSubmit desc prog src) s = .next (if s.t0Fits (readDesc b) then { ({ s with sched := { s.sched with nextUid := s.sched.nextUid + 1 } } : State).parWrite 0xB0 (parEntry s.sched.nextUid) 64 with sched := { s.sched with nextUid := s.sched.nextUid + 1, entries := s.sched.entries ++ [{ uid := s.sched.nextUid, desc := b, prog := prog.take (readDesc b).progLen, src := src, binding := s.bindingOf src (readDesc b).cls }] } } else (({ s with sched := { s.sched with nextUid := s.sched.nextUid + 1 } } : State).parWrite 0xB0 (parEntry s.sched.nextUid) 64).dropPass { uid := s.sched.nextUid, desc := b, prog := prog.take (readDesc b).progLen, src := src, binding := s.bindingOf src (readDesc b).cls }).settle) ∧
  (∀ (desc b : Bytes) (prog : List W64) (src : PassSrc) (s : State) (o : Nat) (l : List Nat), desc.length = 128 → b = s.dueDesc desc src → s.dispatching = true → s.passCount < 16384 → src.staged = false → s.descFails b src.firmware s.loft.image = o :: l → exec (.passSubmit desc prog src) s = .next ((({ s with sched := { s.sched with nextUid := s.sched.nextUid + 1 } } : State).parWrite 0xB0 (parEntry s.sched.nextUid) 64).refusePass { uid := s.sched.nextUid, desc := b, prog := prog.take (readDesc b).progLen, src := src, binding := s.bindingOf src (readDesc b).cls } psRefusedDesc (l.foldl min o)).settle) ∧
  (∀ (desc : Bytes) (prog : List W64) (src : PassSrc) (s : State), desc.length = 128 → s.dispatching = false ∨ 16384 ≤ s.passCount → exec (.passSubmit desc prog src) s = .next s.settle) ∧
  (∀ (c : Fin 8) (uid : Nat) (s : State) (e : PassEntry), s.entry uid = some e → s.dispatching = true → (s.clusterAt c).asleep = false → (s.clusterAt c).inReset = false → s.power.frozen = false → e.phase = .queued → e.d.onCluster c = true → e.d.vecOnly = true ∨ (s.clusterAt c).fusion = e.d.fusion → exec (.programLoad c uid) s = .next (let s1 := (s.raise c 4).noteRead e.d.progAddr (8 * e.d.progLen)
    let prog := s1.programOf e
    match checkWords e.d (s.clusterAt c).fusion (s1.boundTable e.binding) prog 0 with
    | some i => s1.refusePass e psRefusedProg i
    | none =>
      let s2 := ((s1.modCluster c fun k => { k with seq := if k.seq.bank then { k.seq with prog0 := prog, load0 := some uid } else { k.seq with prog1 := prog, load1 := some uid } }).parWrite (0xA0 + c) (if (s.clusterAt c).seq.bank then 0 else 32768) 8).parWrite (0xA0 + c) ((if (s.clusterAt c).seq.bank then 0 else 32768) + 8) (8 * prog.length - 8)
      if s2.storeFree c then s2.modCluster c fun k => k.wantTable e.binding else s2).settle) ∧
  (∀ (c : Fin 8) (uid t : Nat) (s : State) (e : PassEntry) (b : Bool), s.Shape → s.firstEligible c (max t s.frame.time) = some e → e.uid = uid → (s.clusterAt c).seq.bankOf uid = some b → s.mayStart c = true → s.parity.isBad 0xB0 (parEntry uid) 64 = false → ∃ t', exec (.passStart c uid t) s = .next t' ∧ t'.frame.time = max s.frame.time (max t s.frame.time) ∧ (t'.clusterAt c).vu.vl = 512 ∧ (t'.clusterAt c).seq.pc = 0 ∧ (t'.clusterAt c).seq.bank = b ∧ (∃ r, (t'.clusterAt c).seq.run = some r ∧ r.uid = uid ∧ r.startTime = max t s.frame.time ∧ r.ended = false ∧ r.spawns = [] ∧ r.runs = []) ∧
    t'.sched.entries = s.sched.entries.map (fun x => if x.uid = uid then { x with phase := .running c, pinned := some c.val } else x) ∧ t'.host = s.host ∧ t'.media = s.media) ∧
  (∀ (c : Fin 8) (uid t : Nat) (s : State), s.firstEligible c (max t s.frame.time) = none → exec (.passStart c uid t) s = .next s) ∧
  (∀ (desc : Bytes) (prog : List (BitVec 64)) (src : PassSrc) (s : State), desc.length = 128 → exec (.passSubmit desc prog src) s = .next ((submitPass desc prog src s).settle)) ∧
  (∀ (c : Fin 8) (uid : Nat) (s : State), exec (.programLoad c uid) s = .next ((loadProgram c.val uid s).settle)) ∧
  (∀ (c : Fin 8) (uid : Nat) (t : Nat) (s : State), exec (.passStart c uid t) s = .next (passStarts c.val uid t s))

/-- Commit, the LATE mark, the watchdog and a drained run (R162, R168, R170, R171, R174, R178, R179, R180). -/
def Obligations.PassEnd : Prop :=
  (∀ (c : Fin 8) (cycles t : Nat) (s s0 s1 : State) (r r1 : Running) (e : PassEntry), (s.clusterAt c).seq.run = some r → s.runEntry c = some e → s.stopped c = false → r.ended = true → r.runs = [] → s0 = (s.advance t).settleOverrun c → (s1 = ((if e.d.maxUs * 1750 < cycles then s0.modCluster c Cluster.markLate else s0).modCluster c fun k => k.swapHalves e.d)) → (s1.clusterAt c).seq.run = some r1 → exec (.passCommit c cycles t) s = .next
    (let s2 := s1.modCluster c fun k => { k with seq := { k.seq with commitCnt := satInc k.seq.commitCnt } }
     let s3 := s2.releaseSpawns r1.spawns
     (((s3.writeRecord e.d (r1.record e psCommitted cycles (s3.missedBy e.d))).handOn c e r1.ev.poison).dropEntry e.uid).vacate c e cycles).settle) ∧
  (∀ (c : Fin 8) (cycles t : Nat) (s : State) (r : Running), (s.clusterAt c).seq.run = some r → r.ended = false ∨ r.runs ≠ [] → exec (.passCommit c cycles t) s = .next s.settle) ∧
  (∀ (c : Fin 8) (s : State) (e : PassEntry), s.runEntry c = some e → s.stopped c = false → exec (.late c) s = .next (s.modCluster c fun (k : Cluster) => { k.markLate with seq := { k.markLate.seq with cyc := max k.markLate.seq.cyc (e.d.maxUs * 1750 + 1) } })) ∧
  (∀ (c : Fin 8) (t : Nat) (s s1 : State) (r : Running) (e : PassEntry), (s.clusterAt c).seq.run.isSome = true → s.stopped c = false → (s.advance t).runEntry c = some e → (s1 = ((((s.advance t).raise c 1).modCluster c fun k => k.captureSeq 4 0).settleOverrun c).modCluster c Cluster.markLate) → (s1.clusterAt c).seq.run = some r → exec (.wdog c t) s = .next ((((s1.modCluster c fun k => ({ k with seq := { k.seq with cyc := 437500 } } : Cluster).countStopped r).endPoisoned c e r psWatchdog 437500).modCluster c fun k => { k with seq := { k.seq with wdogCnt := satInc k.seq.wdogCnt } }).fault (mkFault 4 (0x300 + c))).settle) ∧
  (∀ (c u : Fin 8) (s : State) (q : Running) (e : PassEntry) (x : MRun), (s.clusterAt c).seq.run = some q → s.runEntry c = some e → s.stopped c = false → (q.runs.find? (fun x => decide (x.unit = u.val)) = some x) → e.d.wtRo = false ∨ s.roPoison c (s.clusterAt c).fusion (readRun x.rec_) = none → s.sctPoison c (readRun x.rec_) = false → exec (.runDone c u) s = .next
    (let r := readRun x.rec_
     let s1 := (s.drainRun c r x.len (bit q.chained u)).modCluster c fun k => k.noteRun fun q => { q with runs := q.runs.eraseP fun y => decide (y.unit = u.val), chained := setBit q.chained u (decide (r.dest = 3)), touched := setBit q.touched u true }
     let s2 := s1.modCluster c fun k => match (match k.seq.run with | some q => q.runs.find? fun (y : MRun) => decide (y.unit = u.val) | none => none) with
       | none => k.mapUnit u fun t => { t with state := 0, loadLeft := 0 }
       | some y => (k.mapUnit u fun t => { (readRun y.rec_).loadSet t 0 with state := 2, loadLeft := 0 }).noteRun fun q => { q with runs := q.runs.map fun (z : MRun) => if z.unit = u.val then { z with from_ := k.seq.cyc } else z }
     s2.raise c (9 + u)).settle) ∧
  (∀ (c u : Fin 8) (s : State) (q : Running) (e : PassEntry) (x : MRun) (t : Nat), (s.clusterAt c).seq.run = some q → s.runEntry c = some e → s.stopped c = false → (q.runs.find? (fun x => decide (x.unit = u.val)) = some x) → e.d.wtRo = true → s.roPoison c (s.clusterAt c).fusion (readRun x.rec_) = some t → exec (.runDone c u) s = .next (weightPoison c t (s.countStore c (s.clusterAt c).fusion (readRun x.rec_))).settle) ∧
  (∀ (c u : Fin 8) (s : State) (q : Running) (e : PassEntry) (x : MRun), (s.clusterAt c).seq.run = some q → s.runEntry c = some e → s.stopped c = false → (q.runs.find? (fun x => decide (x.unit = u.val)) = some x) → e.d.wtRo = false ∨ s.roPoison c (s.clusterAt c).fusion (readRun x.rec_) = none → s.sctPoison c (readRun x.rec_) = true → exec (.runDone c u) s = .next (weightPoison c (tileOf (s.clusterAt c).fusion u 0) ((s.parRead (0x90 + c) (s.clusterAt c).sctBase 262144).2.modCluster c fun k => { k with sct := { k.sct with valid := false } })).settle) ∧
  (∀ (c u : Fin 8) (s : State) (q : Running), (s.clusterAt c).seq.run = some q → (s.stopped c = true ∨ q.runs.find? (fun x => decide (x.unit = u.val)) = none) → exec (.runDone c u) s = .next s.settle) ∧
  (∀ (c : Fin 8) (u : Fin 8) (s : State), exec (.runDone c u) s = .next ((runDrains c.val u.val s).settle)) ∧
  (∀ (c : Fin 8) (cycles t : Nat) (s : State), exec (.passCommit c cycles t) s = .next ((commitPass c.val cycles t s).settle)) ∧
  (∀ (c : Fin 8) (s : State), exec (.late c) s = .next (passLate c.val s)) ∧
  (∀ (c : Fin 8) (t : Nat) (s : State), exec (.wdog c t) s = .next (watchdogEnds c.val t s))

/-- A vector word issues when it stands at the program counter, and the program goes on (R134, R136, R143, R161, R164, R172, R181). -/
def Obligations.VectorWords : Prop :=
  (∀ (i : Instr) (c : Fin 8) (w : W64) (op : Nat) (s t : State), vecWord i = some (c, w, op) → bits w 63 58 = op → s.ready c w → vecOp c (readVWord w) s = .done t → exec i s = .next (t.nextWord c 1)) ∧
  (∀ (i : Instr) (c : Fin 8) (w : W64) (op lane addr : Nat) (s : State), vecWord i = some (c, w, op) → bits w 63 58 = op → s.ready c w → vecOp c (readVWord w) s = .vaddr lane addr → exec i s = .next (vaddrFault c op lane addr (s.countVu c 0))) ∧
  (∀ (i : Instr) (c : Fin 8) (w : W64) (op : Nat) (s : State), vecWord i = some (c, w, op) → bits w 63 58 = op → s.ready c w → vecOp c (readVWord w) s = .poisonCtrl → exec i s = .next (poisonCtrl c s)) ∧
  (∀ (i : Instr) (c : Fin 8) (w : W64) (op : Nat) (s : State), vecWord i = some (c, w, op) → s.atWord c w = true → bits w 63 58 = op → (s.clusterAt c).ic.busy = false → (s.progBad c 1).1 = true → exec i s = .next (discardPass c 6 0 1 (0x300 + c) (s.progBad c 1).2)) ∧
  (∀ (i : Instr) (c : Fin 8) (w : W64) (op : Nat) (s : State), vecWord i = some (c, w, op) → s.atWord c w = true → bits w 63 58 = op → (s.clusterAt c).ic.busy = true → (s.parTrip (0xA8 + c) (handlerByte (s.clusterAt c).ic.pc) 8).1 = true → exec i s = .next (((s.parTrip (0xA8 + c) (handlerByte (s.clusterAt c).ic.pc) 8).2.fault (mkFault 4 (0x300 + c))).settle)) ∧
  (∀ (i : Instr) (c : Fin 8) (w : W64) (op : Nat) (s : State), vecWord i = some (c, w, op) → s.atWord c w = false → bits w 63 58 = op → exec i s = .next s) ∧
  (∀ (i : Instr) (c : Fin 8) (w : W64) (op : Nat) (s : State), vecWord i = some (c, w, op) → bits w 63 58 ≠ op → exec i s = .fault .illFormed) ∧
  (∀ (c : Fin 8) (w : W64) (s : State), bits w 63 58 = 0x00 → exec (.vnop c w) s = .next (fetched c 1 w (issueVector 0x00 c w) s)) ∧
  (∀ (c : Fin 8) (w : W64) (s : State), bits w 63 58 = 0x01 → exec (.vsetvl c w) s = .next (fetched c 1 w (issueVector 0x01 c w) s)) ∧
  (∀ (c : Fin 8) (w : W64) (s : State), bits w 63 58 = 0x02 → exec (.vld c w) s = .next (fetched c 1 w (issueVector 0x02 c w) s)) ∧
  (∀ (c : Fin 8) (w : W64) (s : State), bits w 63 58 = 0x03 → exec (.vst c w) s = .next (fetched c 1 w (issueVector 0x03 c w) s)) ∧
  (∀ (c : Fin 8) (w : W64) (s : State), bits w 63 58 = 0x04 → exec (.vgather c w) s = .next (fetched c 1 w (issueVector 0x04 c w) s)) ∧
  (∀ (c : Fin 8) (w : W64) (s : State), bits w 63 58 = 0x05 → exec (.vperm c w) s = .next (fetched c 1 w (issueVector 0x05 c w) s)) ∧
  (∀ (c : Fin 8) (w : W64) (s : State), bits w 63 58 = 0x06 → exec (.vbcast c w) s = .next (fetched c 1 w (issueVector 0x06 c w) s)) ∧
  (∀ (c : Fin 8) (w : W64) (s : State), bits w 63 58 = 0x07 → exec (.vcvt c w) s = .next (fetched c 1 w (issueVector 0x07 c w) s)) ∧
  (∀ (c : Fin 8) (w : W64) (s : State), bits w 63 58 = 0x08 → exec (.vadd c w) s = .next (fetched c 1 w (issueVector 0x08 c w) s)) ∧
  (∀ (c : Fin 8) (w : W64) (s : State), bits w 63 58 = 0x09 → exec (.vmul c w) s = .next (fetched c 1 w (issueVector 0x09 c w) s)) ∧
  (∀ (c : Fin 8) (w : W64) (s : State), bits w 63 58 = 0x0A → exec (.vfma c w) s = .next (fetched c 1 w (issueVector 0x0A c w) s)) ∧
  (∀ (c : Fin 8) (w : W64) (s : State), bits w 63 58 = 0x0B → exec (.vcmp c w) s = .next (fetched c 1 w (issueVector 0x0B c w) s)) ∧
  (∀ (c : Fin 8) (w : W64) (s : State), bits w 63 58 = 0x0C → exec (.vsel c w) s = .next (fetched c 1 w (issueVector 0x0C c w) s)) ∧
  (∀ (c : Fin 8) (w : W64) (s : State), bits w 63 58 = 0x0D → exec (.vmin c w) s = .next (fetched c 1 w (issueVector 0x0D c w) s)) ∧
  (∀ (c : Fin 8) (w : W64) (s : State), bits w 63 58 = 0x0E → exec (.vmax c w) s = .next (fetched c 1 w (issueVector 0x0E c w) s)) ∧
  (∀ (c : Fin 8) (w : W64) (s : State), bits w 63 58 = 0x0F → exec (.vmlog c w) s = .next (fetched c 1 w (issueVector 0x0F c w) s)) ∧
  (∀ (c : Fin 8) (w : W64) (s : State), bits w 63 58 = 0x10 → exec (.vred c w) s = .next (fetched c 1 w (issueVector 0x10 c w) s))

/-- Present lanes take the result of R136, and no other lane of any V register changes (R133, R136, R139, R140, R141, R142, R145). -/
def Obligations.LaneResults : Prop :=
  ∀ (i : Instr) (c : Fin 8) (w : W64) (op : Nat) (s : State), vecWord i = some (c, w, op) → bits w 63 58 = op → laneRow op = true → s.ready c w → s.Shape → ∃ t, exec i s = .next t ∧
      (∀ j, j < 512 → (s.present c (readVWord w).pm j).1 = true → Sparse.get 0 (t.clusterAt c).vu.v ((readVWord w).d * 512 + j) = laneValue c (readVWord w) s j) ∧
      (∀ r j, j < 512 → (r ≠ (readVWord w).d ∨ (s.present c (readVWord w).pm j).1 = false) →
        Sparse.get 0 (t.clusterAt c).vu.v (r * 512 + j) = Sparse.get 0 (s.clusterAt c).vu.v (r * 512 + j) ∧ Marks.has (t.clusterAt c).vu.vMark (r * 512 + j) = Marks.has (s.clusterAt c).vu.vMark (r * 512 + j)) ∧
      (t.clusterAt c).vu.vl = (s.clusterAt c).vu.vl ∧ (t.clusterAt c).vu.m = (s.clusterAt c).vu.m ∧ (t.clusterAt c).vu.s = (s.clusterAt c).vu.s ∧
      ((s.clusterAt c).ic.busy = false → (t.clusterAt c).seq.pc = (s.clusterAt c).seq.pc + 1) ∧ ((s.clusterAt c).ic.busy = true → (t.clusterAt c).ic.pc = (s.clusterAt c).ic.pc + 1)

/-- What the sequencer words do (R162, R163, R164, R177, R181). -/
def Obligations.SequencerWords : Prop :=
  (∀ (i : Instr) (c : Fin 8) (w : W64) (op : Nat) (s : State), seqWord i = some (c, w, op) → bits w 63 58 = op → s.ready c w → exec i s = .next (match op with
    | 0x21 => seqMwait c (readVWord w) s
    | 0x23 => seqSadd c (readVWord w) s
    | 0x24 => seqSld c (readVWord w) s
    | 0x25 => seqBr c (readVWord w) s
    | 0x26 => seqSpawn c (readVWord w) s
    | _ => seqSignal c (readVWord w) s)) ∧
  (∀ (c : Fin 8) (w : W64) (s : State) (q : Running), bits w 63 58 = 0x21 → s.ready c w → (s.clusterAt c).seq.run = some q → ((q.runs.any fun x => (bits w 11 0).testBit x.unit) = false) → exec (.mwait c w) s = .next (s.nextWord c 1)) ∧
  (∀ (c : Fin 8) (w : W64) (s : State), bits w 63 58 = 0x22 → s.ready c w → exec (.sli c w) s = .next ((s.putS c (bits w 41 37) ⟨w.setWidth 32, false, true⟩).nextWord c 1)) ∧
  (∀ (c : Fin 8) (w : W64) (s : State), bits w 63 58 = 0x23 → s.ready c w → exec (.sadd c w) s = .next ((s.putS c (bits w 41 37) ⟨(s.sReg c (bits w 36 32)).val + (s.sReg c (bits w 31 27)).val + (BitVec.ofNat 12 (bits w 11 0)).signExtend 32, (s.sReg c (bits w 36 32)).poison || (s.sReg c (bits w 31 27)).poison, true⟩).nextWord c 1)) ∧
  (∀ (c : Fin 8) (w : W64) (s : State), bits w 63 58 = 0x24 → s.ready c w → (s.sReg c (bits w 36 32)).poison = false → s.bytesOk c ((s.sReg c (bits w 36 32)).val.toNat + 4 * bits w 11 0) 4 false = true → exec (.sld c w) s = .next (let e := s.winElem c ((s.sReg c (bits w 36 32)).val.toNat + 4 * bits w 11 0) 0 32; ((s.readWindow c ((s.sReg c (bits w 36 32)).val.toNat + 4 * bits w 11 0)).putS c (bits w 41 37) ⟨BitVec.ofNat 32 e.1, e.2, true⟩).nextWord c 1)) ∧
  (∀ (c : Fin 8) (w : W64) (s : State), bits w 63 58 = 0x25 → s.ready c w → (s.sReg c (bits w 36 32)).poison = false → (s.sReg c (bits w 31 27)).poison = false → exec (.br c w) s = .next (if brTaken (bits w 15 12) (s.sReg c (bits w 36 32)).val (s.sReg c (bits w 31 27)).val then s.goto c (bits w 11 0) else s.nextWord c 1)) ∧
  (∀ (c : Fin 8) (w : W64) (s : State), (bits w 63 58 = 0x25 ∧ ((s.sReg c (bits w 36 32)).poison = true ∨ (s.sReg c (bits w 31 27)).poison = true)) ∨ (bits w 63 58 = 0x24 ∧ (s.sReg c (bits w 36 32)).poison = true) ∨ (bits w 63 58 = 0x26 ∧ ((s.sReg c (bits w 36 32)).poison = true ∨ (s.sReg c (bits w 36 32 + 1)).poison = true)) → s.ready c w → (bits w 63 58 = 0x25 → exec (.br c w) s = .next (poisonCtrl c s)) ∧ (bits w 63 58 = 0x24 → exec (.sld c w) s = .next (poisonCtrl c s)) ∧ (bits w 63 58 = 0x26 → exec (.spawn c w) s = .next (poisonCtrl c s))) ∧
  (∀ (c : Fin 8) (w : W64) (s : State) (e : PassEntry) (d : W64), bits w 63 58 = 0x26 → s.ready c w → (s.sReg c (bits w 36 32)).poison = false → (s.sReg c (bits w 36 32 + 1)).poison = false → s.runEntry c = some e → d = BitVec.ofNat 64 ((s.sReg c (bits w 36 32 + 1)).val.toNat * 2 ^ 32 + (s.sReg c (bits w 36 32)).val.toNat) → (s.spawnStatus c e (decide (bits w 15 12 % 2 = 1)) d).1 ≠ 0 → exec (.spawn c w) s = .next ((((s.putS c (bits w 41 37) ⟨BitVec.ofNat 32 (s.spawnStatus c e (decide (bits w 15 12 % 2 = 1)) d).1, false, true⟩).nextWord c 1).modCluster c fun k => k.noteRun fun q => { q with ev := { q.ev with spawnRefused := true } }).raise c 17)) ∧
  (∀ (c : Fin 8) (w : W64) (s : State) (e : PassEntry) (d : W64), bits w 63 58 = 0x26 → s.ready c w → (s.sReg c (bits w 36 32)).poison = false → (s.sReg c (bits w 36 32 + 1)).poison = false → s.runEntry c = some e → d = BitVec.ofNat 64 ((s.sReg c (bits w 36 32 + 1)).val.toNat * 2 ^ 32 + (s.sReg c (bits w 36 32)).val.toNat) → (s.spawnStatus c e (decide (bits w 15 12 % 2 = 1)) d).1 = 0 → exec (.spawn c w) s = .next
    (let t := (s.putS c (bits w 41 37) ⟨0, false, true⟩).nextWord c 1
     ({ t with sched := { t.sched with nextUid := t.sched.nextUid + 1 } } : State).modCluster c fun k => k.noteRun fun q => { q with spawns := q.spawns ++ [{ uid := t.sched.nextUid, desc := (s.spawnStatus c e (decide (bits w 15 12 % 2 = 1)) d).2, prog := [], src := { e.src with emits := none, bridle := [], staged := false }, phase := .held, binding := e.binding }] })) ∧
  (∀ (c : Fin 8) (w : W64) (s : State), bits w 63 58 = 0x27 → s.ready c w → exec (.signal c w) s = .next ((s.raise c (48 + bits w 11 0 % 16)).nextWord c 1)) ∧
  (∀ (c : Fin 8) (r : RunRec) (s : State) (q : Running), bits r.w0 63 58 = 0x20 → s.ready c r.w0 4 → (s.clusterAt c).seq.run = some q → (s.clusterAt c).wordAhead 1 = some r.w1 → (s.clusterAt c).wordAhead 2 = some r.w2 → (s.clusterAt c).wordAhead 3 = some r.w3 → ((q.runs.filter fun x => decide (x.unit = (readRun r).unit)).length < 2) → exec (.mrun c r) s = .next ((s.modCluster c fun k => (k.takeRun (readRun r) (decide ((q.runs.filter fun x => decide (x.unit = (readRun r).unit)).length = 0))).noteRun fun q => { q with runs := q.runs ++ [{ unit := (readRun r).unit, rec_ := r, len := s.runLen c (readRun r), from_ := k.seq.cyc }] }).nextWord c 4)) ∧
  (∀ (c : Fin 8) (s : State), s.ready c hretWord → (s.clusterAt c).ic.busy = true → exec (.hret c) s = .next (s.modCluster c fun k => { k with ic := { k.ic with busy := false } })) ∧
  (∀ (c : Fin 8) (s : State), s.ready c 0xFC00000000000000 → (s.clusterAt c).ic.busy = false → exec (.endProgram c) s = .next ((s.nextWord c 1).modCluster c fun k => k.noteRun fun r => { r with ended := true })) ∧
  (∀ (c : Fin 8) (r : RunRec) (s : State), bits r.w0 63 58 = 0x20 → exec (.mrun c r) s = .next (fetched c 4 r.w0 (seqMrun c r) s)) ∧
  (∀ (c : Fin 8) (w : W64) (s : State), bits w 63 58 = 0x21 → exec (.mwait c w) s = .next (fetched c 1 w (issueSeq 0x21 c w (seqMwait c)) s)) ∧
  (∀ (c : Fin 8) (w : W64) (s : State), bits w 63 58 = 0x22 → exec (.sli c w) s = .next (fetched c 1 w (issueSli c w) s)) ∧
  (∀ (c : Fin 8) (w : W64) (s : State), bits w 63 58 = 0x23 → exec (.sadd c w) s = .next (fetched c 1 w (issueSeq 0x23 c w (seqSadd c)) s)) ∧
  (∀ (c : Fin 8) (w : W64) (s : State), bits w 63 58 = 0x24 → exec (.sld c w) s = .next (fetched c 1 w (issueSeq 0x24 c w (seqSld c)) s)) ∧
  (∀ (c : Fin 8) (w : W64) (s : State), bits w 63 58 = 0x25 → exec (.br c w) s = .next (fetched c 1 w (issueSeq 0x25 c w (seqBr c)) s)) ∧
  (∀ (c : Fin 8) (w : W64) (s : State), bits w 63 58 = 0x26 → exec (.spawn c w) s = .next (fetched c 1 w (issueSeq 0x26 c w (seqSpawn c)) s)) ∧
  (∀ (c : Fin 8) (w : W64) (s : State), bits w 63 58 = 0x27 → exec (.signal c w) s = .next (fetched c 1 w (issueSeq 0x27 c w (seqSignal c)) s)) ∧
  (∀ (c : Fin 8) (s : State), exec (.hret c) s = .next (fetched c 1 hretWord (leaveHandler c) s)) ∧
  (∀ (c : Fin 8) (s : State), exec (.endProgram c) s = .next (fetched c 1 0xFC00000000000000 (issueEnd c 0xFC00000000000000) s))

/-- Parity on a path, and a poisoned weight read (R125, R126, R152, R172, R173). -/
def Obligations.TileFaults : Prop :=
  (∀ (tile : Fin 64) (s t : State), s.clusterUp (tile.val / 8) = true → tileFault tile s = (true, t) → exec (.tileParityError tile) s = .next ((t.fault (mkFault 3 (0x100 + tile.val))).settle)) ∧
  (∀ (tile : Fin 64) (s : State), s.Shape → (s.clusterAt (tile.val / 8)).tiles.length = 8 → s.clusterUp (tile.val / 8) = true → (s.clusterAt (tile.val / 8)).seq.run = none → (s.tileAt tile).faults = [] → exec (.tileParityError tile) s = .next (s.modTile tile fun t => { t with flags := t.flags ||| mtParErr, parPath := satInc t.parPath, faults := [s.frame.num.toNat] }).settle) ∧
  (∀ (tile : Fin 64) (s : State), s.clusterUp (tile.val / 8) = false → exec (.tileParityError tile) s = .next s ∧ exec (.vectorParityError ⟨tile.val / 8, by omega⟩) s = .next s) ∧
  (∀ (c : Fin 8) (s : State), s.clusterUp c = true → exec (.vectorParityError c) s = .next (discardPass c 1 0 1 (0x200 + c) (s.modCluster c fun k => { k with vu := { k.vu with
      flags := k.vu.flags ||| vuParErr, parPath := satInc k.vu.parPath, fValid := true
      fOp := if k.vu.fValid then k.vu.fOp else BitVec.ofNat 6 (match k.progWord k.seq.pc with | some w => bits w 63 58 | none => 0)
      fKind := if k.vu.fValid then k.vu.fKind else true, fLane := if k.vu.fValid then k.vu.fLane else 0, fAddr := if k.vu.fValid then k.vu.fAddr else 0 } })).settle) ∧
  (∀ (tile : Fin 64) (s : State) (e : PassEntry), s.runEntry (tile.val / 8) = some e → e.d.wtRo = true → s.stopped (tile.val / 8) = false → 2 ≤ e.reloads → exec (.wtPoison tile) s = .next (discardPass (tile.val / 8) 0 (unitOfTile (s.clusterAt (tile.val / 8)).fusion (tile.val % 8)) 1 (0x100 + tile.val)
      ((s.modCluster (tile.val / 8) fun k => { k with tiles := modifyAt (fun t => { t with flags := t.flags ||| mtWtPoison }) k.tiles (tile.val % 8) }).raise (tile.val / 8) 2)).settle) ∧
  (∀ (tile : Fin 64) (s s1 : State) (e : PassEntry) (c : Nat) (r : Running), c = tile.val / 8 → s.runEntry c = some e → e.d.wtRo = true → s.stopped c = false → e.reloads < 2 → (s1 = ((((s.modCluster c fun k => { k with tiles := modifyAt (fun t => { t with flags := t.flags ||| mtWtPoison }) k.tiles (tile.val % 8) }).raise c 2).settleOverrun c).lateCheck c e)) → (s1.clusterAt c).seq.run = some r → exec (.wtPoison tile) s = .next
    (let s2 := s1.modCluster c fun k => ({ k with seq := { k.seq with discardCnt := satInc k.seq.discardCnt } } : Cluster).countStopped r
     let s3 := (s2.modEntry e.uid fun e => { e.ranOnce r (s1.clusterAt c).seq.cyc with phase := .reloading c, reloads := e.reloads + 1 }).noteExtraRun e.src.request
     ((s3.vacate c e (s1.clusterAt c).seq.cyc).modCluster c fun k => { k with seq := k.seq.setLoad (s1.clusterAt c).seq.bank e.uid }).settle)) ∧
  (∀ (tile : Fin 64) (s : State), ((∀ e : PassEntry, s.runEntry (tile.val / 8) = some e → (e.d.wtRo = false ∨ s.stopped (tile.val / 8) = true))) → exec (.wtPoison tile) s = .next s) ∧
  (∀ (tile : Fin 64) (s : State), exec (.tileParityError tile) s = .next (tilePath tile.val s)) ∧
  (∀ (c : Fin 8) (s : State), exec (.vectorParityError c) s = .next (if s.clusterUp c.val then (vectorFault c.val s).settle else s)) ∧
  (∀ (tile : Fin 64) (s : State), exec (.wtPoison tile) s = .next (weightMark tile.val s))

/-- Reload, fills, the scale store and the end of a Spar reset (R118, R173, R180, R191, R460, R461). -/
def Obligations.ReelIntoClusters : Prop :=
  (∀ (c : Fin 8) (uid : Nat) (bad : List W64) (s : State) (e : PassEntry), s.sparReset = false → s.entry uid = some e → e.phase = .reloading c → exec (.reelReload c ⟨uid, bad⟩) s = .next (((((s.clusterAt c).copies.filter fun x => x.meets e.d true).foldl (fun s x => s.reloadCopy c bad x) s).modEntry uid fun e => { e with phase := .queued, onCluster := some c.val }).raise c 19)) ∧
  (∀ (c : Fin 8) (uid : Nat) (bad : List W64) (s : State) (e : PassEntry), s.entry uid = some e → e.phase ≠ .reloading c → exec (.reelReload c ⟨uid, bad⟩) s = .next s) ∧
  (∀ (c : Fin 8) (f : Fill) (s : State), s.clusterUp c = true → s.parity.masks = [] → exec (.reelDone c f) s = .next (let q := s.sourced f false
    let r := q.2.makeRoom c q.1
    if r.1 = false then r.2
    else if r.2.fillHeld c q.1 then r.2.modCluster c fun k => { k with heldFills := k.heldFills ++ [q.1] }
    else r.2.applyFill c q.1)) ∧
  (∀ (c : Fin 8) (uid : Nat) (bad : List W64) (s : State) (e : PassEntry) (b : Bytes) (o : Obj), s.entry uid = some e → s.sparReset = false → (s.clusterAt c).asleep = false → (s.clusterAt c).inReset = false → e.binding ≠ 0 → (s.clusterAt c).sct.valid = false ∨ (s.clusterAt c).sct.table ≠ e.binding → s.storeFree c = true → e.d.onCluster c = true → s.boundTable e.binding = some b → s.objFor e.binding = some o → exec (.scaleStoreLoad c ⟨uid, bad⟩) s = .next
    (let n := leNat b 6 2
     let fails := (s.markedIn e.binding (scaleTableLen b)).filter fun j => bad.any fun a => decide (rankOf a = s.rank) && decide ((ofsOf a - o.ofs) / 65536 = (ofsOf e.binding - o.ofs + 64 * j) / 65536)
     let s1 := (s.noteRead e.binding (scaleTableLen b)).refetchLines e.binding (s.markedIn e.binding (scaleTableLen b)) fails
     let s2 := s1.writeSpace c 1 0 ((s.clusterAt c).sctBase + 32) ((slice b 0x40 (32 * n)).zipIdx.map fun x => (x.1, fails.contains ((0x40 + x.2) / 64)))
     let s3 := s2.writeSpace c 1 0 ((s.clusterAt c).sctBase + 0x20000) ((slice b (0x40 + 32 * n) (leNat b 8 4)).zipIdx.map fun x => (x.1, fails.contains ((0x40 + 32 * n + x.2) / 64)))
     (s3.modCluster c fun k => { k with sct := { valid := true, loading := false, table := e.binding, slotCount := n, tableId := le 64 b 0x10, loadCnt := satInc k.sct.loadCnt } }).raise c 18)) ∧
  (∀ (c : Fin 8) (uid : Nat) (bad : List W64) (s : State), s.entry uid = none → exec (.scaleStoreLoad c ⟨uid, bad⟩) s = .next s) ∧
  (∀ (s t : State), s.sparReset = true → t = ({ s with sparReset := false, frame := { s.frame with resume := true } } : State).loadHandlers → exec .sparResetDone s = .next (if t.drogue.exiting then t.leaveSafe.settle else t.settle.settle)) ∧
  (∀ (s : State), s.sparReset = false → exec .sparResetDone s = .next s.settle) ∧
  (∀ (c : Fin 8) (what : ReloadIn) (s : State), exec (.reelReload c what) s = .next (if s.sparReset then s else reloadEnd c.val what.uid what.bad s)) ∧
  (∀ (c : Fin 8) (fill : Fill) (s : State), exec (.reelDone c fill) s = .next (reelWrite c.val fill s)) ∧
  (∀ (c : Fin 8) (what : ReloadIn) (s : State), exec (.scaleStoreLoad c what) s = .next (loadScales c.val what.uid what.bad s)) ∧
  (∀ (s : State), exec .sparResetDone s = .next ((sparResetDone s).settle))

/-- Entering a handler, and the write-one registers of a cluster (R127, R152, R180, R181, R182, R184). -/
def Obligations.InterruptRows : Prop :=
  (∀ (c : Fin 8) (n : Nat) (s t : State), s.stopped c = false → (s.clusterAt c).ic.busy = false → (s.clusterAt c).ic.next = some n → s.parity.isBad (0xA8 + c) 0 4 = false → (t = s.modCluster c fun k => { k with ic := { k.ic with pend := setBit k.ic.pend n false, busy := true, source := BitVec.ofNat 6 n, pc := 16 * n, taken := satInc k.ic.taken } }) → exec (.handlerEntry c) s = .next (if 48 ≤ n then t.telemetry 4 n c (s.clusterAt c).seq.passId.toNat else t)) ∧
  (∀ (c : Fin 8) (s : State), s.stopped c = true ∨ (s.clusterAt c).ic.busy = true ∨ (s.clusterAt c).ic.next = none → exec (.handlerEntry c) s = .next s) ∧
  (∀ (c : Fin 8) (hi : Bool) (v : W32) (s : State), s.firmwareUp = true → s.blockAway (.spc c) = false → exec (.spcIcPendSet c hi v) s = .next (icPendSet c hi v (s.parWrite (0xA8 + c) 0 4)) ∧ exec (.spcIcPendClr c hi v) s = .next (icPendClr c hi v (s.parWrite (0xA8 + c) 0 4)) ∧ exec (.spcIcEnSet c hi v) s = .next (icEnSet c hi v (s.parWrite (0xA8 + c) 0 4)) ∧ exec (.spcIcEnClr c hi v) s = .next (icEnClr c hi v (s.parWrite (0xA8 + c) 0 4))) ∧
  (∀ (tile : Fin 64) (v : W32) (s : State), s.firmwareUp = true → s.blockAway (.spc (tile.val / 8)) = false → exec (.spcMtFlagsClr tile v) s = .next (s.modTile tile fun t => { t with flags := t.flags &&& ~~~ v.setWidth 6 })) ∧
  (∀ (c : Fin 8) (v : W32) (s : State), s.firmwareUp = true → s.blockAway (.spc c) = false → exec (.spcVuFlagsClr c v) s = .next (s.modCluster c fun k => { k with vu := { k.vu with flags := k.vu.flags &&& ~~~ v.setWidth 9 } })) ∧
  (∀ (c : Fin 8) (s : State), exec (.handlerEntry c) s = .next (handlerIn c.val s)) ∧
  (∀ (c : Fin 8) (hi : Bool) (v : BitVec 32) (s : State), exec (.spcIcPendSet c hi v) s = .next (accessWrite (spcAddr c.val (0x18008 + 4 * b2n hi)) v s)) ∧
  (∀ (c : Fin 8) (hi : Bool) (v : BitVec 32) (s : State), exec (.spcIcPendClr c hi v) s = .next (accessWrite (spcAddr c.val (0x18010 + 4 * b2n hi)) v s)) ∧
  (∀ (c : Fin 8) (hi : Bool) (v : BitVec 32) (s : State), exec (.spcIcEnSet c hi v) s = .next (accessWrite (spcAddr c.val (0x18020 + 4 * b2n hi)) v s)) ∧
  (∀ (c : Fin 8) (hi : Bool) (v : BitVec 32) (s : State), exec (.spcIcEnClr c hi v) s = .next (accessWrite (spcAddr c.val (0x18028 + 4 * b2n hi)) v s)) ∧
  (∀ (tile : Fin 64) (v : BitVec 32) (s : State), exec (.spcMtFlagsClr tile v) s = .next (accessWrite (spcAddr (tile.val / 8) (0x1000 * (tile.val % 8) + 0x0C)) v s)) ∧
  (∀ (c : Fin 8) (v : BitVec 32) (s : State), exec (.spcVuFlagsClr c v) s = .next (accessWrite (spcAddr c.val 0x20008) v s))

/-- The end of a fetch, an abandoned move, a refetch and a KV repair (R210, R213, R220, R224, R226, R252). -/
def Obligations.ReelMoves : Prop :=
  (∀ (a : W64) (i : Nat) (bad : List Nat) (steps : List (Nat × Fin 6)) (d : Bytes) (k : List Nat) (s : State) (o : Obj) (m : Move), s.sparReset = false → s.inHold = false → s.phase = .up → s.parity.masks = [] → rankOf a = s.rank → s.objFor a = some o → m ∈ s.reel.moves → m.addr = a → m.piece = i → m.kind.toT1 = true → m.ready = false → s.unread o i false m.left = [] → exec (.fetchDone a i ⟨bad, steps, d, k⟩) s = .next
    (let r := s.fetchSteps o i steps
     let t := (r.2.badUnits o i (bad ++ r.1)).foldl (fun s u => s.markObj (a + BitVec.ofNat 64 (i * 1048576 + u * 65536)) (min 65536 (o.pieceLen i - u * 65536))) r.2
     ((t.modReel fun r => { r with
        plan := r.plan.filter fun f => !(decide (f.addr = a) && decide (f.piece = i))
        remote := r.remote.filter fun x => !(decide (x.addr = a) && decide (x.piece = i)) }).modReel fun r => { r with moves := r.moves.map fun m => if m.addr = a ∧ m.piece = i ∧ m.kind.toT1 then { m with ready := true } else m }).settle)) ∧
  (∀ (a : W64) (i : Nat) (bad : List Nat) (steps : List (Nat × Fin 6)) (d : Bytes) (k : List Nat) (s : State) (m : Move), s.sparReset = false → s.inHold = false → s.phase = .up → s.parity.masks = [] → rankOf a ≠ s.rank → m ∈ s.reel.moves → m.addr = a → m.piece = i → exec (.fetchDone a i ⟨bad, steps, d, k⟩) s = .next (((s.modReel fun r => { r with
        plan := r.plan.filter fun f => !(decide (f.addr = a) && decide (f.piece = i))
        remote := r.remote.filter fun x => !(decide (x.addr = a) && decide (x.piece = i)) }).modReel fun r => { r with moves := r.moves.map fun m => if m.addr = a ∧ m.piece = i ∧ m.kind = .t3copy then { m with ready := true, len := d.length, data := cellsOf 0 d, marks := k ++ bad.foldl (fun (l : List Nat) u => l ++ (upTo 1024).map fun j => 1024 * u + j) [] } else m }).settle)) ∧
  (∀ (a : W64) (i : Nat) (bad : List Nat) (steps : List (Nat × Fin 6)) (d : Bytes) (k : List Nat) (s : State), s.reel.moves = [] → s.reel.plan = [] → exec (.fetchDone a i ⟨bad, steps, d, k⟩) s = .next s) ∧
  (∀ (mv : Nat) (s : State) (m : Move), (s.reel.moves.find? (fun m => decide (m.id = mv)) = some m) → m.start + 64 ≤ s.frame.num.toNat → m.ready = false → exec (.moveAbortTimeout mv) s = .next (s.abortMove m true).settle) ∧
  (∀ (mv : Nat) (s : State), ((s.reel.moves.all fun (m : Move) => decide (m.id ≠ mv) || decide (s.frame.num.toNat < m.start + 64) || m.ready) = true) → exec (.moveAbortTimeout mv) s = .next s.settle) ∧
  (∀ (a : W64) (t1 : Bool) (t3 : Bool) (s : State) (o : Obj) (p : Piece), s.sparReset = false → s.phase = .up → s.objFor a = some o → o.pieces[(ofsOf a - o.ofs) / 65536 * 65536 / 1048576]? = some p → o.kind.readOnly = true → o.marked ((ofsOf a - o.ofs) / 65536 * 65536) 65536 = true → p.inT2 = true → exec (.refetch a t1 true t3) s = .next (((s.modObj o.ofs fun o' => { o' with marks := o'.marks.filter fun m => !(decide ((ofsOf a - o.ofs) / 65536 * 65536 ≤ m.1 * 64) && decide (m.1 * 64 < (ofsOf a - o.ofs) / 65536 * 65536 + 65536)) }).modReel fun r => { r with refetchCnt := satInc r.refetchCnt }).corrected).settle) ∧
  (∀ (a : W64) (t1 t2 t3 : Bool) (s : State), s.objFor a = none → exec (.refetch a t1 t2 t3) s = .next s ∨ exec (.refetch a t1 t2 t3) s = .next s.settle) ∧
  (∀ (h : W32) (u i : Nat) (s : State) (m : Model) (a : W64) (o : Obj), s.sparReset = false → s.safe = false → s.phase = .up → s.ctxIndex h = some i → s.modelFor (s.ctxAt i).model = some m → (s.ctxAt i).extents[u / max 1 (m.extentLen / 65536)]? = some a → s.markedObj (a + BitVec.ofNat 64 (u % max 1 (m.extentLen / 65536) * 65536)) 65536 = true → (s.ctxAt i).buddy ≠ 0xFFFF → 1024 * (u / max 1 (m.extentLen / 65536)) + min 1023 ((u % max 1 (m.extentLen / 65536) * 65536 % max 1 m.kvS + 65535) / max 1 m.kvB) < (s.ctxAt i).journaled → s.objFor a = some o → ∃ t, exec (.kvRepair h u) s = .next t ∧ t.bridle = { s.bridle with kvRepairCnt := satInc s.bridle.kvRepairCnt } ∧ t.library = s.library ∧ t.host = s.host ∧
    t.reel = (s.modObj o.ofs fun o => { o with marks := o.marks.filter fun k => !(decide (u % max 1 (m.extentLen / 65536) * 65536 ≤ k.1 * 64) && decide (k.1 * 64 < u % max 1 (m.extentLen / 65536) * 65536 + 65536)) }).reel) ∧
  (∀ (h : W32) (u : Nat) (s : State), s.ctxIndex h = none → exec (.kvRepair h u) s = .next s) ∧
  (∀ (addr : BitVec 64) (piece : Nat) (got : FetchIn) (s : State), exec (.fetchDone addr piece got) s = .next (fetchIn addr piece got.bad got.steps got.data got.marks s)) ∧
  (∀ (mv : Nat) (s : State), exec (.moveAbortTimeout mv) s = .next ((moveTimeout mv s).settle)) ∧
  (∀ (addr : BitVec 64) (t1Ok t2Ok t3Ok : Bool) (s : State), exec (.refetch addr t1Ok t2Ok t3Ok) s = .next (if s.sparReset || decide (s.phase ≠ .up) then s else (refetchUnit addr t1Ok t2Ok t3Ok s).settle)) ∧
  (∀ (handle : BitVec 32) (unit : Nat) (s : State), exec (.kvRepair handle unit) s = .next (if s.sparReset || s.safe || decide (s.phase ≠ .up) then s else kvRepair handle unit s))

/-- What a message, a drop notice and a dispatch timeout do (R239, R240, R241, R242, R243, R244). -/
def Obligations.BridleMessages : Prop :=
  (∀ (net : Fin 2) (b : Bytes) (t : Nat) (s s1 : State), s.dispatching = true → s.inHold = false → s.bridle.inReset = false → s.parity.masks = [] → s1 = s.advance t → brdOk b = true → leNat b 0x0A 2 = s.rank → s.memberRank (leNat b 8 2) = true → s1.brdLens b = true → exec (.bridleMessage ⟨net, b⟩ t) s = .next ((upTo (leNat b 6 2)).foldl (fun (s : State) i => s.placeRec (leNat b 8 2) (le 64 b 0x18) (readBRec b i) (leNat b 0x10 6))
      { s1 with bridle := { s1.bridle with rx := s1.bridle.rx + 1, lateCnt := if leNat b 0x10 6 < s.groupFrame.toNat ∨ s.frame.tickTime + 250000 < t then satInc s1.bridle.lateCnt else s1.bridle.lateCnt } }).settle) ∧
  (∀ (net : Fin 2) (b : Bytes) (t : Nat) (s : State), s.dispatching = true → s.inHold = false → s.bridle.inReset = false → s.parity.masks = [] → brdOk b = false → exec (.bridleMessage ⟨net, b⟩ t) s = .next
    (let u := s.advance t
     let v : State := { u with bridle := { u.bridle with badCnt := satInc u.bridle.badCnt } }
     (if s.memberRank (leNat b 8 2) = true ∧ leNat b 8 2 ≠ s.rank then
        (let w := v.send net (leNat b 8 2) (brdNotice s.rank (leNat b 8 2) (leNat b 0x10 6) (le 64 b 0x18) (leNat b 0x20 4))
         { w with bridle := { w.bridle with tx := w.bridle.tx + 1 } })
      else v).settle)) ∧
  (∀ (net : Fin 2) (b : Bytes) (t : Nat) (s : State), s.dispatching = false ∨ s.inHold = true → exec (.bridleMessage ⟨net, b⟩ t) s = .next s) ∧
  (∀ (b : Bytes) (s : State), s.bridle.inReset = false → b.length = 64 → leNat b 0 4 = 0x4C445242 → leNat b 4 1 = 1 → zeros b 5 1 = true → leNat b 6 2 = 0 → leNat b 0x0C 4 = 64 → leNat b 0x24 4 = 0 → zeros b 0x28 24 = true → zeros b 0x16 2 = true → leNat b 0x0A 2 = s.rank → exec (.dropNotice b) s = .next { s with bridle := { s.bridle with sentMsgs := s.bridle.sentMsgs.map fun m => if m.toRank = leNat b 8 2 ∧ m.seq = leNat b 0x20 4 then { m with resend := true } else m } }) ∧
  (∀ (ctx pos : W32) (layer : W16) (slot : Byte) (s : State), exec (.dispatchTimeout ctx pos layer slot) s = .next { s with bridle := { s.bridle with unanswered := s.bridle.unanswered.map fun (d : Dispatch) => if d.ctx = ctx ∧ d.pos = pos ∧ d.layer = layer ∧ d.slot = slot ∧ (match d.sent with | some t => decide (t + 64 ≤ s.frame.num.toNat) | none => false) = true then { d with resend := true } else d } }) ∧
  (∀ (msg : MessageIn) (t : Nat) (s : State), exec (.bridleMessage msg t) s = .next (messageIn msg.net.val msg.msg t s)) ∧
  (∀ (msg : Bytes) (s : State), exec (.dropNotice msg) s = .next (if s.bridle.inReset then s else s.brdNoticed msg))

/-- The steps of the register door of a die service port (R298, R299, R300, R301, R492). -/
def Obligations.DspDoor : Prop :=
  (∀ (n : Fin 8) (t : Nat) (s : State), s.dspScope n 0x10 0xA5C3 → (s.dspAt n).busy = false → (s.dspAt n).phase = 0 → exec (.envDspKey n 0xA5C3 t) s = .next ((s.advance t).modDsp n fun d => { d with phase := 1, last := max s.frame.time t, done := false, swRet := false, err := 0, addrs := [] })) ∧
  (∀ (n : Fin 8) (t : Nat) (s : State), s.dspScope n 0x10 0x5A3C → (s.dspAt n).busy = false → (s.dspAt n).phase = 1 → max s.frame.time t ≤ (s.dspAt n).last + 100000 → exec (.envDspKey n 0x5A3C t) s = .next ((s.advance t).modDsp n fun d => { d with phase := 2, last := max s.frame.time t })) ∧
  (∀ (n : Fin 8) (v : W32) (t : Nat) (s : State), s.dspScope n 0x10 v → (s.dspAt n).busy = false → (s.dspAt n).phase = 0 → v ≠ 0xA5C3 → exec (.envDspKey n v t) s = .next ((s.advance t).modDsp n fun d => { d with phase := 0, addrs := [], err := 1 })) ∧
  (∀ (n : Fin 8) (v : W32) (t : Nat) (s : State), s.dspScope n 0x14 v → (s.dspAt n).phase = 2 → max s.frame.time t ≤ (s.dspAt n).last + 100000 → exec (.envDspCmd n v t) s = .next (if 1 ≤ v.toNat ∧ v.toNat ≤ 4 then (s.advance t).modDsp n fun d => { d with phase := 3, cmd := v.setWidth 8, addrs := [], last := max s.frame.time t } else (s.advance t).modDsp n fun d => { d with phase := 0, addrs := [], err := 4 })) ∧
  (∀ (n : Fin 8) (v : W32) (t : Nat) (s : State), s.dspScope n 0x18 v → (s.dspAt n).phase = 3 ∨ (s.dspAt n).phase = 4 → max s.frame.time t ≤ (s.dspAt n).last + 100000 → some (s.dspAt n).addrs.length ≠ dspWords (s.dspAt n).cmd.toNat → exec (.envDspAddr n v t) s = .next ((s.advance t).modDsp n fun d => { d with phase := 4, addrs := d.addrs ++ [v], last := max s.frame.time t })) ∧
  (∀ (i : Instr) (n : Fin 8) (cmd : Nat) (v : W32) (t : Nat) (s : State), dspReadRow i = some (n, cmd, .register v t) → s.dspScope n 0x1C v → (s.dspAt n).phase = 4 → (s.dspAt n).cmd.toNat = cmd → max s.frame.time t ≤ (s.dspAt n).last + 100000 → some (s.dspAt n).addrs.length = dspWords cmd → s.dieFailed (dieOfWord n ((s.dspAt n).addrs.getD 0 0)) = false → exec i s = .next ((s.advance t).dspStarted n cmd (s.dspAt n).addrs v)) ∧
  (∀ (n : Fin 8) (v : W32) (t : Nat) (s : State), s.sec.unlocked = false → s.dbgUp = true → exec (.envDspKey n v t) s = .next (s.advance t) ∧ exec (.envDspCmd n v t) s = .next (s.advance t) ∧ exec (.envDspAddr n v t) s = .next (s.advance t)) ∧
  (∀ (n : Fin 8) (v : BitVec 32) (t : Nat) (s : State), exec (.envDspKey n v t) s = .next (dspWrite n.val 0x10 v t s)) ∧
  (∀ (n : Fin 8) (v : BitVec 32) (t : Nat) (s : State), exec (.envDspCmd n v t) s = .next (dspWrite n.val 0x14 v t s)) ∧
  (∀ (n : Fin 8) (v : BitVec 32) (t : Nat) (s : State), exec (.envDspAddr n v t) s = .next (dspWrite n.val 0x18 v t s))

/-- Firmware commands of a die service port, their end, and a sequence that waits too long (R298, R300, R301, R302, R304, R306). -/
def Obligations.DspCommands : Prop :=
  (∀ (i : Instr) (n : Fin 8) (cmd : Nat) (die row col data : W32) (s : State), dspReadRow i = some (n, cmd, .firmware die row col data) → s.doorOpen n cmd = true → (s.dspAt n).busy = false → (s.dspAt n).phase = 0 → s.dieFailed (dieOfWord n die) = false → exec i s = .next (s.dspStarted n cmd ([die, row, col].take ((dspWords cmd).getD 0)) data)) ∧
  (∀ (n : Fin 8) (die row : W32) (data : Bytes) (s : State), s.doorOpen n 16 = true → (s.dspAt n).busy = false → (s.dspAt n).phase = 0 → s.dieFailed (dieOfWord n die) = false → s.dieMayProgram (dieOfWord n die) .slc = true → exec (.programSlc n die row data) s = .next ((s.dspStarted n 16 [die, row] 0).modDie (dieOfWord n die) fun x => { x with op := some { code := 2, start := s.frame.time, block := blockOfRow row, job := none } })) ∧
  (∀ (n : Fin 8) (die row : W32) (fine : Bool) (data : Bytes) (s : State), s.doorOpen n 17 = true → (s.dspAt n).busy = false → (s.dspAt n).phase = 0 → s.dieFailed (dieOfWord n die) = false → (s.dieMayProgram (dieOfWord n die) (if fine then .fine else .foggy) = true) → exec (.programTlc n die row fine data) s = .next ((s.dspStarted n 17 [die, row] (if fine then 1 else 0)).modDie (dieOfWord n die) fun x => { x with op := some { code := if fine then 5 else 3, start := s.frame.time, block := blockOfRow row, job := none } })) ∧
  (∀ (n : Fin 8) (die row : W32) (s : State), s.doorOpen n 18 = true → (s.dspAt n).busy = false → (s.dspAt n).phase = 0 → s.dieFailed (dieOfWord n die) = false → exec (.erase n die row) s = .next (let t := s.dspStarted n 18 [die, row] 0; { t with media := { t.media with eraseQueue := t.media.eraseQueue ++ [(dieOfWord n die, blockOfRow row)] } })) ∧
  (∀ (n : Fin 8) (die : W32) (s : State), s.doorOpen n 19 = true → (s.dspAt n).busy = false → (s.dspAt n).phase = 0 → s.dieFailed (dieOfWord n die) = false → exec (.dieReset n die) s = .next (s.dspStarted n 19 [die] 0)) ∧
  (∀ (n : Fin 8) (die row : W32) (s : State), s.doorOpen n 18 = true → (s.dspAt n).busy = false → (s.dspAt n).phase = 0 → s.dieFailed (dieOfWord n die) = true → exec (.erase n die row) s = .next (s.modDsp n fun d => { d with phase := 0, addrs := [], err := 5 })) ∧
  (∀ (n : Fin 8) (die row : W32) (data : Bytes) (s : State), (s.dspAt n).busy = true → exec (.erase n die row) s = .next s ∧ exec (.dieReset n die) s = .next s ∧ exec (.programSlc n die row data) s = .next s) ∧
  (∀ (n : Fin 8) (page : Bytes) (u : Fin 6) (s : State), (s.dspAt n).busy = true → (s.dspAt n).cmd = 1 → exec (.dspDone n page u) s = .next (let w := s.statusWord (dieOfWord n ((s.dspAt n).addrs.getD 0 0)); (s.modDie (dieOfWord n ((s.dspAt n).addrs.getD 0 0)) fun x => { x with sw := w }).modDsp n fun d => { d with busy := false, done := true, addrs := [], sw := w }).settle) ∧
  (∀ (n : Fin 8) (page : Bytes) (u : Fin 6) (s : State), (s.dspAt n).busy = false → exec (.dspDone n page u) s = .next s.settle) ∧
  (∀ (n : Fin 8) (s : State), (s.dspAt n).phase ≠ 0 → (s.dspAt n).busy = false → exec (.dspTimeout n) s = .next ((s.advance ((s.dspAt n).last + 100001)).modDsp n fun d => { d with phase := 0, addrs := [], err := 3 })) ∧
  (∀ (n : Fin 8) (s : State), (s.dspAt n).phase = 0 ∨ (s.dspAt n).busy = true → exec (.dspTimeout n) s = .next s) ∧
  (∀ (n : Fin 8) (door : Sys2Proof.DspDoor) (s : State), exec (.readStatus n door) s = .next (dspRead n.val 1 door s)) ∧
  (∀ (n : Fin 8) (door : Sys2Proof.DspDoor) (s : State), exec (.readPage n door) s = .next (dspRead n.val 2 door s)) ∧
  (∀ (n : Fin 8) (door : Sys2Proof.DspDoor) (s : State), exec (.readCalRow n door) s = .next (dspRead n.val 3 door s)) ∧
  (∀ (n : Fin 8) (door : Sys2Proof.DspDoor) (s : State), exec (.readLevels n door) s = .next (dspRead n.val 4 door s)) ∧
  (∀ (n : Fin 8) (die row : BitVec 32) (data : Bytes) (s : State), exec (.programSlc n die row data) s = .next (let _ := data; dspProgram n.val 16 die row 0 .slc s)) ∧
  (∀ (n : Fin 8) (die row : BitVec 32) (fine : Bool) (data : Bytes) (s : State), exec (.programTlc n die row fine data) s = .next (let _ := data; dspProgram n.val 17 die row (BitVec.ofNat 32 (b2n fine)) (if fine then .fine else .foggy) s)) ∧
  (∀ (n : Fin 8) (die row : BitVec 32) (s : State), exec (.erase n die row) s = .next (if s.doorOpen n.val 18 then dspFirmware n.val 18 [die, row] 0 s else s)) ∧
  (∀ (n : Fin 8) (die : BitVec 32) (s : State), exec (.dieReset n die) s = .next (if s.doorOpen n.val 19 then dspFirmware n.val 19 [die] 0 s else s)) ∧
  (∀ (n : Fin 8) (page : Bytes) (step : Fin 6) (s : State), exec (.dspDone n page step) s = .next ((dspDone n.val page step.val s).settle)) ∧
  (∀ (n : Fin 8) (s : State), exec (.dspTimeout n) s = .next (dspTimeout n.val s))

/-- Programs, erases and reads that end, a die that times out, and learned levels (R294, R297, R304, R306, R309, R310, R338). -/
def Obligations.MediaEvents : Prop :=
  (∀ (job : Nat) (fail : Bool) (s : State) (j : ProgJob), (s.media.jobs.find? (fun j => decide (j.id = job) && j.running) = some j) → exec (.programDone job fail) s = .next (((s.passEnds j fail).countDie j.at_.die).settle)) ∧
  (∀ (job : Nat) (fail : Bool) (s : State), s.media.jobs = [] → exec (.programDone job fail) s = .next s) ∧
  (∀ (die : Fin 2048) (fail : Bool) (s : State) (o : DieOp), (s.dieAt die).op = some o → o.code = 4 → s.safe = false → exec (.eraseDone die fail) s = .next (((s.eraseEnds die fail).countDie die).settle)) ∧
  (∀ (die : Fin 2048) (fail : Bool) (s : State), (s.dieAt die).op = none → exec (.eraseDone die fail) s = .next s ∧ exec (.dieTimeout die) s = .next s) ∧
  (∀ (l : Nat) (s : State) (r : StripeRec), s.recordAt (l / 2) (s.mapAt (l / 2)) = some r → ((s.media.reads.any fun x => x.slots.contains l) = true) → s.sparReset = false → s.inHold = false → s.dieFailed r.die = false → s.dieReads r.die = true → s.parity.masks = [] → exec (.flashRead l 0) s = .next ((s.slotRead l false).settle)) ∧
  (∀ (l : Nat) (k : Fin 6) (s : State) (r : StripeRec) (q : Bool × State), s.recordAt (l / 2) (s.mapAt (l / 2)) = some r → ((s.media.reads.any fun x => x.slots.contains l) = true) → s.sparReset = false → s.inHold = false → s.dieFailed r.die = false → s.dieReads r.die = true → s.ladderOk r.die r.block k = true → q = (s.ladder r.die r.block k).staged (0xC0 + dieCtrl r.die) → exec (.flashRead l k) s = .next
    (let t := if 1 ≤ k.val ∧ k.val < 5 then q.2.corrected else q.2
     let u := if k.val = 5 ∧ t.hasCopy l = true then (t.writePart 3 false .recovery [(r.stripe, (r.unit0, r.unit1))]).2 else t
     (u.slotRead l ((decide (k.val = 5) && !t.hasCopy l) || q.1)).settle)) ∧
  (∀ (l : Nat) (k : Fin 6) (s : State) (r : StripeRec), s.recordAt (l / 2) (s.mapAt (l / 2)) = some r → ((s.media.reads.any fun x => x.slots.contains l) = false ∨ s.sparReset = true ∨ s.inHold = true) → exec (.flashRead l k) s = .next s) ∧
  (∀ (die : Fin 2048) (s : State) (o : DieOp), (s.dieAt die).op = some o → o.start + opNs o.code + 10000000 ≤ s.frame.time → exec (.dieTimeout die) s = .next ((s.dieFails die).settle)) ∧
  (∀ (die : Fin 2048) (s : State) (o : DieOp), (s.dieAt die).op = some o → s.frame.time < o.start + opNs o.code + 10000000 → exec (.dieTimeout die) s = .next s) ∧
  (∀ (die : Fin 2048) (b : Nat) (l : List (BitVec 8)) (s : State), l.length = 8 → s.dieReads die = true → s.dieFailed die = false → b < 2752 → (s.blkAt die b).state = .open_ ∨ (s.blkAt die b).state = .closed → exec (.calibrationRead die b l) s = .next (s.setLevels die b l)) ∧
  (∀ (die : Fin 2048) (b : Nat) (l : List (BitVec 8)) (s : State), l.length ≠ 8 → exec (.calibrationRead die b l) s = .fault .illFormed) ∧
  (∀ (ch : Fin 256) (second : Bool) (v : W32) (s : State), s.firmwareUp = true → s.blockAway (.env (ch.val / 32)) = false → exec (.chWaitWrite ch second v) s = .next (waitWrite ch second v s)) ∧
  (∀ (ch : Fin 256) (second : Bool) (v : BitVec 32) (s : State), exec (.chWaitWrite ch second v) s = .next (accessWrite (envAddr (ch.val / 32) (0x1000 + 0x10 * (ch.val % 32) + (if second then 8 else 4))) v s)) ∧
  (∀ (job : Nat) (fail : Bool) (s : State), exec (.programDone job fail) s = .next (programEnds job fail s)) ∧
  (∀ (die : Fin 2048) (fail : Bool) (s : State), exec (.eraseDone die fail) s = .next (eraseEnds die.val fail s)) ∧
  (∀ (slot : Nat) (step : Fin 6) (s : State), exec (.flashRead slot step) s = .next (flashReadEnds slot step.val s)) ∧
  (∀ (die : Fin 2048) (s : State), exec (.dieTimeout die) s = .next (dieTimeout die.val s)) ∧
  (∀ (die : Fin 2048) (block : Nat) (levels : List (BitVec 8)) (s : State), levels.length = 8 → exec (.calibrationRead die block levels) s = .next (calibrationRead die.val block levels s))

/-- Flush, reclamation, scrub, temperature history and the end of a controller reset (R296, R326, R330, R331, R332, R334, R341, R460). -/
def Obligations.MediaUpkeep : Prop :=
  (∀ (s : State), s.classD = true → s.media.flushFrame + 64 ≤ s.frame.num.toNat ∨ 268435456 ≤ s.media.durableBytes → exec .mediaFlush s = .next (s.flushMedia false).settle) ∧
  (∀ (s : State), s.classD = false ∨ (s.frame.num.toNat < s.media.flushFrame + 64 ∧ s.media.durableBytes < 268435456) → exec .mediaFlush s = .next s) ∧
  (∀ (die : Fin 2048) (bad : List Nat) (s : State), s.classD = true → s.freeCount die < 6 → s.media.collecting.contains die.val = false → exec (.gcStart die bad) s = .next (({ s with media := { s.media with collecting := s.media.collecting ++ [die.val] } } : State).gcBegin die bad).settle) ∧
  (∀ (die : Fin 2048) (bad : List Nat) (s : State), s.classD = false → exec (.gcStart die bad) s = .next s) ∧
  (∀ (n : Fin 8) (s : State), s.safe = false → s.powered = true → exec (.gcCommit n) s = .next ((s.media.gcs.filter fun g => decide (dieCtrl g.die = n.val) && g.flag.isNone && s.gcVerified g).foldl State.gcWriteFlag s).settle) ∧
  (∀ (die : Fin 2048) (b cw : Nat) (s : State) (r : StripeRec), s.classD = true → s.dieReads die = true → s.dieFailed die = false → (s.blkAt die b).state = .closed → (s.media.records.find? (fun r => decide (r.die = die.val) && decide (r.block = b) && decide (r.cw ≤ cw) && decide (cw < r.cw + r.ncw) && decide (s.mapAt r.stripe = r.word)) = some r) → exec (.scrub die b cw 0) s = .next s.settle) ∧
  (∀ (die : Fin 2048) (b cw : Nat) (k : Fin 6) (s : State) (r : StripeRec), s.classD = true → s.dieReads die = true → s.dieFailed die = false → (s.blkAt die b).state = .closed → (s.media.records.find? (fun r => decide (r.die = die.val) && decide (r.block = b) && decide (r.cw ≤ cw) && decide (cw < r.cw + r.ncw) && decide (s.mapAt r.stripe = r.word)) = some r) → 1 ≤ k.val ∧ k.val ≤ 4 → s.ladderOk die b k = true → exec (.scrub die b cw k) s = .next ((s.ladder die b k).corrected).settle) ∧
  (∀ (die : Fin 2048) (b cw : Nat) (s : State) (r : StripeRec), s.classD = true → s.dieReads die = true → s.dieFailed die = false → (s.blkAt die b).state = .closed → (s.media.records.find? (fun r => decide (r.die = die.val) && decide (r.block = b) && decide (r.cw ≤ cw) && decide (cw < r.cw + r.ncw) && decide (s.mapAt r.stripe = r.word)) = some r) → exec (.scrub die b cw 5) s = .next
    (let s1 := s.ladder die b 5
     let gone := (r.unitsAt (cw - r.cw)).filter fun u => !s1.hasCopy (2 * r.stripe + u)
     let t := gone.foldl (fun (s : State) u => s.markLost (2 * r.stripe + u)) s1
     let t := if gone.isEmpty then t else t.journalMap [r.stripe]
     (match t.recordAt r.stripe (t.mapAt r.stripe) with
      | none => t
      | some q => (t.writePart 3 false .recovery [(r.stripe, (q.unit0, q.unit1))]).2).settle)) ∧
  (∀ (die : Fin 2048) (b cw : Nat) (k : Fin 6) (s : State), s.classD = false → exec (.scrub die b cw k) s = .next s) ∧
  (∀ (s : State), s.powered = true → exec .tempHistSample s = .next { s with media := { s.media with health := { s.media.health with tempHist := Sparse.set 0 s.media.health.tempHist (min 63 ((s.reading 3 + 80) / 16).toNat) (satInc (Sparse.get (0 : W32) s.media.health.tempHist (min 63 ((s.reading 3 + 80) / 16).toNat))) } } }) ∧
  (∀ (n : Fin 8) (rates : List (BitVec 3)) (s : State), (s.ctrlAt n).inReset = true → exec (.envelopeControllerResetDone n rates) s = .next ((s.train n rates).modCtrl n fun k => { k with ready := true, inReset := false }).settle) ∧
  (∀ (n : Fin 8) (rates : List (BitVec 3)) (s : State), (s.ctrlAt n).inReset = false → exec (.envelopeControllerResetDone n rates) s = .next s) ∧
  (∀ (s : State), exec .mediaFlush s = .next (flushDue s)) ∧
  (∀ (die : Fin 2048) (bad : List Nat) (s : State), exec (.gcStart die bad) s = .next (gcStart die.val bad s)) ∧
  (∀ (n : Fin 8) (s : State), exec (.gcCommit n) s = .next (gcCommit n.val s)) ∧
  (∀ (die : Fin 2048) (block cw : Nat) (step : Fin 6) (s : State), exec (.scrub die block cw step) s = .next (scrub die.val block cw step.val s)) ∧
  (∀ (s : State), exec .tempHistSample s = .next (tempSample s)) ∧
  (∀ (n : Fin 8) (rates : List (BitVec 3)) (s : State), exec (.envelopeControllerResetDone n rates) s = .next (envResetEnds n.val rates s))

/-- What a lane does in training (R371, R372, R373, R374, R375, R376, R377, R378, R379). -/
def Obligations.LinkTraining : Prop :=
  (∀ (l : Fin 32) (s : State), s.portLive (l.val / 4) = true → (s.portAt (l.val / 4)).up = false → (s.laneAt l).training = false → exec (.signalDetect l) s = .next (s.modLane l fun l => { taps := if l.tuned then l.taps else preset 2, tuned := l.tuned, training := true })) ∧
  (∀ (l : Fin 32) (ctl sts : W32) (c1 c2 : W16) (q : LaneSelf) (s : State), (s.laneAt l).training = true → s.portLive (l.val / 4) = true → exec (.trainingFrame l ctl sts c1 c2 q) s = .next (s.modLane l fun x => x.frame ctl sts c1 c2 q)) ∧
  (∀ (l : Fin 32) (ctl sts : W32) (c1 c2 : W16) (q : LaneSelf) (s : State), (s.laneAt l).training = false ∨ s.portLive (l.val / 4) = false → exec (.trainingFrame l ctl sts c1 c2 q) s = .next s) ∧
  (∀ (x : Lane) (ctl sts : W32) (q : LaneSelf), 3 ≤ q.markers → q.satisfied = true → q.doneSent = true → bit sts 31 = true → (x.frame ctl sts (crc16 ctl) (crc16 sts) q).training = false ∧ (x.frame ctl sts (crc16 ctl) (crc16 sts) q).tuned = true ∧ (x.frame ctl sts (crc16 ctl) (crc16 sts) q).ctl = ctl ∧ (x.frame ctl sts (crc16 ctl) (crc16 sts) q).sts = sts) ∧
  (∀ (l : Fin 32) (s : State), (s.laneAt l).training = true → exec (.trainingTimeout l) s = .next ((s.modLane l Lane.restart).modPort (l.val / 4) fun x => { x with evt := setBit x.evt 2 true })) ∧
  (∀ (p : Fin 8) (s : State), s.loft.image = none → s.portLive p = true → (s.portAt p).up = false → exec (.trainingModeSwitch p) s = .next ((portLanes p).foldl (fun (s : State) l => s.modLane l fun l => { taps := l.taps, tuned := l.tuned }) (s.modPort p fun x => { x with mode := if x.mode = 0 then 1 else 0 }))) ∧
  (∀ (l : Fin 32) (am : BitVec 257) (e a b : Nat) (s s1 : State), (s.laneAt l).training = false → (s.laneAt l).doneSent = true → s.portLive (l.val / 4) = true → (s.portAt (l.val / 4)).mode ≠ 0 → (s.laneAt l).amSeen = 2 → (s1 = ((s.modLane l fun x => { x with cdrLock := true, amSeen := x.amSeen + 1, locked := x.locked || decide (3 ≤ x.amSeen + 1), bitErr := BitVec.ofNat 16 (min e 0xFFFF) }).modPort (l.val / 4) fun x => { x with fecCorr := satAdd x.fecCorr a, fecUncorr := satAdd x.fecUncorr b })) → exec (.alignmentMarker l am 8192 e a b) s = .next (s1.tryUp (l.val / 4))) ∧
  (∀ (l : Fin 32) (am : BitVec 257) (p e a b : Nat) (s s1 : State), (s.laneAt l).training = false → (s.laneAt l).doneSent = true → s.portLive (l.val / 4) = true → (s.portAt (l.val / 4)).mode = 0 → (s1 = ((s.modLane l fun x => if markerOk am = false then x else ({ x with cdrLock := true, amSeen := (if p = 8192 then x.amSeen + 1 else 1), locked := x.locked || decide (3 ≤ (if p = 8192 then x.amSeen + 1 else 1)), bitErr := BitVec.ofNat 16 (min e 0xFFFF), amCount := BitVec.ofNat 8 (bits am 60 53), logical := BitVec.ofNat 2 (bits am 33 32) } : Lane).requests (bits am 44 37)).modPort (l.val / 4) fun x => { x with fecCorr := satAdd x.fecCorr a, fecUncorr := satAdd x.fecUncorr b })) → exec (.alignmentMarker l am p e a b) s = .next (s1.tryUp (l.val / 4))) ∧
  (∀ (v : Fin 32) (y : Fin 6) (l : List (Fin 6)) (r : BitVec 58) (b : List Bool) (count stat req : Byte) (port : Fin 8) (lane : Fin 4), pamValue (pamOf v).1 (pamOf v).2 = some v.val ∧ unprecode y (precode y l) = l ∧ descramble r (scramble r b) = b ∧ markerOk (markerBlock count stat req port lane) = true) ∧
  (∀ (lane : Fin 32) (s : State), exec (.signalDetect lane) s = .next (signalDetect lane s)) ∧
  (∀ (lane : Fin 32) (ctl sts : W32) (crcCtl crcSts : W16) (self : LaneSelf) (s : State), exec (.trainingFrame lane ctl sts crcCtl crcSts self) s = .next (trainingFrame lane ctl sts crcCtl crcSts self s)) ∧
  (∀ (lane : Fin 32) (s : State), exec (.trainingTimeout lane) s = .next (trainingTimeout lane s)) ∧
  (∀ (p : Fin 8) (s : State), exec (.trainingModeSwitch p) s = .next (modeSwitch p s)) ∧
  (∀ (lane : Fin 32) (am : BitVec 257) (pairs bitErr corr uncorr : Nat) (s : State), exec (.alignmentMarker lane am pairs bitErr corr uncorr) s = .next (alignmentMarker lane am pairs bitErr corr uncorr s))

/-- Ports that fall and train again, and the rules of a queue pair (R354, R370, R380, R384, R387, R388, R389). -/
def Obligations.PortsAndQueuePairs : Prop :=
  (∀ (p : Fin 8) (k : Fin 4) (s : State), (s.portAt p).up = true → exec (.portDown p k) s = .next (s.portLost p).settle) ∧
  (∀ (p : Fin 8) (k : Fin 4) (s : State), (s.portAt p).up = false → exec (.portDown p k) s = .next s ∧ exec (.addressAcquired p) s = .next s) ∧
  (∀ (p : Fin 8) (s : State), s.portUse p = true → s.firmwareUp = true → (s.portAt p).squelched = false → (s.portAt p).up = false → s.Shape → exec (.portRetrain p) s = .next ((portLanes p).foldl (fun (s : State) l => s.modLane l fun x => if x.training then x else x.restart) (s.modPort p fun x => { x with inReset := false }))) ∧
  (∀ (l : Fin 32) (s : State), (s.portAt (l.val / 4)).up = true → (s.portAt (l.val / 4)).mode = 0 → exec (.fecDegrade l) s = .next ((s.modPort (l.val / 4) fun x => { x with degrade := true }).portEvent (l.val / 4) 3)) ∧
  (∀ (p : Fin 8) (s : State), (s.portAt p).up = true → exec (.addressAcquired p) s = .next (s.modPort p fun x => { x with addr := true })) ∧
  (∀ (p : Fin 8) (v : W32) (s : State), s.firmwareUp = true → s.blockAway (.tet p) = false → exec (.tetEvtClr p v) s = .next (s.modPort p fun x => { x with evt := clearBits x.evt (v.setWidth 4) })) ∧
  (∀ (n : Nat) (s : State), exec (.congestionNotification n) s = .next (s.modQp n fun q => { q with rate := q.rate / 2 })) ∧
  (∀ (n : Nat) (s : State), exec (.rateRaise n) s = .next (s.modQp n fun q => { q with rate := min (s.lineRate q.port) (q.rate + s.lineRate q.port / 20) })) ∧
  (∀ (n : Nat) (s : State) (q : QueuePair), s.qpFor n = some q → q.exhausted s.frame.time = false → exec (.ackTimeout n) s = .next (s.modQp n fun q' => if q.retries = 0 ∨ q.since + 1024000 < s.frame.time then { q' with retries := 1, since := s.frame.time } else { q' with retries := q'.retries + 1 })) ∧
  (∀ (n : Nat) (s : State) (q : QueuePair), s.qpFor n = some q → q.exhausted s.frame.time = true → q.ctrl = none → exec (.ackTimeout n) s = .next (let t := match q.peer with | some r => s.lostOn r q.net (s.frame.time - 1152000) | none => s; { t with tether := { t.tether with qps := t.tether.qps.filter fun x => !decide (x.num = n) } })) ∧
  (∀ (n : Nat) (s : State), s.qpFor n = none → exec (.ackTimeout n) s = .next s) ∧
  (∀ (p : Fin 8) (eg : Bool) (seq : W16) (t : Nat) (s : State), (s.portAt p).up = true → exec (.ptpEventMessage p eg seq t) s = .next (let u := s.advance t; { u with tether := { u.tether with stamps := u.tether.stamps ++ [{ port := p, egress := eg, seq := seq, time := t }] } })) ∧
  (∀ (p : Fin 8) (lane : Fin 4) (s : State), exec (.portDown p lane) s = .next (let _ := lane; portFalls p.val s)) ∧
  (∀ (p : Fin 8) (s : State), exec (.portRetrain p) s = .next (portRetrain p s)) ∧
  (∀ (lane : Fin 32) (s : State), exec (.fecDegrade lane) s = .next (fecDegrade lane s)) ∧
  (∀ (p : Fin 8) (s : State), exec (.addressAcquired p) s = .next (addressAcquired p s)) ∧
  (∀ (qp : Nat) (s : State), exec (.ackTimeout qp) s = .next (ackTimeout qp s)) ∧
  (∀ (p : Fin 8) (egress : Bool) (seq : W16) (t : Nat) (s : State), exec (.ptpEventMessage p egress seq t) s = .next (ptpStamp p egress seq t s)) ∧
  (∀ (p : Fin 8) (v : BitVec 32) (s : State), exec (.tetEvtClr p v) s = .next (accessWrite (0x03000000 + p.val * 0x10000 + 0x54) v s))

/-- Discovery, beacons, and how a worker comes into the group (R390, R391, R392, R394, R395, R396, R397, R398). -/
def Obligations.GroupJoin : Prop :=
  (∀ (net : Fin 2) (b : Bytes) (s : State), s.phase = .up → s.nvOk b nvDiscover = true → s.netUp net = true → exec (.discover net b) s = .next (s.nv net nvHello (nvSrc b) s.helloBody)) ∧
  (∀ (net : Fin 2) (b : Bytes) (s : State), s.nvOk b nvDiscover = false → s.nvOk b nvHello = false → exec (.discover net b) s = .next s ∧ exec (.hello net b) s = .next s) ∧
  (∀ (net : Fin 2) (b : Bytes) (s : State), s.nvOk b nvHello = true → ∃ t d, exec (.hello net b) s = .next t ∧ d ∈ t.group.discovered ∧ d.net = net.val ∧ d.uid = slice b 0x40 16 ∧ d.level = leNat b 0x50 2 ∧ d.rank = leNat b 0x56 2 ∧ d.groupId = leNat b 0x60 8 ∧ t.group.members = s.group.members) ∧
  (∀ (net : Fin 2) (b : Bytes) (t : Nat) (s : State), s.phase = .up → s.nvOk b nvBeacon = false → exec (.beacon net b t) s = .next (s.advance t).settle) ∧
  (∀ (net : Fin 2) (b : Bytes) (t : Nat) (s : State), s.phase = .up → s.nvOk b nvBeacon = true → slice b 0x40 16 ≠ s.gondola.uid → s.group.act = 0 → s.group.state = 0 → s.group.admission = none → (s.loft.image.any (fun i => decide (i.src = 2)) = false) → exec (.beacon net b t) s = .next ({ (s.advance t) with frame := { (s.advance t).frame with sinceBeacon := 0 }, group := { s.group with
      heardA := if net.val = 0 then some s.frame.num.toNat else s.group.heardA, heardB := if net.val = 1 then some s.frame.num.toNat else s.group.heardB, beaconFrame := some (nvFrame b)
      noBeacon := false, asking := false, votes := [], elected := false, managerRank := nvSrc b, managerUid := slice b 0x40 16
      level := leNat b 0x5A 2, schema := leNat b 0x5C 2, expected := leNat b 0x5E 2, quorum := leNat b 0x60 2, deputy := leNat b 0x62 2, running := decide (leNat b 0x64 1 = 1) } } : State).settle) ∧
  (∀ (net : Fin 2) (b : Bytes) (s : State) (j : JoinReq), s.inService → s.nvOk b nvJoin = true → s.isManager = true → s.group.duplicate = false → j = { rank := leNat b 0x50 2, uid := slice b 0x40 16, level := leNat b 0x52 2, schema := leNat b 0x54 2, period := leNat b 0x56 2, epoch := nvEpoch b, last := leNat b 0x58 8, time := s.frame.time, net := net.val } → s.joinReject j = none → s.memberRanks.contains j.rank = false → exec (.join net b) s = .next (s.modGroup fun g => { g with joins := (g.joins.filter fun x => decide (x.rank ≠ j.rank)) ++ [j] }).settle) ∧
  (∀ (net : Fin 2) (b : Bytes) (s : State) (j : JoinReq) (r : Nat), s.inService → s.nvOk b nvJoin = true → s.isManager = true → s.group.duplicate = false → j = { rank := leNat b 0x50 2, uid := slice b 0x40 16, level := leNat b 0x52 2, schema := leNat b 0x54 2, period := leNat b 0x56 2, epoch := nvEpoch b, last := leNat b 0x58 8, time := s.frame.time, net := net.val } → s.joinReject j = some r → exec (.join net b) s = .next (s.nv net nvReject j.rank (toLe r 1 ++ List.replicate 7 0)).settle) ∧
  (∀ (s : State) (t : Nat), s.inService → s.group.lastJoin = some t → s.group.state = 2 → s.group.admission = none → t + 500000000 ≤ s.frame.time → s.netUp 0 = true → s.netUp 1 = true → exec .joinRetry s = .next s.sendJoin.settle) ∧
  (∀ (net : Fin 2) (b : Bytes) (s : State), s.inService → s.nvOk b nvAdmit = true → leNat b 0x40 2 = s.rank → s.group.state = 2 → exec (.admitMsg net b) s = .next (s.modGroup fun g => { g with deputy := leNat b 0x42 2, level := leNat b 0x44 2, schema := leNat b 0x46 2, quorum := leNat b 0x48 2, admission := some { stepFrame := leNat b 0x50 6, declared := decide (leNat b 0x4A 1 = 1), members := readMap b 0x58, handback := leNat b 0xD8 6 } }).settle) ∧
  (∀ (net : Fin 2) (b : Bytes) (s : State), s.inService → s.nvOk b nvReject = true → s.group.state = 2 → exec (.reject net b) s = .next (s.modGroup fun g => { g with state := 0, rejected := true, lastJoin := none, admission := none }).settle) ∧
  (∀ (b : Bytes) (s : State) (m : Member), s.inService → s.nvOk b nvReady = true → s.isManager = true → m ∈ s.group.members → m.rank = nvSrc b → m.ready = false → s.group.places = [] → exec (.ready b) s = .next ((s.modMember (nvSrc b) fun m => { m with ready := true, lastStatus := s.frame.num.toNat }).openPeer (nvSrc b)).settle) ∧
  (∀ (r : BitVec 16) (s : State) (m : Member), s.inService → s.isManager = true → m ∈ s.group.members → m.rank = r.toNat → m.ready = false → m.admittedAt + 500000000 ≤ s.frame.time → exec (.readyTimeout r) s = .next ((s.modGroup fun g => { g with members := g.members.filter fun m => decide (m.rank ≠ r.toNat) }).closePeer r.toNat).settle) ∧
  (∀ (r : BitVec 16) (s : State), s.inService → s.isManager = true → s.group.running = true → s.group.runningAt + 20000000000 ≤ s.frame.time → r.toNat < s.group.expected → s.memberRanks.contains r.toNat = false → s.group.failed.contains r.toNat = false → s.group.causes = [] → exec (.admissionDeadline r) s = .next (s.modGroup fun g => { g with causes := [(r.toNat, 5)] }).settle) ∧
  (∀ (s : State), 16 ≤ s.frame.sinceBeacon → s.isManager = false → s.bare = false → exec .noBeacon s = .next (s.modGroup fun g => { g with noBeacon := true })) ∧
  (∀ (net : Fin 2) (msg : Bytes) (s : State), exec (.discover net msg) s = .next (discoverIn net.val msg s)) ∧
  (∀ (net : Fin 2) (msg : Bytes) (s : State), exec (.hello net msg) s = .next (helloIn net.val msg s)) ∧
  (∀ (net : Fin 2) (msg : Bytes) (t : Nat) (s : State), exec (.beacon net msg t) s = .next (if s.phase = .up then (beaconIn net.val msg t s).settle else s)) ∧
  (∀ (net : Fin 2) (msg : Bytes) (s : State), exec (.join net msg) s = .next (serving (joinIn net.val msg) s)) ∧
  (∀ (s : State), exec .joinRetry s = .next (serving joinRetry s)) ∧
  (∀ (net : Fin 2) (msg : Bytes) (s : State), exec (.admitMsg net msg) s = .next (let _ := net; serving (admitIn msg) s)) ∧
  (∀ (net : Fin 2) (msg : Bytes) (s : State), exec (.reject net msg) s = .next (let _ := net; serving (rejectIn msg) s)) ∧
  (∀ (msg : Bytes) (s : State), exec (.ready msg) s = .next (serving (readyIn msg) s)) ∧
  (∀ (rank : BitVec 16) (s : State), exec (.readyTimeout rank) s = .next (serving (readyTimeout rank.toNat) s)) ∧
  (∀ (rank : BitVec 16) (s : State), exec (.admissionDeadline rank) s = .next (serving (admissionDeadline rank.toNat) s)) ∧
  (∀ (s : State), exec .noBeacon s = .next (noBeacon s))

/-- Status, declarations of failure, levels and a takeover by vote (R392, R407, R408, R414, R418). -/
def Obligations.GroupWatch : Prop :=
  (∀ (net : Fin 2) (b : Bytes) (s : State), s.inService → s.nvOk b nvStatus = true → s.isManager = true → bit (byteAt b 0x41) 0 = false → exec (.status net b) s = .next (s.modMember (nvSrc b) fun m => { m with lastStatus := s.frame.num.toNat, safe := false, drained := bit (byteAt b 0x41) 1, freeContexts := leNat b 0x42 2, freeGroups := leNat b 0x48 8 }).settle) ∧
  (∀ (net : Fin 2) (b : Bytes) (s : State), s.inService → s.nvOk b nvStatus = true → s.isManager = true → bit (byteAt b 0x41) 0 = true → s.memberRanks.contains (nvSrc b) = true → s.group.causes = [] → exec (.status net b) s = .next ((s.modMember (nvSrc b) fun m => { m with lastStatus := s.frame.num.toNat, safe := true, drained := bit (byteAt b 0x41) 1, freeContexts := leNat b 0x42 2, freeGroups := leNat b 0x48 8 }).modGroup fun g => { g with causes := [(nvSrc b, 2)] }).settle) ∧
  (∀ (r : BitVec 16) (s : State) (m : Member), s.inService → s.isManager = true → m ∈ s.group.members → m.rank = r.toNat → m.ready = true → r.toNat ≠ s.rank → m.lastStatus + 16 ≤ s.frame.num.toNat → s.group.causes = [] → exec (.statusTimeout r) s = .next (s.modGroup fun g => { g with causes := [(r.toNat, 1)] }).settle) ∧
  (∀ (b : Bytes) (s : State), s.nvOk b nvFail = true → s.inGroup = true → exec (.failMsg b) s = .next ((s.modGroup fun g => { g with members := g.members.filter fun m => decide (m.rank ≠ leNat b 0x40 2), failed := if g.failed.contains (leNat b 0x40 2) then g.failed else g.failed ++ [leNat b 0x40 2] }).closePeer (leNat b 0x40 2)).settle) ∧
  (∀ (b : Bytes) (s : State), s.inService → s.nvOk b nvLevel = true → s.isManager = false → s.inGroup = true → exec (.level b) s = .next (if bit (byteAt b 0x44) 0 = true then s.modGroup fun g => { g with pendLevel := 0, pendSchema := 0, pendFrame := 0 } else s.modGroup fun g => { g with pendLevel := leNat b 0x40 2, pendSchema := leNat b 0x42 2, pendFrame := leNat b 0x48 6 }).settle) ∧
  (∀ (b : Bytes) (s : State), s.inService → s.nvOk b nvTakeover = true → s.inGroup = true → s.isManager = false → exec (.takeover b) s = .next (s.nvTo nvVote (nvSrc b) (slice b 0x40 4 ++ toLe (b2n (decide (16 ≤ s.frame.sinceBeacon))) 1 ++ List.replicate 3 0)).settle) ∧
  (∀ (b : Bytes) (s : State), s.inService → s.nvOk b nvVote = true → s.group.asking = true → leNat b 0x40 4 = s.group.round → leNat b 0x44 1 = 1 → s.group.votes.contains (nvSrc b) = false → exec (.vote b) s = .next (s.modGroup fun g => { g with votes := g.votes ++ [nvSrc b], elected := decide (g.quorum ≤ g.votes.length + 1) }).settle) ∧
  (∀ (b : Bytes) (s : State), s.inService → s.nvOk b nvVote = false ∨ s.group.asking = false ∨ s.group.votes.contains (nvSrc b) = true → exec (.vote b) s = .next s.settle) ∧
  (∀ (s : State), s.inService → s.group.asking = true → s.group.elected = false → s.group.askAt + 64 ≤ s.frame.num.toNat → exec .takeoverTimeout s = .next (s.modGroup fun g => { g with asking := false, votes := [], askAt := s.frame.num.toNat + 64 }).settle) ∧
  (∀ (net : Fin 2) (msg : Bytes) (s : State), exec (.status net msg) s = .next (let _ := net; serving (statusIn msg) s)) ∧
  (∀ (rank : BitVec 16) (s : State), exec (.statusTimeout rank) s = .next (serving (statusTimeout rank.toNat) s)) ∧
  (∀ (msg : Bytes) (s : State), exec (.failMsg msg) s = .next ((failIn msg s).settle)) ∧
  (∀ (msg : Bytes) (s : State), exec (.level msg) s = .next (serving (levelIn msg) s)) ∧
  (∀ (msg : Bytes) (s : State), exec (.takeover msg) s = .next (serving (takeoverIn msg) s)) ∧
  (∀ (msg : Bytes) (s : State), exec (.vote msg) s = .next (serving (voteIn msg) s)) ∧
  (∀ (s : State), exec .takeoverTimeout s = .next (serving takeoverTimeout s))

/-- Placement changes, copies, their acknowledgements, and journals (R249, R400, R401, R403, R404, R405, R406). -/
def Obligations.PlacementMessages : Prop :=
  (∀ (b : Bytes) (s : State), s.takes b nvPlace = true → s.isManager = false → leNat b 0x40 4 = 0 → leNat b 0x44 2 = 0 → exec (.place b) s = .next (s.modGroup fun g => { g with placeIn := g.placeIn ++ [(nvEpoch b, [])] }).settle) ∧
  (∀ (b : Bytes) (s : State), s.takes b nvPlace = false → s.takes b nvPlaceAck = false → s.takes b nvCopy = false → s.takes b nvCopyAck = false → s.takes b nvJournal = false → s.takes b nvJournalAck = false → exec (.place b) s = .next s ∧ exec (.placeAck b) s = .next s ∧ exec (.copy b) s = .next s ∧ exec (.copyAck b) s = .next s ∧ exec (.journal b) s = .next s ∧ exec (.journalAck b) s = .next s) ∧
  (∀ (b : Bytes) (s : State) (o : PlaceOut), s.takes b nvPlaceAck = true → s.group.placesOut = [o] → o.epoch = nvEpoch b → o.released = true → exec (.placeAck b) s = .next (s.modGroup fun g => { g with placesOut := if (o.waiting.filter fun r => decide (r ≠ nvSrc b)).isEmpty then [] else [{ o with waiting := o.waiting.filter fun r => decide (r ≠ nvSrc b) }] }).settle) ∧
  (∀ (s : State), s.inService → s.isManager = true → s.group.running = true → s.groupFrame.toNat % 64 = 0 → exec .placementRetry s = .next (s.assignAll fun p => !p.gone).settle) ∧
  (∀ (b : Bytes) (s : State), s.takes b nvCopy = true → leNat b 0x40 1 = 0 ∨ 3 < leNat b 0x40 1 → exec (.copy b) s = .next (s.nvTo nvCopyAck (nvSrc b) (slice b 0x58 8 ++ slice b 0x60 8 ++ toLe 3 1 ++ List.replicate 7 0)).settle) ∧
  (∀ (b : Bytes) (s : State) (n kind : Nat) (p : Place), s.takes b nvCopy = true → leNat b 0x40 1 = kind ∧ 1 ≤ kind ∧ kind ≤ 3 → leNat b 0x68 4 = n → (leNat b 0x6C 4 = 0 ∨ ((slice b (leNat b 0x6C 4) (b.length - leNat b 0x6C 4)).all fun x => decide (x = 0)) = true) → (p = { kind := if kind = 1 then (if leNat b 0x54 4 = 0 then 5 else 1) else kind, serving := 0, home := nvSrc b, shadow1 := s.rank, shadow2 := 0xFFFF, key1 := le 64 b 0x48, key2 := le 32 b 0x50, version := le 32 b 0x54, epoch := 0 }) → (∀ q, s.placeOf p = some q → q.names s.rank = true) → s.hasTenant (leNat b 0x44 4) = true → s.fits (leNat b 0x44 4) 2 (units n) = true → exec (.copy b) s = .next (if kind ≠ 1 then (copyIn b n kind p s).nvTo nvCopyAck (nvSrc b) (slice b 0x58 8 ++ slice b 0x60 8 ++ toLe 0 1 ++ List.replicate 7 0) else if bit (byteAt b 0x41) 0 = true then (copyIn b n kind p s).storeHeld p (copyHeld b n kind p s) else copyIn b n kind p s).settle) ∧
  (∀ (b : Bytes) (s : State) (c : CopyOut), s.takes b nvCopyAck = true → s.group.copies = [c] → c.copyId = leNat b 0x40 8 → c.toRank = nvSrc b → c.ofs = leNat b 0x48 8 → leNat b 0x50 1 = 0 → exec (.copyAck b) s = .next ((({ s with group := { s.group with copies := [] } } : State).landed c.copyId).copyDone c).settle) ∧
  (∀ (k : BitVec 64) (s : State), s.inService → ((s.group.copies.all fun (c : CopyOut) => decide (c.copyId ≠ k.toNat) || decide (s.frame.num.toNat < c.sent + 64)) = true) → exec (.mirrorAckTimeout k) s = .next s.settle) ∧
  (∀ (k : BitVec 64) (s : State) (c : CopyOut), s.inService → s.group.copies = [c] → c.copyId = k.toNat → c.sent + 64 ≤ s.frame.num.toNat → c.kind = 2 → c.for_ ≠ .shadow → c.for_ ≠ .mirrorFull → s.group.places = [] → exec (.mirrorAckTimeout k) s = .next (({ s with group := { s.group with copies := [] } } : State).modNs (nsidOf c.key1) fun n => { n with mirrors := n.mirrors.filter fun r => decide (r ≠ c.toRank) }).settle) ∧
  (∀ (b : Bytes) (s : State), s.takes b nvJournal = true → (leNat b 0x42 2).testBit 1 = true → (b.length = 0x60 + (if (leNat b 0x42 2).testBit 2 then 128 else 0)) → exec (.journal b) s = .next ({ s with group := { s.group with journals := s.group.journals.filter fun j => !(decide (j.home = leNat b 0x40 2) && decide (j.handle = le 32 b 0x44)) } } : State).settle) ∧
  (∀ (b : Bytes) (s : State) (i : Nat), s.takes b nvJournalAck = true → s.ctxIndex (le 32 b 0x44) = some i → leNat b 0x40 2 = s.rank → nvSrc b = (s.ctxAt i).buddy → byteAt b 0x4C = 0 → exec (.journalAck b) s = .next ((((s.modCtx i fun c => { c with journaled := min c.length (max c.journaled (leNat b 0x48 4)) }).finishOpen i).releaseTokens i).settleBatch i).settle) ∧
  (∀ (msg : Bytes) (s : State), exec (.place msg) s = .next (if s.takes msg nvPlace then (s.takePlace msg).settle else s)) ∧
  (∀ (msg : Bytes) (s : State), exec (.placeAck msg) s = .next (if s.takes msg nvPlaceAck then (s.takePlaceAck msg).settle else s)) ∧
  (∀ (s : State), exec .placementRetry s = .next (serving placementRetry s)) ∧
  (∀ (msg : Bytes) (s : State), exec (.copy msg) s = .next (if s.takes msg nvCopy then (s.takeCopy msg).settle else s)) ∧
  (∀ (msg : Bytes) (s : State), exec (.copyAck msg) s = .next (if s.takes msg nvCopyAck then (s.takeCopyAck msg).settle else s)) ∧
  (∀ (copyId : BitVec 64) (s : State), exec (.mirrorAckTimeout copyId) s = .next (serving (mirrorTimeout copyId) s)) ∧
  (∀ (msg : Bytes) (s : State), exec (.journal msg) s = .next (if s.takes msg nvJournal then (s.takeJournal msg).settle else s)) ∧
  (∀ (msg : Bytes) (s : State), exec (.journalAck msg) s = .next (if s.takes msg nvJournalAck then (s.takeJournalAck msg).settle else s))

/-- Queries from the manager, answers, location and draining (R411, R416, R419). -/
def Obligations.GroupRequests : Prop :=
  (∀ (b : Bytes) (s : State), s.inService → s.nvOk b nvQuery = true → s.inGroup = true → s.search.shards = [] → exec (.novzeowQuery b) s = .next (s.nvTo nvAnswer (nvSrc b) (slice b 0x40 8 ++ toLe 2 2 ++ toLe 0 2 ++ toLe 0 4 ++ List.replicate 64 0)).settle) ∧
  (∀ (b : Bytes) (s : State) (x : Shard) (q : QueryParams) (l : List (Shard × Option Nat × Bool)), s.inService → s.nvOk b nvQuery = true → s.inGroup = true → readQuery (queryBlock b) = q → queryOk (queryBlock b) q = true → ((s.search.shards.filter fun x => decide (x.index = q.index) && ((upTo (leNat b 0x58 2)).map fun i => le 16 b (0x60 + 2 * i)).contains x.shard && decide (x.tenant = leNat b 0x54 4)) = [x]) → x.state = 1 → q.given = true ∨ q.vec.length = q.vecLen x → s.fits (leNat b 0x54 4) 1 (units (65536 + 8 * q.budget)) = true → s.queryFilters (leNat b 0x54 4) q true [x] = some l → exec (.novzeowQuery b) s = .next (s.beginQuery { ctrl := 0xFFFF, sq := BitVec.ofNat 16 (nvSrc b), cid := BitVec.ofNat 16 (leNat b 0x40 8) } (leNat b 0x54 4) q l (some (le 64 b 0x40)) (some (nvSrc b)) [] (leNat b 0x48 6)).settle) ∧
  (∀ (b : Bytes) (s : State) (q : Query), s.inService → s.nvOk b nvAnswer = true → (s.search.queries.find? (fun q => decide (q.groupId = some (le 64 b 0x40)) && q.answerTo.isNone && q.awaiting.contains (nvSrc b)) = some q) → leNat b 0x48 2 ≠ 0 → q.asked = [(nvSrc b, 3)] → ∃ t : Query → Query, exec (.answer b) s = .next (s.modQuery q.id t).settle ∧ (t q).awaiting = (q.awaiting.filter fun r => decide (r ≠ nvSrc b)) ∧ (t q).answers = q.answers ∧ (t q).missing = q.missing + 3) ∧
  (∀ (b : Bytes) (s : State), s.inService → s.search.queries = [] → exec (.answer b) s = .next s.settle) ∧
  (∀ (net : Fin 2) (b : Bytes) (s : State), s.inService → s.nvOk b nvLocate = true → s.isManager = true → s.group.relocs = [] → s.group.places = [] → exec (.locate net b) s = .next (s.nv net nvLocation 0xFFFF (locationBody 3 (leNat b 0x40 1) 0xFFFF 0 0 (le 32 b 0x44) (le 64 b 0x48))).settle) ∧
  (∀ (net : Fin 2) (b : Bytes) (s : State), s.inService → s.nvOk b nvDrain = true → s.isManager = true → s.group.drain.isSome = true ∨ (leNat b 0x40 2 ≠ s.rank ∧ s.able (leNat b 0x40 2) = false) → exec (.drain net b) s = .next (s.nv net nvDrainDone 0xFFFF (toLe (leNat b 0x40 2) 2 ++ toLe (if s.group.drain.isSome then 2 else 1) 1 ++ List.replicate 5 0)).settle) ∧
  (∀ (net : Fin 2) (b : Bytes) (s : State), s.inService → s.nvOk b nvDrain = true → s.isManager = true → s.group.drain = none → leNat b 0x40 2 ≠ s.rank → s.able (leNat b 0x40 2) = true → exec (.drain net b) s = .next ((s.modGroup fun g => { g with drain := some { rank := leNat b 0x40 2, net := net } }).nvTo nvPlace (leNat b 0x40 2) (placeBody 1 [])).settle) ∧
  (∀ (r : BitVec 16) (s : State) (d : Drain) (m : Member), s.inService → s.group.drain = some d → s.isManager = true → d.rank = r.toNat → m ∈ s.group.members → m.rank = r.toNat → m.drained = true → exec (.drainDone r) s = .next ((s.nv d.net nvDrainDone 0xFFFF (toLe r.toNat 2 ++ toLe 0 1 ++ List.replicate 5 0)).modGroup fun g => { g with drain := none }).settle) ∧
  (∀ (msg : Bytes) (s : State), exec (.novzeowQuery msg) s = .next (serving (queryIn msg) s)) ∧
  (∀ (msg : Bytes) (s : State), exec (.answer msg) s = .next (serving (answerIn msg) s)) ∧
  (∀ (net : Fin 2) (msg : Bytes) (s : State), exec (.locate net msg) s = .next (serving (locateIn net.val msg) s)) ∧
  (∀ (net : Fin 2) (msg : Bytes) (s : State), exec (.drain net msg) s = .next (serving (drainIn net.val msg) s)) ∧
  (∀ (rank : BitVec 16) (s : State), exec (.drainDone rank) s = .next (serving (drainDone rank.toNat) s))

/-- Fault reports by class, the quiet period, a parity error of the Drogue, and captures (R425, R426, R427, R429, R431, R433, R434, R435, R436, R437). -/
def Obligations.FaultReports : Prop :=
  (∀ (f : FaultIn) (s : State), s.powered = true → sourceClass f.source = some .corrected → exec (.faultReport f) s = .next ({ s with drogue := { s.drogue with cntCorr := satInc s.drogue.cntCorr } } : State).settle) ∧
  (∀ (f : FaultIn) (s : State), s.powered = true → sourceClass f.source = some .deferred → s.drogue.first.valid = false → exec (.faultReport f) s = .next ({ s with drogue := { s.drogue with cntDefer := satInc s.drogue.cntDefer, first := captureOf f .deferred s.frame.time s.frame.num } } : State).settle) ∧
  (∀ (f : FaultIn) (s : State), s.powered = true → sourceClass f.source = some .localFatal → f.source ≠ 0x03 → s.safe = false → s.drogue.locals = [] → exec (.faultReport f) s = .next (((s.modDrogue fun d => { d with locals := [(f.master, s.frame.time)] }).record .localFatal f).act (localAct f)).settle) ∧
  (∀ (f : FaultIn) (s : State), s.powered = true → f.source = 0x03 → s.safe = true → s.drogue.waiting = [] → exec (.faultReport f) s = .next ((s.record .localFatal f).modDrogue fun d => { d with exiting := false, waiting := [.tileWithheld (f.master.toNat % 64)] }).restartQuiet.settle) ∧
  (∀ (f : FaultIn) (s : State), s.powered = true → sourceClass f.source = some .moduleFatal → f.source ≠ 0x15 → s.drogue.state = 0 → s.recentExits < 4 → exec (.faultReport f) s = .next (((s.record .moduleFatal f).modDrogue fun d => { d with state := if f.source = 0x09 then 2 else 1, self := decide (f.source = 0x14), entrySource := f.source }).stopForSafe.restartQuiet).settle) ∧
  (∀ (f : FaultIn) (s : State), s.powered = true → sourceClass f.source = some .moduleFatal → f.source ≠ 0x15 → s.drogue.state ≠ 0 → exec (.faultReport f) s = .next (((s.record .moduleFatal f).modDrogue fun d => { d with exiting := false, state := if f.source = 0x09 then 2 else s.drogue.state }).restartQuiet).settle) ∧
  (∀ (f : FaultIn) (s : State), s.powered = true → f.source = 0x15 → exec (.faultReport f) s = .next ((s.record .moduleFatal f).resetModule 4).settle) ∧
  (∀ (f : FaultIn) (s : State), sourceClass f.source = none → exec (.faultReport f) s = .fault .illFormed) ∧
  (∀ (s : State) (t : Nat), s.drogue.state = 1 → s.drogue.exiting = false → s.supplyBad = false → s.sparReset = false → s.drogue.quietFrom = some t → t + s.quietNs ≤ s.frame.time → exec .quietPeriodEnd s = .next (beginSparReset (s.modDrogue fun d => { d with exiting := true })).settle) ∧
  (∀ (s : State) (t : Nat), s.drogue.quietFrom = some t → s.drogue.state ≠ 1 ∨ s.supplyBad = true ∨ s.frame.time < t + s.quietNs → exec .quietPeriodEnd s = .next s.settle) ∧
  (∀ (s : State), s.powered = true → s.safe = true → exec .drogueParityError s = .next ({ s with drogue := { state := 1, self := true, entrySource := 0x14, first := captureOf (mkFault 0x14 0x0C00) .moduleFatal s.frame.time s.frame.num, fatal := captureOf (mkFault 0x14 0x0C00) .moduleFatal s.frame.time s.frame.num, cntFatal := 1, waiting := s.drogue.waiting, hbTime := s.drogue.hbTime } } : State).restartQuiet.settle) ∧
  (∀ (s : State) (v : BitVec 32), s.firmwareUp = true → exec (.drgCapClr v) s = .next { s with drogue := { s.drogue with
      first := if bit v 0 = true then {} else s.drogue.first, firstMore := if bit v 0 = true then 0 else s.drogue.firstMore
      fatal := if bit v 1 = true then {} else s.drogue.fatal, fatalMore := if bit v 1 = true then 0 else s.drogue.fatalMore } }) ∧
  (∀ (f : FaultIn) (s : State), (sourceClass f.source).isSome → exec (.faultReport f) s = .next (if s.powered then (s.fault f).settle else s)) ∧
  (∀ (s : State), exec .quietPeriodEnd s = .next ((quietEnds s).settle)) ∧
  (∀ (s : State), exec .drogueParityError s = .next (if s.powered then (drogueParity s).settle else s)) ∧
  (∀ (v : BitVec 32) (s : State), exec (.drgCapClr v) s = .next (accessWrite 0x04000004 v s))

/-- Heartbeats, the watches over the cores, and blocks whose reset ends (R437, R428, R423, R460, R244). -/
def Obligations.HeartbeatsAndRestarts : Prop :=
  (∀ (s : State) (v : BitVec 32) (n : Nat) (k : Core), s.firmwareUp = true → n < 4 → (bits v 2 0) = n → s.gondola.cores[n]? = some k → k.restarting = false → Sparse.get (0 : W32) s.parity.masks (0xB8 + n) = 0 → exec (.drgHb (BitVec.ofNat 16 n) v) s = .next ({ s with drogue := { s.drogue with hbTime := setAt s.drogue.hbTime n s.frame.time, hbSeen := setBit s.drogue.hbSeen n true }, gondola := { s.gondola with cores := s.gondola.cores.set n { k with watchOff := false } } } : State).settle) ∧
  (∀ (s : State) (m : BitVec 16) (v : BitVec 32), s.firmwareUp = true → m.toNat ≠ bits v 2 0 ∨ 4 < bits v 2 0 → exec (.drgHb m v) s = .next s.settle) ∧
  (∀ (core : Fin 5) (s : State), core.val < 4 → s.firmwareUp = true → (s.coreAt core.val).halted = false → (s.coreAt core.val).watchOff = false → s.drogue.hbTime.getD core.val 0 + 10000000 ≤ s.frame.time → exec (.heartbeatMiss core) s = .next (s.report_ (mkFault 0x0E core.val 5)).settle) ∧
  (∀ (s : State), s.firmwareUp = true → s.drogue.hbTime.getD 4 0 + 10000000 ≤ s.frame.time → exec (.heartbeatMiss 4) s = .next (s.moduleFatal (mkFault 0x0F 4 5)).settle) ∧
  (∀ (core : Fin 5) (s : State), (s.coreAt core.val).watchOff = false → s.frame.time < s.drogue.hbTime.getD core.val 0 + 10000000 → exec (.heartbeatMiss core) s = .next s.settle) ∧
  (∀ (s : State), s.coresSilent = true → exec .managementWatchdog s = .next ((s.record .moduleFatal (mkFault 0x15 0x0C00 5)).resetModule 4)) ∧
  (∀ (s : State), s.coresSilent = false → exec .managementWatchdog s = .next s) ∧
  (∀ (s : State) (c : Fin 8) (k : Cluster), s.clusters[c.val]? = some k → exec (.clusterResetDone c) s = .next { s with clusters := s.clusters.set c.val { k with inReset := false } }) ∧
  (∀ (s : State), s.bridle.inReset = true → exec .bridleResetDone s = .next { s with bridle := { s.bridle with inReset := false, unanswered := s.bridle.unanswered.map fun (d : Dispatch) => { d with resend := true } } }) ∧
  (∀ (s : State) (n : Fin 4) (k : Core), s.gondola.cores[n.val]? = some k → exec (.coreRestartDone n) s = .next (((k.aborts.filter fun id => s.host.ctrls.any fun (c : HostCtrl) => decide (c.cntlid = id.ctrl)).foldl (fun (s : State) id => s.answer id stAbortRequested) s).modCore n.val fun c => { c with restarting := false, aborts := [] })) ∧
  (∀ (master : BitVec 16) (v : BitVec 32) (s : State), exec (.drgHb master v) s = .next (if s.firmwareUp then (heartbeat master v s).settle else s)) ∧
  (∀ (core : Fin 5) (s : State), exec (.heartbeatMiss core) s = .next ((heartbeatMiss core.val s).settle)) ∧
  (∀ (s : State), exec .managementWatchdog s = .next (watchdog s)) ∧
  (∀ (c : Fin 8) (s : State), exec (.clusterResetDone c) s = .next (clusterResetDone c.val s)) ∧
  (∀ (s : State), exec .bridleResetDone s = .next (bridleResetDone s)) ∧
  (∀ (core : Fin 4) (s : State), exec (.coreRestartDone core) s = .next (coreRestarted core.val s))

/-- SPDM requests of every row, and what they need (R446, R448, R449, R450, R451). -/
def Obligations.SpdmRequests : Prop :=
  (∀ (i : Instr) (code vendor : Nat) (b : Bytes) (s : State), spdmOf i = some (code, vendor, b) → spdmCode b = code → vendor = 0 ∨ vendorCode b = vendor → s.firmwareUp = true → exec i s = .next (spdmWhole b s)) ∧
  (∀ (i : Instr) (code vendor : Nat) (b : Bytes) (s : State), spdmOf i = some (code, vendor, b) → spdmCode b ≠ code ∨ (vendor ≠ 0 ∧ vendorCode b ≠ vendor) → exec i s = .fault .illFormed) ∧
  (∀ (b : Bytes) (s : State), s.firmwareUp = true → 4 ≤ b.length → b.length ≤ 4096 → byteAt b 0 = 0x10 → byteAt b 1 = 0x84 → exec (.getVersion b) s = .next (s.modSpdm fun p => { stage := 1, vca := b ++ [0x10, 0x04, 0, 0, 0, 1, 0, 0x13], response := [0x10, 0x04, 0, 0, 0, 1, 0, 0x13], chunkHandle := p.chunkHandle })) ∧
  (∀ (b : Bytes) (s : State), s.firmwareUp = true → s.sec.spdm.stage = 1 → 20 ≤ b.length → b.length ≤ 4096 → byteAt b 0 = 0x13 → byteAt b 1 = 0xE1 → 42 ≤ leNat b 12 4 → ∃ t : State, exec (.getCapabilities b) s = .next t ∧ t.sec.spdm.stage = 2 ∧ t.sec.spdm.peerSize = leNat b 12 4 ∧ slice t.sec.spdm.response 0 5 = spdmHead 0x61 0 0 ++ [0] ∧ slice t.sec.spdm.response 8 12 = toLe 0x20016 4 ++ toLe 4096 4 ++ toLe 65536 4) ∧
  (∀ (b : Bytes) (s : State), s.firmwareUp = true → s.sec.spdm.stage = 2 → 32 ≤ b.length → b.length ≤ 4096 → leNat b 4 2 = b.length → byteAt b 0 = 0x13 → byteAt b 1 = 0xE3 → ∃ t : State, exec (.negotiateAlgorithms b) s = .next t ∧ t.sec.spdm.stage = 3) ∧
  (∀ (i : Instr) (code vendor : Nat) (b : Bytes) (s : State), spdmOf i = some (code, vendor, b) → code ≠ 0x84 → code ≠ 0x86 → code ≠ 0xE1 → code ≠ 0xE3 → spdmCode b = code → vendor = 0 ∨ vendorCode b = vendor → s.firmwareUp = true → s.sec.spdm.stage ≠ 3 → byteAt b 0 = 0x13 → 4 ≤ b.length → b.length ≤ 4096 → exec i s = .next (s.spdmFresh.respond (spdmError 4 0))) ∧
  (∀ (b : Bytes) (s : State), s.spdmReady b → byteAt b 1 = 0x81 → exec (.getDigests b) s = .next ((s.spdmFresh.modSpdm fun p => { p with certs := p.certs ++ b ++ (spdmHead 0x01 1 1 ++ chainDigest) }).respond (spdmHead 0x01 1 1 ++ chainDigest))) ∧
  (∀ (b : Bytes) (s : State), s.spdmReady b → byteAt b 1 = 0x82 → exec (.getCertificate b) s = .next (spdmCertificate b s.spdmFresh)) ∧
  (∀ (b : Bytes) (s : State), s.spdmReady b → byteAt b 1 = 0x83 → exec (.challenge b) s = .next (spdmChallenge b s.spdmFresh)) ∧
  (∀ (b : Bytes) (s : State), s.spdmReady b → byteAt b 1 = 0xE0 → exec (.getMeasurements b) s = .next (spdmMeasurements b s.spdmFresh)) ∧
  (∀ (b : Bytes) (s : State), s.spdmReady b → byteAt b 1 = 0x86 → s.sec.spdm.chunk = [] → exec (.chunkGet b) s = .next (s.modSpdm fun p => { p with response := unexpectedRequest })) ∧
  (∀ (b : Bytes) (s : State), s.spdmReady b → byteAt b 1 = 0xFE → vendorCode b = 1 → exec (.getPqCert b) s = .next (s.spdmFresh.respond (vendorResponse (Config.certChain 1)))) ∧
  (∀ (b : Bytes) (s : State), s.spdmReady b → byteAt b 1 = 0xFE → vendorCode b = 3 → exec (.getNonce b) s = .next (((s.spdmFresh.drawBytes 32).2.modSec fun c => { c with nonce := some ((s.spdmFresh.drawBytes 32).1, s.frame.time) }).respond (vendorResponse (s.spdmFresh.drawBytes 32).1))) ∧
  (∀ (b m : Bytes) (s : State), s.spdmReady b → byteAt b 1 = 0xFE → vendorCode b = 2 → s.sec.spdm.lastSigned = some m → exec (.getPqSignature b) s = .next (s.spdmFresh.respond (vendorResponse (Config.slhSign m)))) ∧
  (∀ (b : Bytes) (s : State), s.spdmReady b → byteAt b 1 = 0xFE → vendorCode b = 4 → ∃ t : State, exec (.ownerSet b) s = .next t ∧ t.sec.nonce = none ∧ t.sec.ownerRevoked = s.sec.ownerRevoked ∧ (s.sec.nonce = none → t.sec.ownerSet = s.sec.ownerSet ∧ t.sec.ownerKeys = s.sec.ownerKeys)) ∧
  (∀ (b : Bytes) (s : State), s.spdmReady b → byteAt b 1 = 0xFE → vendorCode b = 5 → ∃ t : State, exec (.ownerRevoke b) s = .next t ∧ t.sec.nonce = none ∧ t.sec.ownerSet = s.sec.ownerSet ∧ t.sec.ownerKeys = s.sec.ownerKeys ∧ (s.sec.nonce = none → t.sec.ownerRevoked = s.sec.ownerRevoked)) ∧
  (∀ (i : Instr) (code vendor : Nat) (b : Bytes) (s : State), spdmOf i = some (code, vendor, b) → spdmCode b = code → vendor = 0 ∨ vendorCode b = vendor → s.firmwareUp = false → exec i s = .next s) ∧
  (∀ (b : Bytes) (s : State), s.spdmReady b → byteAt b 1 = 0x86 → s.sec.spdm.chunk ≠ [] → 6 ≤ b.length → byteAt b 3 = s.sec.spdm.chunkHandle → leNat b 4 2 = s.sec.spdm.chunkSeq → exec (.chunkGet b) s = .next ((let p := s.sec.spdm
    let n := min p.chunk.length (min 4096 p.peerSize - if p.chunkSeq = 0 then 16 else 12)
    s.modSpdm fun p => { p with chunk := p.chunk.drop n, chunkSeq := p.chunkSeq + 1, response := spdmHead 0x06 (b2n (decide (n = p.chunk.length))) p.chunkHandle.toNat ++ toLe p.chunkSeq 2 ++ [0, 0] ++ toLe n 4 ++ (if p.chunkSeq = 0 then toLe p.chunkLen 4 else []) ++ p.chunk.take n }))) ∧
  (∀ (b x : Bytes) (s : State) (k : Nat), s.spdmReady b → byteAt b 1 = 0xFE → vendorPayload b = some x → leNat x 0 2 = 4 → leNat x 2 1 = k → k < 4 → bit s.sec.ownerSet k = false → slice x 435 16 = s.gondola.uid → s.nonceOk (slice x 451 32) = true → s.safe = false → (s.owned = false ∧ (x.length = 483 ∨ x.length = 17107)) ∨ (s.owned = true ∧ x.length = 17107 ∧ zeros x 484 15 = true ∧ s.ownerGood (leNat x 483 1) = true ∧ sigFails (s.sec.ownerKeys.getD (leNat x 483 1) ([], [])) x 483 = 0) → exec (.ownerSet b) s = .next ((s.spdmFresh.modSec fun c => { c with nonce := none, ownerSet := setBit c.ownerSet k true, ownerKeys := setAt c.ownerKeys k (slice x 3 384, slice x 387 48) }).respond (vendorResponse []))) ∧
  (∀ (b x : Bytes) (s : State) (k : Nat), s.spdmReady b → byteAt b 1 = 0xFE → vendorPayload b = some x → leNat x 0 2 = 5 → leNat x 2 1 = k → k < 4 → bit s.sec.ownerSet k = true → (((upTo 4).any fun i => decide (i ≠ k) && s.ownerGood i) = true) → slice x 3 16 = s.gondola.uid → s.nonceOk (slice x 19 32) = true → s.safe = false → x.length = 16675 → zeros x 52 15 = true → s.ownerGood (leNat x 51 1) = true → exec (.ownerRevoke b) s = .next
    (let t := s.spdmFresh.modSec fun c => { c with nonce := none }
     if sigFails (s.sec.ownerKeys.getD (leNat x 51 1) ([], [])) x 51 = 0 then (t.modSec fun c => { c with ownerRevoked := setBit c.ownerRevoked k true }).respond (vendorResponse []) else t.respond invalidRequest)) ∧
  (∀ (req : Bytes) (s : State), spdmCode req = 0x84 → exec (.getVersion req) s = .next (if s.firmwareUp then spdmWhole req s else s)) ∧
  (∀ (req : Bytes) (s : State), spdmCode req = 0xE1 → exec (.getCapabilities req) s = .next (if s.firmwareUp then spdmWhole req s else s)) ∧
  (∀ (req : Bytes) (s : State), spdmCode req = 0xE3 → exec (.negotiateAlgorithms req) s = .next (if s.firmwareUp then spdmWhole req s else s)) ∧
  (∀ (req : Bytes) (s : State), spdmCode req = 0x81 → exec (.getDigests req) s = .next (if s.firmwareUp then spdmWhole req s else s)) ∧
  (∀ (req : Bytes) (s : State), spdmCode req = 0x82 → exec (.getCertificate req) s = .next (if s.firmwareUp then spdmWhole req s else s)) ∧
  (∀ (req : Bytes) (s : State), spdmCode req = 0x83 → exec (.challenge req) s = .next (if s.firmwareUp then spdmWhole req s else s)) ∧
  (∀ (req : Bytes) (s : State), spdmCode req = 0xE0 → exec (.getMeasurements req) s = .next (if s.firmwareUp then spdmWhole req s else s)) ∧
  (∀ (req : Bytes) (s : State), spdmCode req = 0x86 → exec (.chunkGet req) s = .next (if s.firmwareUp then spdmWhole req s else s)) ∧
  (∀ (req : Bytes) (s : State), spdmCode req = 0xFE ∧ vendorCode req = 1 → exec (.getPqCert req) s = .next (if s.firmwareUp then spdmWhole req s else s)) ∧
  (∀ (req : Bytes) (s : State), spdmCode req = 0xFE ∧ vendorCode req = 2 → exec (.getPqSignature req) s = .next (if s.firmwareUp then spdmWhole req s else s)) ∧
  (∀ (req : Bytes) (s : State), spdmCode req = 0xFE ∧ vendorCode req = 3 → exec (.getNonce req) s = .next (if s.firmwareUp then spdmWhole req s else s)) ∧
  (∀ (req : Bytes) (s : State), spdmCode req = 0xFE ∧ vendorCode req = 4 → exec (.ownerSet req) s = .next (if s.firmwareUp then spdmWhole req s else s)) ∧
  (∀ (req : Bytes) (s : State), spdmCode req = 0xFE ∧ vendorCode req = 5 → exec (.ownerRevoke req) s = .next (if s.firmwareUp then spdmWhole req s else s))

/-- Frames of the debug port: when they are ignored, refused, made to wait or denied, and what they read and write (R488, R489, R490, R491, R492, R498). -/
def Obligations.DebugFrames : Prop :=
  (∀ (i : Instr) (f : DbgFrame) (hdr write wait : Bool) (s : State), dbgFrameOf s i = some (hdr, f, write, wait) → f.fits → s.dbgUp = false ∨ s.dbg.lineError = true → exec i s = .next (s).settle) ∧
  (∀ (i : Instr) (f : DbgFrame) (hdr write wait : Bool) (s : State), dbgFrameOf s i = some (hdr, f, write, wait) → f.fits → s.lineOk → hdr = false → exec i s = .next (s.modDbg fun d => { d with lineError := true }).settle) ∧
  (∀ (i : Instr) (f : DbgFrame) (hdr write wait : Bool) (s : State), dbgFrameOf s i = some (hdr, f, write, wait) → f.fits → s.lineOk → hdr = true → s.dbg.waiting.isSome = true → s.dbg.waiting ≠ some f → exec i s = .next ({ s with dbg := { s.dbg with answers := s.dbg.answers ++ [{ ack := .wait, data := none }] } } : State).settle) ∧
  (∀ (i : Instr) (f : DbgFrame) (hdr write wait : Bool) (s : State), dbgFrameOf s i = some (hdr, f, write, wait) → f.fits → s.lineOk → hdr = true → s.dbg.waiting = none → write = true → ¬ f.odd → exec i s = .next ((s.modDbg fun d => { d with fault := 1 }).dbgAnswered .fault none).settle) ∧
  (∀ (i : Instr) (f : DbgFrame) (hdr write wait : Bool) (s : State) (b : WinBlock) (o : Nat), dbgFrameOf s i = some (hdr, f, write, wait) → f.fits → s.lineOk → hdr = true → s.dbg.waiting = none → write = false ∨ f.odd → f.wide = false → winBlock (f.addr.toNat / 4 * 4) = some (b, o) → s.dbgAllows (some (b, o)) write f.data = false → exec i s = .next (s.dbgAnswered .denied none).settle) ∧
  (∀ (i : Instr) (f : DbgFrame) (hdr write wait : Bool) (s : State) (b : WinBlock) (o : Nat), dbgFrameOf s i = some (hdr, f, write, wait) → f.fits → s.lineOk → hdr = true → s.dbg.waiting = none → write = false ∨ f.odd → f.wide = false → winBlock (f.addr.toNat / 4 * 4) = some (b, o) → s.dbgAllows (some (b, o)) write f.data = true → f.addr.toNat % 4 ≠ 0 → exec i s = .next ((((s.winBad 2 5 f.addr.toNat).modDbg fun d => { d with fault := 4 })).dbgAnswered .fault none).settle) ∧
  (∀ (i : Instr) (f : DbgFrame) (hdr write wait : Bool) (s : State) (b : WinBlock) (o : Nat), dbgFrameOf s i = some (hdr, f, write, wait) → f.fits → s.lineOk → hdr = true → s.dbg.waiting = none → write = false ∨ f.odd → f.wide = false → winBlock f.addr.toNat = some (b, o) → s.dbgAllows (some (b, o)) write f.data = true → f.addr.toNat % 4 = 0 → wait = true → exec i s = .next ({ s with dbg := { s.dbg with waiting := some f, answers := s.dbg.answers ++ [{ ack := .wait, data := none }] } } : State).settle) ∧
  (∀ (i : Instr) (f : DbgFrame) (hdr write wait : Bool) (s : State) (b : WinBlock) (o : Nat), dbgFrameOf s i = some (hdr, f, write, wait) → f.fits → s.lineOk → hdr = true → s.dbg.waiting = none → write = true → f.odd → f.wide = false → winBlock f.addr.toNat = some (b, o) → s.dbgAllows (some (b, o)) true f.data = true → f.addr.toNat % 4 = 0 → wait = false → exec i s = .next (({ s.dbgAnswered .ok none with dbg := { (s.dbgAnswered .ok none).dbg with lastWide := false, lastAddr := f.addr } } : State).portWrite b o f.addr.toNat f.data).settle) ∧
  (∀ (s : State), s.lineOk → s.dbg.waiting = none → exec (.rd true false 0x07000000 false) s = .next ({ s.dbgAnswered .ok (some 0x0C1A0901) with dbg := { (s.dbgAnswered .ok (some 0x0C1A0901)).dbg with lastWide := false, lastAddr := 0x07000000 } } : State).settle) ∧
  (∀ (s : State) (wide : Bool) (a : BitVec 64) (v : BitVec 32) (p w : Bool) (hdr : Bool), wide = false → 2 ^ 32 ≤ a.toNat → exec (.rd hdr wide a w) s = .fault .illFormed ∧ exec (.wr hdr wide a v p w) s = .fault .illFormed) ∧
  (∀ (s : State) (a : BitVec 64), s.lineOk → s.dbg.waiting = none → s.dbgAllows none false 0 = true → a.toNat % 4 = 0 → rankOf a ≠ s.rank → exec (.rd true true a false) s = .next ((s.modDbg fun d => { d with fault := 2 }).dbgAnswered .fault none).settle) ∧
  (∀ (s : State) (high low : Nat), s.dbgUp = true → 56 ≤ high → 2 ≤ low → exec (.lineReset high low) s = .next { s with dbg := { s.dbg with lineError := false, waiting := none } }) ∧
  (∀ (s : State) (high low : Nat), high < 56 ∨ low < 2 → exec (.lineReset high low) s = .next s) ∧
  (∀ (hdr wide : Bool) (addr : W64) (wait : Bool) (s : State), wide ∨ addr.toNat < 2 ^ 32 → exec (.rd hdr wide addr wait) s = .next ((frameIn hdr { op := 1, wide := wide, addr := addr, data := 0, par := false } false wait s).settle)) ∧
  (∀ (hdr wide : Bool) (addr : W64) (v : W32) (par wait : Bool) (s : State), wide ∨ addr.toNat < 2 ^ 32 → exec (.wr hdr wide addr v par wait) s = .next ((frameIn hdr { op := 2, wide := wide, addr := addr, data := v, par := par } true wait s).settle)) ∧
  (∀ (hdr wait : Bool) (s : State), exec (.rdNext hdr wait) s = .next ((frameIn hdr { op := 3, wide := s.dbg.lastWide, addr := s.dbgNext, data := 0, par := false } false wait s).settle)) ∧
  (∀ (hdr : Bool) (v : W32) (par wait : Bool) (s : State), exec (.wrNext hdr v par wait) s = .next ((frameIn hdr { op := 4, wide := s.dbg.lastWide, addr := s.dbgNext, data := v, par := par } true wait s).settle)) ∧
  (∀ (hdr : Bool) (v : W32) (par wait : Bool) (s : State), exec (.wrSame hdr v par wait) s = .next ((frameIn hdr { op := 5, wide := s.dbg.lastWide, addr := s.dbg.lastAddr, data := v, par := par } true wait s).settle)) ∧
  (∀ (high low : Nat) (s : State), exec (.lineReset high low) s = .next (lineReset high low s))

/-- Debug commands: unlock, relock, recovery, halt, step and breakpoints; the SMBus devices (R454, R483, R492, R493, R494, R495, R496, R497, R498). -/
def Obligations.DebugRegisters : Prop :=
  (∀ (i : Instr) (o : Nat) (v : W32) (s : State), dbgWriteOf i = some (o, v) → o ≠ 0x18 → v ≠ 2 ∨ o ≠ 8 → s.dbgUp = false ∨ s.dbgAllows (some (.dbg, o)) true v = false → exec i s = .next s) ∧
  (∀ (v : W32) (s : State), s.dbgUp = false ∨ s.sec.unlocked = false → exec (.dbgHaltClr v) s = .next s.settle ∧ exec .relock s = .next s.settle) ∧
  (∀ (s : State), s.firmwareUp = true → s.dbg.checking = false → s.sec.fails < 16 → exec .unlock s = .next { s with dbg := { s.dbg with checking := true } }) ∧
  (∀ (s : State), s.firmwareUp = true → s.dbg.checking = false → 16 ≤ s.sec.fails → exec .unlock s = .next { s with sec := { s.sec with lastResult := 8 } }) ∧
  (∀ (s : State), s.dbg.checking = true → ∃ t : State, exec .tokenCheckDone s = .next t ∧ t.dbg.checking = false ∧ t.dbg.token = [] ∧ t.sec.lastResult = BitVec.ofNat 8 s.tokenResult ∧
      t.sec.unlocked = (s.sec.unlocked || decide (s.tokenResult = 1)) ∧ t.sec.fails = (if s.tokenResult = 1 then s.sec.fails else min 16 (s.sec.fails + 1)) ∧
      t.sec.scope = (if s.tokenResult = 1 then BitVec.ofNat 4 (leNat s.token 6 2) else s.sec.scope)) ∧
  (∀ (s : State), s.dbgUp = true → s.dbgAllows (some (.dbg, 8)) true 2 = true → exec .relock s = .next (relock s).settle) ∧
  (∀ (s : State), s.dbgUp = true → s.dbgAllows (some (.dbg, 8)) true 3 = true → exec .clrFault s = .next { s with dbg := { s.dbg with fault := 0 } }) ∧
  (∀ (v : W32) (s : State), s.phase = .recovery → exec (.dbgRcvData v) s = .next { s with dbg := { s.dbg with rcv := s.dbg.rcv ++ toLe v.toNat 4 } }) ∧
  (∀ (s : State), s.phase = .recovery → s.dbg.rcv.length ≠ s.dbg.rcvLen.toNat → exec .rcvCommit s = .next { s with dbg := { s.dbg with rcv := [], fault := 5 } }) ∧
  (∀ (s u : State), s.phase = .recovery → s.dbg.rcv.length = s.dbg.rcvLen.toNat → s.dbg.rcvLen.toNat % 4 = 0 → s.dbg.rcvLen.toNat ≤ 67108864 → u = { s with dbg := { s.dbg with rcv := [] }, sec := { s.sec with slots := setAt s.sec.slots 0 (some s.dbg.rcv) } } → exec .rcvCommit s = .next (if u.fwOk s.dbg.rcv = true then ({ u with sec := { u.sec with nextSlot := 1 } } : State).resetModule s.power.cause else { u with dbg := { u.dbg with fault := 5 } })) ∧
  (∀ (v : W32) (s : State), s.dbgUp = true → s.dbgAllows (some (.dbg, 0x14)) true v = true → exec (.dbgHaltSet v) s = .next (haltSet v s)) ∧
  (∀ (v : W32) (s : State), s.dbgUp = true → s.dbgAllows (some (.dbg, 0x14)) true v = true → ∃ t : State, exec (.dbgHaltSet v) s = .next t ∧ ∀ (c : Nat) (k : Cluster), s.clusters[c]? = some k → ∃ m, t.clusters[c]? = some m ∧ m.halted = (k.halted || bit v c)) ∧
  (∀ (v : W32) (s : State), s.dbgUp = true → s.dbgAllows (some (.dbg, 0x18)) true v = true → exec (.dbgHaltClr v) s = .next (haltClr v s).settle) ∧
  (∀ (v : W32) (s : State), s.host.open_ = [] → ∃ t : State, haltClr v s = t ∧ t.dbg.hit = clearBits s.dbg.hit (v.setWidth 12) ∧ ∀ (c : Nat) (k : Cluster), s.clusters[c]? = some k → ∃ m, t.clusters[c]? = some m ∧ m.halted = (k.halted && !bit v c)) ∧
  (∀ (v : W32) (s : State), s.dbgUp = true → s.dbgAllows (some (.dbg, 0x1C)) true v = true → exec (.dbgStep v) s = .next ((upTo 8).foldl (fun (s : State) c => if bit v c then stepCluster c s else s) s)) ∧
  (∀ (k : Fin 4) (pc : W32) (j : Nat) (x : Core) (s : State), s.dbgUp = true → j < 8 → bit (s.dbg.coreBp.getD (8 * k.val + j) 0) 0 = true → bits (s.dbg.coreBp.getD (8 * k.val + j) 0) 31 2 = bits pc 31 2 → s.gondola.cores[k.val]? = some x → x.halted = false → x.restarting = false → exec (.breakpointHit (.core k pc)) s = .next { s with gondola := { s.gondola with cores := s.gondola.cores.set k.val { x with halted := true } }, dbg := { s.dbg with hit := setBit s.dbg.hit (8 + k.val) true } }) ∧
  (∀ (c : Fin 8) (j : Nat) (k : Cluster) (r : Running) (s : State), s.dbgUp = true → j < 4 → s.dbg.sqBp.getD (4 * c.val + j) 0 = BitVec.ofNat 32 (0x80000000 + k.seq.pc) → k.seq.pc < 4096 → s.clusters[c.val]? = some k → k.halted = false → k.ic.busy = false → k.seq.run = some r → r.ended = false → exec (.breakpointHit (.cluster c)) s = .next ({ s with clusters := s.clusters.set c.val { k with halted := true }, dbg := { s.dbg with hit := setBit s.dbg.hit c.val true } } : State).chargeHalts) ∧
  (∀ (u : BpUnit) (s : State), s.dbgUp = false → exec (.breakpointHit u) s = .next s) ∧
  (∀ (ofs len : Nat) (s : State), exec (.fruRead ofs len) s = .next { s with host := { s.host with smbus := s.host.smbus ++ [((upTo len).filter fun i => decide (ofs + i < 2048)).map fun i => Config.fruByte (ofs + i)] } }) ∧
  (∀ (code : Byte) (s : State), s.powered = true → exec (.nvmeMiBasic code) s = .next { s with host := { s.host with smbus := s.host.smbus ++ [if code = 0 then s.miData else []] } }) ∧
  (∀ (code : Byte) (s : State), s.powered = false → exec (.nvmeMiBasic code) s = .next s) ∧
  (∀ (s : State), exec .unlock s = .next (s.debugRow 0x07000008 1)) ∧
  (∀ (s : State), exec .tokenCheckDone s = .next (tokenChecked s)) ∧
  (∀ (s : State), exec .relock s = .next ((s.debugRow 0x07000008 2).settle)) ∧
  (∀ (s : State), exec .clrFault s = .next (s.debugRow 0x07000008 3)) ∧
  (∀ (v : W32) (s : State), exec (.dbgRcvData v) s = .next (s.debugRow 0x07000034 v)) ∧
  (∀ (s : State), exec .rcvCommit s = .next (s.debugRow 0x07000008 4)) ∧
  (∀ (v : W32) (s : State), exec (.dbgHaltSet v) s = .next (s.debugRow 0x07000014 v)) ∧
  (∀ (v : W32) (s : State), exec (.dbgHaltClr v) s = .next ((s.debugRow 0x07000018 v).settle)) ∧
  (∀ (v : W32) (s : State), exec (.dbgStep v) s = .next (s.debugRow 0x0700001C v)) ∧
  (∀ (u : BpUnit) (s : State), exec (.breakpointHit u) s = .next (breakpointHit u s)) ∧
  (∀ (code : Byte) (s : State), exec (.nvmeMiBasic code) s = .next (nvmeMiBasic code s))

/-- A step takes the command at the front of the queue; on an empty queue the module idles (00_scope). -/
def Obligations.StepTakesTheFront : Prop :=
  (∀ (c : Instr) (rest : List Instr) (s : State), s.pending = c :: rest → step s = exec c { s with pending := rest }) ∧
  (∀ (s : State), s.pending = [] → step s = .next s) ∧
  (∀ (nbits w : Nat) (s : State), decodeTableWord nbits w = none ∧ s.withFetchWord nbits w = s)

/-- Every well-formed command of the table runs in every state; an ill-formed one stops (R134, R162, R361, R364, R449, R489). -/
def Obligations.OnlyIllFormedCommandsStop : Prop :=
  (∀ (c : Instr) (s : State), c.wellFormed = true → ∃ t : State, exec c s = .next t) ∧
  (∀ (c : Instr) (s : State), c.wellFormed = false → exec c s = .fault .illFormed)

/-- No command changes the queue behind it, and a queue of well-formed commands runs to its end (00_scope, R29). -/
def Obligations.QueueRunsToItsEnd : Prop :=
  (∀ (c : Instr) (s t : State), exec c s = .next t → t.pending = s.pending) ∧
  (∀ (n : Nat) (s : State), (∀ c ∈ s.pending, c.wellFormed = true) → Runs n s)

/-- Every step keeps the module's blocks: eight clusters, controllers and ports, 32 lanes, four cores (R8, R29, R175, R434). -/
def Obligations.StepsKeepTheBlocks : Prop :=
  ∀ (s t : State), s.Shape → step s = .next t → t.Shape

/-- Every step keeps the parity stores in canonical form (R421, R423, R438). -/
def Obligations.StepsKeepCanonicalForm : Prop :=
  ∀ (s t : State), s.Canonical → step s = .next t → t.Canonical

/-- After reset: the registers read as their Reset columns, every block is there, stores are canonical, nothing waits (R53, R130, R185, R230, R293, R311, R389, R420, R439, R456, R475, R498). -/
def Obligations.ResetValues : Prop :=
  (resetColumn.all (fun (r : WinBlock × Nat × W32) => State.reset.readReg r.1 r.2.1 == r.2.2) = true) ∧
  (State.reset.phase = .starting ∧ State.reset.Shape ∧ State.reset.Canonical ∧ State.reset.pending = [])

/-- An integer result outside its format's range gives the nearer limit and sets INT_SAT (R140). -/
def Obligations.IntegerResults : Prop :=
  (∀ (fd : Nat) (ieee : Bool) (lo hi n : Int), intLimits fd = some (lo, hi) → decodeElem fd (putResult fd ieee (.ofInt n)).1 = .ofInt (if n < lo then lo else if hi < n then hi else n) ∧ (putResult fd ieee (.ofInt n)).2 = ({ intSat := decide (n < lo ∨ hi < n) } : Raised)) ∧
  (∀ (fd : Nat) (ieee : Bool) (lo hi a b c : Int), intLimits fd = some (lo, hi) → putResult fd ieee ((Val.ofInt a).add (.ofInt b)) = putResult fd ieee (.ofInt (a + b)) ∧ putResult fd ieee ((Val.ofInt a).mul (.ofInt b)) = putResult fd ieee (.ofInt (a * b)) ∧ putResult fd ieee (((Val.ofInt a).mul (.ofInt b)).add (.ofInt c)) = putResult fd ieee (.ofInt (a * b + c)))

/-- The sketch distance is the number of bits that differ, and the inner product is 1,024 less twice it (R268). -/
def Obligations.SketchDistance : Prop :=
  ∀ (x y : Bytes), x.length = 128 → y.length = 128 → sketchDist x y = sumBy (fun b => b2n (sketchBit x b != sketchBit y b)) (upTo 1024) ∧ sketchDist x y ≤ 1024 ∧
      ((upTo 1024).map fun b => (if sketchBit x b then (1 : Int) else -1) * (if sketchBit y b then 1 else -1)).sum = 1024 - 2 * (sketchDist x y : Int)
end

