-- ==== Sys2Proof/Laws/Bits.lean ====
section
/-! SUPPORT. What the list operations of Bits do, element by element. -/

namespace Sys2Proof.Machine

@[simp] theorem length_modifyAt {α : Type} (f : α → α) (l : List α) (i : Nat) : (modifyAt f l i).length = l.length := by
  induction l generalizing i with
  | nil => rfl
  | cons a r ih => cases i with
    | zero => rfl
    | succ n => simp [modifyAt, ih]

@[simp] theorem length_setAt {α : Type} (l : List α) (i : Nat) (v : α) : (setAt l i v).length = l.length := length_modifyAt _ _ _

theorem getElem?_modifyAt {α : Type} (f : α → α) (l : List α) (i j : Nat) : (modifyAt f l i)[j]? = if i = j then l[j]?.map f else l[j]? := by
  induction l generalizing i j with
  | nil => simp [modifyAt]
  | cons a r ih => cases i with
    | zero => cases j with
      | zero => rfl
      | succ m => simp [modifyAt]
    | succ n => cases j with
      | zero => simp [modifyAt]
      | succ m => simp [modifyAt, ih]

/-- The element that is there is replaced, and nothing else changes. -/
theorem modifyAt_eq_set {α : Type} (f : α → α) (l : List α) (i : Nat) (a : α) (h : l[i]? = some a) : modifyAt f l i = l.set i (f a) := by
  induction l generalizing i with
  | nil => simp at h
  | cons b r ih => cases i with
    | zero => simp at h; simp [modifyAt, h]
    | succ n => simp at h; simp [modifyAt, ih n h]

theorem setAt_eq_set {α : Type} (l : List α) (i : Nat) (v : α) (h : i < l.length) : setAt l i v = l.set i v := modifyAt_eq_set _ l i l[i] (by simp [h])

/-- Beyond the end nothing changes. -/
theorem modifyAt_beyond {α : Type} (f : α → α) (l : List α) (i : Nat) (h : l.length ≤ i) : modifyAt f l i = l := by
  induction l generalizing i with
  | nil => rfl
  | cons b r ih => cases i with
    | zero => simp at h
    | succ n => simp at h; simp [modifyAt, ih n h]

theorem getD_eq_of_some {α : Type} (l : List α) (i : Nat) (a d : α) (h : l[i]? = some a) : l.getD i d = a := by simp [List.getD, h]

end Sys2Proof.Machine
end

