-- ==== Sys2Proof/Laws/Sparse.lean ====
section
/-! SUPPORT. Sparse stores: every operation keeps the canonical form, a read after a write gives what was written, and a write leaves every other key alone. -/

namespace Sys2Proof.Machine

@[simp] theorem Sparse.get_nil {α : Type} (d : α) (k : Nat) : Sparse.get d [] k = d := rfl

@[simp] theorem Sparse.wf_nil {α : Type} [DecidableEq α] (d : α) : Sparse.wf d ([] : List (Nat × α)) = true := rfl

/-- A lower bound may be lowered. -/
theorem Sparse.wfFrom_weaken {α : Type} [DecidableEq α] (d : α) (m : List (Nat × α)) (b : Nat) (c : Option Nat) (hc : ∀ x, c = some x → x ≤ b) (h : Sparse.wfFrom d (some b) m = true) :
    Sparse.wfFrom d c m = true := by
  cases m with
  | nil => rfl
  | cons p r =>
    obtain ⟨k, v⟩ := p
    simp only [Sparse.wfFrom, Bool.and_eq_true, decide_eq_true_eq] at h ⊢
    obtain ⟨⟨h1, h2⟩, h3⟩ := h
    refine ⟨⟨?_, h2⟩, h3⟩
    cases c with
    | none => rfl
    | some x => simp; have := hc x rfl; omega

/-- Below the least key nothing is listed. -/
theorem Sparse.get_below {α : Type} [DecidableEq α] (d : α) (m : List (Nat × α)) (b k : Nat) (h : Sparse.wfFrom d (some b) m = true) (hk : k ≤ b) : Sparse.get d m k = d := by
  induction m generalizing b with
  | nil => rfl
  | cons p r ih =>
    obtain ⟨j, v⟩ := p
    simp only [Sparse.wfFrom, Bool.and_eq_true, decide_eq_true_eq] at h
    obtain ⟨⟨h1, _⟩, h3⟩ := h
    rw [Sparse.get, if_neg (by omega)]
    exact ih j h3 (by omega)

theorem Sparse.bound_lt (b : Option Nat) (k : Nat) : (∀ x, b = some x → x < k) → (match b with | none => true | some x => decide (x < k)) = true := by
  intro hb
  cases b with
  | none => rfl
  | some x => simp; exact hb x rfl

theorem Sparse.wfFrom_set {α : Type} [DecidableEq α] (d : α) (m : List (Nat × α)) (b : Option Nat) (k : Nat) (v : α) (hb : ∀ x, b = some x → x < k) (h : Sparse.wfFrom d b m = true) :
    Sparse.wfFrom d b (Sparse.set d m k v) = true := by
  induction m generalizing b with
  | nil =>
    simp only [Sparse.set]
    split
    · rfl
    · simp only [Sparse.wfFrom, Bool.and_true, Bool.and_eq_true, decide_eq_true_eq]
      refine ⟨?_, by assumption⟩
      cases b with
      | none => rfl
      | some x => simp; exact hb x rfl
  | cons p r ih =>
    obtain ⟨j, w⟩ := p
    have h0 := h
    simp only [Sparse.wfFrom, Bool.and_eq_true, decide_eq_true_eq] at h
    obtain ⟨⟨h1, h2⟩, h3⟩ := h
    have hbk := Sparse.bound_lt b k hb
    simp only [Sparse.set]
    split
    · split
      · exact h0
      · simp only [Sparse.wfFrom, Bool.and_eq_true, decide_eq_true_eq]
        exact ⟨⟨hbk, by assumption⟩, ⟨by assumption, h2⟩, h3⟩
    · split
      · rename_i hkj
        split
        · exact Sparse.wfFrom_weaken d r j b (fun x hx => by have := hb x hx; omega) h3
        · simp only [Sparse.wfFrom, Bool.and_eq_true, decide_eq_true_eq]
          exact ⟨⟨hbk, by assumption⟩, by rw [hkj]; exact h3⟩
      · simp only [Sparse.wfFrom, Bool.and_eq_true, decide_eq_true_eq]
        exact ⟨⟨h1, h2⟩, ih (some j) (fun x hx => by cases hx; omega) h3⟩

/-- A write keeps the canonical form. -/
@[simp] theorem Sparse.wf_set {α : Type} [DecidableEq α] (d : α) (m : List (Nat × α)) (k : Nat) (v : α) (h : Sparse.wf d m = true) : Sparse.wf d (Sparse.set d m k v) = true :=
  Sparse.wfFrom_set d m none k v (fun _ hx => by cases hx) h

/-- A run of writes keeps it. -/
@[simp] theorem Sparse.wf_setRun {α : Type} [DecidableEq α] (d : α) (vs : List α) (m : List (Nat × α)) (k : Nat) (h : Sparse.wf d m = true) : Sparse.wf d (Sparse.setRun d m k vs) = true := by
  induction vs generalizing m k with
  | nil => exact h
  | cons v vs ih => exact ih _ _ (Sparse.wf_set d m k v h)

theorem Sparse.wfFrom_filter {α : Type} [DecidableEq α] (d : α) (p : Nat × α → Bool) (m : List (Nat × α)) (b : Option Nat) (h : Sparse.wfFrom d b m = true) : Sparse.wfFrom d b (m.filter p) = true := by
  induction m generalizing b with
  | nil => rfl
  | cons q r ih =>
    obtain ⟨j, w⟩ := q
    simp only [Sparse.wfFrom, Bool.and_eq_true, decide_eq_true_eq] at h
    obtain ⟨⟨h1, h2⟩, h3⟩ := h
    rw [List.filter_cons]
    split
    · simp only [Sparse.wfFrom, Bool.and_eq_true, decide_eq_true_eq]
      exact ⟨⟨h1, h2⟩, ih (some j) h3⟩
    · refine ih b ?_
      refine Sparse.wfFrom_weaken d r j b ?_ h3
      intro x hx
      subst hx
      have : x < j := by simpa using h1
      omega

/-- Entries may be removed. -/
@[simp] theorem Sparse.wf_filter {α : Type} [DecidableEq α] (d : α) (p : Nat × α → Bool) (m : List (Nat × α)) (h : Sparse.wf d m = true) : Sparse.wf d (m.filter p) = true := Sparse.wfFrom_filter d p m none h

@[simp] theorem Sparse.wf_clearRange {α : Type} [DecidableEq α] (d : α) (m : List (Nat × α)) (lo hi : Nat) (h : Sparse.wf d m = true) : Sparse.wf d (Sparse.clearRange m lo hi) = true := Sparse.wfFrom_filter d _ m none h

@[simp] theorem Marks.wf_putRun (m : Marks) (k : Nat) (b : Bool) (n : Nat) (h : Sparse.wf false m = true) : Sparse.wf false (Marks.putRun m k b n) = true := by
  induction n generalizing m k with
  | zero => exact h
  | succ n ih => exact ih _ _ (Sparse.wf_set false m k b h)

theorem Sparse.get_set_from {α : Type} [DecidableEq α] (d : α) (m : List (Nat × α)) (b : Option Nat) (k j : Nat) (v : α) (h : Sparse.wfFrom d b m = true) :
    Sparse.get d (Sparse.set d m k v) j = if j = k then v else Sparse.get d m j := by
  induction m generalizing b with
  | nil =>
    simp only [Sparse.set]
    split
    · rename_i hv
      split <;> simp [Sparse.get, hv]
    · simp only [Sparse.get]
      by_cases e : k = j
      · rw [if_pos e, if_pos e.symm]
      · rw [if_neg e, if_neg (fun x => e x.symm)]
  | cons p r ih =>
    obtain ⟨i, w⟩ := p
    simp only [Sparse.wfFrom, Bool.and_eq_true, decide_eq_true_eq] at h
    obtain ⟨⟨h1, h2⟩, h3⟩ := h
    have low : ∀ x, x ≤ i → Sparse.get d r x = d := fun x hx => Sparse.get_below d r i x h3 hx
    simp only [Sparse.set]
    split
    · rename_i hk
      split
      · rename_i hv
        by_cases e : j = k
        · rw [if_pos e, e, Sparse.get, if_neg (by omega), low k (by omega), hv]
        · rw [if_neg e]
      · by_cases e : j = k
        · rw [if_pos e, Sparse.get, if_pos e.symm]
        · rw [if_neg e, Sparse.get, if_neg (fun x => e x.symm)]
    · split
      · rename_i hk hki
        split
        · rename_i hv
          by_cases e : j = k
          · rw [if_pos e, e, hki, low i (Nat.le_refl i), hv]
          · rw [if_neg e, Sparse.get, if_neg (by omega)]
        · by_cases e : j = k
          · rw [if_pos e, Sparse.get, if_pos e.symm]
          · rw [if_neg e, Sparse.get, if_neg (fun x => e x.symm), Sparse.get, if_neg (by omega)]
      · rename_i hk hki
        by_cases ij : i = j
        · subst ij
          rw [Sparse.get, if_pos rfl, if_neg (by omega), Sparse.get, if_pos rfl]
        · rw [Sparse.get, if_neg ij, ih (some i) h3]
          congr 1
          rw [Sparse.get, if_neg ij]

/-- A read after a write: what was written at that key, what was there before at every other. -/
theorem Sparse.get_set {α : Type} [DecidableEq α] (d : α) (m : List (Nat × α)) (k j : Nat) (v : α) (h : Sparse.wf d m = true) :
    Sparse.get d (Sparse.set d m k v) j = if j = k then v else Sparse.get d m j := Sparse.get_set_from d m none k j v h

/-- A run of writes leaves the keys outside it alone. -/
theorem Sparse.get_setRun_outside {α : Type} [DecidableEq α] (d : α) (vs : List α) (m : List (Nat × α)) (k j : Nat) (h : Sparse.wf d m = true) (hj : j < k ∨ k + vs.length ≤ j) :
    Sparse.get d (Sparse.setRun d m k vs) j = Sparse.get d m j := by
  induction vs generalizing m k with
  | nil => rfl
  | cons v vs ih =>
    simp only [List.length_cons] at hj
    rw [Sparse.setRun, ih _ _ (Sparse.wf_set d m k v h) (by omega), Sparse.get_set d m k j v h, if_neg (by omega)]

end Sys2Proof.Machine
end

