-- ==== Sys2Proof/Laws/State.lean ====
section
/-! SUPPORT. One lemma for each field of the state and each update, true by unfolding: what an update leaves alone. -/

namespace Sys2Proof.Machine

variable (s : State)

@[simp] theorem State.advance_pending (t : Nat) : (s.advance t).pending = s.pending := rfl
@[simp] theorem State.advance_phase (t : Nat) : (s.advance t).phase = s.phase := rfl
@[simp] theorem State.advance_loft (t : Nat) : (s.advance t).loft = s.loft := rfl
@[simp] theorem State.advance_sched (t : Nat) : (s.advance t).sched = s.sched := rfl
@[simp] theorem State.advance_sparReset (t : Nat) : (s.advance t).sparReset = s.sparReset := rfl
@[simp] theorem State.advance_reel (t : Nat) : (s.advance t).reel = s.reel := rfl
@[simp] theorem State.advance_library (t : Nat) : (s.advance t).library = s.library := rfl
@[simp] theorem State.advance_bridle (t : Nat) : (s.advance t).bridle = s.bridle := rfl
@[simp] theorem State.advance_search (t : Nat) : (s.advance t).search = s.search := rfl
@[simp] theorem State.advance_media (t : Nat) : (s.advance t).media = s.media := rfl
@[simp] theorem State.advance_host (t : Nat) : (s.advance t).host = s.host := rfl
@[simp] theorem State.advance_tether (t : Nat) : (s.advance t).tether = s.tether := rfl
@[simp] theorem State.advance_group (t : Nat) : (s.advance t).group = s.group := rfl
@[simp] theorem State.advance_drogue (t : Nat) : (s.advance t).drogue = s.drogue := rfl
@[simp] theorem State.advance_parity (t : Nat) : (s.advance t).parity = s.parity := rfl
@[simp] theorem State.advance_gondola (t : Nat) : (s.advance t).gondola = s.gondola := rfl
@[simp] theorem State.advance_sec (t : Nat) : (s.advance t).sec = s.sec := rfl
@[simp] theorem State.advance_power (t : Nat) : (s.advance t).power = s.power := rfl
@[simp] theorem State.advance_dbg (t : Nat) : (s.advance t).dbg = s.dbg := rfl
@[simp] theorem State.advance_draws (t : Nat) : (s.advance t).draws = s.draws := rfl

@[simp] theorem State.drawn_pending : (s.drawn).pending = s.pending := rfl
@[simp] theorem State.drawn_phase : (s.drawn).phase = s.phase := rfl
@[simp] theorem State.drawn_frame : (s.drawn).frame = s.frame := rfl
@[simp] theorem State.drawn_loft : (s.drawn).loft = s.loft := rfl
@[simp] theorem State.drawn_clusters : (s.drawn).clusters = s.clusters := rfl
@[simp] theorem State.drawn_sched : (s.drawn).sched = s.sched := rfl
@[simp] theorem State.drawn_sparReset : (s.drawn).sparReset = s.sparReset := rfl
@[simp] theorem State.drawn_reel : (s.drawn).reel = s.reel := rfl
@[simp] theorem State.drawn_library : (s.drawn).library = s.library := rfl
@[simp] theorem State.drawn_bridle : (s.drawn).bridle = s.bridle := rfl
@[simp] theorem State.drawn_search : (s.drawn).search = s.search := rfl
@[simp] theorem State.drawn_media : (s.drawn).media = s.media := rfl
@[simp] theorem State.drawn_host : (s.drawn).host = s.host := rfl
@[simp] theorem State.drawn_tether : (s.drawn).tether = s.tether := rfl
@[simp] theorem State.drawn_group : (s.drawn).group = s.group := rfl
@[simp] theorem State.drawn_drogue : (s.drawn).drogue = s.drogue := rfl
@[simp] theorem State.drawn_parity : (s.drawn).parity = s.parity := rfl
@[simp] theorem State.drawn_gondola : (s.drawn).gondola = s.gondola := rfl
@[simp] theorem State.drawn_sec : (s.drawn).sec = s.sec := rfl
@[simp] theorem State.drawn_power : (s.drawn).power = s.power := rfl
@[simp] theorem State.drawn_dbg : (s.drawn).dbg = s.dbg := rfl

@[simp] theorem State.modCluster_pending (c : Nat) (f : Cluster → Cluster) : (s.modCluster c f).pending = s.pending := rfl
@[simp] theorem State.modCluster_phase (c : Nat) (f : Cluster → Cluster) : (s.modCluster c f).phase = s.phase := rfl
@[simp] theorem State.modCluster_frame (c : Nat) (f : Cluster → Cluster) : (s.modCluster c f).frame = s.frame := rfl
@[simp] theorem State.modCluster_loft (c : Nat) (f : Cluster → Cluster) : (s.modCluster c f).loft = s.loft := rfl
@[simp] theorem State.modCluster_sched (c : Nat) (f : Cluster → Cluster) : (s.modCluster c f).sched = s.sched := rfl
@[simp] theorem State.modCluster_sparReset (c : Nat) (f : Cluster → Cluster) : (s.modCluster c f).sparReset = s.sparReset := rfl
@[simp] theorem State.modCluster_reel (c : Nat) (f : Cluster → Cluster) : (s.modCluster c f).reel = s.reel := rfl
@[simp] theorem State.modCluster_library (c : Nat) (f : Cluster → Cluster) : (s.modCluster c f).library = s.library := rfl
@[simp] theorem State.modCluster_bridle (c : Nat) (f : Cluster → Cluster) : (s.modCluster c f).bridle = s.bridle := rfl
@[simp] theorem State.modCluster_search (c : Nat) (f : Cluster → Cluster) : (s.modCluster c f).search = s.search := rfl
@[simp] theorem State.modCluster_media (c : Nat) (f : Cluster → Cluster) : (s.modCluster c f).media = s.media := rfl
@[simp] theorem State.modCluster_host (c : Nat) (f : Cluster → Cluster) : (s.modCluster c f).host = s.host := rfl
@[simp] theorem State.modCluster_tether (c : Nat) (f : Cluster → Cluster) : (s.modCluster c f).tether = s.tether := rfl
@[simp] theorem State.modCluster_group (c : Nat) (f : Cluster → Cluster) : (s.modCluster c f).group = s.group := rfl
@[simp] theorem State.modCluster_drogue (c : Nat) (f : Cluster → Cluster) : (s.modCluster c f).drogue = s.drogue := rfl
@[simp] theorem State.modCluster_parity (c : Nat) (f : Cluster → Cluster) : (s.modCluster c f).parity = s.parity := rfl
@[simp] theorem State.modCluster_gondola (c : Nat) (f : Cluster → Cluster) : (s.modCluster c f).gondola = s.gondola := rfl
@[simp] theorem State.modCluster_sec (c : Nat) (f : Cluster → Cluster) : (s.modCluster c f).sec = s.sec := rfl
@[simp] theorem State.modCluster_power (c : Nat) (f : Cluster → Cluster) : (s.modCluster c f).power = s.power := rfl
@[simp] theorem State.modCluster_dbg (c : Nat) (f : Cluster → Cluster) : (s.modCluster c f).dbg = s.dbg := rfl
@[simp] theorem State.modCluster_draws (c : Nat) (f : Cluster → Cluster) : (s.modCluster c f).draws = s.draws := rfl

@[simp] theorem State.modTile_pending (t : Nat) (f : Tile → Tile) : (s.modTile t f).pending = s.pending := rfl
@[simp] theorem State.modTile_phase (t : Nat) (f : Tile → Tile) : (s.modTile t f).phase = s.phase := rfl
@[simp] theorem State.modTile_frame (t : Nat) (f : Tile → Tile) : (s.modTile t f).frame = s.frame := rfl
@[simp] theorem State.modTile_loft (t : Nat) (f : Tile → Tile) : (s.modTile t f).loft = s.loft := rfl
@[simp] theorem State.modTile_sched (t : Nat) (f : Tile → Tile) : (s.modTile t f).sched = s.sched := rfl
@[simp] theorem State.modTile_sparReset (t : Nat) (f : Tile → Tile) : (s.modTile t f).sparReset = s.sparReset := rfl
@[simp] theorem State.modTile_reel (t : Nat) (f : Tile → Tile) : (s.modTile t f).reel = s.reel := rfl
@[simp] theorem State.modTile_library (t : Nat) (f : Tile → Tile) : (s.modTile t f).library = s.library := rfl
@[simp] theorem State.modTile_bridle (t : Nat) (f : Tile → Tile) : (s.modTile t f).bridle = s.bridle := rfl
@[simp] theorem State.modTile_search (t : Nat) (f : Tile → Tile) : (s.modTile t f).search = s.search := rfl
@[simp] theorem State.modTile_media (t : Nat) (f : Tile → Tile) : (s.modTile t f).media = s.media := rfl
@[simp] theorem State.modTile_host (t : Nat) (f : Tile → Tile) : (s.modTile t f).host = s.host := rfl
@[simp] theorem State.modTile_tether (t : Nat) (f : Tile → Tile) : (s.modTile t f).tether = s.tether := rfl
@[simp] theorem State.modTile_group (t : Nat) (f : Tile → Tile) : (s.modTile t f).group = s.group := rfl
@[simp] theorem State.modTile_drogue (t : Nat) (f : Tile → Tile) : (s.modTile t f).drogue = s.drogue := rfl
@[simp] theorem State.modTile_parity (t : Nat) (f : Tile → Tile) : (s.modTile t f).parity = s.parity := rfl
@[simp] theorem State.modTile_gondola (t : Nat) (f : Tile → Tile) : (s.modTile t f).gondola = s.gondola := rfl
@[simp] theorem State.modTile_sec (t : Nat) (f : Tile → Tile) : (s.modTile t f).sec = s.sec := rfl
@[simp] theorem State.modTile_power (t : Nat) (f : Tile → Tile) : (s.modTile t f).power = s.power := rfl
@[simp] theorem State.modTile_dbg (t : Nat) (f : Tile → Tile) : (s.modTile t f).dbg = s.dbg := rfl
@[simp] theorem State.modTile_draws (t : Nat) (f : Tile → Tile) : (s.modTile t f).draws = s.draws := rfl

@[simp] theorem State.modCtrl_pending (n : Nat) (f : Ctrl → Ctrl) : (s.modCtrl n f).pending = s.pending := rfl
@[simp] theorem State.modCtrl_phase (n : Nat) (f : Ctrl → Ctrl) : (s.modCtrl n f).phase = s.phase := rfl
@[simp] theorem State.modCtrl_frame (n : Nat) (f : Ctrl → Ctrl) : (s.modCtrl n f).frame = s.frame := rfl
@[simp] theorem State.modCtrl_loft (n : Nat) (f : Ctrl → Ctrl) : (s.modCtrl n f).loft = s.loft := rfl
@[simp] theorem State.modCtrl_clusters (n : Nat) (f : Ctrl → Ctrl) : (s.modCtrl n f).clusters = s.clusters := rfl
@[simp] theorem State.modCtrl_sched (n : Nat) (f : Ctrl → Ctrl) : (s.modCtrl n f).sched = s.sched := rfl
@[simp] theorem State.modCtrl_sparReset (n : Nat) (f : Ctrl → Ctrl) : (s.modCtrl n f).sparReset = s.sparReset := rfl
@[simp] theorem State.modCtrl_reel (n : Nat) (f : Ctrl → Ctrl) : (s.modCtrl n f).reel = s.reel := rfl
@[simp] theorem State.modCtrl_library (n : Nat) (f : Ctrl → Ctrl) : (s.modCtrl n f).library = s.library := rfl
@[simp] theorem State.modCtrl_bridle (n : Nat) (f : Ctrl → Ctrl) : (s.modCtrl n f).bridle = s.bridle := rfl
@[simp] theorem State.modCtrl_search (n : Nat) (f : Ctrl → Ctrl) : (s.modCtrl n f).search = s.search := rfl
@[simp] theorem State.modCtrl_host (n : Nat) (f : Ctrl → Ctrl) : (s.modCtrl n f).host = s.host := rfl
@[simp] theorem State.modCtrl_tether (n : Nat) (f : Ctrl → Ctrl) : (s.modCtrl n f).tether = s.tether := rfl
@[simp] theorem State.modCtrl_group (n : Nat) (f : Ctrl → Ctrl) : (s.modCtrl n f).group = s.group := rfl
@[simp] theorem State.modCtrl_drogue (n : Nat) (f : Ctrl → Ctrl) : (s.modCtrl n f).drogue = s.drogue := rfl
@[simp] theorem State.modCtrl_parity (n : Nat) (f : Ctrl → Ctrl) : (s.modCtrl n f).parity = s.parity := rfl
@[simp] theorem State.modCtrl_gondola (n : Nat) (f : Ctrl → Ctrl) : (s.modCtrl n f).gondola = s.gondola := rfl
@[simp] theorem State.modCtrl_sec (n : Nat) (f : Ctrl → Ctrl) : (s.modCtrl n f).sec = s.sec := rfl
@[simp] theorem State.modCtrl_power (n : Nat) (f : Ctrl → Ctrl) : (s.modCtrl n f).power = s.power := rfl
@[simp] theorem State.modCtrl_dbg (n : Nat) (f : Ctrl → Ctrl) : (s.modCtrl n f).dbg = s.dbg := rfl
@[simp] theorem State.modCtrl_draws (n : Nat) (f : Ctrl → Ctrl) : (s.modCtrl n f).draws = s.draws := rfl

@[simp] theorem State.modPort_pending (p : Nat) (f : Port → Port) : (s.modPort p f).pending = s.pending := rfl
@[simp] theorem State.modPort_phase (p : Nat) (f : Port → Port) : (s.modPort p f).phase = s.phase := rfl
@[simp] theorem State.modPort_frame (p : Nat) (f : Port → Port) : (s.modPort p f).frame = s.frame := rfl
@[simp] theorem State.modPort_loft (p : Nat) (f : Port → Port) : (s.modPort p f).loft = s.loft := rfl
@[simp] theorem State.modPort_clusters (p : Nat) (f : Port → Port) : (s.modPort p f).clusters = s.clusters := rfl
@[simp] theorem State.modPort_sched (p : Nat) (f : Port → Port) : (s.modPort p f).sched = s.sched := rfl
@[simp] theorem State.modPort_sparReset (p : Nat) (f : Port → Port) : (s.modPort p f).sparReset = s.sparReset := rfl
@[simp] theorem State.modPort_reel (p : Nat) (f : Port → Port) : (s.modPort p f).reel = s.reel := rfl
@[simp] theorem State.modPort_library (p : Nat) (f : Port → Port) : (s.modPort p f).library = s.library := rfl
@[simp] theorem State.modPort_bridle (p : Nat) (f : Port → Port) : (s.modPort p f).bridle = s.bridle := rfl
@[simp] theorem State.modPort_search (p : Nat) (f : Port → Port) : (s.modPort p f).search = s.search := rfl
@[simp] theorem State.modPort_media (p : Nat) (f : Port → Port) : (s.modPort p f).media = s.media := rfl
@[simp] theorem State.modPort_host (p : Nat) (f : Port → Port) : (s.modPort p f).host = s.host := rfl
@[simp] theorem State.modPort_group (p : Nat) (f : Port → Port) : (s.modPort p f).group = s.group := rfl
@[simp] theorem State.modPort_drogue (p : Nat) (f : Port → Port) : (s.modPort p f).drogue = s.drogue := rfl
@[simp] theorem State.modPort_parity (p : Nat) (f : Port → Port) : (s.modPort p f).parity = s.parity := rfl
@[simp] theorem State.modPort_gondola (p : Nat) (f : Port → Port) : (s.modPort p f).gondola = s.gondola := rfl
@[simp] theorem State.modPort_sec (p : Nat) (f : Port → Port) : (s.modPort p f).sec = s.sec := rfl
@[simp] theorem State.modPort_power (p : Nat) (f : Port → Port) : (s.modPort p f).power = s.power := rfl
@[simp] theorem State.modPort_dbg (p : Nat) (f : Port → Port) : (s.modPort p f).dbg = s.dbg := rfl
@[simp] theorem State.modPort_draws (p : Nat) (f : Port → Port) : (s.modPort p f).draws = s.draws := rfl

@[simp] theorem State.modLane_pending (l : Nat) (f : Lane → Lane) : (s.modLane l f).pending = s.pending := rfl
@[simp] theorem State.modLane_phase (l : Nat) (f : Lane → Lane) : (s.modLane l f).phase = s.phase := rfl
@[simp] theorem State.modLane_frame (l : Nat) (f : Lane → Lane) : (s.modLane l f).frame = s.frame := rfl
@[simp] theorem State.modLane_loft (l : Nat) (f : Lane → Lane) : (s.modLane l f).loft = s.loft := rfl
@[simp] theorem State.modLane_clusters (l : Nat) (f : Lane → Lane) : (s.modLane l f).clusters = s.clusters := rfl
@[simp] theorem State.modLane_sched (l : Nat) (f : Lane → Lane) : (s.modLane l f).sched = s.sched := rfl
@[simp] theorem State.modLane_sparReset (l : Nat) (f : Lane → Lane) : (s.modLane l f).sparReset = s.sparReset := rfl
@[simp] theorem State.modLane_reel (l : Nat) (f : Lane → Lane) : (s.modLane l f).reel = s.reel := rfl
@[simp] theorem State.modLane_library (l : Nat) (f : Lane → Lane) : (s.modLane l f).library = s.library := rfl
@[simp] theorem State.modLane_bridle (l : Nat) (f : Lane → Lane) : (s.modLane l f).bridle = s.bridle := rfl
@[simp] theorem State.modLane_search (l : Nat) (f : Lane → Lane) : (s.modLane l f).search = s.search := rfl
@[simp] theorem State.modLane_media (l : Nat) (f : Lane → Lane) : (s.modLane l f).media = s.media := rfl
@[simp] theorem State.modLane_host (l : Nat) (f : Lane → Lane) : (s.modLane l f).host = s.host := rfl
@[simp] theorem State.modLane_group (l : Nat) (f : Lane → Lane) : (s.modLane l f).group = s.group := rfl
@[simp] theorem State.modLane_drogue (l : Nat) (f : Lane → Lane) : (s.modLane l f).drogue = s.drogue := rfl
@[simp] theorem State.modLane_parity (l : Nat) (f : Lane → Lane) : (s.modLane l f).parity = s.parity := rfl
@[simp] theorem State.modLane_gondola (l : Nat) (f : Lane → Lane) : (s.modLane l f).gondola = s.gondola := rfl
@[simp] theorem State.modLane_sec (l : Nat) (f : Lane → Lane) : (s.modLane l f).sec = s.sec := rfl
@[simp] theorem State.modLane_power (l : Nat) (f : Lane → Lane) : (s.modLane l f).power = s.power := rfl
@[simp] theorem State.modLane_dbg (l : Nat) (f : Lane → Lane) : (s.modLane l f).dbg = s.dbg := rfl
@[simp] theorem State.modLane_draws (l : Nat) (f : Lane → Lane) : (s.modLane l f).draws = s.draws := rfl

@[simp] theorem State.modCore_pending (k : Nat) (f : Core → Core) : (s.modCore k f).pending = s.pending := rfl
@[simp] theorem State.modCore_phase (k : Nat) (f : Core → Core) : (s.modCore k f).phase = s.phase := rfl
@[simp] theorem State.modCore_frame (k : Nat) (f : Core → Core) : (s.modCore k f).frame = s.frame := rfl
@[simp] theorem State.modCore_loft (k : Nat) (f : Core → Core) : (s.modCore k f).loft = s.loft := rfl
@[simp] theorem State.modCore_clusters (k : Nat) (f : Core → Core) : (s.modCore k f).clusters = s.clusters := rfl
@[simp] theorem State.modCore_sched (k : Nat) (f : Core → Core) : (s.modCore k f).sched = s.sched := rfl
@[simp] theorem State.modCore_sparReset (k : Nat) (f : Core → Core) : (s.modCore k f).sparReset = s.sparReset := rfl
@[simp] theorem State.modCore_reel (k : Nat) (f : Core → Core) : (s.modCore k f).reel = s.reel := rfl
@[simp] theorem State.modCore_library (k : Nat) (f : Core → Core) : (s.modCore k f).library = s.library := rfl
@[simp] theorem State.modCore_bridle (k : Nat) (f : Core → Core) : (s.modCore k f).bridle = s.bridle := rfl
@[simp] theorem State.modCore_search (k : Nat) (f : Core → Core) : (s.modCore k f).search = s.search := rfl
@[simp] theorem State.modCore_media (k : Nat) (f : Core → Core) : (s.modCore k f).media = s.media := rfl
@[simp] theorem State.modCore_host (k : Nat) (f : Core → Core) : (s.modCore k f).host = s.host := rfl
@[simp] theorem State.modCore_tether (k : Nat) (f : Core → Core) : (s.modCore k f).tether = s.tether := rfl
@[simp] theorem State.modCore_group (k : Nat) (f : Core → Core) : (s.modCore k f).group = s.group := rfl
@[simp] theorem State.modCore_drogue (k : Nat) (f : Core → Core) : (s.modCore k f).drogue = s.drogue := rfl
@[simp] theorem State.modCore_parity (k : Nat) (f : Core → Core) : (s.modCore k f).parity = s.parity := rfl
@[simp] theorem State.modCore_sec (k : Nat) (f : Core → Core) : (s.modCore k f).sec = s.sec := rfl
@[simp] theorem State.modCore_power (k : Nat) (f : Core → Core) : (s.modCore k f).power = s.power := rfl
@[simp] theorem State.modCore_dbg (k : Nat) (f : Core → Core) : (s.modCore k f).dbg = s.dbg := rfl
@[simp] theorem State.modCore_draws (k : Nat) (f : Core → Core) : (s.modCore k f).draws = s.draws := rfl

@[simp] theorem State.modDie_pending (d : Nat) (f : Die → Die) : (s.modDie d f).pending = s.pending := rfl
@[simp] theorem State.modDie_phase (d : Nat) (f : Die → Die) : (s.modDie d f).phase = s.phase := rfl
@[simp] theorem State.modDie_frame (d : Nat) (f : Die → Die) : (s.modDie d f).frame = s.frame := rfl
@[simp] theorem State.modDie_loft (d : Nat) (f : Die → Die) : (s.modDie d f).loft = s.loft := rfl
@[simp] theorem State.modDie_clusters (d : Nat) (f : Die → Die) : (s.modDie d f).clusters = s.clusters := rfl
@[simp] theorem State.modDie_sched (d : Nat) (f : Die → Die) : (s.modDie d f).sched = s.sched := rfl
@[simp] theorem State.modDie_sparReset (d : Nat) (f : Die → Die) : (s.modDie d f).sparReset = s.sparReset := rfl
@[simp] theorem State.modDie_reel (d : Nat) (f : Die → Die) : (s.modDie d f).reel = s.reel := rfl
@[simp] theorem State.modDie_library (d : Nat) (f : Die → Die) : (s.modDie d f).library = s.library := rfl
@[simp] theorem State.modDie_bridle (d : Nat) (f : Die → Die) : (s.modDie d f).bridle = s.bridle := rfl
@[simp] theorem State.modDie_search (d : Nat) (f : Die → Die) : (s.modDie d f).search = s.search := rfl
@[simp] theorem State.modDie_host (d : Nat) (f : Die → Die) : (s.modDie d f).host = s.host := rfl
@[simp] theorem State.modDie_tether (d : Nat) (f : Die → Die) : (s.modDie d f).tether = s.tether := rfl
@[simp] theorem State.modDie_group (d : Nat) (f : Die → Die) : (s.modDie d f).group = s.group := rfl
@[simp] theorem State.modDie_drogue (d : Nat) (f : Die → Die) : (s.modDie d f).drogue = s.drogue := rfl
@[simp] theorem State.modDie_parity (d : Nat) (f : Die → Die) : (s.modDie d f).parity = s.parity := rfl
@[simp] theorem State.modDie_gondola (d : Nat) (f : Die → Die) : (s.modDie d f).gondola = s.gondola := rfl
@[simp] theorem State.modDie_sec (d : Nat) (f : Die → Die) : (s.modDie d f).sec = s.sec := rfl
@[simp] theorem State.modDie_power (d : Nat) (f : Die → Die) : (s.modDie d f).power = s.power := rfl
@[simp] theorem State.modDie_dbg (d : Nat) (f : Die → Die) : (s.modDie d f).dbg = s.dbg := rfl
@[simp] theorem State.modDie_draws (d : Nat) (f : Die → Die) : (s.modDie d f).draws = s.draws := rfl

@[simp] theorem State.modBlk_pending (d b : Nat) (f : Blk → Blk) : (s.modBlk d b f).pending = s.pending := rfl
@[simp] theorem State.modBlk_phase (d b : Nat) (f : Blk → Blk) : (s.modBlk d b f).phase = s.phase := rfl
@[simp] theorem State.modBlk_frame (d b : Nat) (f : Blk → Blk) : (s.modBlk d b f).frame = s.frame := rfl
@[simp] theorem State.modBlk_loft (d b : Nat) (f : Blk → Blk) : (s.modBlk d b f).loft = s.loft := rfl
@[simp] theorem State.modBlk_clusters (d b : Nat) (f : Blk → Blk) : (s.modBlk d b f).clusters = s.clusters := rfl
@[simp] theorem State.modBlk_sched (d b : Nat) (f : Blk → Blk) : (s.modBlk d b f).sched = s.sched := rfl
@[simp] theorem State.modBlk_sparReset (d b : Nat) (f : Blk → Blk) : (s.modBlk d b f).sparReset = s.sparReset := rfl
@[simp] theorem State.modBlk_reel (d b : Nat) (f : Blk → Blk) : (s.modBlk d b f).reel = s.reel := rfl
@[simp] theorem State.modBlk_library (d b : Nat) (f : Blk → Blk) : (s.modBlk d b f).library = s.library := rfl
@[simp] theorem State.modBlk_bridle (d b : Nat) (f : Blk → Blk) : (s.modBlk d b f).bridle = s.bridle := rfl
@[simp] theorem State.modBlk_search (d b : Nat) (f : Blk → Blk) : (s.modBlk d b f).search = s.search := rfl
@[simp] theorem State.modBlk_host (d b : Nat) (f : Blk → Blk) : (s.modBlk d b f).host = s.host := rfl
@[simp] theorem State.modBlk_tether (d b : Nat) (f : Blk → Blk) : (s.modBlk d b f).tether = s.tether := rfl
@[simp] theorem State.modBlk_group (d b : Nat) (f : Blk → Blk) : (s.modBlk d b f).group = s.group := rfl
@[simp] theorem State.modBlk_drogue (d b : Nat) (f : Blk → Blk) : (s.modBlk d b f).drogue = s.drogue := rfl
@[simp] theorem State.modBlk_parity (d b : Nat) (f : Blk → Blk) : (s.modBlk d b f).parity = s.parity := rfl
@[simp] theorem State.modBlk_gondola (d b : Nat) (f : Blk → Blk) : (s.modBlk d b f).gondola = s.gondola := rfl
@[simp] theorem State.modBlk_sec (d b : Nat) (f : Blk → Blk) : (s.modBlk d b f).sec = s.sec := rfl
@[simp] theorem State.modBlk_power (d b : Nat) (f : Blk → Blk) : (s.modBlk d b f).power = s.power := rfl
@[simp] theorem State.modBlk_dbg (d b : Nat) (f : Blk → Blk) : (s.modBlk d b f).dbg = s.dbg := rfl
@[simp] theorem State.modBlk_draws (d b : Nat) (f : Blk → Blk) : (s.modBlk d b f).draws = s.draws := rfl

@[simp] theorem State.modChan_pending (c : Nat) (f : Channel → Channel) : (s.modChan c f).pending = s.pending := rfl
@[simp] theorem State.modChan_phase (c : Nat) (f : Channel → Channel) : (s.modChan c f).phase = s.phase := rfl
@[simp] theorem State.modChan_frame (c : Nat) (f : Channel → Channel) : (s.modChan c f).frame = s.frame := rfl
@[simp] theorem State.modChan_loft (c : Nat) (f : Channel → Channel) : (s.modChan c f).loft = s.loft := rfl
@[simp] theorem State.modChan_clusters (c : Nat) (f : Channel → Channel) : (s.modChan c f).clusters = s.clusters := rfl
@[simp] theorem State.modChan_sched (c : Nat) (f : Channel → Channel) : (s.modChan c f).sched = s.sched := rfl
@[simp] theorem State.modChan_sparReset (c : Nat) (f : Channel → Channel) : (s.modChan c f).sparReset = s.sparReset := rfl
@[simp] theorem State.modChan_reel (c : Nat) (f : Channel → Channel) : (s.modChan c f).reel = s.reel := rfl
@[simp] theorem State.modChan_library (c : Nat) (f : Channel → Channel) : (s.modChan c f).library = s.library := rfl
@[simp] theorem State.modChan_bridle (c : Nat) (f : Channel → Channel) : (s.modChan c f).bridle = s.bridle := rfl
@[simp] theorem State.modChan_search (c : Nat) (f : Channel → Channel) : (s.modChan c f).search = s.search := rfl
@[simp] theorem State.modChan_host (c : Nat) (f : Channel → Channel) : (s.modChan c f).host = s.host := rfl
@[simp] theorem State.modChan_tether (c : Nat) (f : Channel → Channel) : (s.modChan c f).tether = s.tether := rfl
@[simp] theorem State.modChan_group (c : Nat) (f : Channel → Channel) : (s.modChan c f).group = s.group := rfl
@[simp] theorem State.modChan_drogue (c : Nat) (f : Channel → Channel) : (s.modChan c f).drogue = s.drogue := rfl
@[simp] theorem State.modChan_parity (c : Nat) (f : Channel → Channel) : (s.modChan c f).parity = s.parity := rfl
@[simp] theorem State.modChan_gondola (c : Nat) (f : Channel → Channel) : (s.modChan c f).gondola = s.gondola := rfl
@[simp] theorem State.modChan_sec (c : Nat) (f : Channel → Channel) : (s.modChan c f).sec = s.sec := rfl
@[simp] theorem State.modChan_power (c : Nat) (f : Channel → Channel) : (s.modChan c f).power = s.power := rfl
@[simp] theorem State.modChan_dbg (c : Nat) (f : Channel → Channel) : (s.modChan c f).dbg = s.dbg := rfl
@[simp] theorem State.modChan_draws (c : Nat) (f : Channel → Channel) : (s.modChan c f).draws = s.draws := rfl

@[simp] theorem State.modHealth_pending (f : Health → Health) : (s.modHealth f).pending = s.pending := rfl
@[simp] theorem State.modHealth_phase (f : Health → Health) : (s.modHealth f).phase = s.phase := rfl
@[simp] theorem State.modHealth_frame (f : Health → Health) : (s.modHealth f).frame = s.frame := rfl
@[simp] theorem State.modHealth_loft (f : Health → Health) : (s.modHealth f).loft = s.loft := rfl
@[simp] theorem State.modHealth_clusters (f : Health → Health) : (s.modHealth f).clusters = s.clusters := rfl
@[simp] theorem State.modHealth_sched (f : Health → Health) : (s.modHealth f).sched = s.sched := rfl
@[simp] theorem State.modHealth_sparReset (f : Health → Health) : (s.modHealth f).sparReset = s.sparReset := rfl
@[simp] theorem State.modHealth_reel (f : Health → Health) : (s.modHealth f).reel = s.reel := rfl
@[simp] theorem State.modHealth_library (f : Health → Health) : (s.modHealth f).library = s.library := rfl
@[simp] theorem State.modHealth_bridle (f : Health → Health) : (s.modHealth f).bridle = s.bridle := rfl
@[simp] theorem State.modHealth_search (f : Health → Health) : (s.modHealth f).search = s.search := rfl
@[simp] theorem State.modHealth_host (f : Health → Health) : (s.modHealth f).host = s.host := rfl
@[simp] theorem State.modHealth_tether (f : Health → Health) : (s.modHealth f).tether = s.tether := rfl
@[simp] theorem State.modHealth_group (f : Health → Health) : (s.modHealth f).group = s.group := rfl
@[simp] theorem State.modHealth_drogue (f : Health → Health) : (s.modHealth f).drogue = s.drogue := rfl
@[simp] theorem State.modHealth_parity (f : Health → Health) : (s.modHealth f).parity = s.parity := rfl
@[simp] theorem State.modHealth_gondola (f : Health → Health) : (s.modHealth f).gondola = s.gondola := rfl
@[simp] theorem State.modHealth_sec (f : Health → Health) : (s.modHealth f).sec = s.sec := rfl
@[simp] theorem State.modHealth_power (f : Health → Health) : (s.modHealth f).power = s.power := rfl
@[simp] theorem State.modHealth_dbg (f : Health → Health) : (s.modHealth f).dbg = s.dbg := rfl
@[simp] theorem State.modHealth_draws (f : Health → Health) : (s.modHealth f).draws = s.draws := rfl

@[simp] theorem State.modDsp_pending (n : Nat) (f : Dsp → Dsp) : (s.modDsp n f).pending = s.pending := rfl
@[simp] theorem State.modDsp_phase (n : Nat) (f : Dsp → Dsp) : (s.modDsp n f).phase = s.phase := rfl
@[simp] theorem State.modDsp_frame (n : Nat) (f : Dsp → Dsp) : (s.modDsp n f).frame = s.frame := rfl
@[simp] theorem State.modDsp_loft (n : Nat) (f : Dsp → Dsp) : (s.modDsp n f).loft = s.loft := rfl
@[simp] theorem State.modDsp_clusters (n : Nat) (f : Dsp → Dsp) : (s.modDsp n f).clusters = s.clusters := rfl
@[simp] theorem State.modDsp_sched (n : Nat) (f : Dsp → Dsp) : (s.modDsp n f).sched = s.sched := rfl
@[simp] theorem State.modDsp_sparReset (n : Nat) (f : Dsp → Dsp) : (s.modDsp n f).sparReset = s.sparReset := rfl
@[simp] theorem State.modDsp_reel (n : Nat) (f : Dsp → Dsp) : (s.modDsp n f).reel = s.reel := rfl
@[simp] theorem State.modDsp_library (n : Nat) (f : Dsp → Dsp) : (s.modDsp n f).library = s.library := rfl
@[simp] theorem State.modDsp_bridle (n : Nat) (f : Dsp → Dsp) : (s.modDsp n f).bridle = s.bridle := rfl
@[simp] theorem State.modDsp_search (n : Nat) (f : Dsp → Dsp) : (s.modDsp n f).search = s.search := rfl
@[simp] theorem State.modDsp_host (n : Nat) (f : Dsp → Dsp) : (s.modDsp n f).host = s.host := rfl
@[simp] theorem State.modDsp_tether (n : Nat) (f : Dsp → Dsp) : (s.modDsp n f).tether = s.tether := rfl
@[simp] theorem State.modDsp_group (n : Nat) (f : Dsp → Dsp) : (s.modDsp n f).group = s.group := rfl
@[simp] theorem State.modDsp_drogue (n : Nat) (f : Dsp → Dsp) : (s.modDsp n f).drogue = s.drogue := rfl
@[simp] theorem State.modDsp_parity (n : Nat) (f : Dsp → Dsp) : (s.modDsp n f).parity = s.parity := rfl
@[simp] theorem State.modDsp_gondola (n : Nat) (f : Dsp → Dsp) : (s.modDsp n f).gondola = s.gondola := rfl
@[simp] theorem State.modDsp_sec (n : Nat) (f : Dsp → Dsp) : (s.modDsp n f).sec = s.sec := rfl
@[simp] theorem State.modDsp_power (n : Nat) (f : Dsp → Dsp) : (s.modDsp n f).power = s.power := rfl
@[simp] theorem State.modDsp_dbg (n : Nat) (f : Dsp → Dsp) : (s.modDsp n f).dbg = s.dbg := rfl
@[simp] theorem State.modDsp_draws (n : Nat) (f : Dsp → Dsp) : (s.modDsp n f).draws = s.draws := rfl

@[simp] theorem State.modNs_pending (n : Nat) (f : Namespace → Namespace) : (s.modNs n f).pending = s.pending := rfl
@[simp] theorem State.modNs_phase (n : Nat) (f : Namespace → Namespace) : (s.modNs n f).phase = s.phase := rfl
@[simp] theorem State.modNs_frame (n : Nat) (f : Namespace → Namespace) : (s.modNs n f).frame = s.frame := rfl
@[simp] theorem State.modNs_loft (n : Nat) (f : Namespace → Namespace) : (s.modNs n f).loft = s.loft := rfl
@[simp] theorem State.modNs_clusters (n : Nat) (f : Namespace → Namespace) : (s.modNs n f).clusters = s.clusters := rfl
@[simp] theorem State.modNs_sched (n : Nat) (f : Namespace → Namespace) : (s.modNs n f).sched = s.sched := rfl
@[simp] theorem State.modNs_sparReset (n : Nat) (f : Namespace → Namespace) : (s.modNs n f).sparReset = s.sparReset := rfl
@[simp] theorem State.modNs_reel (n : Nat) (f : Namespace → Namespace) : (s.modNs n f).reel = s.reel := rfl
@[simp] theorem State.modNs_library (n : Nat) (f : Namespace → Namespace) : (s.modNs n f).library = s.library := rfl
@[simp] theorem State.modNs_bridle (n : Nat) (f : Namespace → Namespace) : (s.modNs n f).bridle = s.bridle := rfl
@[simp] theorem State.modNs_search (n : Nat) (f : Namespace → Namespace) : (s.modNs n f).search = s.search := rfl
@[simp] theorem State.modNs_host (n : Nat) (f : Namespace → Namespace) : (s.modNs n f).host = s.host := rfl
@[simp] theorem State.modNs_tether (n : Nat) (f : Namespace → Namespace) : (s.modNs n f).tether = s.tether := rfl
@[simp] theorem State.modNs_group (n : Nat) (f : Namespace → Namespace) : (s.modNs n f).group = s.group := rfl
@[simp] theorem State.modNs_drogue (n : Nat) (f : Namespace → Namespace) : (s.modNs n f).drogue = s.drogue := rfl
@[simp] theorem State.modNs_parity (n : Nat) (f : Namespace → Namespace) : (s.modNs n f).parity = s.parity := rfl
@[simp] theorem State.modNs_gondola (n : Nat) (f : Namespace → Namespace) : (s.modNs n f).gondola = s.gondola := rfl
@[simp] theorem State.modNs_sec (n : Nat) (f : Namespace → Namespace) : (s.modNs n f).sec = s.sec := rfl
@[simp] theorem State.modNs_power (n : Nat) (f : Namespace → Namespace) : (s.modNs n f).power = s.power := rfl
@[simp] theorem State.modNs_dbg (n : Nat) (f : Namespace → Namespace) : (s.modNs n f).dbg = s.dbg := rfl
@[simp] theorem State.modNs_draws (n : Nat) (f : Namespace → Namespace) : (s.modNs n f).draws = s.draws := rfl

@[simp] theorem State.modObj_pending (o : Nat) (f : Obj → Obj) : (s.modObj o f).pending = s.pending := rfl
@[simp] theorem State.modObj_phase (o : Nat) (f : Obj → Obj) : (s.modObj o f).phase = s.phase := rfl
@[simp] theorem State.modObj_frame (o : Nat) (f : Obj → Obj) : (s.modObj o f).frame = s.frame := rfl
@[simp] theorem State.modObj_loft (o : Nat) (f : Obj → Obj) : (s.modObj o f).loft = s.loft := rfl
@[simp] theorem State.modObj_clusters (o : Nat) (f : Obj → Obj) : (s.modObj o f).clusters = s.clusters := rfl
@[simp] theorem State.modObj_sched (o : Nat) (f : Obj → Obj) : (s.modObj o f).sched = s.sched := rfl
@[simp] theorem State.modObj_sparReset (o : Nat) (f : Obj → Obj) : (s.modObj o f).sparReset = s.sparReset := rfl
@[simp] theorem State.modObj_library (o : Nat) (f : Obj → Obj) : (s.modObj o f).library = s.library := rfl
@[simp] theorem State.modObj_bridle (o : Nat) (f : Obj → Obj) : (s.modObj o f).bridle = s.bridle := rfl
@[simp] theorem State.modObj_search (o : Nat) (f : Obj → Obj) : (s.modObj o f).search = s.search := rfl
@[simp] theorem State.modObj_media (o : Nat) (f : Obj → Obj) : (s.modObj o f).media = s.media := rfl
@[simp] theorem State.modObj_host (o : Nat) (f : Obj → Obj) : (s.modObj o f).host = s.host := rfl
@[simp] theorem State.modObj_tether (o : Nat) (f : Obj → Obj) : (s.modObj o f).tether = s.tether := rfl
@[simp] theorem State.modObj_group (o : Nat) (f : Obj → Obj) : (s.modObj o f).group = s.group := rfl
@[simp] theorem State.modObj_drogue (o : Nat) (f : Obj → Obj) : (s.modObj o f).drogue = s.drogue := rfl
@[simp] theorem State.modObj_parity (o : Nat) (f : Obj → Obj) : (s.modObj o f).parity = s.parity := rfl
@[simp] theorem State.modObj_gondola (o : Nat) (f : Obj → Obj) : (s.modObj o f).gondola = s.gondola := rfl
@[simp] theorem State.modObj_sec (o : Nat) (f : Obj → Obj) : (s.modObj o f).sec = s.sec := rfl
@[simp] theorem State.modObj_power (o : Nat) (f : Obj → Obj) : (s.modObj o f).power = s.power := rfl
@[simp] theorem State.modObj_dbg (o : Nat) (f : Obj → Obj) : (s.modObj o f).dbg = s.dbg := rfl
@[simp] theorem State.modObj_draws (o : Nat) (f : Obj → Obj) : (s.modObj o f).draws = s.draws := rfl

@[simp] theorem State.modPiece_pending (o i : Nat) (f : Piece → Piece) : (s.modPiece o i f).pending = s.pending := rfl
@[simp] theorem State.modPiece_phase (o i : Nat) (f : Piece → Piece) : (s.modPiece o i f).phase = s.phase := rfl
@[simp] theorem State.modPiece_frame (o i : Nat) (f : Piece → Piece) : (s.modPiece o i f).frame = s.frame := rfl
@[simp] theorem State.modPiece_loft (o i : Nat) (f : Piece → Piece) : (s.modPiece o i f).loft = s.loft := rfl
@[simp] theorem State.modPiece_clusters (o i : Nat) (f : Piece → Piece) : (s.modPiece o i f).clusters = s.clusters := rfl
@[simp] theorem State.modPiece_sched (o i : Nat) (f : Piece → Piece) : (s.modPiece o i f).sched = s.sched := rfl
@[simp] theorem State.modPiece_sparReset (o i : Nat) (f : Piece → Piece) : (s.modPiece o i f).sparReset = s.sparReset := rfl
@[simp] theorem State.modPiece_library (o i : Nat) (f : Piece → Piece) : (s.modPiece o i f).library = s.library := rfl
@[simp] theorem State.modPiece_bridle (o i : Nat) (f : Piece → Piece) : (s.modPiece o i f).bridle = s.bridle := rfl
@[simp] theorem State.modPiece_search (o i : Nat) (f : Piece → Piece) : (s.modPiece o i f).search = s.search := rfl
@[simp] theorem State.modPiece_media (o i : Nat) (f : Piece → Piece) : (s.modPiece o i f).media = s.media := rfl
@[simp] theorem State.modPiece_host (o i : Nat) (f : Piece → Piece) : (s.modPiece o i f).host = s.host := rfl
@[simp] theorem State.modPiece_tether (o i : Nat) (f : Piece → Piece) : (s.modPiece o i f).tether = s.tether := rfl
@[simp] theorem State.modPiece_group (o i : Nat) (f : Piece → Piece) : (s.modPiece o i f).group = s.group := rfl
@[simp] theorem State.modPiece_drogue (o i : Nat) (f : Piece → Piece) : (s.modPiece o i f).drogue = s.drogue := rfl
@[simp] theorem State.modPiece_parity (o i : Nat) (f : Piece → Piece) : (s.modPiece o i f).parity = s.parity := rfl
@[simp] theorem State.modPiece_gondola (o i : Nat) (f : Piece → Piece) : (s.modPiece o i f).gondola = s.gondola := rfl
@[simp] theorem State.modPiece_sec (o i : Nat) (f : Piece → Piece) : (s.modPiece o i f).sec = s.sec := rfl
@[simp] theorem State.modPiece_power (o i : Nat) (f : Piece → Piece) : (s.modPiece o i f).power = s.power := rfl
@[simp] theorem State.modPiece_dbg (o i : Nat) (f : Piece → Piece) : (s.modPiece o i f).dbg = s.dbg := rfl
@[simp] theorem State.modPiece_draws (o i : Nat) (f : Piece → Piece) : (s.modPiece o i f).draws = s.draws := rfl

@[simp] theorem State.modReel_pending (f : Reel → Reel) : (s.modReel f).pending = s.pending := rfl
@[simp] theorem State.modReel_phase (f : Reel → Reel) : (s.modReel f).phase = s.phase := rfl
@[simp] theorem State.modReel_frame (f : Reel → Reel) : (s.modReel f).frame = s.frame := rfl
@[simp] theorem State.modReel_loft (f : Reel → Reel) : (s.modReel f).loft = s.loft := rfl
@[simp] theorem State.modReel_clusters (f : Reel → Reel) : (s.modReel f).clusters = s.clusters := rfl
@[simp] theorem State.modReel_sched (f : Reel → Reel) : (s.modReel f).sched = s.sched := rfl
@[simp] theorem State.modReel_sparReset (f : Reel → Reel) : (s.modReel f).sparReset = s.sparReset := rfl
@[simp] theorem State.modReel_reel (f : Reel → Reel) : (s.modReel f).reel = f s.reel := rfl
@[simp] theorem State.modReel_library (f : Reel → Reel) : (s.modReel f).library = s.library := rfl
@[simp] theorem State.modReel_bridle (f : Reel → Reel) : (s.modReel f).bridle = s.bridle := rfl
@[simp] theorem State.modReel_search (f : Reel → Reel) : (s.modReel f).search = s.search := rfl
@[simp] theorem State.modReel_media (f : Reel → Reel) : (s.modReel f).media = s.media := rfl
@[simp] theorem State.modReel_host (f : Reel → Reel) : (s.modReel f).host = s.host := rfl
@[simp] theorem State.modReel_tether (f : Reel → Reel) : (s.modReel f).tether = s.tether := rfl
@[simp] theorem State.modReel_group (f : Reel → Reel) : (s.modReel f).group = s.group := rfl
@[simp] theorem State.modReel_drogue (f : Reel → Reel) : (s.modReel f).drogue = s.drogue := rfl
@[simp] theorem State.modReel_parity (f : Reel → Reel) : (s.modReel f).parity = s.parity := rfl
@[simp] theorem State.modReel_gondola (f : Reel → Reel) : (s.modReel f).gondola = s.gondola := rfl
@[simp] theorem State.modReel_sec (f : Reel → Reel) : (s.modReel f).sec = s.sec := rfl
@[simp] theorem State.modReel_power (f : Reel → Reel) : (s.modReel f).power = s.power := rfl
@[simp] theorem State.modReel_dbg (f : Reel → Reel) : (s.modReel f).dbg = s.dbg := rfl
@[simp] theorem State.modReel_draws (f : Reel → Reel) : (s.modReel f).draws = s.draws := rfl

@[simp] theorem State.modModel_pending (k : W64) (f : Model → Model) : (s.modModel k f).pending = s.pending := rfl
@[simp] theorem State.modModel_phase (k : W64) (f : Model → Model) : (s.modModel k f).phase = s.phase := rfl
@[simp] theorem State.modModel_frame (k : W64) (f : Model → Model) : (s.modModel k f).frame = s.frame := rfl
@[simp] theorem State.modModel_loft (k : W64) (f : Model → Model) : (s.modModel k f).loft = s.loft := rfl
@[simp] theorem State.modModel_clusters (k : W64) (f : Model → Model) : (s.modModel k f).clusters = s.clusters := rfl
@[simp] theorem State.modModel_sched (k : W64) (f : Model → Model) : (s.modModel k f).sched = s.sched := rfl
@[simp] theorem State.modModel_sparReset (k : W64) (f : Model → Model) : (s.modModel k f).sparReset = s.sparReset := rfl
@[simp] theorem State.modModel_reel (k : W64) (f : Model → Model) : (s.modModel k f).reel = s.reel := rfl
@[simp] theorem State.modModel_bridle (k : W64) (f : Model → Model) : (s.modModel k f).bridle = s.bridle := rfl
@[simp] theorem State.modModel_search (k : W64) (f : Model → Model) : (s.modModel k f).search = s.search := rfl
@[simp] theorem State.modModel_media (k : W64) (f : Model → Model) : (s.modModel k f).media = s.media := rfl
@[simp] theorem State.modModel_host (k : W64) (f : Model → Model) : (s.modModel k f).host = s.host := rfl
@[simp] theorem State.modModel_tether (k : W64) (f : Model → Model) : (s.modModel k f).tether = s.tether := rfl
@[simp] theorem State.modModel_group (k : W64) (f : Model → Model) : (s.modModel k f).group = s.group := rfl
@[simp] theorem State.modModel_drogue (k : W64) (f : Model → Model) : (s.modModel k f).drogue = s.drogue := rfl
@[simp] theorem State.modModel_parity (k : W64) (f : Model → Model) : (s.modModel k f).parity = s.parity := rfl
@[simp] theorem State.modModel_gondola (k : W64) (f : Model → Model) : (s.modModel k f).gondola = s.gondola := rfl
@[simp] theorem State.modModel_sec (k : W64) (f : Model → Model) : (s.modModel k f).sec = s.sec := rfl
@[simp] theorem State.modModel_power (k : W64) (f : Model → Model) : (s.modModel k f).power = s.power := rfl
@[simp] theorem State.modModel_dbg (k : W64) (f : Model → Model) : (s.modModel k f).dbg = s.dbg := rfl
@[simp] theorem State.modModel_draws (k : W64) (f : Model → Model) : (s.modModel k f).draws = s.draws := rfl

@[simp] theorem State.modCtx_pending (i : Nat) (f : Context → Context) : (s.modCtx i f).pending = s.pending := rfl
@[simp] theorem State.modCtx_phase (i : Nat) (f : Context → Context) : (s.modCtx i f).phase = s.phase := rfl
@[simp] theorem State.modCtx_frame (i : Nat) (f : Context → Context) : (s.modCtx i f).frame = s.frame := rfl
@[simp] theorem State.modCtx_loft (i : Nat) (f : Context → Context) : (s.modCtx i f).loft = s.loft := rfl
@[simp] theorem State.modCtx_clusters (i : Nat) (f : Context → Context) : (s.modCtx i f).clusters = s.clusters := rfl
@[simp] theorem State.modCtx_sched (i : Nat) (f : Context → Context) : (s.modCtx i f).sched = s.sched := rfl
@[simp] theorem State.modCtx_sparReset (i : Nat) (f : Context → Context) : (s.modCtx i f).sparReset = s.sparReset := rfl
@[simp] theorem State.modCtx_reel (i : Nat) (f : Context → Context) : (s.modCtx i f).reel = s.reel := rfl
@[simp] theorem State.modCtx_bridle (i : Nat) (f : Context → Context) : (s.modCtx i f).bridle = s.bridle := rfl
@[simp] theorem State.modCtx_search (i : Nat) (f : Context → Context) : (s.modCtx i f).search = s.search := rfl
@[simp] theorem State.modCtx_media (i : Nat) (f : Context → Context) : (s.modCtx i f).media = s.media := rfl
@[simp] theorem State.modCtx_host (i : Nat) (f : Context → Context) : (s.modCtx i f).host = s.host := rfl
@[simp] theorem State.modCtx_tether (i : Nat) (f : Context → Context) : (s.modCtx i f).tether = s.tether := rfl
@[simp] theorem State.modCtx_group (i : Nat) (f : Context → Context) : (s.modCtx i f).group = s.group := rfl
@[simp] theorem State.modCtx_drogue (i : Nat) (f : Context → Context) : (s.modCtx i f).drogue = s.drogue := rfl
@[simp] theorem State.modCtx_parity (i : Nat) (f : Context → Context) : (s.modCtx i f).parity = s.parity := rfl
@[simp] theorem State.modCtx_gondola (i : Nat) (f : Context → Context) : (s.modCtx i f).gondola = s.gondola := rfl
@[simp] theorem State.modCtx_sec (i : Nat) (f : Context → Context) : (s.modCtx i f).sec = s.sec := rfl
@[simp] theorem State.modCtx_power (i : Nat) (f : Context → Context) : (s.modCtx i f).power = s.power := rfl
@[simp] theorem State.modCtx_dbg (i : Nat) (f : Context → Context) : (s.modCtx i f).dbg = s.dbg := rfl
@[simp] theorem State.modCtx_draws (i : Nat) (f : Context → Context) : (s.modCtx i f).draws = s.draws := rfl

@[simp] theorem State.modRefit_pending (j : Nat) (f : Refit → Refit) : (s.modRefit j f).pending = s.pending := rfl
@[simp] theorem State.modRefit_phase (j : Nat) (f : Refit → Refit) : (s.modRefit j f).phase = s.phase := rfl
@[simp] theorem State.modRefit_frame (j : Nat) (f : Refit → Refit) : (s.modRefit j f).frame = s.frame := rfl
@[simp] theorem State.modRefit_loft (j : Nat) (f : Refit → Refit) : (s.modRefit j f).loft = s.loft := rfl
@[simp] theorem State.modRefit_clusters (j : Nat) (f : Refit → Refit) : (s.modRefit j f).clusters = s.clusters := rfl
@[simp] theorem State.modRefit_sched (j : Nat) (f : Refit → Refit) : (s.modRefit j f).sched = s.sched := rfl
@[simp] theorem State.modRefit_sparReset (j : Nat) (f : Refit → Refit) : (s.modRefit j f).sparReset = s.sparReset := rfl
@[simp] theorem State.modRefit_reel (j : Nat) (f : Refit → Refit) : (s.modRefit j f).reel = s.reel := rfl
@[simp] theorem State.modRefit_bridle (j : Nat) (f : Refit → Refit) : (s.modRefit j f).bridle = s.bridle := rfl
@[simp] theorem State.modRefit_search (j : Nat) (f : Refit → Refit) : (s.modRefit j f).search = s.search := rfl
@[simp] theorem State.modRefit_media (j : Nat) (f : Refit → Refit) : (s.modRefit j f).media = s.media := rfl
@[simp] theorem State.modRefit_host (j : Nat) (f : Refit → Refit) : (s.modRefit j f).host = s.host := rfl
@[simp] theorem State.modRefit_tether (j : Nat) (f : Refit → Refit) : (s.modRefit j f).tether = s.tether := rfl
@[simp] theorem State.modRefit_group (j : Nat) (f : Refit → Refit) : (s.modRefit j f).group = s.group := rfl
@[simp] theorem State.modRefit_drogue (j : Nat) (f : Refit → Refit) : (s.modRefit j f).drogue = s.drogue := rfl
@[simp] theorem State.modRefit_parity (j : Nat) (f : Refit → Refit) : (s.modRefit j f).parity = s.parity := rfl
@[simp] theorem State.modRefit_gondola (j : Nat) (f : Refit → Refit) : (s.modRefit j f).gondola = s.gondola := rfl
@[simp] theorem State.modRefit_sec (j : Nat) (f : Refit → Refit) : (s.modRefit j f).sec = s.sec := rfl
@[simp] theorem State.modRefit_power (j : Nat) (f : Refit → Refit) : (s.modRefit j f).power = s.power := rfl
@[simp] theorem State.modRefit_dbg (j : Nat) (f : Refit → Refit) : (s.modRefit j f).dbg = s.dbg := rfl
@[simp] theorem State.modRefit_draws (j : Nat) (f : Refit → Refit) : (s.modRefit j f).draws = s.draws := rfl

@[simp] theorem State.modEntry_pending (u : Nat) (f : PassEntry → PassEntry) : (s.modEntry u f).pending = s.pending := rfl
@[simp] theorem State.modEntry_phase (u : Nat) (f : PassEntry → PassEntry) : (s.modEntry u f).phase = s.phase := rfl
@[simp] theorem State.modEntry_frame (u : Nat) (f : PassEntry → PassEntry) : (s.modEntry u f).frame = s.frame := rfl
@[simp] theorem State.modEntry_loft (u : Nat) (f : PassEntry → PassEntry) : (s.modEntry u f).loft = s.loft := rfl
@[simp] theorem State.modEntry_clusters (u : Nat) (f : PassEntry → PassEntry) : (s.modEntry u f).clusters = s.clusters := rfl
@[simp] theorem State.modEntry_sparReset (u : Nat) (f : PassEntry → PassEntry) : (s.modEntry u f).sparReset = s.sparReset := rfl
@[simp] theorem State.modEntry_reel (u : Nat) (f : PassEntry → PassEntry) : (s.modEntry u f).reel = s.reel := rfl
@[simp] theorem State.modEntry_library (u : Nat) (f : PassEntry → PassEntry) : (s.modEntry u f).library = s.library := rfl
@[simp] theorem State.modEntry_bridle (u : Nat) (f : PassEntry → PassEntry) : (s.modEntry u f).bridle = s.bridle := rfl
@[simp] theorem State.modEntry_search (u : Nat) (f : PassEntry → PassEntry) : (s.modEntry u f).search = s.search := rfl
@[simp] theorem State.modEntry_media (u : Nat) (f : PassEntry → PassEntry) : (s.modEntry u f).media = s.media := rfl
@[simp] theorem State.modEntry_host (u : Nat) (f : PassEntry → PassEntry) : (s.modEntry u f).host = s.host := rfl
@[simp] theorem State.modEntry_tether (u : Nat) (f : PassEntry → PassEntry) : (s.modEntry u f).tether = s.tether := rfl
@[simp] theorem State.modEntry_group (u : Nat) (f : PassEntry → PassEntry) : (s.modEntry u f).group = s.group := rfl
@[simp] theorem State.modEntry_drogue (u : Nat) (f : PassEntry → PassEntry) : (s.modEntry u f).drogue = s.drogue := rfl
@[simp] theorem State.modEntry_parity (u : Nat) (f : PassEntry → PassEntry) : (s.modEntry u f).parity = s.parity := rfl
@[simp] theorem State.modEntry_gondola (u : Nat) (f : PassEntry → PassEntry) : (s.modEntry u f).gondola = s.gondola := rfl
@[simp] theorem State.modEntry_sec (u : Nat) (f : PassEntry → PassEntry) : (s.modEntry u f).sec = s.sec := rfl
@[simp] theorem State.modEntry_power (u : Nat) (f : PassEntry → PassEntry) : (s.modEntry u f).power = s.power := rfl
@[simp] theorem State.modEntry_dbg (u : Nat) (f : PassEntry → PassEntry) : (s.modEntry u f).dbg = s.dbg := rfl
@[simp] theorem State.modEntry_draws (u : Nat) (f : PassEntry → PassEntry) : (s.modEntry u f).draws = s.draws := rfl

@[simp] theorem State.modContract_pending (k : Nat) (f : CtEntry → CtEntry) : (s.modContract k f).pending = s.pending := rfl
@[simp] theorem State.modContract_phase (k : Nat) (f : CtEntry → CtEntry) : (s.modContract k f).phase = s.phase := rfl
@[simp] theorem State.modContract_frame (k : Nat) (f : CtEntry → CtEntry) : (s.modContract k f).frame = s.frame := rfl
@[simp] theorem State.modContract_loft (k : Nat) (f : CtEntry → CtEntry) : (s.modContract k f).loft = s.loft := rfl
@[simp] theorem State.modContract_clusters (k : Nat) (f : CtEntry → CtEntry) : (s.modContract k f).clusters = s.clusters := rfl
@[simp] theorem State.modContract_sparReset (k : Nat) (f : CtEntry → CtEntry) : (s.modContract k f).sparReset = s.sparReset := rfl
@[simp] theorem State.modContract_reel (k : Nat) (f : CtEntry → CtEntry) : (s.modContract k f).reel = s.reel := rfl
@[simp] theorem State.modContract_library (k : Nat) (f : CtEntry → CtEntry) : (s.modContract k f).library = s.library := rfl
@[simp] theorem State.modContract_bridle (k : Nat) (f : CtEntry → CtEntry) : (s.modContract k f).bridle = s.bridle := rfl
@[simp] theorem State.modContract_search (k : Nat) (f : CtEntry → CtEntry) : (s.modContract k f).search = s.search := rfl
@[simp] theorem State.modContract_media (k : Nat) (f : CtEntry → CtEntry) : (s.modContract k f).media = s.media := rfl
@[simp] theorem State.modContract_host (k : Nat) (f : CtEntry → CtEntry) : (s.modContract k f).host = s.host := rfl
@[simp] theorem State.modContract_tether (k : Nat) (f : CtEntry → CtEntry) : (s.modContract k f).tether = s.tether := rfl
@[simp] theorem State.modContract_group (k : Nat) (f : CtEntry → CtEntry) : (s.modContract k f).group = s.group := rfl
@[simp] theorem State.modContract_drogue (k : Nat) (f : CtEntry → CtEntry) : (s.modContract k f).drogue = s.drogue := rfl
@[simp] theorem State.modContract_parity (k : Nat) (f : CtEntry → CtEntry) : (s.modContract k f).parity = s.parity := rfl
@[simp] theorem State.modContract_gondola (k : Nat) (f : CtEntry → CtEntry) : (s.modContract k f).gondola = s.gondola := rfl
@[simp] theorem State.modContract_sec (k : Nat) (f : CtEntry → CtEntry) : (s.modContract k f).sec = s.sec := rfl
@[simp] theorem State.modContract_power (k : Nat) (f : CtEntry → CtEntry) : (s.modContract k f).power = s.power := rfl
@[simp] theorem State.modContract_dbg (k : Nat) (f : CtEntry → CtEntry) : (s.modContract k f).dbg = s.dbg := rfl
@[simp] theorem State.modContract_draws (k : Nat) (f : CtEntry → CtEntry) : (s.modContract k f).draws = s.draws := rfl

@[simp] theorem State.modSearch_pending (f : Search → Search) : (s.modSearch f).pending = s.pending := rfl
@[simp] theorem State.modSearch_phase (f : Search → Search) : (s.modSearch f).phase = s.phase := rfl
@[simp] theorem State.modSearch_frame (f : Search → Search) : (s.modSearch f).frame = s.frame := rfl
@[simp] theorem State.modSearch_loft (f : Search → Search) : (s.modSearch f).loft = s.loft := rfl
@[simp] theorem State.modSearch_clusters (f : Search → Search) : (s.modSearch f).clusters = s.clusters := rfl
@[simp] theorem State.modSearch_sched (f : Search → Search) : (s.modSearch f).sched = s.sched := rfl
@[simp] theorem State.modSearch_sparReset (f : Search → Search) : (s.modSearch f).sparReset = s.sparReset := rfl
@[simp] theorem State.modSearch_reel (f : Search → Search) : (s.modSearch f).reel = s.reel := rfl
@[simp] theorem State.modSearch_library (f : Search → Search) : (s.modSearch f).library = s.library := rfl
@[simp] theorem State.modSearch_bridle (f : Search → Search) : (s.modSearch f).bridle = s.bridle := rfl
@[simp] theorem State.modSearch_search (f : Search → Search) : (s.modSearch f).search = f s.search := rfl
@[simp] theorem State.modSearch_media (f : Search → Search) : (s.modSearch f).media = s.media := rfl
@[simp] theorem State.modSearch_host (f : Search → Search) : (s.modSearch f).host = s.host := rfl
@[simp] theorem State.modSearch_tether (f : Search → Search) : (s.modSearch f).tether = s.tether := rfl
@[simp] theorem State.modSearch_group (f : Search → Search) : (s.modSearch f).group = s.group := rfl
@[simp] theorem State.modSearch_drogue (f : Search → Search) : (s.modSearch f).drogue = s.drogue := rfl
@[simp] theorem State.modSearch_parity (f : Search → Search) : (s.modSearch f).parity = s.parity := rfl
@[simp] theorem State.modSearch_gondola (f : Search → Search) : (s.modSearch f).gondola = s.gondola := rfl
@[simp] theorem State.modSearch_sec (f : Search → Search) : (s.modSearch f).sec = s.sec := rfl
@[simp] theorem State.modSearch_power (f : Search → Search) : (s.modSearch f).power = s.power := rfl
@[simp] theorem State.modSearch_dbg (f : Search → Search) : (s.modSearch f).dbg = s.dbg := rfl
@[simp] theorem State.modSearch_draws (f : Search → Search) : (s.modSearch f).draws = s.draws := rfl

@[simp] theorem State.modShard_pending (i : W64) (k : W16) (f : Shard → Shard) : (s.modShard i k f).pending = s.pending := rfl
@[simp] theorem State.modShard_phase (i : W64) (k : W16) (f : Shard → Shard) : (s.modShard i k f).phase = s.phase := rfl
@[simp] theorem State.modShard_frame (i : W64) (k : W16) (f : Shard → Shard) : (s.modShard i k f).frame = s.frame := rfl
@[simp] theorem State.modShard_loft (i : W64) (k : W16) (f : Shard → Shard) : (s.modShard i k f).loft = s.loft := rfl
@[simp] theorem State.modShard_clusters (i : W64) (k : W16) (f : Shard → Shard) : (s.modShard i k f).clusters = s.clusters := rfl
@[simp] theorem State.modShard_sched (i : W64) (k : W16) (f : Shard → Shard) : (s.modShard i k f).sched = s.sched := rfl
@[simp] theorem State.modShard_sparReset (i : W64) (k : W16) (f : Shard → Shard) : (s.modShard i k f).sparReset = s.sparReset := rfl
@[simp] theorem State.modShard_reel (i : W64) (k : W16) (f : Shard → Shard) : (s.modShard i k f).reel = s.reel := rfl
@[simp] theorem State.modShard_library (i : W64) (k : W16) (f : Shard → Shard) : (s.modShard i k f).library = s.library := rfl
@[simp] theorem State.modShard_bridle (i : W64) (k : W16) (f : Shard → Shard) : (s.modShard i k f).bridle = s.bridle := rfl
@[simp] theorem State.modShard_media (i : W64) (k : W16) (f : Shard → Shard) : (s.modShard i k f).media = s.media := rfl
@[simp] theorem State.modShard_host (i : W64) (k : W16) (f : Shard → Shard) : (s.modShard i k f).host = s.host := rfl
@[simp] theorem State.modShard_tether (i : W64) (k : W16) (f : Shard → Shard) : (s.modShard i k f).tether = s.tether := rfl
@[simp] theorem State.modShard_group (i : W64) (k : W16) (f : Shard → Shard) : (s.modShard i k f).group = s.group := rfl
@[simp] theorem State.modShard_drogue (i : W64) (k : W16) (f : Shard → Shard) : (s.modShard i k f).drogue = s.drogue := rfl
@[simp] theorem State.modShard_parity (i : W64) (k : W16) (f : Shard → Shard) : (s.modShard i k f).parity = s.parity := rfl
@[simp] theorem State.modShard_gondola (i : W64) (k : W16) (f : Shard → Shard) : (s.modShard i k f).gondola = s.gondola := rfl
@[simp] theorem State.modShard_sec (i : W64) (k : W16) (f : Shard → Shard) : (s.modShard i k f).sec = s.sec := rfl
@[simp] theorem State.modShard_power (i : W64) (k : W16) (f : Shard → Shard) : (s.modShard i k f).power = s.power := rfl
@[simp] theorem State.modShard_dbg (i : W64) (k : W16) (f : Shard → Shard) : (s.modShard i k f).dbg = s.dbg := rfl
@[simp] theorem State.modShard_draws (i : W64) (k : W16) (f : Shard → Shard) : (s.modShard i k f).draws = s.draws := rfl

@[simp] theorem State.modQuery_pending (i : CmdId) (f : Query → Query) : (s.modQuery i f).pending = s.pending := rfl
@[simp] theorem State.modQuery_phase (i : CmdId) (f : Query → Query) : (s.modQuery i f).phase = s.phase := rfl
@[simp] theorem State.modQuery_frame (i : CmdId) (f : Query → Query) : (s.modQuery i f).frame = s.frame := rfl
@[simp] theorem State.modQuery_loft (i : CmdId) (f : Query → Query) : (s.modQuery i f).loft = s.loft := rfl
@[simp] theorem State.modQuery_clusters (i : CmdId) (f : Query → Query) : (s.modQuery i f).clusters = s.clusters := rfl
@[simp] theorem State.modQuery_sched (i : CmdId) (f : Query → Query) : (s.modQuery i f).sched = s.sched := rfl
@[simp] theorem State.modQuery_sparReset (i : CmdId) (f : Query → Query) : (s.modQuery i f).sparReset = s.sparReset := rfl
@[simp] theorem State.modQuery_reel (i : CmdId) (f : Query → Query) : (s.modQuery i f).reel = s.reel := rfl
@[simp] theorem State.modQuery_library (i : CmdId) (f : Query → Query) : (s.modQuery i f).library = s.library := rfl
@[simp] theorem State.modQuery_bridle (i : CmdId) (f : Query → Query) : (s.modQuery i f).bridle = s.bridle := rfl
@[simp] theorem State.modQuery_media (i : CmdId) (f : Query → Query) : (s.modQuery i f).media = s.media := rfl
@[simp] theorem State.modQuery_host (i : CmdId) (f : Query → Query) : (s.modQuery i f).host = s.host := rfl
@[simp] theorem State.modQuery_tether (i : CmdId) (f : Query → Query) : (s.modQuery i f).tether = s.tether := rfl
@[simp] theorem State.modQuery_group (i : CmdId) (f : Query → Query) : (s.modQuery i f).group = s.group := rfl
@[simp] theorem State.modQuery_drogue (i : CmdId) (f : Query → Query) : (s.modQuery i f).drogue = s.drogue := rfl
@[simp] theorem State.modQuery_parity (i : CmdId) (f : Query → Query) : (s.modQuery i f).parity = s.parity := rfl
@[simp] theorem State.modQuery_gondola (i : CmdId) (f : Query → Query) : (s.modQuery i f).gondola = s.gondola := rfl
@[simp] theorem State.modQuery_sec (i : CmdId) (f : Query → Query) : (s.modQuery i f).sec = s.sec := rfl
@[simp] theorem State.modQuery_power (i : CmdId) (f : Query → Query) : (s.modQuery i f).power = s.power := rfl
@[simp] theorem State.modQuery_dbg (i : CmdId) (f : Query → Query) : (s.modQuery i f).dbg = s.dbg := rfl
@[simp] theorem State.modQuery_draws (i : CmdId) (f : Query → Query) : (s.modQuery i f).draws = s.draws := rfl

@[simp] theorem State.modJob_pending (i : W16) (f : EmbedJob → EmbedJob) : (s.modJob i f).pending = s.pending := rfl
@[simp] theorem State.modJob_phase (i : W16) (f : EmbedJob → EmbedJob) : (s.modJob i f).phase = s.phase := rfl
@[simp] theorem State.modJob_frame (i : W16) (f : EmbedJob → EmbedJob) : (s.modJob i f).frame = s.frame := rfl
@[simp] theorem State.modJob_loft (i : W16) (f : EmbedJob → EmbedJob) : (s.modJob i f).loft = s.loft := rfl
@[simp] theorem State.modJob_clusters (i : W16) (f : EmbedJob → EmbedJob) : (s.modJob i f).clusters = s.clusters := rfl
@[simp] theorem State.modJob_sched (i : W16) (f : EmbedJob → EmbedJob) : (s.modJob i f).sched = s.sched := rfl
@[simp] theorem State.modJob_sparReset (i : W16) (f : EmbedJob → EmbedJob) : (s.modJob i f).sparReset = s.sparReset := rfl
@[simp] theorem State.modJob_reel (i : W16) (f : EmbedJob → EmbedJob) : (s.modJob i f).reel = s.reel := rfl
@[simp] theorem State.modJob_library (i : W16) (f : EmbedJob → EmbedJob) : (s.modJob i f).library = s.library := rfl
@[simp] theorem State.modJob_bridle (i : W16) (f : EmbedJob → EmbedJob) : (s.modJob i f).bridle = s.bridle := rfl
@[simp] theorem State.modJob_media (i : W16) (f : EmbedJob → EmbedJob) : (s.modJob i f).media = s.media := rfl
@[simp] theorem State.modJob_host (i : W16) (f : EmbedJob → EmbedJob) : (s.modJob i f).host = s.host := rfl
@[simp] theorem State.modJob_tether (i : W16) (f : EmbedJob → EmbedJob) : (s.modJob i f).tether = s.tether := rfl
@[simp] theorem State.modJob_group (i : W16) (f : EmbedJob → EmbedJob) : (s.modJob i f).group = s.group := rfl
@[simp] theorem State.modJob_drogue (i : W16) (f : EmbedJob → EmbedJob) : (s.modJob i f).drogue = s.drogue := rfl
@[simp] theorem State.modJob_parity (i : W16) (f : EmbedJob → EmbedJob) : (s.modJob i f).parity = s.parity := rfl
@[simp] theorem State.modJob_gondola (i : W16) (f : EmbedJob → EmbedJob) : (s.modJob i f).gondola = s.gondola := rfl
@[simp] theorem State.modJob_sec (i : W16) (f : EmbedJob → EmbedJob) : (s.modJob i f).sec = s.sec := rfl
@[simp] theorem State.modJob_power (i : W16) (f : EmbedJob → EmbedJob) : (s.modJob i f).power = s.power := rfl
@[simp] theorem State.modJob_dbg (i : W16) (f : EmbedJob → EmbedJob) : (s.modJob i f).dbg = s.dbg := rfl
@[simp] theorem State.modJob_draws (i : W16) (f : EmbedJob → EmbedJob) : (s.modJob i f).draws = s.draws := rfl

@[simp] theorem State.modHostCtrl_pending (n : W16) (f : HostCtrl → HostCtrl) : (s.modHostCtrl n f).pending = s.pending := rfl
@[simp] theorem State.modHostCtrl_phase (n : W16) (f : HostCtrl → HostCtrl) : (s.modHostCtrl n f).phase = s.phase := rfl
@[simp] theorem State.modHostCtrl_frame (n : W16) (f : HostCtrl → HostCtrl) : (s.modHostCtrl n f).frame = s.frame := rfl
@[simp] theorem State.modHostCtrl_loft (n : W16) (f : HostCtrl → HostCtrl) : (s.modHostCtrl n f).loft = s.loft := rfl
@[simp] theorem State.modHostCtrl_clusters (n : W16) (f : HostCtrl → HostCtrl) : (s.modHostCtrl n f).clusters = s.clusters := rfl
@[simp] theorem State.modHostCtrl_sched (n : W16) (f : HostCtrl → HostCtrl) : (s.modHostCtrl n f).sched = s.sched := rfl
@[simp] theorem State.modHostCtrl_sparReset (n : W16) (f : HostCtrl → HostCtrl) : (s.modHostCtrl n f).sparReset = s.sparReset := rfl
@[simp] theorem State.modHostCtrl_reel (n : W16) (f : HostCtrl → HostCtrl) : (s.modHostCtrl n f).reel = s.reel := rfl
@[simp] theorem State.modHostCtrl_library (n : W16) (f : HostCtrl → HostCtrl) : (s.modHostCtrl n f).library = s.library := rfl
@[simp] theorem State.modHostCtrl_bridle (n : W16) (f : HostCtrl → HostCtrl) : (s.modHostCtrl n f).bridle = s.bridle := rfl
@[simp] theorem State.modHostCtrl_search (n : W16) (f : HostCtrl → HostCtrl) : (s.modHostCtrl n f).search = s.search := rfl
@[simp] theorem State.modHostCtrl_media (n : W16) (f : HostCtrl → HostCtrl) : (s.modHostCtrl n f).media = s.media := rfl
@[simp] theorem State.modHostCtrl_tether (n : W16) (f : HostCtrl → HostCtrl) : (s.modHostCtrl n f).tether = s.tether := rfl
@[simp] theorem State.modHostCtrl_group (n : W16) (f : HostCtrl → HostCtrl) : (s.modHostCtrl n f).group = s.group := rfl
@[simp] theorem State.modHostCtrl_drogue (n : W16) (f : HostCtrl → HostCtrl) : (s.modHostCtrl n f).drogue = s.drogue := rfl
@[simp] theorem State.modHostCtrl_parity (n : W16) (f : HostCtrl → HostCtrl) : (s.modHostCtrl n f).parity = s.parity := rfl
@[simp] theorem State.modHostCtrl_gondola (n : W16) (f : HostCtrl → HostCtrl) : (s.modHostCtrl n f).gondola = s.gondola := rfl
@[simp] theorem State.modHostCtrl_sec (n : W16) (f : HostCtrl → HostCtrl) : (s.modHostCtrl n f).sec = s.sec := rfl
@[simp] theorem State.modHostCtrl_power (n : W16) (f : HostCtrl → HostCtrl) : (s.modHostCtrl n f).power = s.power := rfl
@[simp] theorem State.modHostCtrl_dbg (n : W16) (f : HostCtrl → HostCtrl) : (s.modHostCtrl n f).dbg = s.dbg := rfl
@[simp] theorem State.modHostCtrl_draws (n : W16) (f : HostCtrl → HostCtrl) : (s.modHostCtrl n f).draws = s.draws := rfl

@[simp] theorem State.modGroup_pending (f : Group → Group) : (s.modGroup f).pending = s.pending := rfl
@[simp] theorem State.modGroup_phase (f : Group → Group) : (s.modGroup f).phase = s.phase := rfl
@[simp] theorem State.modGroup_frame (f : Group → Group) : (s.modGroup f).frame = s.frame := rfl
@[simp] theorem State.modGroup_loft (f : Group → Group) : (s.modGroup f).loft = s.loft := rfl
@[simp] theorem State.modGroup_clusters (f : Group → Group) : (s.modGroup f).clusters = s.clusters := rfl
@[simp] theorem State.modGroup_sched (f : Group → Group) : (s.modGroup f).sched = s.sched := rfl
@[simp] theorem State.modGroup_sparReset (f : Group → Group) : (s.modGroup f).sparReset = s.sparReset := rfl
@[simp] theorem State.modGroup_reel (f : Group → Group) : (s.modGroup f).reel = s.reel := rfl
@[simp] theorem State.modGroup_library (f : Group → Group) : (s.modGroup f).library = s.library := rfl
@[simp] theorem State.modGroup_bridle (f : Group → Group) : (s.modGroup f).bridle = s.bridle := rfl
@[simp] theorem State.modGroup_search (f : Group → Group) : (s.modGroup f).search = s.search := rfl
@[simp] theorem State.modGroup_media (f : Group → Group) : (s.modGroup f).media = s.media := rfl
@[simp] theorem State.modGroup_host (f : Group → Group) : (s.modGroup f).host = s.host := rfl
@[simp] theorem State.modGroup_tether (f : Group → Group) : (s.modGroup f).tether = s.tether := rfl
@[simp] theorem State.modGroup_group (f : Group → Group) : (s.modGroup f).group = f s.group := rfl
@[simp] theorem State.modGroup_drogue (f : Group → Group) : (s.modGroup f).drogue = s.drogue := rfl
@[simp] theorem State.modGroup_parity (f : Group → Group) : (s.modGroup f).parity = s.parity := rfl
@[simp] theorem State.modGroup_gondola (f : Group → Group) : (s.modGroup f).gondola = s.gondola := rfl
@[simp] theorem State.modGroup_sec (f : Group → Group) : (s.modGroup f).sec = s.sec := rfl
@[simp] theorem State.modGroup_power (f : Group → Group) : (s.modGroup f).power = s.power := rfl
@[simp] theorem State.modGroup_dbg (f : Group → Group) : (s.modGroup f).dbg = s.dbg := rfl
@[simp] theorem State.modGroup_draws (f : Group → Group) : (s.modGroup f).draws = s.draws := rfl

@[simp] theorem State.modMember_pending (r : Nat) (f : Member → Member) : (s.modMember r f).pending = s.pending := rfl
@[simp] theorem State.modMember_phase (r : Nat) (f : Member → Member) : (s.modMember r f).phase = s.phase := rfl
@[simp] theorem State.modMember_frame (r : Nat) (f : Member → Member) : (s.modMember r f).frame = s.frame := rfl
@[simp] theorem State.modMember_loft (r : Nat) (f : Member → Member) : (s.modMember r f).loft = s.loft := rfl
@[simp] theorem State.modMember_clusters (r : Nat) (f : Member → Member) : (s.modMember r f).clusters = s.clusters := rfl
@[simp] theorem State.modMember_sched (r : Nat) (f : Member → Member) : (s.modMember r f).sched = s.sched := rfl
@[simp] theorem State.modMember_sparReset (r : Nat) (f : Member → Member) : (s.modMember r f).sparReset = s.sparReset := rfl
@[simp] theorem State.modMember_reel (r : Nat) (f : Member → Member) : (s.modMember r f).reel = s.reel := rfl
@[simp] theorem State.modMember_library (r : Nat) (f : Member → Member) : (s.modMember r f).library = s.library := rfl
@[simp] theorem State.modMember_bridle (r : Nat) (f : Member → Member) : (s.modMember r f).bridle = s.bridle := rfl
@[simp] theorem State.modMember_search (r : Nat) (f : Member → Member) : (s.modMember r f).search = s.search := rfl
@[simp] theorem State.modMember_media (r : Nat) (f : Member → Member) : (s.modMember r f).media = s.media := rfl
@[simp] theorem State.modMember_host (r : Nat) (f : Member → Member) : (s.modMember r f).host = s.host := rfl
@[simp] theorem State.modMember_tether (r : Nat) (f : Member → Member) : (s.modMember r f).tether = s.tether := rfl
@[simp] theorem State.modMember_drogue (r : Nat) (f : Member → Member) : (s.modMember r f).drogue = s.drogue := rfl
@[simp] theorem State.modMember_parity (r : Nat) (f : Member → Member) : (s.modMember r f).parity = s.parity := rfl
@[simp] theorem State.modMember_gondola (r : Nat) (f : Member → Member) : (s.modMember r f).gondola = s.gondola := rfl
@[simp] theorem State.modMember_sec (r : Nat) (f : Member → Member) : (s.modMember r f).sec = s.sec := rfl
@[simp] theorem State.modMember_power (r : Nat) (f : Member → Member) : (s.modMember r f).power = s.power := rfl
@[simp] theorem State.modMember_dbg (r : Nat) (f : Member → Member) : (s.modMember r f).dbg = s.dbg := rfl
@[simp] theorem State.modMember_draws (r : Nat) (f : Member → Member) : (s.modMember r f).draws = s.draws := rfl

@[simp] theorem State.modHeld_pending (p : Place) (f : HeldCopy → HeldCopy) : (s.modHeld p f).pending = s.pending := rfl
@[simp] theorem State.modHeld_phase (p : Place) (f : HeldCopy → HeldCopy) : (s.modHeld p f).phase = s.phase := rfl
@[simp] theorem State.modHeld_frame (p : Place) (f : HeldCopy → HeldCopy) : (s.modHeld p f).frame = s.frame := rfl
@[simp] theorem State.modHeld_loft (p : Place) (f : HeldCopy → HeldCopy) : (s.modHeld p f).loft = s.loft := rfl
@[simp] theorem State.modHeld_clusters (p : Place) (f : HeldCopy → HeldCopy) : (s.modHeld p f).clusters = s.clusters := rfl
@[simp] theorem State.modHeld_sched (p : Place) (f : HeldCopy → HeldCopy) : (s.modHeld p f).sched = s.sched := rfl
@[simp] theorem State.modHeld_sparReset (p : Place) (f : HeldCopy → HeldCopy) : (s.modHeld p f).sparReset = s.sparReset := rfl
@[simp] theorem State.modHeld_reel (p : Place) (f : HeldCopy → HeldCopy) : (s.modHeld p f).reel = s.reel := rfl
@[simp] theorem State.modHeld_library (p : Place) (f : HeldCopy → HeldCopy) : (s.modHeld p f).library = s.library := rfl
@[simp] theorem State.modHeld_bridle (p : Place) (f : HeldCopy → HeldCopy) : (s.modHeld p f).bridle = s.bridle := rfl
@[simp] theorem State.modHeld_search (p : Place) (f : HeldCopy → HeldCopy) : (s.modHeld p f).search = s.search := rfl
@[simp] theorem State.modHeld_media (p : Place) (f : HeldCopy → HeldCopy) : (s.modHeld p f).media = s.media := rfl
@[simp] theorem State.modHeld_host (p : Place) (f : HeldCopy → HeldCopy) : (s.modHeld p f).host = s.host := rfl
@[simp] theorem State.modHeld_tether (p : Place) (f : HeldCopy → HeldCopy) : (s.modHeld p f).tether = s.tether := rfl
@[simp] theorem State.modHeld_drogue (p : Place) (f : HeldCopy → HeldCopy) : (s.modHeld p f).drogue = s.drogue := rfl
@[simp] theorem State.modHeld_parity (p : Place) (f : HeldCopy → HeldCopy) : (s.modHeld p f).parity = s.parity := rfl
@[simp] theorem State.modHeld_gondola (p : Place) (f : HeldCopy → HeldCopy) : (s.modHeld p f).gondola = s.gondola := rfl
@[simp] theorem State.modHeld_sec (p : Place) (f : HeldCopy → HeldCopy) : (s.modHeld p f).sec = s.sec := rfl
@[simp] theorem State.modHeld_power (p : Place) (f : HeldCopy → HeldCopy) : (s.modHeld p f).power = s.power := rfl
@[simp] theorem State.modHeld_dbg (p : Place) (f : HeldCopy → HeldCopy) : (s.modHeld p f).dbg = s.dbg := rfl
@[simp] theorem State.modHeld_draws (p : Place) (f : HeldCopy → HeldCopy) : (s.modHeld p f).draws = s.draws := rfl

@[simp] theorem State.modQp_pending (n : Nat) (f : QueuePair → QueuePair) : (s.modQp n f).pending = s.pending := rfl
@[simp] theorem State.modQp_phase (n : Nat) (f : QueuePair → QueuePair) : (s.modQp n f).phase = s.phase := rfl
@[simp] theorem State.modQp_frame (n : Nat) (f : QueuePair → QueuePair) : (s.modQp n f).frame = s.frame := rfl
@[simp] theorem State.modQp_loft (n : Nat) (f : QueuePair → QueuePair) : (s.modQp n f).loft = s.loft := rfl
@[simp] theorem State.modQp_clusters (n : Nat) (f : QueuePair → QueuePair) : (s.modQp n f).clusters = s.clusters := rfl
@[simp] theorem State.modQp_sched (n : Nat) (f : QueuePair → QueuePair) : (s.modQp n f).sched = s.sched := rfl
@[simp] theorem State.modQp_sparReset (n : Nat) (f : QueuePair → QueuePair) : (s.modQp n f).sparReset = s.sparReset := rfl
@[simp] theorem State.modQp_reel (n : Nat) (f : QueuePair → QueuePair) : (s.modQp n f).reel = s.reel := rfl
@[simp] theorem State.modQp_library (n : Nat) (f : QueuePair → QueuePair) : (s.modQp n f).library = s.library := rfl
@[simp] theorem State.modQp_bridle (n : Nat) (f : QueuePair → QueuePair) : (s.modQp n f).bridle = s.bridle := rfl
@[simp] theorem State.modQp_search (n : Nat) (f : QueuePair → QueuePair) : (s.modQp n f).search = s.search := rfl
@[simp] theorem State.modQp_media (n : Nat) (f : QueuePair → QueuePair) : (s.modQp n f).media = s.media := rfl
@[simp] theorem State.modQp_host (n : Nat) (f : QueuePair → QueuePair) : (s.modQp n f).host = s.host := rfl
@[simp] theorem State.modQp_group (n : Nat) (f : QueuePair → QueuePair) : (s.modQp n f).group = s.group := rfl
@[simp] theorem State.modQp_drogue (n : Nat) (f : QueuePair → QueuePair) : (s.modQp n f).drogue = s.drogue := rfl
@[simp] theorem State.modQp_parity (n : Nat) (f : QueuePair → QueuePair) : (s.modQp n f).parity = s.parity := rfl
@[simp] theorem State.modQp_gondola (n : Nat) (f : QueuePair → QueuePair) : (s.modQp n f).gondola = s.gondola := rfl
@[simp] theorem State.modQp_sec (n : Nat) (f : QueuePair → QueuePair) : (s.modQp n f).sec = s.sec := rfl
@[simp] theorem State.modQp_power (n : Nat) (f : QueuePair → QueuePair) : (s.modQp n f).power = s.power := rfl
@[simp] theorem State.modQp_dbg (n : Nat) (f : QueuePair → QueuePair) : (s.modQp n f).dbg = s.dbg := rfl
@[simp] theorem State.modQp_draws (n : Nat) (f : QueuePair → QueuePair) : (s.modQp n f).draws = s.draws := rfl

@[simp] theorem State.modDrogue_pending (f : Drogue → Drogue) : (s.modDrogue f).pending = s.pending := rfl
@[simp] theorem State.modDrogue_phase (f : Drogue → Drogue) : (s.modDrogue f).phase = s.phase := rfl
@[simp] theorem State.modDrogue_frame (f : Drogue → Drogue) : (s.modDrogue f).frame = s.frame := rfl
@[simp] theorem State.modDrogue_loft (f : Drogue → Drogue) : (s.modDrogue f).loft = s.loft := rfl
@[simp] theorem State.modDrogue_clusters (f : Drogue → Drogue) : (s.modDrogue f).clusters = s.clusters := rfl
@[simp] theorem State.modDrogue_sched (f : Drogue → Drogue) : (s.modDrogue f).sched = s.sched := rfl
@[simp] theorem State.modDrogue_sparReset (f : Drogue → Drogue) : (s.modDrogue f).sparReset = s.sparReset := rfl
@[simp] theorem State.modDrogue_reel (f : Drogue → Drogue) : (s.modDrogue f).reel = s.reel := rfl
@[simp] theorem State.modDrogue_library (f : Drogue → Drogue) : (s.modDrogue f).library = s.library := rfl
@[simp] theorem State.modDrogue_bridle (f : Drogue → Drogue) : (s.modDrogue f).bridle = s.bridle := rfl
@[simp] theorem State.modDrogue_search (f : Drogue → Drogue) : (s.modDrogue f).search = s.search := rfl
@[simp] theorem State.modDrogue_media (f : Drogue → Drogue) : (s.modDrogue f).media = s.media := rfl
@[simp] theorem State.modDrogue_host (f : Drogue → Drogue) : (s.modDrogue f).host = s.host := rfl
@[simp] theorem State.modDrogue_tether (f : Drogue → Drogue) : (s.modDrogue f).tether = s.tether := rfl
@[simp] theorem State.modDrogue_group (f : Drogue → Drogue) : (s.modDrogue f).group = s.group := rfl
@[simp] theorem State.modDrogue_drogue (f : Drogue → Drogue) : (s.modDrogue f).drogue = f s.drogue := rfl
@[simp] theorem State.modDrogue_parity (f : Drogue → Drogue) : (s.modDrogue f).parity = s.parity := rfl
@[simp] theorem State.modDrogue_gondola (f : Drogue → Drogue) : (s.modDrogue f).gondola = s.gondola := rfl
@[simp] theorem State.modDrogue_sec (f : Drogue → Drogue) : (s.modDrogue f).sec = s.sec := rfl
@[simp] theorem State.modDrogue_power (f : Drogue → Drogue) : (s.modDrogue f).power = s.power := rfl
@[simp] theorem State.modDrogue_dbg (f : Drogue → Drogue) : (s.modDrogue f).dbg = s.dbg := rfl
@[simp] theorem State.modDrogue_draws (f : Drogue → Drogue) : (s.modDrogue f).draws = s.draws := rfl

@[simp] theorem State.modLoft_pending (f : Loft → Loft) : (s.modLoft f).pending = s.pending := rfl
@[simp] theorem State.modLoft_phase (f : Loft → Loft) : (s.modLoft f).phase = s.phase := rfl
@[simp] theorem State.modLoft_frame (f : Loft → Loft) : (s.modLoft f).frame = s.frame := rfl
@[simp] theorem State.modLoft_loft (f : Loft → Loft) : (s.modLoft f).loft = f s.loft := rfl
@[simp] theorem State.modLoft_clusters (f : Loft → Loft) : (s.modLoft f).clusters = s.clusters := rfl
@[simp] theorem State.modLoft_sched (f : Loft → Loft) : (s.modLoft f).sched = s.sched := rfl
@[simp] theorem State.modLoft_sparReset (f : Loft → Loft) : (s.modLoft f).sparReset = s.sparReset := rfl
@[simp] theorem State.modLoft_reel (f : Loft → Loft) : (s.modLoft f).reel = s.reel := rfl
@[simp] theorem State.modLoft_library (f : Loft → Loft) : (s.modLoft f).library = s.library := rfl
@[simp] theorem State.modLoft_bridle (f : Loft → Loft) : (s.modLoft f).bridle = s.bridle := rfl
@[simp] theorem State.modLoft_search (f : Loft → Loft) : (s.modLoft f).search = s.search := rfl
@[simp] theorem State.modLoft_media (f : Loft → Loft) : (s.modLoft f).media = s.media := rfl
@[simp] theorem State.modLoft_host (f : Loft → Loft) : (s.modLoft f).host = s.host := rfl
@[simp] theorem State.modLoft_tether (f : Loft → Loft) : (s.modLoft f).tether = s.tether := rfl
@[simp] theorem State.modLoft_group (f : Loft → Loft) : (s.modLoft f).group = s.group := rfl
@[simp] theorem State.modLoft_drogue (f : Loft → Loft) : (s.modLoft f).drogue = s.drogue := rfl
@[simp] theorem State.modLoft_parity (f : Loft → Loft) : (s.modLoft f).parity = s.parity := rfl
@[simp] theorem State.modLoft_gondola (f : Loft → Loft) : (s.modLoft f).gondola = s.gondola := rfl
@[simp] theorem State.modLoft_sec (f : Loft → Loft) : (s.modLoft f).sec = s.sec := rfl
@[simp] theorem State.modLoft_power (f : Loft → Loft) : (s.modLoft f).power = s.power := rfl
@[simp] theorem State.modLoft_dbg (f : Loft → Loft) : (s.modLoft f).dbg = s.dbg := rfl
@[simp] theorem State.modLoft_draws (f : Loft → Loft) : (s.modLoft f).draws = s.draws := rfl

@[simp] theorem State.modSec_pending (f : Sec → Sec) : (s.modSec f).pending = s.pending := rfl
@[simp] theorem State.modSec_phase (f : Sec → Sec) : (s.modSec f).phase = s.phase := rfl
@[simp] theorem State.modSec_frame (f : Sec → Sec) : (s.modSec f).frame = s.frame := rfl
@[simp] theorem State.modSec_loft (f : Sec → Sec) : (s.modSec f).loft = s.loft := rfl
@[simp] theorem State.modSec_clusters (f : Sec → Sec) : (s.modSec f).clusters = s.clusters := rfl
@[simp] theorem State.modSec_sched (f : Sec → Sec) : (s.modSec f).sched = s.sched := rfl
@[simp] theorem State.modSec_sparReset (f : Sec → Sec) : (s.modSec f).sparReset = s.sparReset := rfl
@[simp] theorem State.modSec_reel (f : Sec → Sec) : (s.modSec f).reel = s.reel := rfl
@[simp] theorem State.modSec_library (f : Sec → Sec) : (s.modSec f).library = s.library := rfl
@[simp] theorem State.modSec_bridle (f : Sec → Sec) : (s.modSec f).bridle = s.bridle := rfl
@[simp] theorem State.modSec_search (f : Sec → Sec) : (s.modSec f).search = s.search := rfl
@[simp] theorem State.modSec_media (f : Sec → Sec) : (s.modSec f).media = s.media := rfl
@[simp] theorem State.modSec_host (f : Sec → Sec) : (s.modSec f).host = s.host := rfl
@[simp] theorem State.modSec_tether (f : Sec → Sec) : (s.modSec f).tether = s.tether := rfl
@[simp] theorem State.modSec_group (f : Sec → Sec) : (s.modSec f).group = s.group := rfl
@[simp] theorem State.modSec_drogue (f : Sec → Sec) : (s.modSec f).drogue = s.drogue := rfl
@[simp] theorem State.modSec_parity (f : Sec → Sec) : (s.modSec f).parity = s.parity := rfl
@[simp] theorem State.modSec_gondola (f : Sec → Sec) : (s.modSec f).gondola = s.gondola := rfl
@[simp] theorem State.modSec_sec (f : Sec → Sec) : (s.modSec f).sec = f s.sec := rfl
@[simp] theorem State.modSec_power (f : Sec → Sec) : (s.modSec f).power = s.power := rfl
@[simp] theorem State.modSec_dbg (f : Sec → Sec) : (s.modSec f).dbg = s.dbg := rfl
@[simp] theorem State.modSec_draws (f : Sec → Sec) : (s.modSec f).draws = s.draws := rfl

@[simp] theorem State.modSpdm_pending (f : Spdm → Spdm) : (s.modSpdm f).pending = s.pending := rfl
@[simp] theorem State.modSpdm_phase (f : Spdm → Spdm) : (s.modSpdm f).phase = s.phase := rfl
@[simp] theorem State.modSpdm_frame (f : Spdm → Spdm) : (s.modSpdm f).frame = s.frame := rfl
@[simp] theorem State.modSpdm_loft (f : Spdm → Spdm) : (s.modSpdm f).loft = s.loft := rfl
@[simp] theorem State.modSpdm_clusters (f : Spdm → Spdm) : (s.modSpdm f).clusters = s.clusters := rfl
@[simp] theorem State.modSpdm_sched (f : Spdm → Spdm) : (s.modSpdm f).sched = s.sched := rfl
@[simp] theorem State.modSpdm_sparReset (f : Spdm → Spdm) : (s.modSpdm f).sparReset = s.sparReset := rfl
@[simp] theorem State.modSpdm_reel (f : Spdm → Spdm) : (s.modSpdm f).reel = s.reel := rfl
@[simp] theorem State.modSpdm_library (f : Spdm → Spdm) : (s.modSpdm f).library = s.library := rfl
@[simp] theorem State.modSpdm_bridle (f : Spdm → Spdm) : (s.modSpdm f).bridle = s.bridle := rfl
@[simp] theorem State.modSpdm_search (f : Spdm → Spdm) : (s.modSpdm f).search = s.search := rfl
@[simp] theorem State.modSpdm_media (f : Spdm → Spdm) : (s.modSpdm f).media = s.media := rfl
@[simp] theorem State.modSpdm_host (f : Spdm → Spdm) : (s.modSpdm f).host = s.host := rfl
@[simp] theorem State.modSpdm_tether (f : Spdm → Spdm) : (s.modSpdm f).tether = s.tether := rfl
@[simp] theorem State.modSpdm_group (f : Spdm → Spdm) : (s.modSpdm f).group = s.group := rfl
@[simp] theorem State.modSpdm_drogue (f : Spdm → Spdm) : (s.modSpdm f).drogue = s.drogue := rfl
@[simp] theorem State.modSpdm_parity (f : Spdm → Spdm) : (s.modSpdm f).parity = s.parity := rfl
@[simp] theorem State.modSpdm_gondola (f : Spdm → Spdm) : (s.modSpdm f).gondola = s.gondola := rfl
@[simp] theorem State.modSpdm_power (f : Spdm → Spdm) : (s.modSpdm f).power = s.power := rfl
@[simp] theorem State.modSpdm_dbg (f : Spdm → Spdm) : (s.modSpdm f).dbg = s.dbg := rfl
@[simp] theorem State.modSpdm_draws (f : Spdm → Spdm) : (s.modSpdm f).draws = s.draws := rfl

@[simp] theorem State.modPower_pending (f : Power → Power) : (s.modPower f).pending = s.pending := rfl
@[simp] theorem State.modPower_phase (f : Power → Power) : (s.modPower f).phase = s.phase := rfl
@[simp] theorem State.modPower_frame (f : Power → Power) : (s.modPower f).frame = s.frame := rfl
@[simp] theorem State.modPower_loft (f : Power → Power) : (s.modPower f).loft = s.loft := rfl
@[simp] theorem State.modPower_clusters (f : Power → Power) : (s.modPower f).clusters = s.clusters := rfl
@[simp] theorem State.modPower_sched (f : Power → Power) : (s.modPower f).sched = s.sched := rfl
@[simp] theorem State.modPower_sparReset (f : Power → Power) : (s.modPower f).sparReset = s.sparReset := rfl
@[simp] theorem State.modPower_reel (f : Power → Power) : (s.modPower f).reel = s.reel := rfl
@[simp] theorem State.modPower_library (f : Power → Power) : (s.modPower f).library = s.library := rfl
@[simp] theorem State.modPower_bridle (f : Power → Power) : (s.modPower f).bridle = s.bridle := rfl
@[simp] theorem State.modPower_search (f : Power → Power) : (s.modPower f).search = s.search := rfl
@[simp] theorem State.modPower_media (f : Power → Power) : (s.modPower f).media = s.media := rfl
@[simp] theorem State.modPower_host (f : Power → Power) : (s.modPower f).host = s.host := rfl
@[simp] theorem State.modPower_tether (f : Power → Power) : (s.modPower f).tether = s.tether := rfl
@[simp] theorem State.modPower_group (f : Power → Power) : (s.modPower f).group = s.group := rfl
@[simp] theorem State.modPower_drogue (f : Power → Power) : (s.modPower f).drogue = s.drogue := rfl
@[simp] theorem State.modPower_parity (f : Power → Power) : (s.modPower f).parity = s.parity := rfl
@[simp] theorem State.modPower_gondola (f : Power → Power) : (s.modPower f).gondola = s.gondola := rfl
@[simp] theorem State.modPower_sec (f : Power → Power) : (s.modPower f).sec = s.sec := rfl
@[simp] theorem State.modPower_power (f : Power → Power) : (s.modPower f).power = f s.power := rfl
@[simp] theorem State.modPower_dbg (f : Power → Power) : (s.modPower f).dbg = s.dbg := rfl
@[simp] theorem State.modPower_draws (f : Power → Power) : (s.modPower f).draws = s.draws := rfl

@[simp] theorem State.modDbg_pending (f : Dbg → Dbg) : (s.modDbg f).pending = s.pending := rfl
@[simp] theorem State.modDbg_phase (f : Dbg → Dbg) : (s.modDbg f).phase = s.phase := rfl
@[simp] theorem State.modDbg_frame (f : Dbg → Dbg) : (s.modDbg f).frame = s.frame := rfl
@[simp] theorem State.modDbg_loft (f : Dbg → Dbg) : (s.modDbg f).loft = s.loft := rfl
@[simp] theorem State.modDbg_clusters (f : Dbg → Dbg) : (s.modDbg f).clusters = s.clusters := rfl
@[simp] theorem State.modDbg_sched (f : Dbg → Dbg) : (s.modDbg f).sched = s.sched := rfl
@[simp] theorem State.modDbg_sparReset (f : Dbg → Dbg) : (s.modDbg f).sparReset = s.sparReset := rfl
@[simp] theorem State.modDbg_reel (f : Dbg → Dbg) : (s.modDbg f).reel = s.reel := rfl
@[simp] theorem State.modDbg_library (f : Dbg → Dbg) : (s.modDbg f).library = s.library := rfl
@[simp] theorem State.modDbg_bridle (f : Dbg → Dbg) : (s.modDbg f).bridle = s.bridle := rfl
@[simp] theorem State.modDbg_search (f : Dbg → Dbg) : (s.modDbg f).search = s.search := rfl
@[simp] theorem State.modDbg_media (f : Dbg → Dbg) : (s.modDbg f).media = s.media := rfl
@[simp] theorem State.modDbg_host (f : Dbg → Dbg) : (s.modDbg f).host = s.host := rfl
@[simp] theorem State.modDbg_tether (f : Dbg → Dbg) : (s.modDbg f).tether = s.tether := rfl
@[simp] theorem State.modDbg_group (f : Dbg → Dbg) : (s.modDbg f).group = s.group := rfl
@[simp] theorem State.modDbg_drogue (f : Dbg → Dbg) : (s.modDbg f).drogue = s.drogue := rfl
@[simp] theorem State.modDbg_parity (f : Dbg → Dbg) : (s.modDbg f).parity = s.parity := rfl
@[simp] theorem State.modDbg_gondola (f : Dbg → Dbg) : (s.modDbg f).gondola = s.gondola := rfl
@[simp] theorem State.modDbg_sec (f : Dbg → Dbg) : (s.modDbg f).sec = s.sec := rfl
@[simp] theorem State.modDbg_power (f : Dbg → Dbg) : (s.modDbg f).power = s.power := rfl
@[simp] theorem State.modDbg_dbg (f : Dbg → Dbg) : (s.modDbg f).dbg = f s.dbg := rfl
@[simp] theorem State.modDbg_draws (f : Dbg → Dbg) : (s.modDbg f).draws = s.draws := rfl

@[simp] theorem State.raise_pending (c n : Nat) : (s.raise c n).pending = s.pending := rfl
@[simp] theorem State.raise_phase (c n : Nat) : (s.raise c n).phase = s.phase := rfl
@[simp] theorem State.raise_frame (c n : Nat) : (s.raise c n).frame = s.frame := rfl
@[simp] theorem State.raise_loft (c n : Nat) : (s.raise c n).loft = s.loft := rfl
@[simp] theorem State.raise_sched (c n : Nat) : (s.raise c n).sched = s.sched := rfl
@[simp] theorem State.raise_sparReset (c n : Nat) : (s.raise c n).sparReset = s.sparReset := rfl
@[simp] theorem State.raise_reel (c n : Nat) : (s.raise c n).reel = s.reel := rfl
@[simp] theorem State.raise_library (c n : Nat) : (s.raise c n).library = s.library := rfl
@[simp] theorem State.raise_bridle (c n : Nat) : (s.raise c n).bridle = s.bridle := rfl
@[simp] theorem State.raise_search (c n : Nat) : (s.raise c n).search = s.search := rfl
@[simp] theorem State.raise_media (c n : Nat) : (s.raise c n).media = s.media := rfl
@[simp] theorem State.raise_host (c n : Nat) : (s.raise c n).host = s.host := rfl
@[simp] theorem State.raise_tether (c n : Nat) : (s.raise c n).tether = s.tether := rfl
@[simp] theorem State.raise_group (c n : Nat) : (s.raise c n).group = s.group := rfl
@[simp] theorem State.raise_drogue (c n : Nat) : (s.raise c n).drogue = s.drogue := rfl
@[simp] theorem State.raise_parity (c n : Nat) : (s.raise c n).parity = s.parity := rfl
@[simp] theorem State.raise_gondola (c n : Nat) : (s.raise c n).gondola = s.gondola := rfl
@[simp] theorem State.raise_sec (c n : Nat) : (s.raise c n).sec = s.sec := rfl
@[simp] theorem State.raise_power (c n : Nat) : (s.raise c n).power = s.power := rfl
@[simp] theorem State.raise_dbg (c n : Nat) : (s.raise c n).dbg = s.dbg := rfl
@[simp] theorem State.raise_draws (c n : Nat) : (s.raise c n).draws = s.draws := rfl

@[simp] theorem State.raiseAll_pending (n : Nat) : (s.raiseAll n).pending = s.pending := rfl
@[simp] theorem State.raiseAll_phase (n : Nat) : (s.raiseAll n).phase = s.phase := rfl
@[simp] theorem State.raiseAll_frame (n : Nat) : (s.raiseAll n).frame = s.frame := rfl
@[simp] theorem State.raiseAll_loft (n : Nat) : (s.raiseAll n).loft = s.loft := rfl
@[simp] theorem State.raiseAll_sched (n : Nat) : (s.raiseAll n).sched = s.sched := rfl
@[simp] theorem State.raiseAll_sparReset (n : Nat) : (s.raiseAll n).sparReset = s.sparReset := rfl
@[simp] theorem State.raiseAll_reel (n : Nat) : (s.raiseAll n).reel = s.reel := rfl
@[simp] theorem State.raiseAll_library (n : Nat) : (s.raiseAll n).library = s.library := rfl
@[simp] theorem State.raiseAll_bridle (n : Nat) : (s.raiseAll n).bridle = s.bridle := rfl
@[simp] theorem State.raiseAll_search (n : Nat) : (s.raiseAll n).search = s.search := rfl
@[simp] theorem State.raiseAll_media (n : Nat) : (s.raiseAll n).media = s.media := rfl
@[simp] theorem State.raiseAll_host (n : Nat) : (s.raiseAll n).host = s.host := rfl
@[simp] theorem State.raiseAll_tether (n : Nat) : (s.raiseAll n).tether = s.tether := rfl
@[simp] theorem State.raiseAll_group (n : Nat) : (s.raiseAll n).group = s.group := rfl
@[simp] theorem State.raiseAll_drogue (n : Nat) : (s.raiseAll n).drogue = s.drogue := rfl
@[simp] theorem State.raiseAll_parity (n : Nat) : (s.raiseAll n).parity = s.parity := rfl
@[simp] theorem State.raiseAll_gondola (n : Nat) : (s.raiseAll n).gondola = s.gondola := rfl
@[simp] theorem State.raiseAll_sec (n : Nat) : (s.raiseAll n).sec = s.sec := rfl
@[simp] theorem State.raiseAll_power (n : Nat) : (s.raiseAll n).power = s.power := rfl
@[simp] theorem State.raiseAll_dbg (n : Nat) : (s.raiseAll n).dbg = s.dbg := rfl
@[simp] theorem State.raiseAll_draws (n : Nat) : (s.raiseAll n).draws = s.draws := rfl

@[simp] theorem State.noteCause_pending (b : Nat) (p : Request → Bool) : (s.noteCause b p).pending = s.pending := rfl
@[simp] theorem State.noteCause_phase (b : Nat) (p : Request → Bool) : (s.noteCause b p).phase = s.phase := rfl
@[simp] theorem State.noteCause_frame (b : Nat) (p : Request → Bool) : (s.noteCause b p).frame = s.frame := rfl
@[simp] theorem State.noteCause_loft (b : Nat) (p : Request → Bool) : (s.noteCause b p).loft = s.loft := rfl
@[simp] theorem State.noteCause_clusters (b : Nat) (p : Request → Bool) : (s.noteCause b p).clusters = s.clusters := rfl
@[simp] theorem State.noteCause_sparReset (b : Nat) (p : Request → Bool) : (s.noteCause b p).sparReset = s.sparReset := rfl
@[simp] theorem State.noteCause_reel (b : Nat) (p : Request → Bool) : (s.noteCause b p).reel = s.reel := rfl
@[simp] theorem State.noteCause_library (b : Nat) (p : Request → Bool) : (s.noteCause b p).library = s.library := rfl
@[simp] theorem State.noteCause_bridle (b : Nat) (p : Request → Bool) : (s.noteCause b p).bridle = s.bridle := rfl
@[simp] theorem State.noteCause_search (b : Nat) (p : Request → Bool) : (s.noteCause b p).search = s.search := rfl
@[simp] theorem State.noteCause_media (b : Nat) (p : Request → Bool) : (s.noteCause b p).media = s.media := rfl
@[simp] theorem State.noteCause_host (b : Nat) (p : Request → Bool) : (s.noteCause b p).host = s.host := rfl
@[simp] theorem State.noteCause_tether (b : Nat) (p : Request → Bool) : (s.noteCause b p).tether = s.tether := rfl
@[simp] theorem State.noteCause_group (b : Nat) (p : Request → Bool) : (s.noteCause b p).group = s.group := rfl
@[simp] theorem State.noteCause_drogue (b : Nat) (p : Request → Bool) : (s.noteCause b p).drogue = s.drogue := rfl
@[simp] theorem State.noteCause_parity (b : Nat) (p : Request → Bool) : (s.noteCause b p).parity = s.parity := rfl
@[simp] theorem State.noteCause_gondola (b : Nat) (p : Request → Bool) : (s.noteCause b p).gondola = s.gondola := rfl
@[simp] theorem State.noteCause_sec (b : Nat) (p : Request → Bool) : (s.noteCause b p).sec = s.sec := rfl
@[simp] theorem State.noteCause_power (b : Nat) (p : Request → Bool) : (s.noteCause b p).power = s.power := rfl
@[simp] theorem State.noteCause_dbg (b : Nat) (p : Request → Bool) : (s.noteCause b p).dbg = s.dbg := rfl
@[simp] theorem State.noteCause_draws (b : Nat) (p : Request → Bool) : (s.noteCause b p).draws = s.draws := rfl

@[simp] theorem State.replyLater_pending (r : Reply) : (s.replyLater r).pending = s.pending := rfl
@[simp] theorem State.replyLater_phase (r : Reply) : (s.replyLater r).phase = s.phase := rfl
@[simp] theorem State.replyLater_frame (r : Reply) : (s.replyLater r).frame = s.frame := rfl
@[simp] theorem State.replyLater_loft (r : Reply) : (s.replyLater r).loft = s.loft := rfl
@[simp] theorem State.replyLater_clusters (r : Reply) : (s.replyLater r).clusters = s.clusters := rfl
@[simp] theorem State.replyLater_sched (r : Reply) : (s.replyLater r).sched = s.sched := rfl
@[simp] theorem State.replyLater_sparReset (r : Reply) : (s.replyLater r).sparReset = s.sparReset := rfl
@[simp] theorem State.replyLater_reel (r : Reply) : (s.replyLater r).reel = s.reel := rfl
@[simp] theorem State.replyLater_library (r : Reply) : (s.replyLater r).library = s.library := rfl
@[simp] theorem State.replyLater_search (r : Reply) : (s.replyLater r).search = s.search := rfl
@[simp] theorem State.replyLater_media (r : Reply) : (s.replyLater r).media = s.media := rfl
@[simp] theorem State.replyLater_host (r : Reply) : (s.replyLater r).host = s.host := rfl
@[simp] theorem State.replyLater_tether (r : Reply) : (s.replyLater r).tether = s.tether := rfl
@[simp] theorem State.replyLater_group (r : Reply) : (s.replyLater r).group = s.group := rfl
@[simp] theorem State.replyLater_drogue (r : Reply) : (s.replyLater r).drogue = s.drogue := rfl
@[simp] theorem State.replyLater_parity (r : Reply) : (s.replyLater r).parity = s.parity := rfl
@[simp] theorem State.replyLater_gondola (r : Reply) : (s.replyLater r).gondola = s.gondola := rfl
@[simp] theorem State.replyLater_sec (r : Reply) : (s.replyLater r).sec = s.sec := rfl
@[simp] theorem State.replyLater_power (r : Reply) : (s.replyLater r).power = s.power := rfl
@[simp] theorem State.replyLater_dbg (r : Reply) : (s.replyLater r).dbg = s.dbg := rfl
@[simp] theorem State.replyLater_draws (r : Reply) : (s.replyLater r).draws = s.draws := rfl

@[simp] theorem State.send_pending (net r : Nat) (m : Bytes) : (s.send net r m).pending = s.pending := rfl
@[simp] theorem State.send_phase (net r : Nat) (m : Bytes) : (s.send net r m).phase = s.phase := rfl
@[simp] theorem State.send_frame (net r : Nat) (m : Bytes) : (s.send net r m).frame = s.frame := rfl
@[simp] theorem State.send_loft (net r : Nat) (m : Bytes) : (s.send net r m).loft = s.loft := rfl
@[simp] theorem State.send_clusters (net r : Nat) (m : Bytes) : (s.send net r m).clusters = s.clusters := rfl
@[simp] theorem State.send_sched (net r : Nat) (m : Bytes) : (s.send net r m).sched = s.sched := rfl
@[simp] theorem State.send_sparReset (net r : Nat) (m : Bytes) : (s.send net r m).sparReset = s.sparReset := rfl
@[simp] theorem State.send_reel (net r : Nat) (m : Bytes) : (s.send net r m).reel = s.reel := rfl
@[simp] theorem State.send_library (net r : Nat) (m : Bytes) : (s.send net r m).library = s.library := rfl
@[simp] theorem State.send_bridle (net r : Nat) (m : Bytes) : (s.send net r m).bridle = s.bridle := rfl
@[simp] theorem State.send_search (net r : Nat) (m : Bytes) : (s.send net r m).search = s.search := rfl
@[simp] theorem State.send_media (net r : Nat) (m : Bytes) : (s.send net r m).media = s.media := rfl
@[simp] theorem State.send_host (net r : Nat) (m : Bytes) : (s.send net r m).host = s.host := rfl
@[simp] theorem State.send_tether (net r : Nat) (m : Bytes) : (s.send net r m).tether = s.tether := rfl
@[simp] theorem State.send_drogue (net r : Nat) (m : Bytes) : (s.send net r m).drogue = s.drogue := rfl
@[simp] theorem State.send_parity (net r : Nat) (m : Bytes) : (s.send net r m).parity = s.parity := rfl
@[simp] theorem State.send_gondola (net r : Nat) (m : Bytes) : (s.send net r m).gondola = s.gondola := rfl
@[simp] theorem State.send_sec (net r : Nat) (m : Bytes) : (s.send net r m).sec = s.sec := rfl
@[simp] theorem State.send_power (net r : Nat) (m : Bytes) : (s.send net r m).power = s.power := rfl
@[simp] theorem State.send_dbg (net r : Nat) (m : Bytes) : (s.send net r m).dbg = s.dbg := rfl
@[simp] theorem State.send_draws (net r : Nat) (m : Bytes) : (s.send net r m).draws = s.draws := rfl

@[simp] theorem State.leave_pending (i : CmdId) : (s.leave i).pending = s.pending := rfl
@[simp] theorem State.leave_phase (i : CmdId) : (s.leave i).phase = s.phase := rfl
@[simp] theorem State.leave_frame (i : CmdId) : (s.leave i).frame = s.frame := rfl
@[simp] theorem State.leave_loft (i : CmdId) : (s.leave i).loft = s.loft := rfl
@[simp] theorem State.leave_clusters (i : CmdId) : (s.leave i).clusters = s.clusters := rfl
@[simp] theorem State.leave_sched (i : CmdId) : (s.leave i).sched = s.sched := rfl
@[simp] theorem State.leave_sparReset (i : CmdId) : (s.leave i).sparReset = s.sparReset := rfl
@[simp] theorem State.leave_reel (i : CmdId) : (s.leave i).reel = s.reel := rfl
@[simp] theorem State.leave_library (i : CmdId) : (s.leave i).library = s.library := rfl
@[simp] theorem State.leave_bridle (i : CmdId) : (s.leave i).bridle = s.bridle := rfl
@[simp] theorem State.leave_search (i : CmdId) : (s.leave i).search = s.search := rfl
@[simp] theorem State.leave_media (i : CmdId) : (s.leave i).media = s.media := rfl
@[simp] theorem State.leave_tether (i : CmdId) : (s.leave i).tether = s.tether := rfl
@[simp] theorem State.leave_group (i : CmdId) : (s.leave i).group = s.group := rfl
@[simp] theorem State.leave_drogue (i : CmdId) : (s.leave i).drogue = s.drogue := rfl
@[simp] theorem State.leave_parity (i : CmdId) : (s.leave i).parity = s.parity := rfl
@[simp] theorem State.leave_gondola (i : CmdId) : (s.leave i).gondola = s.gondola := rfl
@[simp] theorem State.leave_sec (i : CmdId) : (s.leave i).sec = s.sec := rfl
@[simp] theorem State.leave_power (i : CmdId) : (s.leave i).power = s.power := rfl
@[simp] theorem State.leave_dbg (i : CmdId) : (s.leave i).dbg = s.dbg := rfl
@[simp] theorem State.leave_draws (i : CmdId) : (s.leave i).draws = s.draws := rfl

@[simp] theorem State.portEvent_pending (p n : Nat) : (s.portEvent p n).pending = s.pending := rfl
@[simp] theorem State.portEvent_phase (p n : Nat) : (s.portEvent p n).phase = s.phase := rfl
@[simp] theorem State.portEvent_frame (p n : Nat) : (s.portEvent p n).frame = s.frame := rfl
@[simp] theorem State.portEvent_loft (p n : Nat) : (s.portEvent p n).loft = s.loft := rfl
@[simp] theorem State.portEvent_clusters (p n : Nat) : (s.portEvent p n).clusters = s.clusters := rfl
@[simp] theorem State.portEvent_sched (p n : Nat) : (s.portEvent p n).sched = s.sched := rfl
@[simp] theorem State.portEvent_sparReset (p n : Nat) : (s.portEvent p n).sparReset = s.sparReset := rfl
@[simp] theorem State.portEvent_reel (p n : Nat) : (s.portEvent p n).reel = s.reel := rfl
@[simp] theorem State.portEvent_library (p n : Nat) : (s.portEvent p n).library = s.library := rfl
@[simp] theorem State.portEvent_bridle (p n : Nat) : (s.portEvent p n).bridle = s.bridle := rfl
@[simp] theorem State.portEvent_search (p n : Nat) : (s.portEvent p n).search = s.search := rfl
@[simp] theorem State.portEvent_media (p n : Nat) : (s.portEvent p n).media = s.media := rfl
@[simp] theorem State.portEvent_host (p n : Nat) : (s.portEvent p n).host = s.host := rfl
@[simp] theorem State.portEvent_group (p n : Nat) : (s.portEvent p n).group = s.group := rfl
@[simp] theorem State.portEvent_drogue (p n : Nat) : (s.portEvent p n).drogue = s.drogue := rfl
@[simp] theorem State.portEvent_parity (p n : Nat) : (s.portEvent p n).parity = s.parity := rfl
@[simp] theorem State.portEvent_gondola (p n : Nat) : (s.portEvent p n).gondola = s.gondola := rfl
@[simp] theorem State.portEvent_sec (p n : Nat) : (s.portEvent p n).sec = s.sec := rfl
@[simp] theorem State.portEvent_power (p n : Nat) : (s.portEvent p n).power = s.power := rfl
@[simp] theorem State.portEvent_dbg (p n : Nat) : (s.portEvent p n).dbg = s.dbg := rfl
@[simp] theorem State.portEvent_draws (p n : Nat) : (s.portEvent p n).draws = s.draws := rfl

@[simp] theorem State.parDisarm_pending (p : Nat → Bool) : (s.parDisarm p).pending = s.pending := rfl
@[simp] theorem State.parDisarm_phase (p : Nat → Bool) : (s.parDisarm p).phase = s.phase := rfl
@[simp] theorem State.parDisarm_frame (p : Nat → Bool) : (s.parDisarm p).frame = s.frame := rfl
@[simp] theorem State.parDisarm_loft (p : Nat → Bool) : (s.parDisarm p).loft = s.loft := rfl
@[simp] theorem State.parDisarm_clusters (p : Nat → Bool) : (s.parDisarm p).clusters = s.clusters := rfl
@[simp] theorem State.parDisarm_sched (p : Nat → Bool) : (s.parDisarm p).sched = s.sched := rfl
@[simp] theorem State.parDisarm_sparReset (p : Nat → Bool) : (s.parDisarm p).sparReset = s.sparReset := rfl
@[simp] theorem State.parDisarm_reel (p : Nat → Bool) : (s.parDisarm p).reel = s.reel := rfl
@[simp] theorem State.parDisarm_library (p : Nat → Bool) : (s.parDisarm p).library = s.library := rfl
@[simp] theorem State.parDisarm_bridle (p : Nat → Bool) : (s.parDisarm p).bridle = s.bridle := rfl
@[simp] theorem State.parDisarm_search (p : Nat → Bool) : (s.parDisarm p).search = s.search := rfl
@[simp] theorem State.parDisarm_media (p : Nat → Bool) : (s.parDisarm p).media = s.media := rfl
@[simp] theorem State.parDisarm_host (p : Nat → Bool) : (s.parDisarm p).host = s.host := rfl
@[simp] theorem State.parDisarm_tether (p : Nat → Bool) : (s.parDisarm p).tether = s.tether := rfl
@[simp] theorem State.parDisarm_group (p : Nat → Bool) : (s.parDisarm p).group = s.group := rfl
@[simp] theorem State.parDisarm_drogue (p : Nat → Bool) : (s.parDisarm p).drogue = s.drogue := rfl
@[simp] theorem State.parDisarm_gondola (p : Nat → Bool) : (s.parDisarm p).gondola = s.gondola := rfl
@[simp] theorem State.parDisarm_sec (p : Nat → Bool) : (s.parDisarm p).sec = s.sec := rfl
@[simp] theorem State.parDisarm_power (p : Nat → Bool) : (s.parDisarm p).power = s.power := rfl
@[simp] theorem State.parDisarm_dbg (p : Nat → Bool) : (s.parDisarm p).dbg = s.dbg := rfl
@[simp] theorem State.parDisarm_draws (p : Nat → Bool) : (s.parDisarm p).draws = s.draws := rfl

@[simp] theorem State.record_pending (c : FaultClass) (f : FaultIn) : (s.record c f).pending = s.pending := rfl
@[simp] theorem State.record_phase (c : FaultClass) (f : FaultIn) : (s.record c f).phase = s.phase := rfl
@[simp] theorem State.record_frame (c : FaultClass) (f : FaultIn) : (s.record c f).frame = s.frame := rfl
@[simp] theorem State.record_loft (c : FaultClass) (f : FaultIn) : (s.record c f).loft = s.loft := rfl
@[simp] theorem State.record_clusters (c : FaultClass) (f : FaultIn) : (s.record c f).clusters = s.clusters := rfl
@[simp] theorem State.record_sched (c : FaultClass) (f : FaultIn) : (s.record c f).sched = s.sched := rfl
@[simp] theorem State.record_sparReset (c : FaultClass) (f : FaultIn) : (s.record c f).sparReset = s.sparReset := rfl
@[simp] theorem State.record_reel (c : FaultClass) (f : FaultIn) : (s.record c f).reel = s.reel := rfl
@[simp] theorem State.record_library (c : FaultClass) (f : FaultIn) : (s.record c f).library = s.library := rfl
@[simp] theorem State.record_bridle (c : FaultClass) (f : FaultIn) : (s.record c f).bridle = s.bridle := rfl
@[simp] theorem State.record_search (c : FaultClass) (f : FaultIn) : (s.record c f).search = s.search := rfl
@[simp] theorem State.record_media (c : FaultClass) (f : FaultIn) : (s.record c f).media = s.media := rfl
@[simp] theorem State.record_host (c : FaultClass) (f : FaultIn) : (s.record c f).host = s.host := rfl
@[simp] theorem State.record_tether (c : FaultClass) (f : FaultIn) : (s.record c f).tether = s.tether := rfl
@[simp] theorem State.record_group (c : FaultClass) (f : FaultIn) : (s.record c f).group = s.group := rfl
@[simp] theorem State.record_parity (c : FaultClass) (f : FaultIn) : (s.record c f).parity = s.parity := rfl
@[simp] theorem State.record_gondola (c : FaultClass) (f : FaultIn) : (s.record c f).gondola = s.gondola := rfl
@[simp] theorem State.record_sec (c : FaultClass) (f : FaultIn) : (s.record c f).sec = s.sec := rfl
@[simp] theorem State.record_power (c : FaultClass) (f : FaultIn) : (s.record c f).power = s.power := rfl
@[simp] theorem State.record_dbg (c : FaultClass) (f : FaultIn) : (s.record c f).dbg = s.dbg := rfl
@[simp] theorem State.record_draws (c : FaultClass) (f : FaultIn) : (s.record c f).draws = s.draws := rfl

end Sys2Proof.Machine
end

