-- ==== Sys2Proof/Laws/Window.lean ====
section
/-! SUPPORT. Where the registers that the rows name lie in the window (22 R499, R501), and what a write of one comes to (22 R503, R506). -/

namespace Sys2Proof.Machine

theorem winBlock_spc (c o : Nat) (hc : c < 8) (h : o < 0x40000) : winBlock (spcAddr c o) = some (.spc c, o) := by
  unfold winBlock spcAddr
  rw [if_neg (by omega), if_neg (by omega), if_neg (by omega), if_neg (by omega), if_pos (by omega)]
  rw [show (0x01000000 + c * 0x40000 + o - 0x01000000) / 0x40000 = c by omega, show (0x01000000 + c * 0x40000 + o - 0x01000000) % 0x40000 = o by omega]

theorem winBlock_env (n o : Nat) (hn : n < 8) (h : o < 0x100000) : winBlock (envAddr n o) = some (.env n, o) := by
  unfold winBlock envAddr
  iterate 12 rw [if_neg (by omega)]
  rw [if_pos (by omega)]
  rw [show (0x02000000 + n * 0x100000 + o - 0x02000000) / 0x100000 = n by omega, show (0x02000000 + n * 0x100000 + o - 0x02000000) % 0x100000 = o by omega]

theorem winBlock_tet (p o : Nat) (hp : p < 8) (h : o < 0x10000) : winBlock (0x03000000 + p * 0x10000 + o) = some (.tet p, o) := by
  unfold winBlock
  iterate 14 rw [if_neg (by omega)]
  rw [if_pos (by omega)]
  rw [show (0x03000000 + p * 0x10000 + o - 0x03000000) / 0x10000 = p by omega, show (0x03000000 + p * 0x10000 + o - 0x03000000) % 0x10000 = o by omega]

theorem winBlock_dbg (o : Nat) (h : o < 0x100000) : winBlock (0x07000000 + o) = some (.dbg, o) := by
  unfold winBlock
  iterate 24 rw [if_neg (by omega)]
  rw [if_pos (by omega), show 0x07000000 + o - 0x07000000 = o by omega]

/-- A row that names a register writes it, where firmware runs and the block is available. -/
theorem accessWrite_up (a : Nat) (v : W32) (s : State) (b : WinBlock) (o : Nat) (h1 : s.firmwareUp = true) (h2 : winBlock a = some (b, o)) (h3 : s.blockAway b = false) :
    accessWrite a v s = s.writeReg .access 0 b o v := by
  simp [accessWrite, h1, h2, State.winWrite, h3]

/-- The same row on a block that is not available: the write is dropped and recorded. -/
theorem accessWrite_away (a : Nat) (v : W32) (s : State) (b : WinBlock) (o : Nat) (h1 : s.firmwareUp = true) (h2 : winBlock a = some (b, o)) (h3 : s.blockAway b = true) :
    accessWrite a v s = s.winBad 3 0 a := by
  simp [accessWrite, h1, h2, State.winWrite, h3]

/-- Before firmware runs, a row that names a register does nothing. -/
theorem accessWrite_down (a : Nat) (v : W32) (s : State) (h : s.firmwareUp = false) : accessWrite a v s = s := by
  simp [accessWrite, h]

/-- A debugger's write that its scope admits. -/
theorem debugRow_allowed (a : Nat) (v : W32) (s : State) (b : WinBlock) (o : Nat) (h1 : s.dbgUp = true) (h2 : winBlock a = some (b, o)) (h3 : s.dbgAllows (some (b, o)) true v = true) :
    s.debugRow a v = s.portWrite b o a v := by
  simp [State.debugRow, h1, h2, h3]

/-- A debugger's write that it has no scope for, or that comes while the port is off. -/
theorem debugRow_denied (a : Nat) (v : W32) (s : State) (b : WinBlock) (o : Nat) (h2 : winBlock a = some (b, o)) (h : s.dbgUp = false ∨ s.dbgAllows (some (b, o)) true v = false) :
    s.debugRow a v = s := by
  rcases h with h | h <;> simp [State.debugRow, h2, h]

end Sys2Proof.Machine
end

