-- ==== Sys2Proof/Laws/Words.lean ====
section
/-! SUPPORT. A word whose parity read is good is issued as it stands. -/

namespace Sys2Proof.Machine

/-- Outside a handler, and in one whose word reads well, `fetched` only hands on. -/
theorem fetched_good {c n : Nat} {w : W64} {f : State → State} {s : State}
    (h : (s.clusterAt c).ic.busy = true → s.parity.isBad (0xA8 + c) (handlerByte (s.clusterAt c).ic.pc) (8 * n) = false) :
    fetched c n w f s = f s := by
  unfold fetched
  cases hb : (s.clusterAt c).ic.busy <;> cases ha : s.atWord c w <;> simp
  simp [State.parTrip, h hb]

/-- A program word at the program counter that reads well has its effect. -/
theorem issueWord_good {c n : Nat} {w : W64} {f : State → State} {s : State} (ha : s.atWord c w = true)
    (h : (s.clusterAt c).ic.busy = false → s.parity.isBad (0xA0 + c) ((if (s.clusterAt c).seq.bank then 32768 else 0) + 8 * (s.clusterAt c).seq.pc) (8 * n) = false) :
    issueWord c w f s n = f s := by
  unfold issueWord State.progBad
  cases hb : (s.clusterAt c).ic.busy <;> simp [ha, hb]
  simp [State.parTrip, h hb]

end Sys2Proof.Machine
end

