-- ==== Sys2Proof/Machine/JournalForm.lean ====
section
/-! DEFINITION. The forms of what media management writes: places of codewords, page tags, block-table entries, journal records (13 R304; 14 R314, R317, R319, R320). -/

namespace Sys2Proof.Machine

/-- Where codeword `c` of a TLC block lies: its wordline, page type, plane, and number within the page (14 R314). -/
def cwPlace (c : Nat) : Nat × (Nat × (Nat × Nat)) := (c / 48, (c % 48 / 16, (c % 16 / 4, c % 4)))

/-- PAGE of the ROW word of a codeword: page 3w + t of its plane (14 R314). -/
def cwPage (c : Nat) : Nat := 3 * (c / 48) + c % 48 / 16

/-- A unit's descriptor in a page tag: MAPPED, METHOD, LEN (14 R317). -/
def tagDesc (u : Option Container) : Nat :=
  match u with
  | none => 0
  | some c => 512 + c.method.toNat * 128 + c.len.toNat

/-- The page tag of codeword `i` of a record (14 R317); a recovery rewrite carries the SEQ of the record it rewrites (14 R318). -/
def StripeRec.tag (r : StripeRec) (i : Nat) : Nat :=
  (r.rewrites.getD r.seq) * 2 ^ 64 + r.stripe * 2 ^ 32 + r.stream.toNat * 2 ^ 24 + b2n (decide (i = 0)) * 2 ^ 23 + b2n r.grouped * 2 ^ 22 + tagDesc r.unit1 * 2 ^ 11 + tagDesc r.unit0 * 2

/-- KIND and INDEX of the journal page that holds a record (14 R319). -/
def JBody.page : JBody → Nat × Nat
  | .checkpoint g => (2, g)
  | .tablePage p => (3, p)
  | .parityPage i => (4, i)
  | _ => (1, 0)

/-- The tag of a codeword of a journal page: PSEQ, KIND, INDEX and the CRC of its data (14 R319). -/
def pageTag (pseq : Nat) (b : JBody) (data : Bytes) : Nat := pseq * 2 ^ 64 + b.page.1 * 2 ^ 56 + b.page.2 * 2 ^ 32 + (crc32 data).toNat

/-- STATE of a block-table entry (14 R319; log 189). -/
def BlkState.code : BlkState → Nat
  | .free => 0
  | .open_ => 1
  | .closed => 2
  | .retired => 3
  | .uncertain => 4

/-- A block-table entry: STATE, CAUSE, ERASES, CLOSED_POH (14 R319). -/
def Blk.bytes (b : Blk) : Bytes := toLe b.state.code 1 ++ toLe b.cause.toNat 1 ++ List.replicate 2 0 ++ toLe b.erases 4 ++ toLe b.closedPoh 4 ++ List.replicate 4 0

/-- A die in a record: target and global channel (13 R304). -/
def dieWord (d : Nat) : Nat := dieTarget d * 256 + dieChan d

/-- TYPE of a record (13 R304; 14 R320); 0 for what stands on a page of its own. -/
def JBody.type : JBody → Nat
  | .eraseStart .. => 1
  | .eraseEnd .. => 2
  | .groupCommit .. => 3
  | .gcCommit .. => 4
  | .flag .. => 5
  | .blockEvt .. => 6
  | .index .. => 7
  | .directory .. => 8
  | .parity .. => 9
  | .mapSet .. => 10
  | .flush .. => 11
  | _ => 0

/-- A 32-byte erase record (13 R304). -/
def eraseRec (seq frame type die block : Nat) (fail : Bool) : Bytes :=
  let b := toLe type 1 ++ toLe (b2n fail) 1 ++ toLe (dieWord die) 2 ++ toLe block 2 ++ List.replicate 2 0 ++ toLe seq 8 ++ toLe frame 8 ++ List.replicate 4 0
  b ++ toLe (crc32 b).toNat 4

/-- The body of a record (14 R320). `rest` is what the record carries beside: the runs of an INDEX record, the entries of a DIRECTORY record, the counters of a FLUSH. -/
def JBody.body (rest : Bytes) : JBody → Bytes
  | .groupCommit first count => toLe first 8 ++ toLe count 4
  | .gcCommit l => l.foldl (fun b e => b ++ toLe e.1 8 ++ toLe e.2.toNat 8) []
  | .flag first parts => toLe first 8 ++ toLe parts 4
  | .blockEvt d b ev cause => toLe (dieWord d) 2 ++ toLe b 2 ++ toLe ev.toNat 1 ++ toLe cause.toNat 1
  | .index i k => toLe i.toNat 8 ++ toLe k.toNat 2 ++ rest
  | .directory _ _ => rest
  | .parity ch m pages => toLe ch 2 ++ m.foldl (fun b w => b ++ toLe (dieTarget w.die) 1 ++ toLe w.block 2 ++ toLe w.wl 2 ++ List.replicate 3 0) [] ++ pages.foldl (fun b p => b ++ toLe p 8) []
  | .mapSet l => l.foldl (fun b e => b ++ toLe e.1 4 ++ List.replicate 4 0 ++ toLe e.2.toNat 8) []
  | .flush n seg page clean => toLe n 8 ++ toLe seg 4 ++ toLe page 4 ++ toLe (b2n clean) 4 ++ List.replicate 4 0 ++ (upTo 512).map (byteAt rest) ++ List.replicate 12 0
  | _ => []

/-- A record as it stands on its page (13 R304; 14 R320): LEN counts units of 32 bytes, at least 2; the CRC ends it. -/
def JRec.bytes (r : JRec) (rest : Bytes) : Bytes :=
  match r.body with
  | .eraseStart d b => eraseRec r.seq r.frame.toNat 1 d b false
  | .eraseEnd d b fail => eraseRec r.seq r.frame.toNat 2 d b fail
  | x =>
    let body := x.body rest
    let n := max 2 (ceilDiv (0x18 + body.length + 4) 32)
    let b := toLe x.type 1 ++ toLe 0 1 ++ toLe n 2 ++ List.replicate 4 0 ++ toLe r.seq 8 ++ toLe r.frame.toNat 8 ++ body
    let b := b ++ List.replicate (32 * n - 4 - b.length) 0
    b ++ toLe (crc32 b).toNat 4

end Sys2Proof.Machine
end

