-- ==== Sys2Proof/Tests/Witness.lean ====
section
/-! SUPPORT. For every statement with hypotheses, a state and operands that meet them. -/

namespace Sys2Proof.Machine

set_option Elab.async false

/-- Bytes of a parameter block with n in byte o, and a request with its code. -/
def rowBytes (o n : Nat) : Bytes := List.replicate o 0 ++ [BitVec.ofNat 8 n]
def rowReq (code vendor : Nat) : Bytes := [0x13, BitVec.ofNat 8 code, 0, 0] ++ [1, 0, 4] ++ vendorId ++ toLe 2 2 ++ toLe vendor 2

/-- An image for the witnesses: one row, one class A slot of cluster 0 for contract 7. -/
def img0 : Image :=
  { schema := 1, imageId := 1, bodyDigest := [], signed := false, keySlot := 0, qryStage := 2, brdStage := 2, relStage := 2, m2bf16 := false,
    clusters := List.replicate 8 { fusion := 0, stageMib := 2, ovfIeee := false }, periodUs := 2000, bgSharePm := 50, src := 1, outEn := false, inDiv := 1, outDiv := 1,
    rows := [{ progTgt := 1, eraseTgt := 2, slots := [{ start := 0, len := 500, cls := 0, clusters := 1, owner := 0, kind := 0 }, { start := 600, len := 100, cls := 3, clusters := 2, owner := 0, kind := 0 }] }],
    contracts := [{ id := 7, maxPassUs := 100, tenant := 1, lat := 4, horizon := 8, window := 4, maxReq := 4, workCus := 100, maxContexts := 4 }],
    tenants := [{ id := 1, qT0 := 100, qT1 := 100, qT2 := 100, qT3 := 100 }], ports := List.replicate 8 { use := true, net := 0, mode := 0 }, mtu := 4096,
    role := 1, rank := 3, expectedSize := 4, quorum := 2, groupId := 9, powerCapW := 1400, quietMs := 2000, wV := 1, wA := 1, wW := 1, openAll := true, nsOpen := [] }

/-- A pass that firmware builds. -/
def fwSrc : PassSrc := { firmware := true, lens := [], request := none, follow := 0, handle := none, emits := none, bridle := [], staged := false }

/-- The module in several phases; with an image in force; a worker of a group. -/
def upS : State := { State.reset with phase := .up }
def startS : State := State.reset
def seqS : State := { State.reset with phase := .sequencing }
def offS : State := { State.reset with phase := .off true, power := { enable := false, inputOk := false, pwrFail := true } }
def imageS : State := { upS with loft := { image := some img0 }, frame := { held := false } }

def shard0 : Shard := { index := 5, shard := 1, tenant := 1, state := 2, vecFmt := 1, metric := 0, degree := 32, dim := 128, count := 0, shadowed := false, entryCount := 0, capacity := 4096 }
def rebuildS : State := { State.reset with phase := .rebuilding }

/-- Cluster 2 sleeps, and a pass for it is queued. -/
def sleepyS : State := { upS with clusters := (List.replicate 8 ({} : Cluster)).modify 2 fun k => { k with asleep := true }, sched := { entries := [{ uid := 1, desc := List.replicate 5 0 ++ [1] ++ List.replicate 122 0, prog := [], src := fwSrc }] } }

/-- A host is connected: controller 1 with its admin queue and I/O queue 1, both enabled. -/
def hostS : State := { imageS with group := { state := 4 }, host := { ctrls := [{ cntlid := 1, port := 0, cc := 1, ready := true, kato := 1000, queues := [{ sq := 0, size := 31 }, { sq := 1, size := 63 }] }] } }
def adm : CmdId := { ctrl := 1, sq := 0, cid := 5 }
def ioc : CmdId := { ctrl := 1, sq := 1, cid := 6 }

/-- A namespace of one slot group. -/
def ns4 : Namespace := { nsid := 4, nsze := 256, lbaf := 0, tenant := 1, shadows := 0, keyMode := 0, groups := [0] }

/-- The controller of `hostS`, and a port that is up. -/
def ctl1 : HostCtrl := { cntlid := 1, port := 0, cc := 1, ready := true, kato := 1000, queues := [{ sq := 0, size := 31 }, { sq := 1, size := 63 }] }
def portS : State := { hostS with tether := { ports := List.replicate 8 { up := true, addr := true } } }

/-- The header of an I/O command of tenant 1 on queue 1. -/
def hdr1 : IoHdr := { id := ioc, nsid := 0, tenant := 1, cdw3 := 0, sglOk := true, resLen := 4096 }

/-- The buffers of port 0 have a flip mask. -/
def flipS : State := { hostS with parity := { masks := [(0xC8, 1)] } }

/-- A namespace is open. -/
def nsS : State := { hostS with media := { namespaces := [ns4] } }

/-- A model under load. -/
def mdl0 : Model := { id := 0, tenant := 1, state := 1, kvFmt := 2, layers := 1, experts := 2, topK := 1, fusion := 0, refitOk := false, kvHeads := 1, headDim := 64, hidden := 64, weightBits := 1024 }
def mdlS : State := { hostS with library := { models := [mdl0] } }
def ctx0 : Context := { state := 1, tenant := 1 }
def ctxS : State := { hostS with library := { contexts := [(0, ctx0)] } }
def rft0 : Refit := { job := 1, id := ioc, model := 0, tenant := 1, layer := 0, expert := 0, steps := 1, perStep := 1, cls := 2, hyper := [], newScale := 0, phase := .flag, flagSeq := some 4 }
def blk32 : Bytes := List.replicate 64 0
def rex0 : Expert := { home := 3, params := 32, wFmt := 1 }
def rmd0 : Model := { mdl0 with state := 2, refitOk := true, table := [(0, rex0), (1, rex0)] }
/-- A BEGIN of model 1. -/
def mdlBegin : Bytes := [1, 0, 0, 0, 0, 0, 0, 0] ++ toLe 1 8 ++ ({ mdl0 with id := 1, tenant := 0, state := 0 } : Model).entry
/-- A scale table of one slot. -/
def scl1 : Bytes := toLe 0x4C435353 4 ++ toLe 1 2 ++ toLe 1 2 ++ List.replicate 8 0 ++ toLe 1 8 ++ List.replicate 40 0 ++ List.replicate 32 0

/-- A ready shard of tenant 1, its index block prefix, and a filter of it. -/
def shd : Shard := { index := 5, shard := 1, tenant := 1, state := 1, vecFmt := 1, metric := 0, degree := 32, dim := 128, count := 2, shadowed := false, entryCount := 1, capacity := 4096 }
def flt0 : Filter := { idx := 0, gen := 0, index := 5, shard := 1, tenant := 1, tag := 0, addr := 0 }
def shdS : State := { hostS with search := { shards := [shd], filters := [flt0] } }
def qry0 : Query := { id := ioc, tenant := 1, index := 5, k := 1, ef := 8, rr := 1, budget := 8, cls := 1, contract := 0, deadline := 0, qfmt := 1, sketch := [], vec := [], shards := [{ shard := 1, stage := .traverse, ctx := some 3, cset := [(0, 4)] }], admitAt := 0 }
def idx5 : Bytes := [5, 0, 0, 0, 0, 0, 0, 0, 1, 0]

/-- A CREATE_INDEX of 32 dimensions, and a QUERY of the shard of `shdS` by vector. -/
def crtIdx : Bytes := toLe 6 8 ++ List.replicate 5 0 ++ [1, 0, 8] ++ toLe 32 2 ++ toLe 0 2 ++ toLe 1 2 ++ [0, 1] ++ List.replicate 8 0 ++ toLe 64 8 ++ List.replicate 88 0 ++ List.replicate 65536 0
def qry64 : Bytes := toLe 5 8 ++ toLe 1 2 ++ toLe 0 2 ++ toLe 1 2 ++ toLe 8 2 ++ toLe 1 2 ++ [1, 2] ++ toLe 8 4 ++ List.replicate 40 0 ++ List.replicate 256 0

/-- A class C pass of tenant 1 for the vector unit of cluster 1, an object for it, and states in which it is queued and runs. -/
def desc0 : Bytes := [1, 0, 10, 8, 128, 0, 192, 1, 5, 0, 0, 0, 1, 0, 0, 0, 0, 0, 0, 0, 0, 0, 192, 0] ++ List.replicate 16 0 ++ [64, 0, 0, 0, 0, 0, 192, 0] ++ List.replicate 80 0
def descD : Bytes := [1, 0, 10, 8, 128, 0, 128, 1, 5, 0, 0, 0, 1, 0, 0, 0, 0, 0, 0, 0, 0, 0, 192, 0] ++ List.replicate 16 0 ++ [64, 0, 0, 0, 0, 0, 192, 0] ++ List.replicate 80 0
def src0 : PassSrc := { fwSrc with firmware := true }
def objS : State := { imageS with reel := { objects := [{ ofs := 0, len := 1048576, tenant := 1, kind := .work, pieces := [] }] } }
def ent0 : PassEntry := { uid := 4, desc := desc0, prog := [0], src := src0 }
def queuedS : State := { objS with sched := { entries := [ent0] } }
def readyS : State := { queuedS with clusters := ({} : Cluster) :: { slot := some { idx := 1, owner := (3, 0), kind := 0, openedAt := 0, closeAt := 100000 }, seq := { load1 := some 4, prog1 := [0] } } :: List.replicate 6 {} }
def run0 : Running := { uid := 4, startTime := 0, startFrame := 0, startUs := 0, owner := (3, 0) }
def runEnt : PassEntry := { ent0 with phase := .running 1 }
def progS (w : List W64) : State := { objS with sched := { entries := [runEnt] }, clusters := ({} : Cluster) :: { seq := { bank := true, load1 := some 4, prog1 := w, run := some run0 } } :: List.replicate 6 {} }
def runRec0 : RunRec := { w0 := 0x8000000000000000, w1 := 0, w2 := 0, w3 := 0 }
def roEnt : PassEntry := { runEnt with desc := desc0.take 3 ++ [12] ++ desc0.drop 4 }
def roRec : RunRec := { runRec0 with w0 := 0x8000000000002000 }
def roRun : Running := { run0 with runs := [{ unit := 0, rec_ := roRec, len := 128 }] }
def roS : State := { objS with sched := { entries := [roEnt] }, clusters := ({} : Cluster) :: { seq := { bank := true, load1 := some 4, prog1 := [0], run := some roRun }, tiles := { storeMark := [(0, true)] } :: List.replicate 7 {} } :: List.replicate 6 {} }
def sctRec : RunRec := { runRec0 with w3 := 0x400 }
def sctRun : Running := { run0 with runs := [{ unit := 0, rec_ := sctRec, len := 128 }] }
def sctS : State := { progS [0] with clusters := ({} : Cluster) :: { seq := { bank := true, load1 := some 4, prog1 := [0], run := some sctRun }, stagingMark := [(8 * (({} : Cluster).sctBase + 32), true)] } :: List.replicate 6 {} }
def endedS : State := { progS [0] with clusters := ({} : Cluster) :: { seq := { bank := true, load1 := some 4, prog1 := [0], run := some { run0 with ended := true } } } :: List.replicate 6 {} }
def drainS : State := { progS [0] with clusters := ({} : Cluster) :: { seq := { bank := true, load1 := some 4, prog1 := [0], run := some { run0 with runs := [{ unit := 0, rec_ := runRec0, len := 128 }] } } } :: List.replicate 6 {} }

/-- Words for the witnesses: VADD of FP32 V2, V3 into V1; VLD with a poisoned base; SADD; SLI. -/
def wVadd : W64 := 0x2000002218000000
def wVsetvl : W64 := 0x0400000000000004
def wSadd : W64 := 0x8C00002208000001
/-- Cluster 1 runs the handler of source 1, whose words are all `w`. -/
def handS (w : W64) : State := { progS [0] with clusters := ({} : Cluster) :: { seq := { bank := true, load1 := some 4, prog1 := [0], run := some run0 }, ic := { busy := true, source := 1, pc := 16 }, hstore := List.replicate 64 w } :: List.replicate 6 {} }
def wBr : W64 := 0x9400000000006000
def poisonS (w : W64) : State := { progS [w] with clusters := ({} : Cluster) :: { seq := { bank := true, load1 := some 4, prog1 := [w], run := some run0 }, vu := { s := setAt (List.replicate 32 {}) 1 { poison := true } } } :: List.replicate 6 {} }

/-- A SPAWN of the descriptor at 0x100 of an own object. -/
def spawnS : State := State.writeObj { progS [0x9800002200000000] with clusters := ({} : Cluster) :: { seq := { bank := true, load1 := some 4, prog1 := [0x9800002200000000], run := some run0 }, vu := { s := setAt (setAt (List.replicate 32 {}) 2 { val := 0x100 }) 3 { val := 0x00C00000 } } } :: List.replicate 6 {} } 0x00C0000000000100 desc0

/-- A piece of a model's weights that a move brings to T1, marked in its first line; a dispatch that waits for its return. -/
def wObj : Obj := { ofs := 0, len := 1048576, tenant := 1, kind := .weight, pieces := [{ inT2 := true, group := some 2 }], marks := [(0, true)] }
def mv0 : Move := { id := 9, addr := 0x00C0000000000000, piece := 0, kind := .t2copy, tenant := 1, charge := 16, start := 0 }
def moveS : State := { imageS with reel := { objects := [wObj], moves := [mv0] } }
def dsp0 : Dispatch := { model := 1, ctx := 2, pos := 3, layer := 0, expert := 0, slot := 0, weight := 0, version := 0, fmt := 1, data := [], marks := [], toRank := 4, sent := some 0 }
def bridleS : State := { imageS with frame := { held := false, num := 64 }, bridle := { unanswered := [dsp0], sentMsgs := [{ toRank := 4, net := 0, seq := 7, num := 0, time := 0, keys := [], bytes := [] }] } }

/-- A message of one record that refuses a dispatch, from this module's own rank. -/
def brd0 : Bytes := toLe 0x4C445242 4 ++ [1, 0, 1, 0, 3, 0, 3, 0] ++ toLe 192 4 ++ toLe 0 8 ++ toLe 1 8 ++ toLe 0 4 ++ toLe 128 4 ++ List.replicate 24 0 ++ List.replicate 12 0 ++ [3, 1] ++ List.replicate 50 0 ++ List.replicate 64 0

/-- A debugger with scope for the service port; controllers ready; a port in the steps of a sequence. -/
def dbgS : State := { imageS with sec := { unlocked := true, scope := 15 } }
def portAtS (d : Dsp) : State := { dbgS with media := { ctrls := List.replicate 8 { ready := true, dsp := d } } }
def readyC : State := portAtS {}

/-- A die that programs a journal page; one that erases; a unit under a namespace read; a queue of work of class D. -/
def job0 : ProgJob := { id := 3, at_ := { die := 0, block := 0, wl := 0 }, pass := .slc, running := true }
def jobS : State := { imageS with media := { ctrls := List.replicate 8 { ready := true }, jobs := [job0], dies := [(0, { op := some { code := 2, start := 0, block := 0, job := some 3 } })] } }
def eraseS : State := { imageS with media := { ctrls := List.replicate 8 { ready := true }, dies := [(0, { op := some { code := 4, start := 0, block := 9, job := none } })] } }
def lateS : State := { eraseS with frame := { held := false, time := 20000000 } }

def rec0 : StripeRec := { stripe := 0, stream := 1, grouped := true, die := 0, block := 1, cw := 0, ncw := 1, unit0 := some { method := 0, len := 64, lost := false, data := [] }, unit1 := none, seq := 0 }
def read0 : HostRead := { id := ioc, nsid := 1, slba := 0, nlb := 1, slots := [0] }

/-- A port with a lane that trains; a port that is up with a host's queue pair on it. -/
def trainS : State := { imageS with tether := { lanes := ({ training := true } : Lane) :: List.replicate 31 {}, ports := List.replicate 8 {} } }
def upPortS : State := { imageS with tether := { ports := List.replicate 8 { up := true }, qps := [{ num := 1, peer := none, ctrl := some (1, 1), net := 0, port := 0, rate := 1600000 }] } }
def markS0 : State := { imageS with tether := { lanes := List.replicate 32 { doneSent := true, amSeen := 2 }, ports := List.replicate 8 { mode := 0 } } }
def markS : State := { imageS with tether := { lanes := List.replicate 32 { doneSent := true, amSeen := 2 }, ports := List.replicate 8 { mode := 1 } } }

/-- A manager of two members, a member, a worker that asks to join; a message of group 9 from a rank. -/
def mgrS : State := { imageS with loft := { image := some { img0 with role := 0, rank := 0 } }, group := { state := 3, act := 1, running := true, expected := 6, quorum := 2, deputy := 4, members := [{ rank := 0, uid := [], ready := true }, { rank := 4, uid := [], ready := true }] } }
def memS : State := { imageS with group := { state := 3, expected := 6, quorum := 2, deputy := 3, act := 3, members := [{ rank := 0, uid := [], ready := true }, { rank := 3, uid := [], ready := true }, { rank := 4, uid := [], ready := true }] } }
def askS : State := { imageS with group := { state := 2, lastJoin := some 0 } }
def nvM (type src : Nat) (body : Bytes) : Bytes :=
  toLe 0x575A564E 4 ++ toLe 1 2 ++ toLe type 1 ++ [0] ++ toLe (64 + body.length) 4 ++ toLe src 2 ++ toLe 0 2 ++ toLe (if type = 1 then 0 else 9) 8 ++ toLe 5 6 ++ [0, 0] ++ toLe 0 8 ++ toLe 0 4 ++ List.replicate 20 0 ++ body

/-- A NOVZEOW_QUERY that asks rank 3 for shard 1 of index 5 of tenant 1. -/
def nvqMsg : Bytes := nvM 0x10 0 (toLe 3 8 ++ toLe 100 8 ++ toLe qry64.length 4 ++ toLe 1 4 ++ toLe 1 2 ++ List.replicate 6 0 ++ [1, 0, 0, 0, 0, 0, 0, 0] ++ qry64)

def cop0 : CopyOut := { copyId := 0, kind := 1, key1 := 0, key2 := 0, toRank := 4, ofs := 0, sent := 0, for_ := .index, id := none }

def flt (src : Byte) (m : W16) : FaultIn := { source := src, master := m, access := 4, space := 1, addr := 0, addrHi := 0 }
def abortS : State := { imageS with gondola := { imageS.gondola with cores := List.replicate 4 { restarting := true, aborts := [{ ctrl := 1, sq := 0, cid := 9 }] } } }
def quietS : State := { imageS with drogue := { state := 1, entrySource := 0x10, quietFrom := some 0 }, frame := { imageS.frame with time := 2000000000 } }

def spdmS : State := { imageS with sec := { spdm := { stage := 3, peerSize := 4096 } } }
def ownS : State := { spdmS with sec := { spdm := { stage := 3, peerSize := 4096 }, nonce := some (List.replicate 32 7, 0) } }
def vendorMsg (b : Bytes) : Bytes := spdmHead 0xFE 0 0 ++ [1, 0, 4] ++ vendorId ++ toLe b.length 2 ++ b
/-- The payload of a vendor message is what it was made of. -/
theorem vendorPayload_msg (y : Bytes) (h : y.length < 65536) (h2 : 2 ≤ y.length) : vendorPayload (vendorMsg y) = some y := by
  have e : vendorMsg y = [0x13, 0xFE, 0, 0, 1, 0, 4, 0x31, 0x7A, 0, 0, BitVec.ofNat 8 y.length, BitVec.ofNat 8 (y.length / 256)] ++ y := rfl
  rw [e]
  have e2 : leNat ([0x13, 0xFE, 0, 0, 1, 0, 4, 0x31, 0x7A, 0, 0, BitVec.ofNat 8 y.length, BitVec.ofNat 8 (y.length / 256)] ++ y) 11 2 = y.length := by
    simp [leNat, byteAt]; omega
  unfold vendorPayload
  rw [e2]
  refine (if_pos ⟨rfl, rfl, rfl, by simp; omega, h2⟩).trans ?_
  simp [slice]
/-- An owner request to revoke slot 1. -/
def revMsg : Bytes := [5, 0, 1] ++ ownS.gondola.uid ++ List.replicate 32 7 ++ List.replicate 16624 0

def frameDbg (op : Nat) (wide : Bool) (a : W64) (v : W32) (p : Bool) : DbgFrame := { op := op, wide := wide, addr := a, data := v, par := p }
def lockedS : State := imageS
def recoveryS : State := { State.reset with phase := .recovery, dbg := { rcvLen := 8, rcv := [1, 2, 3, 4] } }
def bpRun : Running := { uid := 0, startTime := 0, startFrame := 0, startUs := 0, owner := (0, 0) }
def bpK : Cluster := { seq := { run := some bpRun, pc := 7 } }
def bpS : State := { dbgS with clusters := List.replicate 8 bpK, dbg := { sqBp := (List.replicate 32 0).set 6 0x80000007 } }
def haltedS : State := { dbgS with clusters := List.replicate 8 { halted := true }, dbg := { hit := 0x101 } }

theorem test_meets_InputAndPowerUpSequence_1 : ∃ s : State, ∃ mv : Nat, ∃ u : Bool, (s.phase = .off u) ∧ (s.power.enable = false) ∧ (38000 ≤ mv) ∧ (mv ≤ 56000) :=
  ⟨offS, 48000, true, by decide +kernel⟩

theorem test_meets_InputAndPowerUpSequence_2 : ∃ s : State, (s.phase = .off true) ∧ (s.power.enable = true) :=
  ⟨{ offS with power := { enable := true } }, by decide +kernel⟩

theorem test_meets_InputAndPowerUpSequence_3 : ∃ s : State, (s.phase = .sequencing) :=
  ⟨seqS, by decide +kernel⟩

theorem test_meets_InputAndPowerUpSequence_4 : ∃ s : State, (s.phase = .sequencing) :=
  ⟨seqS, by decide +kernel⟩

theorem test_meets_InputAndPowerUpSequence_5 : ∃ s : State, (s.phase = .stopped) ∧ (s.power.enable = true) :=
  ⟨{ State.reset with phase := .stopped }, by decide +kernel⟩

theorem test_meets_ModuleResetAndStart_1 : ∃ s : State, ∃ ns : Nat, (s.powered = true) ∧ (10000 ≤ ns) :=
  ⟨upS, 10000, by decide +kernel⟩

theorem test_meets_ModuleResetAndStart_2 : ∃ s : State, (s.phase = .starting) :=
  ⟨startS, by decide +kernel⟩

theorem test_meets_ModuleResetAndStart_3 : ∃ s : State, (s.phase = .rebuilding) :=
  ⟨rebuildS, by decide +kernel⟩

theorem test_meets_ModuleResetAndStart_4 : ∃ s : State, ∃ i : W64, ∃ k : W16, ∃ x : Shard, (s.phase = .up) ∧ (s.shardFor i k = some x) ∧ (x.state = 2) :=
  ⟨{ upS with search := { shards := [shard0] } }, 5, 1, shard0, by decide +kernel⟩

theorem test_meets_InputSamples_1 : ∃ s : State, ∃ mv : Nat, (s.powered = true) ∧ (mv < 36000 → s.power.lowRun < 4) ∧ (58000 < mv → s.power.highRun < 4) :=
  ⟨upS, 48000, by decide +kernel⟩

theorem test_meets_InputSamples_2 : ∃ s : State, ∃ mv : Nat, (s.powered = true) ∧ (mv < 36000) ∧ (s.power.lowRun = 4) :=
  ⟨{ upS with power := { lowRun := 4 } }, 35999, by decide +kernel⟩

theorem test_meets_InputSamples_3 : ∃ s : State, (s.powered = false) ∧ (s.power.pwrFail = true) :=
  ⟨offS, by decide +kernel⟩

theorem test_meets_InputSamples_4 : ∃ s : State, (s.powered = true) :=
  ⟨upS, by decide +kernel⟩

theorem test_meets_SensorsAndRails_1 : ∃ s : State, ∃ l : List W16, (s.powered = true) ∧ (l.length = 8) ∧ (s.power.overCrit = 0) ∧ (s.power.railBad = 0) ∧ (∀ k < 8, (l.getD k 0).toInt < 8 * (sensorCritical k : Int)) :=
  ⟨upS, List.replicate 8 0, by decide +kernel⟩

theorem test_meets_SensorsAndRails_2 : ∃ s : State, ∃ l : List W16, (s.powered = true) ∧ (l.length = 8) ∧ (∀ j < 8, (l.getD j 0).toInt < 8 * (sensorCritical j + 10 : Int)) :=
  ⟨upS, List.replicate 8 (8 * 50), by decide +kernel⟩

theorem test_meets_SensorsAndRails_3 : ∃ s : State, ∃ l : List W16, ∃ k : Nat, (s.powered = true) ∧ (l.length = 8) ∧ (k < 8) ∧ (8 * (sensorCritical k + 10 : Int) ≤ (l.getD k 0).toInt) :=
  ⟨upS, List.replicate 8 0x7000, 0, by decide +kernel⟩

theorem test_meets_SensorsAndRails_4 : ∃ l : List W16, (l.length ≠ 8) :=
  ⟨[], by decide +kernel⟩

theorem test_meets_SensorsAndRails_5 : ∃ s : State, (s.powered = true) :=
  ⟨upS, by decide +kernel⟩

theorem test_meets_SensorsAndRails_6 : ∃ s : State, (s.powered = true) ∧ (s.safe = false) :=
  ⟨upS, by decide +kernel⟩

theorem test_meets_SensorsAndRails_7 : ∃ readings : List (BitVec 16), (readings.length = 8) :=
  ⟨List.replicate 8 0, by decide +kernel⟩

theorem test_meets_ThrottlesAndDroop_1 : ∃ s : State, (s.powered = true) ∧ (s.above 50 1000 = true ∨ s.power.softSrc ≠ 0) ∧ (s.lagging = 0) ∧ (s.power.target ≠ 7) :=
  ⟨{ upS with power := { softSrc := 1 } }, by decide +kernel⟩

theorem test_meets_ThrottlesAndDroop_2 : ∃ s : State, (s.powered = true) ∧ (s.above 1000 900 = false) ∧ (s.above 50 900 = false) ∧ (s.nearSoft = false) ∧ (s.power.lastStep + 1000000 ≤ s.frame.time) ∧ (s.power.target ≠ 0) :=
  ⟨{ upS with frame := { time := 2000000 }, power := { target := 3, tempNow := List.replicate 8 0 } }, by decide +kernel⟩

theorem test_meets_ThrottlesAndDroop_3 : ∃ s : State, (s.powered = true) ∧ (s.power.frozen = false) ∧ (s.safe = false) ∧ (s.sparReset = false) ∧ (s.inHold = false) ∧ (s.mustFreeze = true) :=
  ⟨{ upS with power := { tempNow := List.replicate 8 0x7000 } }, by decide +kernel⟩

theorem test_meets_ThrottlesAndDroop_4 : ∃ s : State, (s.power.frozen = false) :=
  ⟨upS, by decide +kernel⟩

theorem test_meets_ThrottlesAndDroop_5 : ∃ s : State, (s.power.frozen = true) ∧ (s.above 1000 980 = false) ∧ (s.hardHot 5 = false) :=
  ⟨{ upS with power := { frozen := true, tempNow := List.replicate 8 0 } }, by decide +kernel⟩

theorem test_meets_ThrottlesAndDroop_6 : ∃ s : State, ∃ g : Fin 16, (s.powered = true) ∧ (bit s.power.drooping g.val = false) ∧ ((s.clusterAt (g.val / 2)).asleep = false) :=
  ⟨upS, 3, by decide +kernel⟩

theorem test_meets_ThrottlesAndDroop_7 : ∃ s : State, (s.powered = true) ∧ (s.inHold = false) ∧ (s.sparReset = false) :=
  ⟨upS, by decide +kernel⟩

theorem test_meets_ThrottlesAndDroop_8 : ∃ s : State, ∃ g : Nat, ∃ margin : Nat, ∃ pm : Nat, ((s.clusterAt (g / 2)).asleep = false) ∧ (2 ≤ margin) ∧ (pm ≤ 10) ∧ (g < 16) ∧ (s.power.avsTrim.length = 16) ∧ (s.power.avsGood.length = 16) ∧ (-12 ≤ (s.power.avsTrim.getD g 0).toInt) ∧ ((s.power.avsTrim.getD g 0).toInt ≤ 6) :=
  ⟨{ upS with power := { avsTrim := List.replicate 16 0, avsGood := List.replicate 16 63 } }, 3, 2, 0, by decide +kernel⟩

theorem test_meets_SleepAndHold_1 : ∃ s : State, ∃ c : Fin 8, (s.mayDoze c.val = true) :=
  ⟨{ upS with clusters := List.replicate 8 { idleFrames := 64 } }, 2, by decide +kernel⟩

theorem test_meets_SleepAndHold_2 : ∃ s : State, ∃ c : Fin 8, (s.mayDoze c.val = true) ∧ ((s.clusterAt c.val).ic.busy = false) :=
  ⟨{ upS with clusters := List.replicate 8 { idleFrames := 64 } }, 2, by decide +kernel⟩

theorem test_meets_SleepAndHold_3 : ∃ s : State, ∃ c : Fin 8, ((s.clusterAt c.val).asleep = true) ∧ (s.listed c.val = true ∨ s.holdsA c.val = true) :=
  ⟨sleepyS, 2, by decide +kernel⟩

theorem test_meets_SleepAndHold_4 : ∃ s : State, (s.firmwareUp = true) ∧ (s.phase = .up) ∧ (s.power.hold = .none) ∧ (s.safe = false) ∧ (s.bare = false) ∧ (s.inGroup = false) :=
  ⟨imageS, by decide +kernel⟩

theorem test_meets_SleepAndHold_5 : ∃ s : State, (s.firmwareUp = true) ∧ (s.phase = .up) ∧ (s.power.hold = .held) :=
  ⟨{ upS with power := { hold := .held } }, by decide +kernel⟩

theorem test_meets_BoundaryMove_1 : ∃ f : Frame, (f.rate.natAbs ≤ 16000) :=
  ⟨{}, by decide +kernel⟩

theorem test_meets_BoundaryMove_2 : ∃ f : Frame, (f.syncState ≠ 3) :=
  ⟨{}, by decide +kernel⟩

theorem test_meets_TickOrder_1 : ∃ s : State, (s.powered = true) ∧ (s.phase ≠ .up) :=
  ⟨startS, by decide +kernel⟩

theorem test_meets_TickOrder_2 : ∃ s : State, (s.powered = true) ∧ (s.phase = .up) :=
  ⟨upS, by decide +kernel⟩

theorem test_meets_TickOrder_3 : ∃ s : State, (s.powered = false) :=
  ⟨offS, by decide +kernel⟩

theorem test_meets_SlotsAndBands_1 : ∃ s : State, ∃ c : Fin 8, ∃ k : Fin 16, ∃ r : Row, ∃ l : Slot, (s.rowNow = some r) ∧ (r.slotOn c.val k.val = some l) ∧ (s.rowsRun = true) ∧ ((s.clusterAt c.val).asleep = false) ∧ ((s.clusterAt c.val).inReset = false) ∧ ((s.clusterAt c.val).seq.run = none) ∧ (l.kind = 0) ∧ ((s.clusterAt c.val).owedBy l.ownerKey < l.len * 1000) ∧ (c.val < s.clusters.length) :=
  ⟨imageS, 0, 0, { progTgt := 1, eraseTgt := 2, slots := [{ start := 0, len := 500, cls := 0, clusters := 1, owner := 0, kind := 0 }, { start := 600, len := 100, cls := 3, clusters := 2, owner := 0, kind := 0 }] }, { start := 0, len := 500, cls := 0, clusters := 1, owner := 0, kind := 0 }, by decide +kernel⟩

theorem test_meets_SlotsAndBands_2 : ∃ s : State, ∃ c : Fin 8, ∃ k : Fin 16, ∃ r : Row, ∃ l : Slot, (s.rowNow = some r) ∧ (r.slotOn c.val k.val = some l) ∧ (s.rowsRun = true) ∧ ((s.clusterAt c.val).asleep = false) ∧ ((s.clusterAt c.val).inReset = false) ∧ ((s.clusterAt c.val).seq.run = none) ∧ (l.kind ≠ 0) ∧ (0 < l.len) ∧ (c.val < s.clusters.length) :=
  ⟨{ imageS with loft := { image := some { img0 with rows := [{ progTgt := 1, eraseTgt := 2, slots := [{ start := 0, len := 500, cls := 0, clusters := 1, owner := 0, kind := 1 }] }] } } }, 0, 0, { progTgt := 1, eraseTgt := 2, slots := [{ start := 0, len := 500, cls := 0, clusters := 1, owner := 0, kind := 1 }] }, { start := 0, len := 500, cls := 0, clusters := 1, owner := 0, kind := 1 }, by decide +kernel⟩

theorem test_meets_SlotsAndBands_3 : ∃ s : State, ∃ c : Fin 8, ∃ k : Fin 16, ∃ r : Row, ∃ l : Slot, (s.rowNow = some r) ∧ (r.slotOn c.val k.val = some l) ∧ (s.rowsRun = true) ∧ ((s.clusterAt c.val).asleep = false) ∧ ((s.clusterAt c.val).inReset = false) ∧ ((s.clusterAt c.val).slot = none) ∧ (l.kind = 0) ∧ (l.len * 1000 ≤ (s.clusterAt c.val).owedBy l.ownerKey) :=
  ⟨{ imageS with clusters := List.replicate 8 { owed := [((0, 0), 600000)] } }, 0, 0, { progTgt := 1, eraseTgt := 2, slots := [{ start := 0, len := 500, cls := 0, clusters := 1, owner := 0, kind := 0 }, { start := 600, len := 100, cls := 3, clusters := 2, owner := 0, kind := 0 }] }, { start := 0, len := 500, cls := 0, clusters := 1, owner := 0, kind := 0 }, by decide +kernel⟩

theorem test_meets_SlotsAndBands_4 : ∃ s : State, ∃ c : Fin 8, ∃ k : Fin 16, ∃ o : OpenSlot, ((s.clusterAt c.val).slot = some o) ∧ (o.idx = k.val) ∧ ((s.clusterAt c.val).seq.run = none) :=
  ⟨{ imageS with clusters := List.replicate 8 { slot := some { idx := 2, owner := (0, 0), kind := 0, openedAt := 0, closeAt := 5 } } }, 1, 2, { idx := 2, owner := (0, 0), kind := 0, openedAt := 0, closeAt := 5 }, by decide +kernel⟩

theorem test_meets_SlotsAndBands_5 : ∃ s : State, ∃ c : Fin 8, ∃ k : Fin 16, ∃ o : OpenSlot, ∃ r : Running, ((s.clusterAt c.val).slot = some o) ∧ (o.idx = k.val) ∧ ((s.clusterAt c.val).seq.run = some r) ∧ (r.owner = o.owner) ∧ (c.val < s.clusters.length) :=
  ⟨{ imageS with clusters := List.replicate 8 { slot := some { idx := 2, owner := (0, 0), kind := 0, openedAt := 0, closeAt := 5 }, seq := { run := some { run0 with owner := (0, 0) } } } }, 1, 2, { idx := 2, owner := (0, 0), kind := 0, openedAt := 0, closeAt := 5 }, { run0 with owner := (0, 0) }, by decide +kernel⟩

theorem test_meets_SlotsAndBands_6 : ∃ s : State, ∃ c : Fin 8, ∃ k : Fin 16, ∃ l : Slot, ∃ t : Nat, (s.bandSlot c.val k.val 250 = some (l, t)) ∧ (s.rowsRun = true) ∧ (l.cls = 0) :=
  ⟨imageS, 0, 0, { start := 0, len := 500, cls := 0, clusters := 1, owner := 0, kind := 0 }, 2000000, by decide +kernel⟩

theorem test_meets_SlotsAndBands_7 : ∃ s : State, ∃ c : Fin 8, ∃ k : Fin 16, ∃ l : Slot, ∃ t : Nat, (s.bandSlot c.val k.val 200 = some (l, t)) ∧ (s.rowsRun = true) ∧ (l.cls = 3) :=
  ⟨imageS, 1, 1, { start := 600, len := 100, cls := 3, clusters := 2, owner := 0, kind := 0 }, 600000, by decide +kernel⟩

theorem test_meets_TimerLock_1 : ∃ s : State, ∃ i : Image, (s.powered = true) ∧ (s.loft.image = some i) ∧ (i.src = 1) ∧ (s.frame.syncState = 1) ∧ (s.frame.lastEvent = none) :=
  ⟨{ imageS with frame := { syncState := 1 } }, img0, by decide +kernel⟩

theorem test_meets_TimerLock_2 : ∃ s : State, ∃ t : Nat, ∃ i : Image, ∃ l : Nat, (s.powered = true) ∧ (s.loft.image = some i) ∧ (i.src = 1) ∧ (s.frame.syncState = 1) ∧ (s.frame.lastEvent = some l) ∧ (((t : Int) - (s.expected i.inDiv t : Int)).natAbs ≤ 1000) :=
  ⟨{ imageS with frame := { syncState := 1, lastEvent := some 0 } }, 2000500, img0, 0, by decide +kernel⟩

theorem test_meets_TimerLock_3 : ∃ s : State, ∃ t : Nat, ∃ i : Image, ∃ l : Nat, (s.powered = true) ∧ (s.loft.image = some i) ∧ (i.src = 1) ∧ (s.frame.syncState = 1) ∧ (s.frame.lastEvent = some l) ∧ (1000 < ((t : Int) - (s.expected i.inDiv t : Int)).natAbs) :=
  ⟨{ imageS with frame := { syncState := 1, lastEvent := some 0 } }, 2005000, img0, 0, by decide +kernel⟩

theorem test_meets_TimerLock_4 : ∃ s : State, ∃ t : Nat, ∃ i : Image, (s.powered = true) ∧ (s.loft.image = some i) ∧ (i.src = 1) ∧ (s.frame.syncState = 3 ∨ (s.frame.syncState = 2 ∧ 4 * ((t : Int) - (s.expected i.inDiv t : Int)).natAbs ≤ s.periodNs)) :=
  ⟨{ imageS with frame := { syncState := 2 } }, 2005000, img0, by decide +kernel⟩

theorem test_meets_TimerLock_5 : ∃ s : State, ∃ t : Nat, ∃ i : Image, (s.powered = true) ∧ (s.loft.image = some i) ∧ (i.src = 1) ∧ (s.frame.syncState = 2) ∧ (s.periodNs < 4 * ((t : Int) - (s.expected i.inDiv t : Int)).natAbs) :=
  ⟨{ imageS with frame := { syncState := 2 } }, 1000000, img0, by decide +kernel⟩

theorem test_meets_TimerLock_6 : ∃ s : State, ∃ t : Nat, ∃ i : Image, ∃ l : Nat, (s.powered = true) ∧ (s.loft.image = some i) ∧ (i.src = 1) ∧ (s.frame.syncState = 0 ∨ s.frame.syncState = 4) ∧ (s.frame.lastEvent = some l) ∧ (((t : Int) - ((l + i.inDiv * s.periodNs : Nat) : Int)).natAbs ≤ 1000) ∧ (7 ≤ s.frame.goodEvents) :=
  ⟨{ imageS with frame := { syncState := 4, lastEvent := some 100, goodEvents := 7 } }, 2000100, img0, 100, by decide +kernel⟩

theorem test_meets_TimerLock_7 : ∃ s : State, ∃ t : Nat, ∃ i : Image, ∃ l : Nat, (s.powered = true) ∧ (s.loft.image = some i) ∧ (i.src = 1) ∧ (s.frame.syncState = 0 ∨ s.frame.syncState = 4) ∧ (s.frame.lastEvent = some l) ∧ (((t : Int) - ((l + i.inDiv * s.periodNs : Nat) : Int)).natAbs ≤ 1000) ∧ (s.frame.goodEvents < 7) :=
  ⟨{ imageS with frame := { syncState := 4, lastEvent := some 100, goodEvents := 3 } }, 2000100, img0, 100, by decide +kernel⟩

theorem test_meets_TimerLock_8 : ∃ s : State, ∃ i : Image, (s.powered = true) ∧ (s.loft.image = some i) ∧ (i.src ≠ 1) :=
  ⟨{ imageS with loft := { image := some { img0 with src := 0 } } }, { img0 with src := 0 }, by decide +kernel⟩

theorem test_meets_TimerLock_9 : ∃ s : State, ∃ i : Image, (s.frame.syncState = 1) ∧ (s.loft.image = some i) ∧ (16 * i.eventFrames ≤ s.frame.acqFrames) :=
  ⟨{ imageS with frame := { syncState := 1, acqFrames := 16 } }, img0, by decide +kernel⟩

theorem test_meets_TimerLock_10 : ∃ s : State, (s.sourceLost = true) :=
  ⟨{ imageS with frame := { syncState := 2, missed := 5, tickTime := 8000000 } }, by decide +kernel⟩

theorem test_meets_FrameEvents_1 : ∃ n : Nat, ∃ m : Nat, (n < 5) ∧ (m < 5) :=
  ⟨4, 0, by decide +kernel⟩

theorem test_meets_FrameEvents_2 : ∃ s : State, (s.firmwareUp = true) :=
  ⟨upS, by decide +kernel⟩

theorem test_meets_CompletionPosted_1 : ∃ s : State, ∃ id : CmdId, (s.isOpen id = true) :=
  ⟨{ upS with host := { open_ := [{ id := ioc, ordered := false, held := none }] } }, ioc, by decide +kernel⟩

theorem test_meets_CompletionPosted_2 : ∃ s : State, ∃ id : CmdId, (s.isOpen id = false) :=
  ⟨upS, ioc, by decide +kernel⟩

theorem test_meets_AdminCommandsRun_1 : ∃ i : Instr, ∃ id : CmdId, ∃ s : State, (adminId i = some id) ∧ (s.serves i id) :=
  ⟨.identify adm 1 0, adm, hostS, ⟨rfl, by decide⟩⟩

theorem test_meets_AdminCommandsRun_2 : ∃ i : Instr, ∃ id : CmdId, ∃ s : State, (adminId i = some id) ∧ (s.adminUp id = true) ∧ (s.isOpen id = false) ∧ ((s.coreAt (adminCore i id)).halted = true) :=
  ⟨.keepAlive adm, adm, { hostS with gondola := { cores := List.replicate 4 { halted := true } } }, ⟨rfl, by decide⟩⟩

theorem test_meets_AdminCommandsRun_3 : ∃ i : Instr, ∃ id : CmdId, ∃ s : State, (adminId i = some id) ∧ (s.adminUp id = false ∨ s.isOpen id = true) :=
  ⟨.keepAlive adm, adm, upS, ⟨rfl, by decide⟩⟩

theorem test_meets_LoftImageLoading_1 : ∃ id : CmdId, ∃ numd : W32, ∃ ofst : W32, ∃ data : Bytes, ∃ s : State, (s.serves (.loftImageTransfer id numd ofst data) id) ∧ (s.loft.checking = none) ∧ (s.loft.pending = none) ∧ (numd.toNat ≤ 32767) ∧ (4 * ofst.toNat + 4 * (numd.toNat + 1) ≤ 524288) :=
  ⟨adm, 1, 2, [], hostS, by decide +kernel⟩

theorem test_meets_LoftImageLoading_2 : ∃ id : CmdId, ∃ c0 : W32, ∃ c1 : W32, ∃ c2 : W32, ∃ s : State, (s.serves (.loftImageApply id c0 c1 c2) id) ∧ (s.holding = false) ∧ (s.loft.checking = none) ∧ (s.loft.pending = none) ∧ (bits c0 31 2 = 0) ∧ (bits c2 31 16 = 0) ∧ (bits c0 1 0 = 0 ∨ bits c0 1 0 = 1) :=
  ⟨adm, 1, 100, 0, hostS, by decide +kernel⟩

theorem test_meets_LoftImageLoading_3 : ∃ id : CmdId, ∃ c0 : W32, ∃ c1 : W32, ∃ c2 : W32, ∃ s : State, (s.serves (.loftImageApply id c0 c1 c2) id) ∧ (s.holding = false) ∧ (bits c0 1 0 = 2) :=
  ⟨adm, 2, 100, 0, hostS, by decide +kernel⟩

theorem test_meets_LoftImageLoading_4 : ∃ id : CmdId, ∃ c1 : W32, ∃ c2 : W32, ∃ s : State, (s.serves (.loftImageApplyActFrame id 0 c1 c2) id) ∧ (s.holding = false) ∧ (bits c2 31 16 = 0) ∧ (s.loft.checking = none) ∧ (s.loft.pending = none) :=
  ⟨adm, 100, 0, hostS, by decide +kernel⟩

theorem test_meets_LoftImageLoading_5 : ∃ id : CmdId, ∃ c1 : W32, ∃ c2 : W32, ∃ s : State, ∃ p : Pending, (s.serves (.loftImageCancel id 0 c1 c2) id) ∧ (s.holding = false) ∧ (bits c2 31 16 = 0) ∧ (s.loft.pending = some p) :=
  ⟨adm, 0, 0, { hostS with loft := { pending := some { id := none, mode := 1, actFrame := 9, image := img0 } } }, { id := none, mode := 1, actFrame := 9, image := img0 }, by decide +kernel⟩

theorem test_meets_LoftImageLoading_6 : ∃ s : State, ∃ c : Checking, (s.loft.checking = some c) :=
  ⟨{ hostS with loft := { checking := some { id := adm, mode := 0, actFrame := 0 } } }, { id := adm, mode := 0, actFrame := 0 }, by decide +kernel⟩

theorem test_meets_LoftImageLoading_7 : ∃ s : State, (s.loft.checking = none) :=
  ⟨upS, by decide +kernel⟩

theorem test_meets_AdminAnswers_1 : ∃ id : CmdId, ∃ nsid : W32, ∃ s : State, ∃ n : Namespace, (s.serves (.identify id 0 nsid) id) ∧ (s.nsFor nsid.toNat = some n) :=
  ⟨adm, 4, { hostS with media := { namespaces := [ns4] } }, ns4, by decide +kernel⟩

theorem test_meets_AdminAnswers_2 : ∃ id : CmdId, ∃ lid : Byte, ∃ lsi : W16, ∃ ofs : Nat, ∃ len : Nat, ∃ s : State, ∃ p : Bytes, (s.serves (.getLogPage id lid lsi ofs len) id) ∧ (s.logPage id.ctrl lid lsi = some p) ∧ (ofs ≤ p.length) :=
  ⟨adm, 0xC2, 0, 0, 64, hostS, [], by decide +kernel⟩

theorem test_meets_AdminAnswers_3 : ∃ id : CmdId, ∃ lid : Byte, ∃ lsi : W16, ∃ ofs : Nat, ∃ len : Nat, ∃ s : State, (s.serves (.getLogPage id lid lsi ofs len) id) ∧ (s.logPage id.ctrl lid lsi = none) :=
  ⟨adm, 0xC9, 0, 0, 64, hostS, by decide +kernel⟩

theorem test_meets_AdminAnswers_4 : ∃ id : CmdId, ∃ s : State, ∃ c : HostCtrl, (s.serves (.getFeatures id 0x0B) id) ∧ (s.ctrlFor id.ctrl = some c) :=
  ⟨adm, hostS, { cntlid := 1, port := 0, cc := 1, ready := true, kato := 1000, queues := [{ sq := 0, size := 31 }, { sq := 1, size := 63 }] }, by decide +kernel⟩

theorem test_meets_AdminAnswers_5 : ∃ id : CmdId, ∃ v : W32, ∃ s : State, (s.serves (.setFeatures id 0x02 v) id) :=
  ⟨adm, 1, hostS, by decide +kernel⟩

theorem test_meets_AdminAnswers_6 : ∃ id : CmdId, ∃ v : W32, ∃ s : State, (s.serves (.setFeatures id 0x0B v) id) :=
  ⟨adm, 1, hostS, by decide +kernel⟩

theorem test_meets_AdminAnswers_7 : ∃ id : CmdId, ∃ s : State, ∃ c : HostCtrl, (s.serves (.asyncEventRequest id) id) ∧ (s.ctrlFor id.ctrl = some c) :=
  ⟨adm, hostS, { cntlid := 1, port := 0, cc := 1, ready := true, kato := 1000, queues := [{ sq := 0, size := 31 }, { sq := 1, size := 63 }] }, by decide +kernel⟩

theorem test_meets_AdminAnswers_8 : ∃ id : CmdId, ∃ v : CmdId, ∃ s : State, (s.serves (.abort id v) id) :=
  ⟨adm, ioc, hostS, by decide +kernel⟩

theorem test_meets_AdminAnswers_9 : ∃ id : CmdId, ∃ s : State, (s.serves (.keepAlive id) id) :=
  ⟨adm, hostS, by decide +kernel⟩

theorem test_meets_AdminAnswers_10 : ∃ n : W16, ∃ s : State, ∃ c : HostCtrl, (s.ctrlFor n = some c) ∧ (c.lastKa + c.kato * 1000000 ≤ s.frame.time) :=
  ⟨1, { hostS with frame := { time := 1000000000 } }, { cntlid := 1, port := 0, cc := 1, ready := true, kato := 1000, queues := [{ sq := 0, size := 31 }, { sq := 1, size := 63 }] }, by decide +kernel⟩

theorem test_meets_FirmwareUpdate_1 : ∃ id : CmdId, ∃ ofst : W32, ∃ data : Bytes, ∃ s : State, (s.serves (.firmwareImageDownload id ofst data) id) ∧ (4 * ofst.toNat % 4096 = 0) ∧ (data.length % 4096 = 0) ∧ (data ≠ []) ∧ (4 * ofst.toNat + data.length ≤ 67108864) :=
  ⟨adm, 0, List.replicate 4096 1, hostS, ⟨by decide, rfl, by rw [List.length_replicate], by intro h; have := congrArg List.length h; rw [List.length_replicate] at this; exact absurd this (by decide), by rw [List.length_replicate]; decide⟩⟩

theorem test_meets_FirmwareUpdate_2 : ∃ id : CmdId, ∃ sl : BitVec 3, ∃ s : State, (s.serves (.firmwareCommitReplace id sl) id) ∧ (s.safe = true) :=
  ⟨adm, 1, { hostS with drogue := { state := 1 } }, by decide +kernel⟩

theorem test_meets_FirmwareUpdate_3 : ∃ id : CmdId, ∃ sl : BitVec 3, ∃ s : State, (s.serves (.firmwareCommitReplace id sl) id) ∧ (s.safe = false) ∧ (1 ≤ sl.toNat) ∧ (sl.toNat ≤ 3) ∧ (sl.toNat ≠ s.sec.running.toNat) :=
  ⟨adm, 2, hostS, by decide +kernel⟩

theorem test_meets_FirmwareUpdate_4 : ∃ id : CmdId, ∃ sl : BitVec 3, ∃ s : State, (s.serves (.firmwareCommitActivate id sl) id) ∧ (s.safe = false) ∧ (1 ≤ sl.toNat) ∧ (sl.toNat ≤ 3) ∧ (sl.toNat ≠ s.sec.running.toNat) :=
  ⟨adm, 2, hostS, by decide +kernel⟩

theorem test_meets_FirmwareUpdate_5 : ∃ id : CmdId, ∃ sl : BitVec 3, ∃ s : State, (s.serves (.firmwareCommitSlot id sl) id) ∧ (s.safe = false) ∧ (1 ≤ sl.toNat) ∧ (sl.toNat ≤ 3) ∧ (sl.toNat ≠ s.sec.running.toNat) :=
  ⟨adm, 2, hostS, by decide +kernel⟩

theorem test_meets_FirmwareUpdate_6 : ∃ id : CmdId, ∃ sl : BitVec 3, ∃ s : State, (s.serves (.firmwareCommitSlot id sl) id) ∧ (s.safe = false) ∧ (sl.toNat ≠ 0) ∧ (sl.toNat = s.sec.running.toNat ∨ 3 < sl.toNat) :=
  ⟨adm, 1, { hostS with sec := { running := 1 } }, by decide +kernel⟩

theorem test_meets_RegisterWindow_1 : ∃ id : CmdId, ∃ core : Fin 4, ∃ addr : W32, ∃ s : State, ∃ b : WinBlock, ∃ o : Nat, (s.serves (.registerAccessRead id core addr 1 0) id) ∧ (addr.toNat % 4 = 0) ∧ (winBlock addr.toNat = some (b, o)) ∧ (s.parity.bad = []) :=
  ⟨adm, 0, 0x00100000, hostS, .frm, 0, by decide +kernel⟩

theorem test_meets_RegisterWindow_2 : ∃ id : CmdId, ∃ core : Fin 4, ∃ addr : W32, ∃ c : W32, ∃ s : State, (s.serves (.registerAccessRead id core addr c 0) id) ∧ (addr.toNat % 4 ≠ 0) ∧ (bits c 31 11 = 0) ∧ (1 ≤ bits c 10 0) ∧ (bits c 10 0 ≤ 1024) ∧ (addr.toNat + 4 * bits c 10 0 ≤ 2 ^ 32) :=
  ⟨adm, 0, 2, 1, hostS, by decide +kernel⟩

theorem test_meets_RegisterWindow_3 : ∃ id : CmdId, ∃ core : Fin 4, ∃ addr : W32, ∃ v : W32, ∃ s : State, ∃ b : WinBlock, ∃ o : Nat, (s.serves (.registerAccessWrite id core addr 1 0 [v]) id) ∧ (addr.toNat % 4 = 0) ∧ (winBlock addr.toNat = some (b, o)) :=
  ⟨adm, 0, 0x00100054, 5, hostS, .frm, 0x54, by decide +kernel⟩

theorem test_meets_RegisterWindow_4 : ∃ c : W32, ∃ d : List W32, (d.length ≠ bits c 10 0) :=
  ⟨1, [], by decide +kernel⟩

theorem test_meets_RegisterWindow_5 : ∃ m : W16, ∃ addr : W32, ∃ s : State, ∃ b : WinBlock, ∃ o : Nat, (m.toNat < 5) ∧ (s.firmwareUp = true) ∧ (addr.toNat % 4 = 0) ∧ (winBlock addr.toNat = some (b, o)) :=
  ⟨0, 0x00100054, upS, .frm, 0x54, by decide +kernel⟩

theorem test_meets_RegisterWindow_6 : ∃ m : W16, ∃ addr : W32, ∃ s : State, (m.toNat < 5) ∧ (s.firmwareUp = true) ∧ (addr.toNat % 4 ≠ 0 ∨ winBlock addr.toNat = none) :=
  ⟨0, 0x00300000, upS, by decide +kernel⟩

theorem test_meets_RegisterWindow_7 : ∃ id : CmdId, ∃ p : Byte, ∃ d : Bytes, ∃ s : State, (s.serves (.securitySend id p d) id) :=
  ⟨adm, 0xE8, [], hostS, by decide +kernel⟩

theorem test_meets_RegisterWindow_8 : ∃ id : CmdId, ∃ len : Nat, ∃ s : State, (s.serves (.securityReceive id 0xE8 len) id) :=
  ⟨adm, 64, hostS, by decide +kernel⟩

theorem test_meets_RegisterWindow_9 : ∃ g : Byte, ∃ s : State, (s.firmwareUp = true) ∧ (parListed g.toNat = true) :=
  ⟨0x98, upS, by decide +kernel⟩

theorem test_meets_RegisterWindow_10 : ∃ cdw11 : W32, ∃ data : List W32, (data.length = bits cdw11 10 0) :=
  ⟨0, [], by decide +kernel⟩

theorem test_meets_RegisterWindow_11 : ∃ master : W16, (master.toNat < 5) :=
  ⟨0, by decide +kernel⟩

theorem test_meets_NamespaceManagement_1 : ∃ id : CmdId, ∃ nsze : W64, ∃ lbaf : BitVec 4, ∃ b : Bytes, ∃ s : State, ∃ t : Status, (s.serves (.namespaceCreate id nsze lbaf b) id) ∧ (s.nsRefusal = some t) :=
  ⟨adm, 256, 0, [], { hostS with drogue := { state := 1 } }, stSequence, by decide +kernel⟩

theorem test_meets_NamespaceManagement_2 : ∃ id : CmdId, ∃ nsze : W64, ∃ lbaf : BitVec 4, ∃ b : Bytes, ∃ s : State, (s.serves (.namespaceCreate id nsze lbaf b) id) ∧ (s.nsRefusal = none) ∧ (s.hasTenant (leNat b 0 4) = true) ∧ (leNat b 4 1 = 0) ∧ ((byteAt b 5).toNat ≤ 1) ∧ (zeros b 6 10 = true) ∧ (lbaf = 0) ∧ (nsze.toNat * 4096 ≠ 0) ∧ (nsze.toNat * 4096 % 1048576 = 0) ∧ (s.media.namespaces.length < 1024) ∧ (nsze.toNat * 4096 / 1048576 ≤ s.freeGroups) :=
  ⟨adm, 256, 0, [1, 0, 0, 0, 0, 0, 0, 0, 0, 0, 0, 0, 0, 0, 0, 0], hostS, by decide +kernel⟩

theorem test_meets_NamespaceManagement_3 : ∃ id : CmdId, ∃ nsid : W32, ∃ s : State, ∃ n : Namespace, (s.serves (.namespaceDelete id nsid) id) ∧ (s.nsRefusal = none) ∧ (s.nsFor nsid.toNat = some n) ∧ (n.creating = none) ∧ (n.formatting = none) ∧ (n.deleting = none) ∧ ((s.nsMode n).isSome = true) :=
  ⟨adm, 4, { hostS with media := { namespaces := [ns4] } }, ns4, by decide +kernel⟩

theorem test_meets_NamespaceManagement_4 : ∃ id : CmdId, ∃ lbaf : BitVec 4, ∃ ses : BitVec 3, ∃ s : State, (s.serves (.formatNvm id 0xFFFFFFFF lbaf ses) id) ∧ (s.nsRefusal = none) ∧ (s.media.namespaces = []) ∧ (lbaf.toNat ≤ 1) ∧ (ses.toNat ≤ 2) :=
  ⟨adm, 0, 1, hostS, by decide +kernel⟩

theorem test_meets_NamespaceManagement_5 : ∃ id : CmdId, ∃ nsid : W32, ∃ lbaf : BitVec 4, ∃ ses : BitVec 3, ∃ s : State, ∃ n : Namespace, (s.serves (.formatNvm id nsid lbaf ses) id) ∧ (s.nsRefusal = none) ∧ (nsid ≠ 0xFFFFFFFF) ∧ (s.media.namespaces.filter (fun n => decide (n.nsid = nsid.toNat)) = [n]) ∧ (lbaf.toNat ≤ 1) ∧ (ses.toNat ≤ 2) ∧ (s.nsBusy n.nsid = false) ∧ (n.creating = none) ∧ (n.formatting = none) ∧ (n.deleting = none) ∧ (s.nsMode n = some false) :=
  ⟨adm, 4, 0, 1, { hostS with media := { namespaces := [ns4] } }, ns4, by decide +kernel⟩

theorem test_meets_Connections_1 : ∃ id : CmdId, ∃ p : Fin 8, ∃ q : W16, ∃ kato : W32, ∃ s : State, (s.phase = .up) ∧ ((s.portAt p.val).up = true) ∧ ((s.portAt p.val).addr = true) ∧ (s.tether.qps.length < 65536) ∧ (id.sq = 0) ∧ (s.host.ctrls.any (fun c => decide (c.cntlid = id.ctrl)) = false) ∧ (s.host.ctrls.length < 64) ∧ (1000 ≤ kato.toNat) ∧ (kato.toNat ≤ 60000) ∧ (q ≠ 0) ∧ (q.toNat ≤ 31) :=
  ⟨{ adm with ctrl := 2 }, 0, 31, 2000, portS, by decide +kernel⟩

theorem test_meets_Connections_2 : ∃ id : CmdId, ∃ p : Fin 8, ∃ s : State, (s.phase = .up) ∧ ((s.portAt p.val).up = true) ∧ ((s.portAt p.val).addr = true) ∧ (s.tether.qps.length < 65536) ∧ (id.sq = 0) ∧ (s.host.ctrls.any (fun c => decide (c.cntlid = id.ctrl)) = true) :=
  ⟨adm, 0, portS, by decide +kernel⟩

theorem test_meets_Connections_3 : ∃ id : CmdId, ∃ p : Fin 8, ∃ q : W16, ∃ s : State, ∃ c : HostCtrl, (s.phase = .up) ∧ ((s.portAt p.val).up = true) ∧ ((s.portAt p.val).addr = true) ∧ (s.tether.qps.length < 65536) ∧ (id.sq ≠ 0) ∧ (s.ctrlFor id.ctrl = some c) ∧ (c.port = p.val) ∧ (c.ready = true) ∧ (c.hasQueue id.sq = false) ∧ (c.queues.length - 1 < bits c.numQueues 15 0 + 1) ∧ (sumBy (fun (c : HostCtrl) => c.queues.length - 1) s.host.ctrls < 4096) ∧ (q ≠ 0) ∧ (q.toNat ≤ 4095) :=
  ⟨{ adm with sq := 2 }, 0, 63, portS, ctl1, by decide +kernel⟩

theorem test_meets_Connections_4 : ∃ id : CmdId, ∃ s : State, ∃ c : HostCtrl, (s.ctrlFor id.ctrl = some c) :=
  ⟨adm, hostS, ctl1, by decide +kernel⟩

theorem test_meets_Connections_5 : ∃ id : CmdId, ∃ v : W64, ∃ s : State, ∃ c : HostCtrl, (s.ctrlFor id.ctrl = some c) ∧ (bit c.cc 0 = false) ∧ (bit (v.setWidth 32) 0 = true) ∧ (bits (v.setWidth 32) 15 14 = 0) ∧ (s.host.fwEvent = false) :=
  ⟨adm, 1, { hostS with host := { ctrls := [{ ctl1 with cc := 0, ready := false }] } }, { ctl1 with cc := 0, ready := false }, by decide +kernel⟩

theorem test_meets_Connections_6 : ∃ id : CmdId, ∃ v : W64, ∃ s : State, ∃ c : HostCtrl, (s.ctrlFor id.ctrl = some c) ∧ (v.setWidth 32 = (0x4E564D65 : W32)) :=
  ⟨adm, 0x4E564D65, hostS, ctl1, by decide +kernel⟩

theorem test_meets_Connections_7 : ∃ id : CmdId, ∃ s : State, ∃ c : HostCtrl, (s.ctrlFor id.ctrl = some c) ∧ (c.hasQueue id.sq = true) :=
  ⟨adm, hostS, ctl1, by decide +kernel⟩

theorem test_meets_Connections_8 : ∃ n : W16, ∃ q : W16, ∃ s : State, ∃ c : HostCtrl, (s.ctrlFor n = some c) ∧ (c.hasQueue q = true) :=
  ⟨1, 1, hostS, ctl1, by decide +kernel⟩

theorem test_meets_IoCommandsArrive_1 : ∃ i : Instr, ∃ h : IoHdr, ∃ nvm : Bool, ∃ s : State, (ioOf i = some (h, nvm)) ∧ (i.wellFormed = true) ∧ (s.queueUp h.id = true) ∧ (s.isOpen h.id = false) ∧ (s.parity.masks = []) :=
  ⟨.flush hdr1, hdr1, true, hostS, by decide +kernel⟩

theorem test_meets_IoCommandsArrive_2 : ∃ i : Instr, ∃ h : IoHdr, ∃ nvm : Bool, ∃ s : State, (ioOf i = some (h, nvm)) ∧ (i.wellFormed = true) ∧ (s.host.open_ = []) ∧ (s.queueUp h.id = true) ∧ (s.ioBlocked = false) ∧ (s.parity.masks = []) ∧ ((s.entered i h nvm).endings = s.entered i h nvm) :=
  ⟨.flush hdr1, hdr1, true, hostS, by decide +kernel⟩

theorem test_meets_IoCommandsArrive_3 : ∃ i : Instr, ∃ h : IoHdr, ∃ nvm : Bool, ∃ s : State, (ioOf i = some (h, nvm)) ∧ (i.wellFormed = true) ∧ (s.queueUp h.id = true) ∧ (s.isOpen h.id = false) ∧ (s.parity.masks = []) ∧ (s.sparReset = true) :=
  ⟨.flush hdr1, hdr1, true, { hostS with sparReset := true }, by decide +kernel⟩

theorem test_meets_IoCommandsArrive_4 : ∃ i : Instr, ∃ h : IoHdr, ∃ nvm : Bool, ∃ s : State, (ioOf i = some (h, nvm)) ∧ (i.wellFormed = true) ∧ (s.queueUp h.id = true) ∧ (s.isOpen h.id = false) ∧ (s.parity.masks = []) ∧ (s.sparReset = false) ∧ (s.holding = true ∨ s.phase ≠ .up) ∧ ((s.entered i h nvm).endings = s.entered i h nvm) :=
  ⟨.flush hdr1, hdr1, true, { hostS with power := { hold := .flushing } }, by decide +kernel⟩

theorem test_meets_IoCommandsArrive_5 : ∃ h : IoHdr, ∃ s : State, ∃ t : State, ∃ c : HostCtrl, (s.queueUp h.id = true) ∧ (s.isOpen h.id = false) ∧ (s.ctrlFor h.id.ctrl = some c) ∧ (s.staged (0xC8 + c.port) = (true, t)) :=
  ⟨hdr1, flipS, (flipS.staged 0xC8).2, ctl1, by decide +kernel⟩

theorem test_meets_IoCommandsArrive_6 : ∃ i : Instr, ∃ h : IoHdr, ∃ nvm : Bool, ∃ s : State, (ioOf i = some (h, nvm)) ∧ (i.wellFormed = true) ∧ (s.queueUp h.id = false ∨ s.isOpen h.id = true) :=
  ⟨.flush hdr1, hdr1, true, upS, by decide +kernel⟩

theorem test_meets_NvmCommands_1 : ∃ h : IoHdr, ∃ a : W64, ∃ n : W16, ∃ s : State, ∃ x : Namespace, (s.nvmRefusal h true = none) ∧ (s.nsFor h.nsid.toNat = some x) ∧ (a.toNat + (n.toNat + 1) ≤ x.nsze) ∧ ((n.toNat + 1) * x.blockLen ≤ 1048576) :=
  ⟨{ hdr1 with nsid := 4 }, 0, 0, nsS, ns4, by decide +kernel⟩

theorem test_meets_NvmCommands_2 : ∃ h : IoHdr, ∃ a : W64, ∃ n : W16, ∃ s : State, ∃ x : Namespace, (s.nvmRefusal h true = none) ∧ (s.nsFor h.nsid.toNat = some x) ∧ (x.nsze < a.toNat + (n.toNat + 1)) :=
  ⟨{ hdr1 with nsid := 4 }, 256, 0, nsS, ns4, by decide +kernel⟩

theorem test_meets_NvmCommands_3 : ∃ h : IoHdr, ∃ a : W64, ∃ n : W16, ∃ s : State, ∃ x : Namespace, (s.nvmRefusal h true = none) ∧ (s.nsFor h.nsid.toNat = some x) ∧ (a.toNat + (n.toNat + 1) ≤ x.nsze) :=
  ⟨{ hdr1 with nsid := 4 }, 0, 0, nsS, ns4, by decide +kernel⟩

theorem test_meets_NvmCommands_4 : ∃ h : IoHdr, ∃ a : W64, ∃ n : W16, ∃ s : State, ∃ x : Namespace, (s.nvmRefusal h false = none) ∧ (s.nsFor h.nsid.toNat = some x) ∧ (a.toNat + (n.toNat + 1) ≤ x.nsze) ∧ ((n.toNat + 1) * x.blockLen ≤ 1048576) ∧ (s.nsLost x (a.toNat * x.blockLen) ((n.toNat + 1) * x.blockLen) = false) ∧ ((upTo (((a.toNat * x.blockLen + (n.toNat + 1) * x.blockLen - 1) / 65536 + 1) - a.toNat * x.blockLen / 65536)).all (fun k => !s.onFlash (x.slot (a.toNat * x.blockLen / 65536 + k))) = true) ∧ (s.media.reads = []) :=
  ⟨{ hdr1 with nsid := 4 }, 0, 0, nsS, ns4, by decide +kernel⟩

theorem test_meets_NvmCommands_5 : ∃ h : IoHdr, ∃ s : State, ∃ x : Namespace, (s.nvmRefusal h true = none) ∧ (s.nsFor h.nsid.toNat = some x) :=
  ⟨{ hdr1 with nsid := 4 }, nsS, ns4, by decide +kernel⟩

theorem test_meets_CianberRefusals_1 : ∃ i : Instr, ∃ h : IoHdr, ∃ s : State, (ioOf i = some (h, false)) ∧ (s.safe = true) :=
  ⟨.listModels hdr1 [], hdr1, { hostS with drogue := { state := 1 } }, by decide +kernel⟩

theorem test_meets_CianberRefusals_2 : ∃ i : Instr, ∃ h : IoHdr, ∃ s : State, (ioOf i = some (h, false)) ∧ (s.safe = false) ∧ (s.loft.image = none) :=
  ⟨.listModels hdr1 [], hdr1, upS, by decide +kernel⟩

theorem test_meets_CianberRefusals_3 : ∃ i : Instr, ∃ h : IoHdr, ∃ s : State, ∃ m : Image, (ioOf i = some (h, false)) ∧ (searchCmd i = true) ∧ (s.safe = false) ∧ (s.loft.image = some m) ∧ (m.qryStage = 0) :=
  ⟨.insert hdr1 [], hdr1, { hostS with loft := { image := some { img0 with qryStage := 0 } } }, { img0 with qryStage := 0 }, by decide +kernel⟩

theorem test_meets_CianberRefusals_4 : ∃ i : Instr, ∃ h : IoHdr, ∃ s : State, ∃ m : Image, (ioOf i = some (h, false)) ∧ (s.safe = false) ∧ (s.loft.image = some m) ∧ (m.qryStage ≠ 0 ∨ searchCmd i = false) ∧ (s.outside = true) :=
  ⟨.listModels hdr1 [], hdr1, { hostS with group := {} }, img0, by decide +kernel⟩

theorem test_meets_CianberRefusals_5 : ∃ i : Instr, ∃ h : IoHdr, ∃ s : State, ∃ m : Image, (ioOf i = some (h, false)) ∧ (s.safe = false) ∧ (s.loft.image = some m) ∧ (m.qryStage ≠ 0 ∨ searchCmd i = false) ∧ (s.outside = false) ∧ (2 ≤ h.cdw3.toNat ∨ h.sglOk = false ∨ h.nsid ≠ 0 ∨ s.hasTenant h.tenant.toNat = false ∨ 67108864 < (ioBlock i).length ∨ 67108864 < h.resLen) :=
  ⟨.insert { hdr1 with sglOk := false } [], { hdr1 with sglOk := false }, hostS, img0, by decide +kernel⟩

theorem test_meets_ModelCommands_1 : ∃ h : IoHdr, ∃ b : Bytes, ∃ s : State, ∃ m : Model, (s.cianberRefusal h false b.length = none) ∧ (s.modelFor (le 64 b 8) = some m) :=
  ⟨hdr1, [1], mdlS, mdl0, by decide +kernel⟩

theorem test_meets_ModelCommands_2 : ∃ h : IoHdr, ∃ b : Bytes, ∃ s : State, ∃ m : Model, (s.cianberRefusal h false b.length = none) ∧ (fieldsOk b [(0, 1), (8, 8)] = true) ∧ (s.modelFor (le 64 b 8) = some m) ∧ (m.state = 1) ∧ (m.tenant = h.tenant.toNat) ∧ (m.waiter = none) :=
  ⟨hdr1, List.replicate 64 0, mdlS, mdl0, by decide +kernel⟩

theorem test_meets_ModelCommands_3 : ∃ h : IoHdr, ∃ b : Bytes, ∃ s : State, ∃ m : Model, (s.cianberRefusal h false b.length = none) ∧ (fieldsOk b [(0, 1), (8, 8)] = true) ∧ (s.modelFor (le 64 b 8) = some m) ∧ (m.state = 1) ∧ (m.tenant = h.tenant.toNat) ∧ (m.waiter = none) :=
  ⟨hdr1, List.replicate 64 0, mdlS, mdl0, by decide +kernel⟩

theorem test_meets_ModelCommands_4 : ∃ h : IoHdr, ∃ b : Bytes, ∃ s : State, (s.cianberRefusal h false b.length = none) ∧ (s.library.models = []) :=
  ⟨hdr1, [], hostS, by decide +kernel⟩

theorem test_meets_ModelCommands_5 : ∃ h : IoHdr, ∃ b : Bytes, ∃ s : State, ∃ m : Model, (s.cianberRefusal h false b.length = none) ∧ (fieldsOk b [(0, 8)] = true) ∧ (s.modelFor (le 64 b 0) = some m) ∧ (m.state = 2) ∧ (m.tenant = h.tenant.toNat) ∧ (s.library.contexts = []) ∧ (s.library.refits = []) :=
  ⟨hdr1, List.replicate 64 0, { mdlS with library := { models := [{ mdl0 with state := 2 }] } }, { mdl0 with state := 2 }, by decide +kernel⟩

theorem test_meets_ModelCommands_6 : ∃ h : IoHdr, ∃ b : Bytes, ∃ s : State, ∃ m : Model, (s.cianberRefusal h false b.length = none) ∧ (fieldsOk b [(0, 8)] = true) ∧ (s.modelFor (le 64 b 0) = some m) ∧ (m.state = 2) ∧ (m.tenant = h.tenant.toNat) ∧ ((s.library.contexts.any fun e => decide (e.2.state ≠ 0) && decide (e.2.model = m.id)) = true) :=
  ⟨hdr1, List.replicate 64 0, { mdlS with library := { models := [{ mdl0 with state := 2 }], contexts := [(0, { state := 1 })] } }, { mdl0 with state := 2 }, by decide +kernel⟩

theorem test_meets_ModelCommands_7 : ∃ h : IoHdr, ∃ b : Bytes, ∃ s : State, (s.cianberRefusal h false b.length = none) ∧ (fieldsOk b [(0, 8)] = true) :=
  ⟨hdr1, List.replicate 64 0, hostS, by decide +kernel⟩

theorem test_meets_ModelCommands_8 : ∃ k : W64, ∃ s : State, ∃ m : Model, (s.modelFor k = some m) ∧ (m.state = 1) ∧ (m.waiter = none) ∧ (m.lastData + 4096 ≤ s.frame.num.toNat) :=
  ⟨0, { mdlS with frame := { num := 4096 } }, mdl0, by decide +kernel⟩

theorem test_meets_ModelCommands_9 : ∃ h : IoHdr, ∃ b : Bytes, ∃ s : State, (s.cianberRefusal h false b.length = none) ∧ (byteAt b 0 = 1) ∧ (b.length = 0x90) ∧ (fieldsOk b [(0, 1), (8, 8), (0x10, 128)] = true) ∧ (entryOk (le 64 b 8) b 0x10 = true) ∧ (s.modelFor (le 64 b 8) = none) ∧ ((readModel b 0x10).weightBits ≤ 1600000000000000) ∧ (s.fitsFusion (readModel b 0x10) ≠ []) ∧ (s.pendingFits (readModel b 0x10).fusion = true) ∧ ((s.loft.pending.any fun p => (p.image.tenant? h.tenant.toNat).isNone) = false) :=
  ⟨hdr1, mdlBegin, hostS, by decide +kernel⟩

theorem test_meets_ModelCommands_10 : ∃ h : IoHdr, ∃ b : Bytes, ∃ data : Bytes, ∃ s : State, ∃ m : Model, ∃ obj : Nat, ∃ l : Nat, ∃ e : Nat, ∃ ofs : Nat, ∃ n : Nat, ∃ src : Nat, (s.cianberRefusal h false b.length = none) ∧ (leNat b 0x10 2 = obj ∧ leNat b 0x12 2 = l ∧ leNat b 0x14 4 = e ∧ leNat b 0x18 8 = ofs ∧ leNat b 0x20 4 = n ∧ leNat b 0x24 1 = src) ∧ (fieldsOk b [(0, 1), (8, 8), (0x10, 0x15), (0x28, 4), (0x30, 8), (0x40, b.length - 0x40)] = true) ∧ (1 ≤ n ∧ n ≤ 1048576 ∧ obj ≤ 6 ∧ src ≤ 1) ∧ (b.length = 0x40 + (if src = 0 then n else 0)) ∧ (s.modelFor (le 64 b 8) = some m) ∧ (m.state = 1 ∧ m.tenant = h.tenant.toNat ∧ m.waiter = none) ∧ (s.sourceClosed src (leNat b 0x28 4) = false) ∧ (l < m.layers ∧ e < m.experts) ∧ (obj = 1 ∨ obj = 6 ∨ (l = 0 ∧ e = 0)) ∧ ((obj = 5 ∨ obj = 6) → m.refitOk = true) ∧ (obj = 2 → ofs + n ≤ m.layers * m.experts * 64) ∧ (s.source b src 0x40 (leNat b 0x28 4) (leNat b 0x30 8) n h.tenant.toNat = some data) ∧ (s.sourceLostData src (leNat b 0x28 4) (leNat b 0x30 8) n = false) ∧ (s.fits h.tenant.toNat 2 ((objLen (loadLen m obj l e (ofs + n)) - (match m.loadObj obj l e with | none => 0 | some o => objLen o.len)) / 65536) = true) ∧ (pieceCount (objLen (loadLen m obj l e (ofs + n))) ≤ s.freeGroups) :=
  ⟨hdr1, [2] ++ List.replicate 31 0 ++ [4] ++ List.replicate 31 0 ++ [1, 2, 3, 4], [1, 2, 3, 4], mdlS, mdl0, 0, 0, 0, 0, 4, 0, by decide +kernel⟩

theorem test_meets_ModelCommands_11 : ∃ h : IoHdr, ∃ b : Bytes, ∃ s : State, ∃ m : Model, (s.cianberRefusal h false b.length = none) ∧ (fieldsOk b [(0, 1), (8, 8), (0x40, b.length - 0x40)] = true) ∧ (s.modelFor (le 64 b 8) = some m) ∧ (m.state = 2) ∧ (m.tenant = h.tenant.toNat) ∧ (scaleTableOk (b.drop 0x40) = true) ∧ (scaleTableLen (b.drop 0x40) = (b.drop 0x40).length) ∧ (s.fits h.tenant.toNat 2 (units (b.drop 0x40).length) = true) ∧ (pieceCount (objLen (b.drop 0x40).length) ≤ s.freeGroups) :=
  ⟨hdr1, List.replicate 64 0 ++ scl1, { mdlS with library := { models := [{ mdl0 with state := 2 }] } }, { mdl0 with state := 2 }, by decide +kernel⟩

theorem test_meets_ModelCommands_12 : ∃ pb : Bytes, (opRow pb 0 1 5) :=
  ⟨rowBytes 0 1, by decide +kernel⟩

theorem test_meets_ModelCommands_13 : ∃ pb : Bytes, (opRow pb 0 2 5) :=
  ⟨rowBytes 0 2, by decide +kernel⟩

theorem test_meets_ModelCommands_14 : ∃ pb : Bytes, (opRow pb 0 3 5) :=
  ⟨rowBytes 0 3, by decide +kernel⟩

theorem test_meets_ModelCommands_15 : ∃ pb : Bytes, (opRow pb 0 4 5) :=
  ⟨rowBytes 0 4, by decide +kernel⟩

theorem test_meets_ModelCommands_16 : ∃ pb : Bytes, (opRow pb 0 5 5) :=
  ⟨rowBytes 0 5, by decide +kernel⟩

theorem test_meets_ContextsAndBatches_1 : ∃ h : IoHdr, ∃ b : Bytes, ∃ s : State, ∃ i : Nat, (s.cianberRefusal h false b.length = none) ∧ (fieldsOk b [(0, 4)] = true) ∧ (s.ctxOf (le 32 b 0) h.tenant.toNat = some i) :=
  ⟨hdr1, blk32, ctxS, 0, by decide +kernel⟩

theorem test_meets_ContextsAndBatches_2 : ∃ h : IoHdr, ∃ b : Bytes, ∃ s : State, ∃ i : Nat, (s.cianberRefusal h false b.length = none) ∧ (fieldsOk b [(0, 4)] = true) ∧ (s.ctxOf (le 32 b 0) h.tenant.toNat = some i) ∧ ((s.ctxAt i).state ≠ 3) ∧ ((s.ctxAt i).opening = none) :=
  ⟨hdr1, blk32, ctxS, 0, by decide +kernel⟩

theorem test_meets_ContextsAndBatches_3 : ∃ h : IoHdr, ∃ b : Bytes, ∃ s : State, ∃ i : Nat, (s.cianberRefusal h false b.length = none) ∧ (fieldsOk b [(0, 4)] = true) ∧ (s.ctxOf (le 32 b 0) h.tenant.toNat = some i) ∧ ((s.ctxAt i).state = 3) :=
  ⟨hdr1, blk32, { hostS with library := { contexts := [(0, { ctx0 with state := 3 })] } }, 0, by decide +kernel⟩

theorem test_meets_ContextsAndBatches_4 : ∃ x : W32, ∃ s : State, ∃ i : Nat, (s.ctxIndex x = some i) ∧ ((s.ctxAt i).state = 3) ∧ (s.ctxPasses x = []) :=
  ⟨0, { hostS with library := { contexts := [(0, { ctx0 with state := 3 })] } }, 0, by decide +kernel⟩

theorem test_meets_ContextsAndBatches_5 : ∃ h : IoHdr, ∃ b : Bytes, ∃ s : State, ∃ i : Nat, ∃ m : Model, ∃ t : Status, (s.cianberRefusal h false b.length = none) ∧ (fieldsOk b [(0, 0x28), (0x40, b.length - 0x40)] = true) ∧ (1 ≤ leNat b 4 4) ∧ (leNat b 4 4 ≤ 65536) ∧ (leNat b 8 2 ≤ 4096) ∧ (leNat b 0x0A 2 = 0) ∧ (leNat b 0x0C 4 = 0) ∧ (b.length = 0x40 + 4 * leNat b 4 4) ∧ (leNat b 0x10 8 = 0) ∧ (s.ctxOf (le 32 b 0) h.tenant.toNat = some i) ∧ ((s.ctxAt i).cls ≠ 1) ∧ (s.modelFor (s.ctxAt i).model = some m) ∧ (s.batchRefusal (s.ctxAt i) m none (leNat b 4 4 + leNat b 8 2) = some t) ∧ (t ≠ stQuota) :=
  ⟨hdr1, [0, 0, 0, 0, 1] ++ List.replicate 63 0, { hostS with library := { contexts := [(0, { ctx0 with state := 3, cls := 2 })], models := [{ mdl0 with state := 2 }] } }, 0, { mdl0 with state := 2 }, stSequence, by decide +kernel⟩

theorem test_meets_ContextsAndBatches_6 : ∃ h : IoHdr, ∃ b : Bytes, ∃ s : State, (s.cianberRefusal h false b.length = none) ∧ (s.library.models = []) :=
  ⟨hdr1, blk32, hostS, by decide +kernel⟩

theorem test_meets_ContextsAndBatches_7 : ∃ x : W32, ∃ s : State, ∃ i : Nat, (s.ctxIndex x = some i) ∧ ((s.ctxAt i).opening.isSome = true) ∧ ((s.ctxAt i).openTicks ≤ s.frame.num.toNat) :=
  ⟨0, { hostS with library := { contexts := [(0, { ctx0 with opening := some ioc })] } }, 0, by decide +kernel⟩

theorem test_meets_ContextsAndBatches_8 : ∃ j : Nat, ∃ s : State, ∃ r : Refit, ∃ q : Nat, (s.library.refits.find? (fun r => decide (r.job = j)) = some r) ∧ (r.phase = .flag) ∧ (r.flagSeq = some q) :=
  ⟨1, { hostS with library := { refits := [rft0] } }, rft0, 4, by decide +kernel⟩

theorem test_meets_ContextsAndBatches_9 : ∃ j : Nat, ∃ s : State, ∃ r : Refit, (s.library.refits.find? (fun r => decide (r.job = j)) = some r) ∧ (s.frame.num.toNat < r.started + 64) :=
  ⟨1, { hostS with library := { refits := [rft0] } }, rft0, by decide +kernel⟩

theorem test_meets_ContextsAndBatches_10 : ∃ h : IoHdr, ∃ b : Bytes, ∃ s : State, (s.cianberRefusal h false b.length = none) ∧ (fieldsOk b [(0, 10), (0x0C, 7), (0x14, 0x20), (0x38, 9), (0x44, 12), (0x80, b.length - 0x80)] = true) ∧ (leNat b 0x12 1 = 0) ∧ (leNat b 0x18 8 < 2 ^ 48) ∧ (leNat b 0x40 1 ≤ 1) :=
  ⟨hdr1, List.replicate 128 0, hostS, by decide +kernel⟩

theorem test_meets_ContextsAndBatches_11 : ∃ h : IoHdr, ∃ b : Bytes, ∃ s : State, (s.cianberRefusal h false b.length = none) ∧ (fieldsOk b [(0, 0x15), (0x16, 4), (0x20, 9), (0x2C, 0x14), (0x40, b.length - 0x40)] = true) ∧ (leNat b 0x14 1 = 0) ∧ (le 16 b 0x12 ≠ 0) ∧ (16 ≤ leNat b 0x16 2) ∧ (leNat b 0x16 2 ≤ 8192) ∧ (leNat b 0x18 2 = 0) ∧ (leNat b 0x28 1 ≤ 1) ∧ (leNat b 0x20 8 < 2 ^ 48) :=
  ⟨hdr1, List.replicate 18 0 ++ [1, 0, 0, 0, 16] ++ List.replicate 41 0, hostS, by decide +kernel⟩

theorem test_meets_ContextsAndBatches_12 : ∃ h : IoHdr, ∃ b : Bytes, ∃ s : State, ∃ m : Model, ∃ i : Nat, (s.cianberRefusal h false b.length = none) ∧ (fieldsOk b [(0, 8), (8, 4), (0x0C, 1), (0x0E, 2)] = true) ∧ (leNat b 0x0C 1 ≤ 2) ∧ (leNat b 0x0C 1 = 0 ∨ leNat b 0x0E 2 = 0) ∧ (s.modelFor (le 64 b 0) = some m) ∧ (m.state = 2) ∧ (m.tenant = h.tenant.toNat) ∧ (1 ≤ leNat b 8 4) ∧ (leNat b 8 4 ≤ 1048576) ∧ (s.freeEntry = some i) ∧ (leNat b 0x0C 1 = 0 → contractOpens s (leNat b 0x0E 2) h.tenant.toNat = true) ∧ (s.fits h.tenant.toNat 1 (1 + units m.extentLen) = true) :=
  ⟨hdr1, List.replicate 8 0 ++ [1, 0, 0, 0, 2, 0, 0, 0] ++ List.replicate 48 0, { mdlS with library := { models := [{ mdl0 with state := 2 }] } }, { mdl0 with state := 2 }, 0, by decide +kernel⟩

theorem test_meets_ContextsAndBatches_13 : ∃ h : IoHdr, ∃ b : Bytes, ∃ p : Plan, ∃ s : State, ∃ i : Nat, ∃ m : Model, ∃ n : Nat, ∃ w : Option Nat, (s.cianberRefusal h false b.length = none) ∧ (fieldsOk b [(0, 0x28), (0x40, b.length - 0x40)] = true) ∧ (leNat b 4 4 = n ∧ 1 ≤ n ∧ n ≤ 65536) ∧ (leNat b 8 2 ≤ 4096) ∧ (w = (if leNat b 0x0A 2 = 1 then some (leNat b 0x0C 4) else none)) ∧ (leNat b 0x0A 2 = 1 ∨ (leNat b 0x0A 2 = 0 ∧ leNat b 0x0C 4 = 0)) ∧ (b.length = 0x40 + 4 * n) ∧ (leNat b 0x10 8 < 2 ^ 48) ∧ (s.ctxOf (le 32 b 0) h.tenant.toNat = some i) ∧ ((s.ctxAt i).cls = 1 ↔ leNat b 0x10 8 ≠ 0) ∧ (s.modelFor (s.ctxAt i).model = some m) ∧ (s.batchRefusal (s.ctxAt i) m w (n + leNat b 8 2) = none) ∧ ((s.ctxAt i).cls = 0 → s.admits (s.ctxAt i).contract h.tenant.toNat p m.fusion = true) :=
  ⟨hdr1, [0, 0, 0, 0, 1] ++ List.replicate 63 0, { workCus := 0, stages := 1, fusion := 0, pieces := [] }, { hostS with library := { contexts := [(0, { ctx0 with cls := 2, maxTokens := 8 })], models := [{ mdl0 with state := 2 }] } }, 0, { mdl0 with state := 2 }, 1, none, by decide +kernel⟩

theorem test_meets_ContextsAndBatches_14 : ∃ h : IoHdr, ∃ b : Bytes, ∃ s : State, ∃ m : Model, ∃ x : Expert, ∃ l : Nat, ∃ e : Nat, ∃ cls : Nat, (s.cianberRefusal h false b.length = none) ∧ (fieldsOk b [(0, 10), (0x0C, 7), (0x14, 0x20), (0x38, 9), (0x44, 12), (0x80, b.length - 0x80)] = true) ∧ (leNat b 8 2 = l ∧ leNat b 0x0C 4 = e ∧ leNat b 0x12 1 = cls) ∧ ((cls = 1 ∧ 1 ≤ leNat b 0x18 8 ∧ leNat b 0x18 8 < 2 ^ 48) ∨ (cls = 2 ∧ leNat b 0x18 8 = 0)) ∧ (leNat b 0x40 1 = 0 ∨ (leNat b 0x40 1 = 1 ∧ (s.source b 1 0 (leNat b 0x44 4) (leNat b 0x48 8) 0 h.tenant.toNat).isSome = true)) ∧ (s.sourceClosed (leNat b 0x40 1) (leNat b 0x44 4) = false) ∧ (s.modelFor (le 64 b 0) = some m) ∧ (m.state = 2 ∧ m.tenant = h.tenant.toNat ∧ l < m.layers ∧ e < m.experts ∧ m.refitOk = true) ∧ (le 64 b 0x38 = 0 ∨ m.added.contains (le 64 b 0x38) = true) ∧ (m.expertAt l e = some x) ∧ (x.home = s.rank) ∧ ((s.library.refits.any fun j => decide (j.model = m.id) && decide (j.layer = l) && decide (j.expert = e) && decide (j.phase ≠ .retiring)) = false) ∧ (((s.fitsFusion m).all fun c => (s.clusterAt c).ovfIeee) = false) ∧ ((s.library.refits.filter fun j => decide (j.phase ≠ .retiring)).length < 16) ∧ (1 ≤ leNat b 0x10 2 ∧ leNat b 0x10 2 ≤ 64 ∧ 1 ≤ leNat b 0x14 4 ∧ leNat b 0x14 4 ≤ 16384) ∧ (s.fits h.tenant.toNat 1 (units (refitWork x.params (leNat b 0x14 4) m.hidden x.vBf16)) = true) ∧ (s.fits h.tenant.toNat 2 (units x.bytes + units (refitStateLen x.params x.vBf16)) = true) ∧ (pieceCount (objLen x.bytes) + pieceCount (objLen (refitStateLen x.params x.vBf16)) ≤ s.freeGroups) :=
  ⟨hdr1, List.replicate 16 0 ++ [1, 0, 2, 0, 1] ++ List.replicate 107 0, { mdlS with library := { models := [rmd0] } }, rmd0, rex0, 0, 0, 2, by decide +kernel⟩

theorem test_meets_ContextsAndBatches_15 : ∃ j : Nat, ∃ s : State, ∃ r : Refit, (s.library.refits.find? (fun r => decide (r.job = j)) = some r) ∧ (r.phase = .shadow) ∧ (r.started + 64 ≤ s.frame.num.toNat) :=
  ⟨1, { mdlS with library := { models := [rmd0], refits := [{ rft0 with phase := .shadow }] }, frame := { num := 64 } }, { rft0 with phase := .shadow }, by decide +kernel⟩

theorem test_meets_ContextsAndBatches_16 : ∃ h : IoHdr, ∃ b : Bytes, ∃ data : Bytes, ∃ n : Nat, ∃ s : State, ∃ x : Shard, ∃ m : Model, ∃ cls : Nat, ∃ src : Nat, ∃ len : Nat, (s.cianberRefusal h false b.length = none) ∧ (fieldsOk b [(0, 0x15), (0x16, 4), (0x20, 9), (0x2C, 0x14), (0x40, b.length - 0x40)] = true) ∧ (leNat b 0x14 1 = cls ∧ leNat b 0x28 1 = src ∧ src ≤ 1) ∧ ((cls = 1 ∧ 1 ≤ leNat b 0x20 8 ∧ leNat b 0x20 8 < 2 ^ 48) ∨ (cls = 2 ∧ leNat b 0x20 8 = 0)) ∧ (le 16 b 0x12 ≠ 0) ∧ (16 ≤ leNat b 0x16 2 ∧ leNat b 0x16 2 ≤ 8192 ∧ 2 * leNat b 0x18 2 ≤ leNat b 0x16 2) ∧ (s.shardCheck (le 64 b 8) (le 16 b 0x10) h.tenant.toNat = none) ∧ (s.shardFor (le 64 b 8) (le 16 b 0x10) = some x) ∧ (s.modelFor (le 64 b 0) = some m) ∧ (len = (if src = 0 then b.length - 0x40 else leNat b 0x38 8 * (match s.nsFor (leNat b 0x2C 4) with | some n => n.blockLen | none => 4096))) ∧ (s.sourceClosed src (leNat b 0x2C 4) = false) ∧ (s.source b src 0x40 (leNat b 0x2C 4) (leNat b 0x30 8) len h.tenant.toNat = some data) ∧ (m.state = 2 ∧ m.tenant = h.tenant.toNat ∧ n = x.dim) ∧ ((s.search.jobs.filter fun j => decide (j.state = 1)).length < 64) ∧ ((s.search.jobs.any fun j => decide (j.state = 1) && decide (j.jobId = le 16 b 0x12)) = false) :=
  ⟨hdr1, List.replicate 8 0 ++ [5, 0, 0, 0, 0, 0, 0, 0, 1, 0, 1, 0, 2, 0, 16] ++ List.replicate 41 0 ++ [7, 7], [7, 7], 128, { shdS with library := { models := [{ mdl0 with state := 2 }] } }, shd, { mdl0 with state := 2 }, 2, 0, 2, by decide +kernel⟩

theorem test_meets_SearchCommands_1 : ∃ h : IoHdr, ∃ b : Bytes, ∃ s : State, ∃ t : Status, (s.cianberRefusal h true b.length = none) ∧ (fieldsOk b [(0, 10)] = true) ∧ (s.shardCheck (le 64 b 0) (le 16 b 8) h.tenant.toNat = some t) :=
  ⟨hdr1, blk32, hostS, stInvalidField, by decide +kernel⟩

theorem test_meets_SearchCommands_2 : ∃ h : IoHdr, ∃ b : Bytes, ∃ s : State, (s.cianberRefusal h true b.length = none) ∧ (fieldsOk b [(0, 10)] = true) ∧ (s.shardCheck (le 64 b 0) (le 16 b 8) h.tenant.toNat = none) :=
  ⟨hdr1, idx5 ++ List.replicate 54 0, shdS, by decide +kernel⟩

theorem test_meets_SearchCommands_3 : ∃ h : IoHdr, ∃ b : Bytes, ∃ s : State, ∃ t : Status, (s.cianberRefusal h true b.length = none) ∧ (fieldsOk b [(0, 10), (0x0C, 4), (0x40, b.length - 0x40)] = true) ∧ (1 ≤ leNat b 0x0C 4) ∧ (leNat b 0x0C 4 ≤ 65536) ∧ (b.length = 0x40 + 8 * leNat b 0x0C 4) ∧ (s.shardCheck (le 64 b 0) (le 16 b 8) h.tenant.toNat = some t) :=
  ⟨hdr1, List.replicate 12 0 ++ [1] ++ List.replicate 59 0, hostS, stInvalidField, by decide +kernel⟩

theorem test_meets_SearchCommands_4 : ∃ h : IoHdr, ∃ b : Bytes, ∃ s : State, ∃ x : Shard, ∃ n : Nat, ∃ r : List Nat × Shard, (s.cianberRefusal h true b.length = none) ∧ (fieldsOk b [(0, 10), (0x0C, 4), (0x40, b.length - 0x40)] = true) ∧ (leNat b 0x0C 4 = n ∧ 1 ≤ n ∧ n ≤ 65536) ∧ (b.length = 0x40 + 8 * n) ∧ (s.shardCheck (le 64 b 0) (le 16 b 8) h.tenant.toNat = none) ∧ (s.shardFor (le 64 b 0) (le 16 b 8) = some x) ∧ (r = ((upTo n).map fun i => le 64 b (0x40 + 8 * i)).foldl (fun (a : List Nat × Shard) i => match a.2.find i with | none => a | some k => (a.1 ++ [k], a.2.modNode k fun d => { d with state := 2 })) ([], x)) :=
  ⟨hdr1, idx5 ++ [0, 0, 1] ++ List.replicate 51 0 ++ [9, 0, 0, 0, 0, 0, 0, 0], { shdS with search := { shards := [{ shd with nodes := [(0, { ident := 9, state := 1 })] }] } }, { shd with nodes := [(0, { ident := 9, state := 1 })] }, 1, ([0], { shd with nodes := [(0, { ident := 9, state := 2 })] }), by decide +kernel⟩

theorem test_meets_SearchCommands_5 : ∃ h : IoHdr, ∃ b : Bytes, ∃ s : State, ∃ x : Shard, ∃ f : Filter, (s.cianberRefusal h true b.length = none) ∧ (fieldsOk b [(0, 0x20), (0x40, b.length - 0x40)] = true) ∧ (leNat b 0x0A 1 = 6) ∧ (leNat b 0x0B 1 ≤ 2) ∧ (s.shardCheck (le 64 b 0) (le 16 b 8) h.tenant.toNat = none) ∧ (s.shardFor (le 64 b 0) (le 16 b 8) = some x) ∧ (s.filterOf (le 32 b 0x0C) x = some f) :=
  ⟨hdr1, idx5 ++ [6] ++ List.replicate 53 0, shdS, shd, flt0, by decide +kernel⟩

theorem test_meets_SearchCommands_6 : ∃ h : IoHdr, ∃ b : Bytes, ∃ s : State, ∃ x : Shard, ∃ f : Filter, (s.cianberRefusal h true b.length = none) ∧ (fieldsOk b [(0, 0x20), (0x40, b.length - 0x40)] = true) ∧ (leNat b 0x0A 1 = 4) ∧ (leNat b 0x0B 1 ≤ 2) ∧ (s.shardCheck (le 64 b 0) (le 16 b 8) h.tenant.toNat = none) ∧ (s.shardFor (le 64 b 0) (le 16 b 8) = some x) ∧ (s.filterOf (le 32 b 0x0C) x = some f) :=
  ⟨hdr1, idx5 ++ [4] ++ List.replicate 53 0, shdS, shd, flt0, by decide +kernel⟩

theorem test_meets_SearchCommands_7 : ∃ h : IoHdr, ∃ b : Bytes, ∃ s : State, ∃ x : Shard, ∃ f : Filter, (s.cianberRefusal h true b.length = none) ∧ (fieldsOk b [(0, 0x20), (0x40, b.length - 0x40)] = true) ∧ (leNat b 0x0A 1 = 2 ∨ leNat b 0x0A 1 = 3) ∧ (leNat b 0x0B 1 ≤ 2) ∧ (1 ≤ leNat b 0x1C 4) ∧ (leNat b 0x1C 4 ≤ 65536) ∧ (b.length = 0x40 + 8 * leNat b 0x1C 4) ∧ (s.shardCheck (le 64 b 0) (le 16 b 8) h.tenant.toNat = none) ∧ (s.shardFor (le 64 b 0) (le 16 b 8) = some x) ∧ (s.filterOf (le 32 b 0x0C) x = some f) :=
  ⟨hdr1, idx5 ++ [2] ++ List.replicate 17 0 ++ [1, 0, 0, 0] ++ List.replicate 40 0, shdS, shd, flt0, by decide +kernel⟩

theorem test_meets_SearchCommands_8 : ∃ h : IoHdr, ∃ b : Bytes, ∃ s : State, ∃ x : Shard, ∃ f : Filter, ∃ fa : Filter, ∃ fb : Filter, (s.cianberRefusal h true b.length = none) ∧ (fieldsOk b [(0, 0x20), (0x40, b.length - 0x40)] = true) ∧ (leNat b 0x0A 1 = 5) ∧ (leNat b 0x0B 1 ≤ 2) ∧ (s.shardCheck (le 64 b 0) (le 16 b 8) h.tenant.toNat = none) ∧ (s.shardFor (le 64 b 0) (le 16 b 8) = some x) ∧ (s.filterOf (le 32 b 0x0C) x = some f) ∧ (s.filterOf (le 32 b 0x10) x = some fa) ∧ (s.filterOf (le 32 b 0x14) x = some fb) :=
  ⟨hdr1, idx5 ++ [5] ++ List.replicate 53 0, shdS, shd, flt0, flt0, flt0, by decide +kernel⟩

theorem test_meets_SearchCommands_9 : ∃ h : IoHdr, ∃ b : Bytes, ∃ s : State, ∃ x : Shard, ∃ f : Filter, (s.cianberRefusal h true b.length = none) ∧ (fieldsOk b [(0, 0x20), (0x40, b.length - 0x40)] = true) ∧ (leNat b 0x0A 1 = 1) ∧ (leNat b 0x0B 1 ≤ 2) ∧ (s.shardCheck (le 64 b 0) (le 16 b 8) h.tenant.toNat = none) ∧ (s.shardFor (le 64 b 0) (le 16 b 8) = some x) ∧ (f ∈ s.search.filters) ∧ (f.tenant = h.tenant.toNat) ∧ (f.tag = le 32 b 0x18) ∧ (f.tag ≠ 0) :=
  ⟨hdr1, idx5 ++ [1] ++ List.replicate 13 0 ++ [7] ++ List.replicate 39 0, { shdS with search := { shards := [shd], filters := [{ flt0 with tag := 7 }] } }, shd, { flt0 with tag := 7 }, by decide +kernel⟩

theorem test_meets_SearchCommands_10 : ∃ h : IoHdr, ∃ b : Bytes, ∃ s : State, (s.cianberRefusal h true b.length = none) ∧ (shardEntryOk b = false) ∧ (4096 < leNat b 0x0C 4 ∨ leNat b 0x0C 4 = 0) ∧ (queryOk b (readQuery b) = false) :=
  ⟨hdr1, blk32, hostS, by decide +kernel⟩

theorem test_meets_SearchCommands_11 : ∃ h : IoHdr, ∃ b : Bytes, ∃ s : State, (s.cianberRefusal h true b.length = none) ∧ (0x80 ≤ b.length) ∧ (shardEntryOk b = true) ∧ (b.length = 0x80 + 2048 * leNat b 0x10 2) ∧ (s.shardFor (le 64 b 0) (le 16 b 0x12) = none) ∧ ((s.search.shards.any fun y => decide (y.index = le 64 b 0) && decide (y.tenant ≠ h.tenant.toNat)) = false) ∧ (s.search.shards.length < 256) ∧ (sumBy (fun (y : Shard) => y.capacity) s.search.shards + leNat b 0x20 8 ≤ 32000000000) ∧ (s.fits h.tenant.toNat 2 (sumBy (fun n => units n) (newShard b h).sizes) = true) ∧ (sumBy (fun n => pieceCount (objLen n)) (newShard b h).sizes ≤ s.freeGroups) :=
  ⟨hdr1, crtIdx, hostS, by decide +kernel⟩

theorem test_meets_SearchCommands_12 : ∃ h : IoHdr, ∃ b : Bytes, ∃ s : State, ∃ x : Shard, ∃ n : Nat, ∃ l : List (W64 × Bytes), (s.cianberRefusal h true b.length = none) ∧ (fieldsOk b [(0, 0x10), (0x40, b.length - 0x40)] = true) ∧ (leNat b 0x0C 4 = n ∧ 1 ≤ n ∧ n ≤ 4096) ∧ (leNat b 0x0A 2 ≤ 1) ∧ (s.shardCheck (le 64 b 0) (le 16 b 8) h.tenant.toNat = none) ∧ (s.shardFor (le 64 b 0) (le 16 b 8) = some x) ∧ (b.length = 0x40 + pad8 (8 + x.vecLen) * n) ∧ (l = ((upTo n).map fun i => (le 64 b (0x40 + pad8 (8 + x.vecLen) * i), slice b (0x40 + pad8 (8 + x.vecLen) * i + 8) x.vecLen))) ∧ (((l.map (·.1)).any fun i => decide (i = BitVec.allOnes 64)) = false) ∧ ((l.map (·.1)).eraseDups.length = n) ∧ (leNat b 0x0A 2 = 1 ∨ ((l.map (·.1)).filter fun i => (x.find i).isSome) = []) ∧ (x.metric = 2 → (l.any fun v => x.zeroNorm v.2) = false) ∧ (n - ((l.map (·.1)).filter fun i => (x.find i).isSome).length ≤ (s.freeSlots x n).length) :=
  ⟨hdr1, idx5 ++ [0, 0, 1] ++ List.replicate 51 0 ++ [9, 0, 0, 0, 0, 0, 0, 0] ++ List.replicate 256 0, shdS, shd, 1, [(9, List.replicate 256 0)], by decide +kernel⟩

theorem test_meets_SearchCommands_13 : ∃ h : IoHdr, ∃ b : Bytes, ∃ p : Plan, ∃ s : State, ∃ x : Shard, ∃ q : QueryParams, ∃ f : Option Nat, (s.cianberRefusal h true b.length = none) ∧ (readQuery b = q) ∧ (queryOk b q = true) ∧ (q.group = false ∧ q.shard ≠ 0xFFFF) ∧ ((s.search.shards.filter fun x => decide (x.index = q.index) && decide (x.shard.toNat = q.shard) && x.shadowOf.isNone) = [x]) ∧ (s.shardCheck x.index x.shard h.tenant.toNat = none) ∧ (x.tenant = h.tenant.toNat ∧ x.state = 1 ∧ x.waiter = none) ∧ (q.given = true ∨ q.vec.length = q.vecLen x) ∧ ((q.filter = 0 ∧ f = none) ∨ (q.filter ≠ 0 ∧ ∃ g, s.filterOf q.filter x = some g ∧ f = some g.idx)) ∧ (q.cls = 0 → s.admits q.contract h.tenant.toNat p p.fusion.toNat = true) ∧ (s.fits h.tenant.toNat 1 (units (65536 + 8 * q.budget)) = true) :=
  ⟨hdr1, qry64, { workCus := 0, stages := 1, fusion := 0, pieces := [] }, shdS, shd, readQuery qry64, none, by decide +kernel⟩

theorem test_meets_SearchCommands_14 : ∃ h : IoHdr, ∃ b : Bytes, ∃ s : State, ∃ x : Shard, ∃ i : Nat, (s.cianberRefusal h true b.length = none) ∧ (fieldsOk b [(0, 0x20), (0x40, b.length - 0x40)] = true) ∧ (leNat b 0x0A 1 = 1) ∧ (leNat b 0x0B 1 ≤ 2) ∧ (s.shardCheck (le 64 b 0) (le 16 b 8) h.tenant.toNat = none) ∧ (s.shardFor (le 64 b 0) (le 16 b 8) = some x) ∧ (le 32 b 0x18 = 0 ∨ (s.search.filters.any fun f => decide (f.tenant = h.tenant.toNat) && decide (f.tag = le 32 b 0x18)) = false) ∧ (((upTo 4096).find? fun i => !(s.search.filters.any fun f => decide (f.idx = i))) = some i) ∧ (s.fits h.tenant.toNat 2 (units (ceilDiv x.capacity 8)) = true) ∧ (pieceCount (objLen (ceilDiv x.capacity 8)) ≤ s.freeGroups) :=
  ⟨hdr1, idx5 ++ [1] ++ List.replicate 53 0, shdS, shd, 1, by decide +kernel⟩

theorem test_meets_SearchCommands_15 : ∃ pb : Bytes, (opRow pb 10 1 6) :=
  ⟨rowBytes 10 1, by decide +kernel⟩

theorem test_meets_SearchCommands_16 : ∃ pb : Bytes, (opRow pb 10 2 6) :=
  ⟨rowBytes 10 2, by decide +kernel⟩

theorem test_meets_SearchCommands_17 : ∃ pb : Bytes, (opRow pb 10 3 6) :=
  ⟨rowBytes 10 3, by decide +kernel⟩

theorem test_meets_SearchCommands_18 : ∃ pb : Bytes, (opRow pb 10 4 6) :=
  ⟨rowBytes 10 4, by decide +kernel⟩

theorem test_meets_SearchCommands_19 : ∃ pb : Bytes, (opRow pb 10 5 6) :=
  ⟨rowBytes 10 5, by decide +kernel⟩

theorem test_meets_SearchCommands_20 : ∃ pb : Bytes, (opRow pb 10 6 6) :=
  ⟨rowBytes 10 6, by decide +kernel⟩

theorem test_meets_SearchEvents_1 : ∃ c : Nat, ∃ s : State, (s.sparReset = false) ∧ ((s.search.queries.any fun q => q.shards.any fun k => decide (k.ctx = some c) && decide (k.stage = .traverse)) = true) ∧ (s.parity.masks = []) :=
  ⟨3, { shdS with search := { queries := [qry0] } }, by decide +kernel⟩

theorem test_meets_SearchEvents_2 : ∃ c : Nat, ∃ s : State, ((s.search.queries.any fun q => q.shards.any fun k => decide (k.ctx = some c) && decide (k.stage = .traverse)) = false) :=
  ⟨4, shdS, by decide +kernel⟩

theorem test_meets_SearchEvents_3 : ∃ g : W64, ∃ s : State, ∃ q : Query, (s.search.queries.find? (fun q => decide (q.groupId = some g) && q.answerTo.isNone) = some q) ∧ (q.cls ≠ 2) ∧ (q.deadline ≤ s.groupFrame.toNat) ∧ (q.awaiting ≠ []) :=
  ⟨8, { shdS with search := { queries := [{ qry0 with groupId := some 8, awaiting := [2], asked := [(2, 1)] }] } }, { qry0 with groupId := some 8, awaiting := [2], asked := [(2, 1)] }, by decide +kernel⟩

theorem test_meets_SearchEvents_4 : ∃ g : W64, ∃ s : State, ∃ q : Query, (s.search.queries.find? (fun q => decide (q.groupId = some g) && q.answerTo.isNone) = some q) ∧ (q.awaiting = []) :=
  ⟨8, { shdS with search := { queries := [{ qry0 with groupId := some 8 }] } }, { qry0 with groupId := some 8 }, by decide +kernel⟩

theorem test_meets_SearchEvents_5 : ∃ s : State, (s.search.repairs = []) :=
  ⟨shdS, by decide +kernel⟩

theorem test_meets_SearchEvents_6 : ∃ s : State, ∃ r : Repair, ∃ l : List Repair, ∃ x : Shard, (s.search.repairs = r :: l) ∧ (s.shardFor r.index r.shard = some x) ∧ ((x.nodeAt r.node).state = 2) :=
  ⟨{ shdS with search := { shards := [{ shd with nodes := [(0, { ident := 9, state := 2 })] }], repairs := [{ index := 5, shard := 1, node := 0, frame := 0 }] } }, { index := 5, shard := 1, node := 0, frame := 0 }, [], { shd with nodes := [(0, { ident := 9, state := 2 })] }, by decide +kernel⟩

theorem test_meets_PassQueue_1 : ∃ desc : Bytes, ∃ b : Bytes, ∃ src : PassSrc, ∃ s : State, (desc.length = 128) ∧ (b = s.dueDesc desc src) ∧ (s.dispatching = true) ∧ (s.passCount < 16384) ∧ (src.staged = false) ∧ (s.descFails b src.firmware s.loft.image = []) :=
  ⟨desc0, desc0, src0, objS, by decide +kernel⟩

theorem test_meets_PassQueue_2 : ∃ desc : Bytes, ∃ b : Bytes, ∃ src : PassSrc, ∃ s : State, ∃ o : Nat, ∃ l : List Nat, (desc.length = 128) ∧ (b = s.dueDesc desc src) ∧ (s.dispatching = true) ∧ (s.passCount < 16384) ∧ (src.staged = false) ∧ (s.descFails b src.firmware s.loft.image = o :: l) :=
  ⟨desc0, desc0, src0, imageS, 0x10, [0x28], by decide +kernel⟩

theorem test_meets_PassQueue_3 : ∃ desc : Bytes, ∃ s : State, (desc.length = 128) ∧ (s.dispatching = false ∨ 16384 ≤ s.passCount) :=
  ⟨desc0, upS, by decide +kernel⟩

theorem test_meets_PassQueue_4 : ∃ c : Fin 8, ∃ uid : Nat, ∃ s : State, ∃ e : PassEntry, (s.entry uid = some e) ∧ (s.dispatching = true) ∧ ((s.clusterAt c).asleep = false) ∧ ((s.clusterAt c).inReset = false) ∧ (s.power.frozen = false) ∧ (e.phase = .queued) ∧ (e.d.onCluster c = true) ∧ (e.d.vecOnly = true ∨ (s.clusterAt c).fusion = e.d.fusion) :=
  ⟨1, 4, queuedS, ent0, by decide +kernel⟩

theorem test_meets_PassQueue_5 : ∃ c : Fin 8, ∃ uid : Nat, ∃ t : Nat, ∃ s : State, ∃ e : PassEntry, ∃ b : Bool, (s.Shape) ∧ (s.firstEligible c (max t s.frame.time) = some e) ∧ (e.uid = uid) ∧ ((s.clusterAt c).seq.bankOf uid = some b) ∧ (s.mayStart c = true) ∧ (s.parity.isBad 0xB0 (parEntry uid) 64 = false) :=
  ⟨1, 4, 0, readyS, ent0, true, by decide +kernel⟩

theorem test_meets_PassQueue_6 : ∃ c : Fin 8, ∃ t : Nat, ∃ s : State, (s.firstEligible c (max t s.frame.time) = none) :=
  ⟨1, 0, queuedS, by decide +kernel⟩

theorem test_meets_PassQueue_7 : ∃ desc : Bytes, (desc.length = 128) :=
  ⟨List.replicate 128 0, by decide +kernel⟩

theorem test_meets_PassEnd_1 : ∃ c : Fin 8, ∃ cycles : Nat, ∃ t : Nat, ∃ s : State, ∃ s0 : State, ∃ s1 : State, ∃ r : Running, ∃ r1 : Running, ∃ e : PassEntry, ((s.clusterAt c).seq.run = some r) ∧ (s.runEntry c = some e) ∧ (s.stopped c = false) ∧ (r.ended = true) ∧ (r.runs = []) ∧ (s0 = (s.advance t).settleOverrun c) ∧ (s1 = ((if e.d.maxUs * 1750 < cycles then s0.modCluster c Cluster.markLate else s0).modCluster c fun k => k.swapHalves e.d)) ∧ ((s1.clusterAt c).seq.run = some r1) :=
  ⟨1, 100, 50, endedS, (endedS.advance 50).settleOverrun 1, ((if runEnt.d.maxUs * 1750 < 100 then ((endedS.advance 50).settleOverrun 1).modCluster 1 Cluster.markLate else (endedS.advance 50).settleOverrun 1).modCluster 1 fun k => k.swapHalves runEnt.d), { run0 with ended := true }, ((((if runEnt.d.maxUs * 1750 < 100 then ((endedS.advance 50).settleOverrun 1).modCluster 1 Cluster.markLate else (endedS.advance 50).settleOverrun 1).modCluster 1 fun k => k.swapHalves runEnt.d).clusterAt 1).seq.run).getD run0, runEnt, by decide +kernel⟩

theorem test_meets_PassEnd_2 : ∃ c : Fin 8, ∃ s : State, ∃ r : Running, ((s.clusterAt c).seq.run = some r) ∧ (r.ended = false ∨ r.runs ≠ []) :=
  ⟨1, progS [0], run0, by decide +kernel⟩

theorem test_meets_PassEnd_3 : ∃ c : Fin 8, ∃ s : State, ∃ e : PassEntry, (s.runEntry c = some e) ∧ (s.stopped c = false) :=
  ⟨1, progS [0], runEnt, by decide +kernel⟩

theorem test_meets_PassEnd_4 : ∃ c : Fin 8, ∃ t : Nat, ∃ s : State, ∃ s1 : State, ∃ r : Running, ∃ e : PassEntry, ((s.clusterAt c).seq.run.isSome = true) ∧ (s.stopped c = false) ∧ ((s.advance t).runEntry c = some e) ∧ (s1 = ((((s.advance t).raise c 1).modCluster c fun k => k.captureSeq 4 0).settleOverrun c).modCluster c Cluster.markLate) ∧ ((s1.clusterAt c).seq.run = some r) :=
  ⟨1, 50, progS [0], (((((progS [0]).advance 50).raise 1 1).modCluster 1 fun k => k.captureSeq 4 0).settleOverrun 1).modCluster 1 Cluster.markLate, (((((((progS [0]).advance 50).raise 1 1).modCluster 1 fun k => k.captureSeq 4 0).settleOverrun 1).modCluster 1 Cluster.markLate).clusterAt 1).seq.run.getD run0, runEnt, by decide +kernel⟩

theorem test_meets_PassEnd_5 : ∃ c : Fin 8, ∃ u : Fin 8, ∃ s : State, ∃ q : Running, ∃ e : PassEntry, ∃ x : MRun, ((s.clusterAt c).seq.run = some q) ∧ (s.runEntry c = some e) ∧ (s.stopped c = false) ∧ (q.runs.find? (fun x => decide (x.unit = u.val)) = some x) ∧ (e.d.wtRo = false ∨ s.roPoison c (s.clusterAt c).fusion (readRun x.rec_) = none) ∧ (s.sctPoison c (readRun x.rec_) = false) :=
  ⟨1, 0, drainS, { run0 with runs := [{ unit := 0, rec_ := runRec0, len := 128 }] }, runEnt, { unit := 0, rec_ := runRec0, len := 128 }, by decide +kernel⟩

theorem test_meets_PassEnd_6 : ∃ c : Fin 8, ∃ u : Fin 8, ∃ s : State, ∃ q : Running, ∃ e : PassEntry, ∃ x : MRun, ∃ t : Nat, ((s.clusterAt c).seq.run = some q) ∧ (s.runEntry c = some e) ∧ (s.stopped c = false) ∧ (q.runs.find? (fun x => decide (x.unit = u.val)) = some x) ∧ (e.d.wtRo = true) ∧ (s.roPoison c (s.clusterAt c).fusion (readRun x.rec_) = some t) :=
  ⟨1, 0, roS, roRun, roEnt, { unit := 0, rec_ := roRec, len := 128 }, 0, by decide +kernel⟩

theorem test_meets_PassEnd_7 : ∃ c : Fin 8, ∃ u : Fin 8, ∃ s : State, ∃ q : Running, ∃ e : PassEntry, ∃ x : MRun, ((s.clusterAt c).seq.run = some q) ∧ (s.runEntry c = some e) ∧ (s.stopped c = false) ∧ (q.runs.find? (fun x => decide (x.unit = u.val)) = some x) ∧ (e.d.wtRo = false ∨ s.roPoison c (s.clusterAt c).fusion (readRun x.rec_) = none) ∧ (s.sctPoison c (readRun x.rec_) = true) :=
  ⟨1, 0, sctS, sctRun, runEnt, { unit := 0, rec_ := sctRec, len := 128 }, by decide +kernel⟩

theorem test_meets_PassEnd_8 : ∃ c : Fin 8, ∃ u : Fin 8, ∃ s : State, ∃ q : Running, ((s.clusterAt c).seq.run = some q) ∧ (s.stopped c = true ∨ q.runs.find? (fun x => decide (x.unit = u.val)) = none) :=
  ⟨1, 0, progS [0], run0, by decide +kernel⟩

theorem test_meets_VectorWords_1 : ∃ i : Instr, ∃ c : Fin 8, ∃ w : W64, ∃ op : Nat, ∃ s : State, ∃ t : State, (vecWord i = some (c, w, op)) ∧ (bits w 63 58 = op) ∧ (s.ready c w) ∧ (vecOp c (readVWord w) s = .done t) :=
  ⟨.vnop 1 0, 1, 0, 0, progS [0], (progS [0]).countVu 1 0, ⟨rfl, by decide, by decide +kernel, rfl⟩⟩

theorem test_meets_VectorWords_2 : ∃ i : Instr, ∃ c : Fin 8, ∃ w : W64, ∃ op : Nat, ∃ lane : Nat, ∃ addr : Nat, ∃ s : State, (vecWord i = some (c, w, op)) ∧ (bits w 63 58 = op) ∧ (s.ready c w) ∧ (vecOp c (readVWord w) s = .vaddr lane addr) :=
  ⟨.vld 1 0x0800000000000000, 1, 0x0800000000000000, 2, 0, 0, progS [0x0800000000000000], by decide +kernel⟩

theorem test_meets_VectorWords_3 : ∃ i : Instr, ∃ c : Fin 8, ∃ w : W64, ∃ op : Nat, ∃ s : State, (vecWord i = some (c, w, op)) ∧ (bits w 63 58 = op) ∧ (s.ready c w) ∧ (vecOp c (readVWord w) s = .poisonCtrl) :=
  ⟨.vsetvl 1 0x0400000100000004, 1, 0x0400000100000004, 1, poisonS 0x0400000100000004, by decide +kernel⟩

theorem test_meets_VectorWords_4 : ∃ i : Instr, ∃ c : Fin 8, ∃ w : W64, ∃ op : Nat, ∃ s : State, (vecWord i = some (c, w, op)) ∧ (s.atWord c w = true) ∧ (bits w 63 58 = op) ∧ ((s.clusterAt c).ic.busy = false) ∧ ((s.progBad c 1).1 = true) :=
  ⟨.vadd 1 wVadd, 1, wVadd, 8, { progS [wVadd] with parity := { bad := [(0xA1 * 2 ^ 32 + 32768, true)] } }, by decide +kernel⟩

theorem test_meets_VectorWords_5 : ∃ i : Instr, ∃ c : Fin 8, ∃ w : W64, ∃ op : Nat, ∃ s : State, (vecWord i = some (c, w, op)) ∧ (s.atWord c w = true) ∧ (bits w 63 58 = op) ∧ ((s.clusterAt c).ic.busy = true) ∧ ((s.parTrip (0xA8 + c) (handlerByte (s.clusterAt c).ic.pc) 8).1 = true) :=
  ⟨.vadd 1 wVadd, 1, wVadd, 8, { handS wVadd with parity := { bad := [(0xA9 * 2 ^ 32 + 4096 + 8 * 16, true)] } }, by decide +kernel⟩

theorem test_meets_VectorWords_6 : ∃ i : Instr, ∃ c : Fin 8, ∃ w : W64, ∃ op : Nat, ∃ s : State, (vecWord i = some (c, w, op)) ∧ (s.atWord c w = false) ∧ (bits w 63 58 = op) :=
  ⟨.vadd 1 wVadd, 1, wVadd, 8, imageS, by decide +kernel⟩

theorem test_meets_VectorWords_7 : ∃ i : Instr, ∃ c : Fin 8, ∃ w : W64, ∃ op : Nat, (vecWord i = some (c, w, op)) ∧ (bits w 63 58 ≠ op) :=
  ⟨.vadd 1 0, 1, 0, 8, by decide +kernel⟩

theorem test_meets_VectorWords_8 : ∃ w : W64, (bits w 63 58 = 0x00) :=
  ⟨0x0, by decide +kernel⟩

theorem test_meets_VectorWords_9 : ∃ w : W64, (bits w 63 58 = 0x01) :=
  ⟨0x400000000000000, by decide +kernel⟩

theorem test_meets_VectorWords_10 : ∃ w : W64, (bits w 63 58 = 0x02) :=
  ⟨0x800000000000000, by decide +kernel⟩

theorem test_meets_VectorWords_11 : ∃ w : W64, (bits w 63 58 = 0x03) :=
  ⟨0xc00000000000000, by decide +kernel⟩

theorem test_meets_VectorWords_12 : ∃ w : W64, (bits w 63 58 = 0x04) :=
  ⟨0x1000000000000000, by decide +kernel⟩

theorem test_meets_VectorWords_13 : ∃ w : W64, (bits w 63 58 = 0x05) :=
  ⟨0x1400000000000000, by decide +kernel⟩

theorem test_meets_VectorWords_14 : ∃ w : W64, (bits w 63 58 = 0x06) :=
  ⟨0x1800000000000000, by decide +kernel⟩

theorem test_meets_VectorWords_15 : ∃ w : W64, (bits w 63 58 = 0x07) :=
  ⟨0x1c00000000000000, by decide +kernel⟩

theorem test_meets_VectorWords_16 : ∃ w : W64, (bits w 63 58 = 0x08) :=
  ⟨0x2000000000000000, by decide +kernel⟩

theorem test_meets_VectorWords_17 : ∃ w : W64, (bits w 63 58 = 0x09) :=
  ⟨0x2400000000000000, by decide +kernel⟩

theorem test_meets_VectorWords_18 : ∃ w : W64, (bits w 63 58 = 0x0A) :=
  ⟨0x2800000000000000, by decide +kernel⟩

theorem test_meets_VectorWords_19 : ∃ w : W64, (bits w 63 58 = 0x0B) :=
  ⟨0x2c00000000000000, by decide +kernel⟩

theorem test_meets_VectorWords_20 : ∃ w : W64, (bits w 63 58 = 0x0C) :=
  ⟨0x3000000000000000, by decide +kernel⟩

theorem test_meets_VectorWords_21 : ∃ w : W64, (bits w 63 58 = 0x0D) :=
  ⟨0x3400000000000000, by decide +kernel⟩

theorem test_meets_VectorWords_22 : ∃ w : W64, (bits w 63 58 = 0x0E) :=
  ⟨0x3800000000000000, by decide +kernel⟩

theorem test_meets_VectorWords_23 : ∃ w : W64, (bits w 63 58 = 0x0F) :=
  ⟨0x3c00000000000000, by decide +kernel⟩

theorem test_meets_VectorWords_24 : ∃ w : W64, (bits w 63 58 = 0x10) :=
  ⟨0x4000000000000000, by decide +kernel⟩

theorem test_meets_LaneResults_1 : ∃ i : Instr, ∃ c : Fin 8, ∃ w : W64, ∃ op : Nat, ∃ s : State, (vecWord i = some (c, w, op)) ∧ (bits w 63 58 = op) ∧ (laneRow op = true) ∧ (s.ready c w) ∧ (s.Shape) :=
  ⟨.vadd 1 wVadd, 1, wVadd, 8, progS [wVadd], by decide +kernel⟩

theorem test_meets_SequencerWords_1 : ∃ i : Instr, ∃ c : Fin 8, ∃ w : W64, ∃ op : Nat, ∃ s : State, (seqWord i = some (c, w, op)) ∧ (bits w 63 58 = op) ∧ (s.ready c w) :=
  ⟨.sadd 1 wSadd, 1, wSadd, 0x23, progS [wSadd], by decide +kernel⟩

theorem test_meets_SequencerWords_2 : ∃ c : Fin 8, ∃ w : W64, ∃ s : State, ∃ q : Running, (bits w 63 58 = 0x21) ∧ (s.ready c w) ∧ ((s.clusterAt c).seq.run = some q) ∧ ((q.runs.any fun x => (bits w 11 0).testBit x.unit) = false) :=
  ⟨1, 0x8400000000000001, progS [0x8400000000000001], run0, by decide +kernel⟩

theorem test_meets_SequencerWords_3 : ∃ c : Fin 8, ∃ w : W64, ∃ s : State, (bits w 63 58 = 0x22) ∧ (s.ready c w) :=
  ⟨1, 0x8800002000000005, progS [0x8800002000000005], by decide +kernel⟩

theorem test_meets_SequencerWords_4 : ∃ c : Fin 8, ∃ w : W64, ∃ s : State, (bits w 63 58 = 0x23) ∧ (s.ready c w) :=
  ⟨1, wSadd, progS [wSadd], by decide +kernel⟩

theorem test_meets_SequencerWords_5 : ∃ c : Fin 8, ∃ w : W64, ∃ s : State, (bits w 63 58 = 0x24) ∧ (s.ready c w) ∧ ((s.sReg c (bits w 36 32)).poison = false) ∧ (s.bytesOk c ((s.sReg c (bits w 36 32)).val.toNat + 4 * bits w 11 0) 4 false = true) :=
  ⟨1, 0x9000002000000000, { progS [0x9000002000000000] with sched := { entries := [{ runEnt with desc := desc0.take 64 ++ [16, 0, 0, 1, 0, 0, 0, 128] ++ List.replicate 56 0 }] } }, by decide +kernel⟩

theorem test_meets_SequencerWords_6 : ∃ c : Fin 8, ∃ w : W64, ∃ s : State, (bits w 63 58 = 0x25) ∧ (s.ready c w) ∧ ((s.sReg c (bits w 36 32)).poison = false) ∧ ((s.sReg c (bits w 31 27)).poison = false) :=
  ⟨1, wBr, progS [wBr], by decide +kernel⟩

theorem test_meets_SequencerWords_7 : ∃ c : Fin 8, ∃ w : W64, ∃ s : State, ((bits w 63 58 = 0x25 ∧ ((s.sReg c (bits w 36 32)).poison = true ∨ (s.sReg c (bits w 31 27)).poison = true)) ∨ (bits w 63 58 = 0x24 ∧ (s.sReg c (bits w 36 32)).poison = true) ∨ (bits w 63 58 = 0x26 ∧ ((s.sReg c (bits w 36 32)).poison = true ∨ (s.sReg c (bits w 36 32 + 1)).poison = true))) ∧ (s.ready c w) :=
  ⟨1, 0x9400000100000000, poisonS 0x9400000100000000, by decide +kernel⟩

theorem test_meets_SequencerWords_8 : ∃ c : Fin 8, ∃ w : W64, ∃ s : State, ∃ e : PassEntry, ∃ d : W64, (bits w 63 58 = 0x26) ∧ (s.ready c w) ∧ ((s.sReg c (bits w 36 32)).poison = false) ∧ ((s.sReg c (bits w 36 32 + 1)).poison = false) ∧ (s.runEntry c = some e) ∧ (d = BitVec.ofNat 64 ((s.sReg c (bits w 36 32 + 1)).val.toNat * 2 ^ 32 + (s.sReg c (bits w 36 32)).val.toNat)) ∧ ((s.spawnStatus c e (decide (bits w 15 12 % 2 = 1)) d).1 ≠ 0) :=
  ⟨1, 0x9800002000001000, progS [0x9800002000001000], runEnt, 0, by decide +kernel⟩

theorem test_meets_SequencerWords_9 : ∃ c : Fin 8, ∃ w : W64, ∃ s : State, ∃ e : PassEntry, ∃ d : W64, (bits w 63 58 = 0x26) ∧ (s.ready c w) ∧ ((s.sReg c (bits w 36 32)).poison = false) ∧ ((s.sReg c (bits w 36 32 + 1)).poison = false) ∧ (s.runEntry c = some e) ∧ (d = BitVec.ofNat 64 ((s.sReg c (bits w 36 32 + 1)).val.toNat * 2 ^ 32 + (s.sReg c (bits w 36 32)).val.toNat)) ∧ ((s.spawnStatus c e (decide (bits w 15 12 % 2 = 1)) d).1 = 0) :=
  ⟨1, 0x9800002200000000, spawnS, runEnt, 0x00C0000000000100, by decide +kernel⟩

theorem test_meets_SequencerWords_10 : ∃ c : Fin 8, ∃ w : W64, ∃ s : State, (bits w 63 58 = 0x27) ∧ (s.ready c w) :=
  ⟨1, 0x9C00000000000003, progS [0x9C00000000000003], by decide +kernel⟩

theorem test_meets_SequencerWords_11 : ∃ c : Fin 8, ∃ r : RunRec, ∃ s : State, ∃ q : Running, (bits r.w0 63 58 = 0x20) ∧ (s.ready c r.w0 4) ∧ ((s.clusterAt c).seq.run = some q) ∧ ((s.clusterAt c).wordAhead 1 = some r.w1) ∧ ((s.clusterAt c).wordAhead 2 = some r.w2) ∧ ((s.clusterAt c).wordAhead 3 = some r.w3) ∧ ((q.runs.filter fun x => decide (x.unit = (readRun r).unit)).length < 2) :=
  ⟨1, runRec0, progS [0x8000000000000000, 0, 0, 0], run0, by decide +kernel⟩

theorem test_meets_SequencerWords_12 : ∃ c : Fin 8, ∃ s : State, (s.ready c hretWord) ∧ ((s.clusterAt c).ic.busy = true) :=
  ⟨1, handS hretWord, by decide +kernel⟩

theorem test_meets_SequencerWords_13 : ∃ c : Fin 8, ∃ s : State, (s.ready c 0xFC00000000000000) ∧ ((s.clusterAt c).ic.busy = false) :=
  ⟨1, progS [0xFC00000000000000], by decide +kernel⟩

theorem test_meets_SequencerWords_14 : ∃ r : RunRec, (bits r.w0 63 58 = 0x20) :=
  ⟨⟨0x8000000000000000, 0, 0, 0⟩, by decide +kernel⟩

theorem test_meets_SequencerWords_15 : ∃ w : W64, (bits w 63 58 = 0x21) :=
  ⟨0x8400000000000000, by decide +kernel⟩

theorem test_meets_SequencerWords_16 : ∃ w : W64, (bits w 63 58 = 0x22) :=
  ⟨0x8800000000000000, by decide +kernel⟩

theorem test_meets_SequencerWords_17 : ∃ w : W64, (bits w 63 58 = 0x23) :=
  ⟨0x8c00000000000000, by decide +kernel⟩

theorem test_meets_SequencerWords_18 : ∃ w : W64, (bits w 63 58 = 0x24) :=
  ⟨0x9000000000000000, by decide +kernel⟩

theorem test_meets_SequencerWords_19 : ∃ w : W64, (bits w 63 58 = 0x25) :=
  ⟨0x9400000000000000, by decide +kernel⟩

theorem test_meets_SequencerWords_20 : ∃ w : W64, (bits w 63 58 = 0x26) :=
  ⟨0x9800000000000000, by decide +kernel⟩

theorem test_meets_SequencerWords_21 : ∃ w : W64, (bits w 63 58 = 0x27) :=
  ⟨0x9c00000000000000, by decide +kernel⟩

theorem test_meets_TileFaults_1 : ∃ tile : Fin 64, ∃ s : State, ∃ t : State, (s.clusterUp (tile.val / 8) = true) ∧ (tileFault tile s = (true, t)) :=
  ⟨8, { imageS with clusters := List.replicate 8 { tiles := List.replicate 8 { faults := [0, 0, 0] } } }, (tileFault 8 { imageS with clusters := List.replicate 8 { tiles := List.replicate 8 { faults := [0, 0, 0] } } }).2, by decide +kernel⟩

theorem test_meets_TileFaults_2 : ∃ tile : Fin 64, ∃ s : State, (s.Shape) ∧ ((s.clusterAt (tile.val / 8)).tiles.length = 8) ∧ (s.clusterUp (tile.val / 8) = true) ∧ ((s.clusterAt (tile.val / 8)).seq.run = none) ∧ ((s.tileAt tile).faults = []) :=
  ⟨8, imageS, by decide +kernel⟩

theorem test_meets_TileFaults_3 : ∃ tile : Fin 64, ∃ s : State, (s.clusterUp (tile.val / 8) = false) :=
  ⟨8, seqS, by decide +kernel⟩

theorem test_meets_TileFaults_4 : ∃ c : Fin 8, ∃ s : State, (s.clusterUp c = true) :=
  ⟨1, imageS, by decide +kernel⟩

theorem test_meets_TileFaults_5 : ∃ tile : Fin 64, ∃ s : State, ∃ e : PassEntry, (s.runEntry (tile.val / 8) = some e) ∧ (e.d.wtRo = true) ∧ (s.stopped (tile.val / 8) = false) ∧ (2 ≤ e.reloads) :=
  ⟨8, { progS [0] with sched := { entries := [{ runEnt with reloads := 2, desc := [1, 0, 10, 12, 128, 0, 192, 1] ++ desc0.drop 8 }] } }, { runEnt with reloads := 2, desc := [1, 0, 10, 12, 128, 0, 192, 1] ++ desc0.drop 8 }, by decide +kernel⟩

theorem test_meets_TileFaults_6 : ∃ tile : Fin 64, ∃ s : State, ∃ s1 : State, ∃ e : PassEntry, ∃ c : Nat, ∃ r : Running, (c = tile.val / 8) ∧ (s.runEntry c = some e) ∧ (e.d.wtRo = true) ∧ (s.stopped c = false) ∧ (e.reloads < 2) ∧ (s1 = ((((s.modCluster c fun k => { k with tiles := modifyAt (fun t => { t with flags := t.flags ||| mtWtPoison }) k.tiles (tile.val % 8) }).raise c 2).settleOverrun c).lateCheck c e)) ∧ ((s1.clusterAt c).seq.run = some r) :=
  ⟨8, { progS [0] with sched := { entries := [{ runEnt with desc := [1, 0, 10, 12, 128, 0, 192, 1] ++ desc0.drop 8 }] } }, (((({ progS [0] with sched := { entries := [{ runEnt with desc := [1, 0, 10, 12, 128, 0, 192, 1] ++ desc0.drop 8 }] } }).modCluster 1 fun k => { k with tiles := modifyAt (fun t => { t with flags := t.flags ||| mtWtPoison }) k.tiles 0 }).raise 1 2).settleOverrun 1).lateCheck 1 ({ runEnt with desc := [1, 0, 10, 12, 128, 0, 192, 1] ++ desc0.drop 8 }), { runEnt with desc := [1, 0, 10, 12, 128, 0, 192, 1] ++ desc0.drop 8 }, 1, (((((({ progS [0] with sched := { entries := [{ runEnt with desc := [1, 0, 10, 12, 128, 0, 192, 1] ++ desc0.drop 8 }] } }).modCluster 1 fun k => { k with tiles := modifyAt (fun t => { t with flags := t.flags ||| mtWtPoison }) k.tiles 0 }).raise 1 2).settleOverrun 1).lateCheck 1 ({ runEnt with desc := [1, 0, 10, 12, 128, 0, 192, 1] ++ desc0.drop 8 })).clusterAt 1).seq.run.getD run0, by decide +kernel⟩

theorem test_meets_TileFaults_7 : ∃ tile : Fin 64, ∃ s : State, ((∀ e : PassEntry, s.runEntry (tile.val / 8) = some e → (e.d.wtRo = false ∨ s.stopped (tile.val / 8) = true))) :=
  ⟨8, imageS, (by intro e h; have : imageS.runEntry ((8 : Fin 64).val / 8) = none := (by decide +kernel); rw [this] at h; cases h)⟩

theorem test_meets_ReelIntoClusters_1 : ∃ c : Fin 8, ∃ uid : Nat, ∃ s : State, ∃ e : PassEntry, (s.sparReset = false) ∧ (s.entry uid = some e) ∧ (e.phase = .reloading c) :=
  ⟨1, 4, { objS with sched := { entries := [{ ent0 with phase := .reloading 1 }] } }, { ent0 with phase := .reloading 1 }, by decide +kernel⟩

theorem test_meets_ReelIntoClusters_2 : ∃ c : Fin 8, ∃ uid : Nat, ∃ s : State, ∃ e : PassEntry, (s.entry uid = some e) ∧ (e.phase ≠ .reloading c) :=
  ⟨1, 4, queuedS, ent0, by decide +kernel⟩

theorem test_meets_ReelIntoClusters_3 : ∃ c : Fin 8, ∃ s : State, (s.clusterUp c = true) ∧ (s.parity.masks = []) :=
  ⟨1, imageS, by decide +kernel⟩

theorem test_meets_ReelIntoClusters_4 : ∃ c : Fin 8, ∃ uid : Nat, ∃ s : State, ∃ e : PassEntry, ∃ b : Bytes, ∃ o : Obj, (s.entry uid = some e) ∧ (s.sparReset = false) ∧ ((s.clusterAt c).asleep = false) ∧ ((s.clusterAt c).inReset = false) ∧ (e.binding ≠ 0) ∧ ((s.clusterAt c).sct.valid = false ∨ (s.clusterAt c).sct.table ≠ e.binding) ∧ (s.storeFree c = true) ∧ (e.d.onCluster c = true) ∧ (s.boundTable e.binding = some b) ∧ (s.objFor e.binding = some o) :=
  ⟨1, 4, { queuedS with sched := { entries := [{ ent0 with binding := 0x00C0000000000000 }] } }, { ent0 with binding := 0x00C0000000000000 }, List.replicate 64 0, { ofs := 0, len := 1048576, tenant := 1, kind := .work, pieces := [] }, by decide +kernel⟩

theorem test_meets_ReelIntoClusters_5 : ∃ uid : Nat, ∃ s : State, (s.entry uid = none) :=
  ⟨4, objS, by decide +kernel⟩

theorem test_meets_ReelIntoClusters_6 : ∃ s : State, ∃ t : State, (s.sparReset = true) ∧ (t = ({ s with sparReset := false, frame := { s.frame with resume := true } } : State).loadHandlers) :=
  ⟨{ imageS with sparReset := true }, ({ imageS with sparReset := false, frame := { imageS.frame with resume := true } } : State).loadHandlers, ⟨rfl, rfl⟩⟩

theorem test_meets_ReelIntoClusters_7 : ∃ s : State, (s.sparReset = false) :=
  ⟨imageS, by decide +kernel⟩

theorem test_meets_InterruptRows_1 : ∃ c : Fin 8, ∃ n : Nat, ∃ s : State, ∃ t : State, (s.stopped c = false) ∧ ((s.clusterAt c).ic.busy = false) ∧ ((s.clusterAt c).ic.next = some n) ∧ (s.parity.isBad (0xA8 + c) 0 4 = false) ∧ (t = s.modCluster c fun k => { k with ic := { k.ic with pend := setBit k.ic.pend n false, busy := true, source := BitVec.ofNat 6 n, pc := 16 * n, taken := satInc k.ic.taken } }) :=
  ⟨1, 1, { imageS with clusters := List.replicate 8 { ic := { pend := 2 } } }, ({ imageS with clusters := List.replicate 8 { ic := { pend := 2 } } } : State).modCluster 1 fun k => { k with ic := { k.ic with pend := setBit k.ic.pend 1 false, busy := true, source := BitVec.ofNat 6 1, pc := 16 * 1, taken := satInc k.ic.taken } }, ⟨by decide +kernel, by decide +kernel, by decide +kernel, by decide +kernel, rfl⟩⟩

theorem test_meets_InterruptRows_2 : ∃ c : Fin 8, ∃ s : State, (s.stopped c = true ∨ (s.clusterAt c).ic.busy = true ∨ (s.clusterAt c).ic.next = none) :=
  ⟨1, imageS, by decide +kernel⟩

theorem test_meets_InterruptRows_3 : ∃ c : Fin 8, ∃ s : State, (s.firmwareUp = true) ∧ (s.blockAway (.spc c) = false) :=
  ⟨1, imageS, by decide +kernel⟩

theorem test_meets_InterruptRows_4 : ∃ tile : Fin 64, ∃ s : State, (s.firmwareUp = true) ∧ (s.blockAway (.spc (tile.val / 8)) = false) :=
  ⟨9, imageS, by decide +kernel⟩

theorem test_meets_InterruptRows_5 : ∃ c : Fin 8, ∃ s : State, (s.firmwareUp = true) ∧ (s.blockAway (.spc c) = false) :=
  ⟨1, imageS, by decide +kernel⟩

theorem test_meets_ReelMoves_1 : ∃ a : W64, ∃ i : Nat, ∃ s : State, ∃ o : Obj, ∃ m : Move, (s.sparReset = false) ∧ (s.inHold = false) ∧ (s.phase = .up) ∧ (s.parity.masks = []) ∧ (rankOf a = s.rank) ∧ (s.objFor a = some o) ∧ (m ∈ s.reel.moves) ∧ (m.addr = a) ∧ (m.piece = i) ∧ (m.kind.toT1 = true) ∧ (m.ready = false) ∧ (s.unread o i false m.left = []) :=
  ⟨0x00C0000000000000, 0, moveS, wObj, mv0, by decide +kernel⟩

theorem test_meets_ReelMoves_2 : ∃ a : W64, ∃ i : Nat, ∃ s : State, ∃ m : Move, (s.sparReset = false) ∧ (s.inHold = false) ∧ (s.phase = .up) ∧ (s.parity.masks = []) ∧ (rankOf a ≠ s.rank) ∧ (m ∈ s.reel.moves) ∧ (m.addr = a) ∧ (m.piece = i) :=
  ⟨0x0100000000000000, 0, { moveS with reel := { moves := [{ mv0 with addr := 0x0100000000000000, kind := .t3copy }] } }, { mv0 with addr := 0x0100000000000000, kind := .t3copy }, by decide +kernel⟩

theorem test_meets_ReelMoves_3 : ∃ s : State, (s.reel.moves = []) ∧ (s.reel.plan = []) :=
  ⟨imageS, by decide +kernel⟩

theorem test_meets_ReelMoves_4 : ∃ mv : Nat, ∃ s : State, ∃ m : Move, (s.reel.moves.find? (fun m => decide (m.id = mv)) = some m) ∧ (m.start + 64 ≤ s.frame.num.toNat) ∧ (m.ready = false) :=
  ⟨9, { moveS with frame := { num := 64 } }, mv0, by decide +kernel⟩

theorem test_meets_ReelMoves_5 : ∃ mv : Nat, ∃ s : State, ((s.reel.moves.all fun (m : Move) => decide (m.id ≠ mv) || decide (s.frame.num.toNat < m.start + 64) || m.ready) = true) :=
  ⟨9, moveS, by decide +kernel⟩

theorem test_meets_ReelMoves_6 : ∃ a : W64, ∃ s : State, ∃ o : Obj, ∃ p : Piece, (s.sparReset = false) ∧ (s.phase = .up) ∧ (s.objFor a = some o) ∧ (o.pieces[(ofsOf a - o.ofs) / 65536 * 65536 / 1048576]? = some p) ∧ (o.kind.readOnly = true) ∧ (o.marked ((ofsOf a - o.ofs) / 65536 * 65536) 65536 = true) ∧ (p.inT2 = true) :=
  ⟨0x00C0000000000000, moveS, wObj, { inT2 := true, group := some 2 }, by decide +kernel⟩

theorem test_meets_ReelMoves_7 : ∃ a : W64, ∃ s : State, (s.objFor a = none) :=
  ⟨5, imageS, by decide +kernel⟩

theorem test_meets_ReelMoves_8 : ∃ h : W32, ∃ u : Nat, ∃ i : Nat, ∃ s : State, ∃ m : Model, ∃ a : W64, ∃ o : Obj, (s.sparReset = false) ∧ (s.safe = false) ∧ (s.phase = .up) ∧ (s.ctxIndex h = some i) ∧ (s.modelFor (s.ctxAt i).model = some m) ∧ ((s.ctxAt i).extents[u / max 1 (m.extentLen / 65536)]? = some a) ∧ (s.markedObj (a + BitVec.ofNat 64 (u % max 1 (m.extentLen / 65536) * 65536)) 65536 = true) ∧ ((s.ctxAt i).buddy ≠ 0xFFFF) ∧ (1024 * (u / max 1 (m.extentLen / 65536)) + min 1023 ((u % max 1 (m.extentLen / 65536) * 65536 % max 1 m.kvS + 65535) / max 1 m.kvB) < (s.ctxAt i).journaled) ∧ (s.objFor a = some o) :=
  ⟨0, 0, 0, { imageS with reel := { objects := [{ wObj with kind := .kv }] }, library := { contexts := [(0, { ctx0 with buddy := 4, journaled := 1024, extents := [0x00C0000000000000] })], models := [mdl0] } }, mdl0, 0x00C0000000000000, { wObj with kind := .kv }, by decide +kernel⟩

theorem test_meets_ReelMoves_9 : ∃ h : W32, ∃ s : State, (s.ctxIndex h = none) :=
  ⟨0, imageS, by decide +kernel⟩

theorem test_meets_BridleMessages_1 : ∃ b : Bytes, ∃ t : Nat, ∃ s : State, ∃ s1 : State, (s.dispatching = true) ∧ (s.inHold = false) ∧ (s.bridle.inReset = false) ∧ (s.parity.masks = []) ∧ (s1 = s.advance t) ∧ (brdOk b = true) ∧ (leNat b 0x0A 2 = s.rank) ∧ (s.memberRank (leNat b 8 2) = true) ∧ (s1.brdLens b = true) :=
  ⟨brd0, 50, imageS, imageS.advance 50, by decide +kernel⟩

theorem test_meets_BridleMessages_2 : ∃ b : Bytes, ∃ s : State, (s.dispatching = true) ∧ (s.inHold = false) ∧ (s.bridle.inReset = false) ∧ (s.parity.masks = []) ∧ (brdOk b = false) :=
  ⟨[], imageS, by decide +kernel⟩

theorem test_meets_BridleMessages_3 : ∃ s : State, (s.dispatching = false ∨ s.inHold = true) :=
  ⟨upS, by decide +kernel⟩

theorem test_meets_BridleMessages_4 : ∃ b : Bytes, ∃ s : State, (s.bridle.inReset = false) ∧ (b.length = 64) ∧ (leNat b 0 4 = 0x4C445242) ∧ (leNat b 4 1 = 1) ∧ (zeros b 5 1 = true) ∧ (leNat b 6 2 = 0) ∧ (leNat b 0x0C 4 = 64) ∧ (leNat b 0x24 4 = 0) ∧ (zeros b 0x28 24 = true) ∧ (zeros b 0x16 2 = true) ∧ (leNat b 0x0A 2 = s.rank) :=
  ⟨brdNotice 4 3 0 1 7, bridleS, by decide +kernel⟩

theorem test_meets_DspDoor_1 : ∃ n : Fin 8, ∃ s : State, (s.dspScope n 0x10 0xA5C3) ∧ ((s.dspAt n).busy = false) ∧ ((s.dspAt n).phase = 0) :=
  ⟨1, readyC, by decide +kernel⟩

theorem test_meets_DspDoor_2 : ∃ n : Fin 8, ∃ t : Nat, ∃ s : State, (s.dspScope n 0x10 0x5A3C) ∧ ((s.dspAt n).busy = false) ∧ ((s.dspAt n).phase = 1) ∧ (max s.frame.time t ≤ (s.dspAt n).last + 100000) :=
  ⟨1, 5, portAtS { phase := 1 }, by decide +kernel⟩

theorem test_meets_DspDoor_3 : ∃ n : Fin 8, ∃ v : W32, ∃ s : State, (s.dspScope n 0x10 v) ∧ ((s.dspAt n).busy = false) ∧ ((s.dspAt n).phase = 0) ∧ (v ≠ 0xA5C3) :=
  ⟨1, 7, readyC, by decide +kernel⟩

theorem test_meets_DspDoor_4 : ∃ n : Fin 8, ∃ v : W32, ∃ t : Nat, ∃ s : State, (s.dspScope n 0x14 v) ∧ ((s.dspAt n).phase = 2) ∧ (max s.frame.time t ≤ (s.dspAt n).last + 100000) :=
  ⟨1, 2, 5, portAtS { phase := 2 }, by decide +kernel⟩

theorem test_meets_DspDoor_5 : ∃ n : Fin 8, ∃ v : W32, ∃ t : Nat, ∃ s : State, (s.dspScope n 0x18 v) ∧ ((s.dspAt n).phase = 3 ∨ (s.dspAt n).phase = 4) ∧ (max s.frame.time t ≤ (s.dspAt n).last + 100000) ∧ (some (s.dspAt n).addrs.length ≠ dspWords (s.dspAt n).cmd.toNat) :=
  ⟨1, 2, 5, portAtS { phase := 3, cmd := 2 }, by decide +kernel⟩

theorem test_meets_DspDoor_6 : ∃ i : Instr, ∃ n : Fin 8, ∃ cmd : Nat, ∃ v : W32, ∃ t : Nat, ∃ s : State, (dspReadRow i = some (n, cmd, .register v t)) ∧ (s.dspScope n 0x1C v) ∧ ((s.dspAt n).phase = 4) ∧ ((s.dspAt n).cmd.toNat = cmd) ∧ (max s.frame.time t ≤ (s.dspAt n).last + 100000) ∧ (some (s.dspAt n).addrs.length = dspWords cmd) ∧ (s.dieFailed (dieOfWord n ((s.dspAt n).addrs.getD 0 0)) = false) :=
  ⟨.readStatus 1 (.register 3 5), 1, 1, 3, 5, portAtS { phase := 4, cmd := 1, addrs := [0] }, by decide +kernel⟩

theorem test_meets_DspDoor_7 : ∃ s : State, (s.sec.unlocked = false) ∧ (s.dbgUp = true) :=
  ⟨imageS, by decide +kernel⟩

theorem test_meets_DspCommands_1 : ∃ i : Instr, ∃ n : Fin 8, ∃ cmd : Nat, ∃ die : W32, ∃ row : W32, ∃ col : W32, ∃ data : W32, ∃ s : State, (dspReadRow i = some (n, cmd, .firmware die row col data)) ∧ (s.doorOpen n cmd = true) ∧ ((s.dspAt n).busy = false) ∧ ((s.dspAt n).phase = 0) ∧ (s.dieFailed (dieOfWord n die) = false) :=
  ⟨.readStatus 1 (.firmware 0 0 0 0), 1, 1, 0, 0, 0, 0, readyC, by decide +kernel⟩

theorem test_meets_DspCommands_2 : ∃ n : Fin 8, ∃ die : W32, ∃ s : State, (s.doorOpen n 16 = true) ∧ ((s.dspAt n).busy = false) ∧ ((s.dspAt n).phase = 0) ∧ (s.dieFailed (dieOfWord n die) = false) ∧ (s.dieMayProgram (dieOfWord n die) .slc = true) :=
  ⟨1, 0, { readyC with frame := { held := false, nextTick := 2000000 } }, by decide +kernel⟩

theorem test_meets_DspCommands_3 : ∃ n : Fin 8, ∃ die : W32, ∃ fine : Bool, ∃ s : State, (s.doorOpen n 17 = true) ∧ ((s.dspAt n).busy = false) ∧ ((s.dspAt n).phase = 0) ∧ (s.dieFailed (dieOfWord n die) = false) ∧ (s.dieMayProgram (dieOfWord n die) (if fine then .fine else .foggy) = true) :=
  ⟨1, 0, true, { readyC with frame := { held := false, nextTick := 2000000 } }, by decide +kernel⟩

theorem test_meets_DspCommands_4 : ∃ n : Fin 8, ∃ die : W32, ∃ s : State, (s.doorOpen n 18 = true) ∧ ((s.dspAt n).busy = false) ∧ ((s.dspAt n).phase = 0) ∧ (s.dieFailed (dieOfWord n die) = false) :=
  ⟨1, 0, readyC, by decide +kernel⟩

theorem test_meets_DspCommands_5 : ∃ n : Fin 8, ∃ die : W32, ∃ s : State, (s.doorOpen n 19 = true) ∧ ((s.dspAt n).busy = false) ∧ ((s.dspAt n).phase = 0) ∧ (s.dieFailed (dieOfWord n die) = false) :=
  ⟨1, 0, readyC, by decide +kernel⟩

theorem test_meets_DspCommands_6 : ∃ n : Fin 8, ∃ die : W32, ∃ s : State, (s.doorOpen n 18 = true) ∧ ((s.dspAt n).busy = false) ∧ ((s.dspAt n).phase = 0) ∧ (s.dieFailed (dieOfWord n die) = true) :=
  ⟨1, 0, { readyC with media := { readyC.media with dies := [(256, { failed := true })] } }, by decide +kernel⟩

theorem test_meets_DspCommands_7 : ∃ n : Fin 8, ∃ s : State, ((s.dspAt n).busy = true) :=
  ⟨1, portAtS { busy := true }, by decide +kernel⟩

theorem test_meets_DspCommands_8 : ∃ n : Fin 8, ∃ s : State, ((s.dspAt n).busy = true) ∧ ((s.dspAt n).cmd = 1) :=
  ⟨1, portAtS { busy := true, cmd := 1 }, by decide +kernel⟩

theorem test_meets_DspCommands_9 : ∃ n : Fin 8, ∃ s : State, ((s.dspAt n).busy = false) :=
  ⟨1, readyC, by decide +kernel⟩

theorem test_meets_DspCommands_10 : ∃ n : Fin 8, ∃ s : State, ((s.dspAt n).phase ≠ 0) ∧ ((s.dspAt n).busy = false) :=
  ⟨1, portAtS { phase := 1 }, by decide +kernel⟩

theorem test_meets_DspCommands_11 : ∃ n : Fin 8, ∃ s : State, ((s.dspAt n).phase = 0 ∨ (s.dspAt n).busy = true) :=
  ⟨1, readyC, by decide +kernel⟩

theorem test_meets_MediaEvents_1 : ∃ job : Nat, ∃ s : State, ∃ j : ProgJob, (s.media.jobs.find? (fun j => decide (j.id = job) && j.running) = some j) :=
  ⟨3, jobS, job0, by decide +kernel⟩

theorem test_meets_MediaEvents_2 : ∃ s : State, (s.media.jobs = []) :=
  ⟨imageS, by decide +kernel⟩

theorem test_meets_MediaEvents_3 : ∃ die : Fin 2048, ∃ s : State, ∃ o : DieOp, ((s.dieAt die).op = some o) ∧ (o.code = 4) ∧ (s.safe = false) :=
  ⟨0, eraseS, { code := 4, start := 0, block := 9, job := none }, by decide +kernel⟩

theorem test_meets_MediaEvents_4 : ∃ die : Fin 2048, ∃ s : State, ((s.dieAt die).op = none) :=
  ⟨5, eraseS, by decide +kernel⟩

theorem test_meets_MediaEvents_5 : ∃ l : Nat, ∃ s : State, ∃ r : StripeRec, (s.recordAt (l / 2) (s.mapAt (l / 2)) = some r) ∧ ((s.media.reads.any fun x => x.slots.contains l) = true) ∧ (s.sparReset = false) ∧ (s.inHold = false) ∧ (s.dieFailed r.die = false) ∧ (s.dieReads r.die = true) ∧ (s.parity.masks = []) :=
  ⟨0, { jobS with media := { ctrls := List.replicate 8 { ready := true }, map := [(0, rec0.word)], records := [rec0], reads := [read0] } }, rec0, by decide +kernel⟩

theorem test_meets_MediaEvents_6 : ∃ l : Nat, ∃ k : Fin 6, ∃ s : State, ∃ r : StripeRec, ∃ q : Bool × State, (s.recordAt (l / 2) (s.mapAt (l / 2)) = some r) ∧ ((s.media.reads.any fun x => x.slots.contains l) = true) ∧ (s.sparReset = false) ∧ (s.inHold = false) ∧ (s.dieFailed r.die = false) ∧ (s.dieReads r.die = true) ∧ (s.ladderOk r.die r.block k = true) ∧ (q = (s.ladder r.die r.block k).staged (0xC0 + dieCtrl r.die)) :=
  ⟨0, 0, { jobS with media := { ctrls := List.replicate 8 { ready := true }, map := [(0, rec0.word)], records := [rec0], reads := [read0] } }, rec0, (({ jobS with media := { ctrls := List.replicate 8 { ready := true }, map := [(0, rec0.word)], records := [rec0], reads := [read0] } } : State).ladder rec0.die rec0.block 0).staged (0xC0 + dieCtrl rec0.die), by decide +kernel⟩

theorem test_meets_MediaEvents_7 : ∃ l : Nat, ∃ s : State, ∃ r : StripeRec, (s.recordAt (l / 2) (s.mapAt (l / 2)) = some r) ∧ ((s.media.reads.any fun x => x.slots.contains l) = false ∨ s.sparReset = true ∨ s.inHold = true) :=
  ⟨0, { jobS with sparReset := true, media := { ctrls := List.replicate 8 { ready := true }, map := [(0, rec0.word)], records := [rec0], reads := [read0] } }, rec0, by decide +kernel⟩

theorem test_meets_MediaEvents_8 : ∃ die : Fin 2048, ∃ s : State, ∃ o : DieOp, ((s.dieAt die).op = some o) ∧ (o.start + opNs o.code + 10000000 ≤ s.frame.time) :=
  ⟨0, lateS, { code := 4, start := 0, block := 9, job := none }, by decide +kernel⟩

theorem test_meets_MediaEvents_9 : ∃ die : Fin 2048, ∃ s : State, ∃ o : DieOp, ((s.dieAt die).op = some o) ∧ (s.frame.time < o.start + opNs o.code + 10000000) :=
  ⟨0, eraseS, { code := 4, start := 0, block := 9, job := none }, by decide +kernel⟩

theorem test_meets_MediaEvents_10 : ∃ die : Fin 2048, ∃ b : Nat, ∃ l : List (BitVec 8), ∃ s : State, (l.length = 8) ∧ (s.dieReads die = true) ∧ (s.dieFailed die = false) ∧ (b < 2752) ∧ ((s.blkAt die b).state = .open_ ∨ (s.blkAt die b).state = .closed) :=
  ⟨1, 4, [0, 1, 2, 3, 4, 5, 6, 7], { eraseS with media := { eraseS.media with blocks := [(2756, { state := .closed })] } }, by decide +kernel⟩

theorem test_meets_MediaEvents_11 : ∃ l : List (BitVec 8), (l.length ≠ 8) :=
  ⟨[], by decide +kernel⟩

theorem test_meets_MediaEvents_12 : ∃ ch : Fin 256, ∃ s : State, (s.firmwareUp = true) ∧ (s.blockAway (.env (ch.val / 32)) = false) :=
  ⟨33, eraseS, by decide +kernel⟩

theorem test_meets_MediaEvents_13 : ∃ levels : List (BitVec 8), (levels.length = 8) :=
  ⟨List.replicate 8 0, by decide +kernel⟩

theorem test_meets_MediaUpkeep_1 : ∃ s : State, (s.classD = true) ∧ (s.media.flushFrame + 64 ≤ s.frame.num.toNat ∨ 268435456 ≤ s.media.durableBytes) :=
  ⟨{ eraseS with frame := { num := 64 } }, by decide +kernel⟩

theorem test_meets_MediaUpkeep_2 : ∃ s : State, (s.classD = false ∨ (s.frame.num.toNat < s.media.flushFrame + 64 ∧ s.media.durableBytes < 268435456)) :=
  ⟨eraseS, by decide +kernel⟩

theorem test_meets_MediaUpkeep_3 : ∃ die : Fin 2048, ∃ s : State, (s.classD = true) ∧ (s.freeCount die < 6) ∧ (s.media.collecting.contains die.val = false) :=
  ⟨0, { eraseS with media := { eraseS.media with blocks := (List.range 2752).map fun k => (k, { state := .retired }) } }, by decide +kernel⟩

theorem test_meets_MediaUpkeep_4 : ∃ s : State, (s.classD = false) :=
  ⟨upS, by decide +kernel⟩

theorem test_meets_MediaUpkeep_5 : ∃ s : State, (s.safe = false) ∧ (s.powered = true) :=
  ⟨eraseS, by decide +kernel⟩

theorem test_meets_MediaUpkeep_6 : ∃ die : Fin 2048, ∃ b : Nat, ∃ cw : Nat, ∃ s : State, ∃ r : StripeRec, (s.classD = true) ∧ (s.dieReads die = true) ∧ (s.dieFailed die = false) ∧ ((s.blkAt die b).state = .closed) ∧ (s.media.records.find? (fun r => decide (r.die = die.val) && decide (r.block = b) && decide (r.cw ≤ cw) && decide (cw < r.cw + r.ncw) && decide (s.mapAt r.stripe = r.word)) = some r) :=
  ⟨0, 1, 0, { jobS with media := { ctrls := List.replicate 8 { ready := true }, map := [(0, rec0.word)], records := [rec0], blocks := [(1, { state := .closed })] } }, rec0, by decide +kernel⟩

theorem test_meets_MediaUpkeep_7 : ∃ die : Fin 2048, ∃ b : Nat, ∃ cw : Nat, ∃ k : Fin 6, ∃ s : State, ∃ r : StripeRec, (s.classD = true) ∧ (s.dieReads die = true) ∧ (s.dieFailed die = false) ∧ ((s.blkAt die b).state = .closed) ∧ (s.media.records.find? (fun r => decide (r.die = die.val) && decide (r.block = b) && decide (r.cw ≤ cw) && decide (cw < r.cw + r.ncw) && decide (s.mapAt r.stripe = r.word)) = some r) ∧ (1 ≤ k.val ∧ k.val ≤ 4) ∧ (s.ladderOk die b k = true) :=
  ⟨0, 1, 0, 2, { jobS with media := { ctrls := List.replicate 8 { ready := true }, map := [(0, rec0.word)], records := [rec0], blocks := [(1, { state := .closed })] } }, rec0, by decide +kernel⟩

theorem test_meets_MediaUpkeep_8 : ∃ die : Fin 2048, ∃ b : Nat, ∃ cw : Nat, ∃ s : State, ∃ r : StripeRec, (s.classD = true) ∧ (s.dieReads die = true) ∧ (s.dieFailed die = false) ∧ ((s.blkAt die b).state = .closed) ∧ (s.media.records.find? (fun r => decide (r.die = die.val) && decide (r.block = b) && decide (r.cw ≤ cw) && decide (cw < r.cw + r.ncw) && decide (s.mapAt r.stripe = r.word)) = some r) :=
  ⟨0, 1, 0, { jobS with media := { ctrls := List.replicate 8 { ready := true }, map := [(0, rec0.word)], records := [rec0], blocks := [(1, { state := .closed })] } }, rec0, by decide +kernel⟩

theorem test_meets_MediaUpkeep_9 : ∃ s : State, (s.classD = false) :=
  ⟨upS, by decide +kernel⟩

theorem test_meets_MediaUpkeep_10 : ∃ s : State, (s.powered = true) :=
  ⟨upS, by decide +kernel⟩

theorem test_meets_MediaUpkeep_11 : ∃ n : Fin 8, ∃ s : State, ((s.ctrlAt n).inReset = true) :=
  ⟨0, { upS with media := { ctrls := List.replicate 8 { inReset := true } } }, by decide +kernel⟩

theorem test_meets_MediaUpkeep_12 : ∃ n : Fin 8, ∃ s : State, ((s.ctrlAt n).inReset = false) :=
  ⟨0, upS, by decide +kernel⟩

theorem test_meets_LinkTraining_1 : ∃ l : Fin 32, ∃ s : State, (s.portLive (l.val / 4) = true) ∧ ((s.portAt (l.val / 4)).up = false) ∧ ((s.laneAt l).training = false) :=
  ⟨5, trainS, by decide +kernel⟩

theorem test_meets_LinkTraining_2 : ∃ l : Fin 32, ∃ s : State, ((s.laneAt l).training = true) ∧ (s.portLive (l.val / 4) = true) :=
  ⟨0, trainS, by decide +kernel⟩

theorem test_meets_LinkTraining_3 : ∃ l : Fin 32, ∃ s : State, ((s.laneAt l).training = false ∨ s.portLive (l.val / 4) = false) :=
  ⟨5, trainS, by decide +kernel⟩

theorem test_meets_LinkTraining_4 : ∃ sts : W32, ∃ q : LaneSelf, (3 ≤ q.markers) ∧ (q.satisfied = true) ∧ (q.doneSent = true) ∧ (bit sts 31 = true) :=
  ⟨0x80000000, { markers := 3, satisfied := true, doneSent := true, polInv := false }, by decide +kernel⟩

theorem test_meets_LinkTraining_5 : ∃ l : Fin 32, ∃ s : State, ((s.laneAt l).training = true) :=
  ⟨0, trainS, by decide +kernel⟩

theorem test_meets_LinkTraining_6 : ∃ p : Fin 8, ∃ s : State, (s.loft.image = none) ∧ (s.portLive p = true) ∧ ((s.portAt p).up = false) :=
  ⟨1, upS, by decide +kernel⟩

theorem test_meets_LinkTraining_7 : ∃ l : Fin 32, ∃ e : Nat, ∃ a : Nat, ∃ b : Nat, ∃ s : State, ∃ s1 : State, ((s.laneAt l).training = false) ∧ ((s.laneAt l).doneSent = true) ∧ (s.portLive (l.val / 4) = true) ∧ ((s.portAt (l.val / 4)).mode ≠ 0) ∧ ((s.laneAt l).amSeen = 2) ∧ (s1 = ((s.modLane l fun x => { x with cdrLock := true, amSeen := x.amSeen + 1, locked := x.locked || decide (3 ≤ x.amSeen + 1), bitErr := BitVec.ofNat 16 (min e 0xFFFF) }).modPort (l.val / 4) fun x => { x with fecCorr := satAdd x.fecCorr a, fecUncorr := satAdd x.fecUncorr b })) :=
  ⟨0, 0, 1, 0, markS, (markS.modLane 0 fun x => { x with cdrLock := true, amSeen := x.amSeen + 1, locked := x.locked || decide (3 ≤ x.amSeen + 1), bitErr := 0 }).modPort 0 fun x => { x with fecCorr := satAdd x.fecCorr 1, fecUncorr := satAdd x.fecUncorr 0 }, by decide +kernel⟩

theorem test_meets_LinkTraining_8 : ∃ l : Fin 32, ∃ am : BitVec 257, ∃ p : Nat, ∃ e : Nat, ∃ a : Nat, ∃ b : Nat, ∃ s : State, ∃ s1 : State, ((s.laneAt l).training = false) ∧ ((s.laneAt l).doneSent = true) ∧ (s.portLive (l.val / 4) = true) ∧ ((s.portAt (l.val / 4)).mode = 0) ∧ (s1 = ((s.modLane l fun x => if markerOk am = false then x else ({ x with cdrLock := true, amSeen := (if p = 8192 then x.amSeen + 1 else 1), locked := x.locked || decide (3 ≤ (if p = 8192 then x.amSeen + 1 else 1)), bitErr := BitVec.ofNat 16 (min e 0xFFFF), amCount := BitVec.ofNat 8 (bits am 60 53), logical := BitVec.ofNat 2 (bits am 33 32) } : Lane).requests (bits am 44 37)).modPort (l.val / 4) fun x => { x with fecCorr := satAdd x.fecCorr a, fecUncorr := satAdd x.fecUncorr b })) :=
  ⟨0, markerBlock 3 0 0 0 2, 8192, 0, 1, 0, markS0, (markS0.modLane 0 fun x => { x with cdrLock := true, amSeen := 3, locked := true, bitErr := 0, amCount := 3, logical := 2 }).modPort 0 fun x => { x with fecCorr := satAdd x.fecCorr 1, fecUncorr := satAdd x.fecUncorr 0 }, by decide +kernel⟩

theorem test_meets_PortsAndQueuePairs_1 : ∃ p : Fin 8, ∃ s : State, ((s.portAt p).up = true) :=
  ⟨1, upPortS, by decide +kernel⟩

theorem test_meets_PortsAndQueuePairs_2 : ∃ p : Fin 8, ∃ s : State, ((s.portAt p).up = false) :=
  ⟨1, upS, by decide +kernel⟩

theorem test_meets_PortsAndQueuePairs_3 : ∃ p : Fin 8, ∃ s : State, (s.portUse p = true) ∧ (s.firmwareUp = true) ∧ ((s.portAt p).squelched = false) ∧ ((s.portAt p).up = false) ∧ (s.Shape) :=
  ⟨1, upS, by decide +kernel⟩

theorem test_meets_PortsAndQueuePairs_4 : ∃ l : Fin 32, ∃ s : State, ((s.portAt (l.val / 4)).up = true) ∧ ((s.portAt (l.val / 4)).mode = 0) :=
  ⟨1, upPortS, by decide +kernel⟩

theorem test_meets_PortsAndQueuePairs_5 : ∃ p : Fin 8, ∃ s : State, ((s.portAt p).up = true) :=
  ⟨1, upPortS, by decide +kernel⟩

theorem test_meets_PortsAndQueuePairs_6 : ∃ p : Fin 8, ∃ s : State, (s.firmwareUp = true) ∧ (s.blockAway (.tet p) = false) :=
  ⟨1, upPortS, by decide +kernel⟩

theorem test_meets_PortsAndQueuePairs_7 : ∃ n : Nat, ∃ s : State, ∃ q : QueuePair, (s.qpFor n = some q) ∧ (q.exhausted s.frame.time = false) :=
  ⟨1, upPortS, { num := 1, peer := none, ctrl := some (1, 1), net := 0, port := 0, rate := 1600000 }, by decide +kernel⟩

theorem test_meets_PortsAndQueuePairs_8 : ∃ n : Nat, ∃ s : State, ∃ q : QueuePair, (s.qpFor n = some q) ∧ (q.exhausted s.frame.time = true) ∧ (q.ctrl = none) :=
  ⟨2, { upPortS with tether := { qps := [{ num := 2, peer := some 4, ctrl := none, net := 0, port := 0, rate := 1, retries := 7 }] } }, { num := 2, peer := some 4, ctrl := none, net := 0, port := 0, rate := 1, retries := 7 }, by decide +kernel⟩

theorem test_meets_PortsAndQueuePairs_9 : ∃ n : Nat, ∃ s : State, (s.qpFor n = none) :=
  ⟨9, upPortS, by decide +kernel⟩

theorem test_meets_PortsAndQueuePairs_10 : ∃ p : Fin 8, ∃ s : State, ((s.portAt p).up = true) :=
  ⟨1, upPortS, by decide +kernel⟩

theorem test_meets_GroupJoin_1 : ∃ net : Fin 2, ∃ b : Bytes, ∃ s : State, (s.phase = .up) ∧ (s.nvOk b nvDiscover = true) ∧ (s.netUp net = true) :=
  ⟨0, nvM 1 0xFFFF [], { mgrS with tether := { ports := List.replicate 8 { up := true } } }, by decide +kernel⟩

theorem test_meets_GroupJoin_2 : ∃ b : Bytes, ∃ s : State, (s.nvOk b nvDiscover = false) ∧ (s.nvOk b nvHello = false) :=
  ⟨[], mgrS, by decide +kernel⟩

theorem test_meets_GroupJoin_3 : ∃ b : Bytes, ∃ s : State, (s.nvOk b nvHello = true) :=
  ⟨nvM 2 4 (List.replicate 40 0), mgrS, by decide +kernel⟩

theorem test_meets_GroupJoin_4 : ∃ b : Bytes, ∃ s : State, (s.phase = .up) ∧ (s.nvOk b nvBeacon = false) :=
  ⟨[], mgrS, by decide +kernel⟩

theorem test_meets_GroupJoin_5 : ∃ b : Bytes, ∃ s : State, (s.phase = .up) ∧ (s.nvOk b nvBeacon = true) ∧ (slice b 0x40 16 ≠ s.gondola.uid) ∧ (s.group.act = 0) ∧ (s.group.state = 0) ∧ (s.group.admission = none) ∧ (s.loft.image.any (fun i => decide (i.src = 2)) = false) :=
  ⟨nvM 3 0 (List.replicate 168 7 |>.set 37 0), { imageS with frame := { num := 5 } }, by decide +kernel⟩

theorem test_meets_GroupJoin_6 : ∃ net : Fin 2, ∃ b : Bytes, ∃ s : State, ∃ j : JoinReq, (s.inService) ∧ (s.nvOk b nvJoin = true) ∧ (s.isManager = true) ∧ (s.group.duplicate = false) ∧ (j = { rank := leNat b 0x50 2, uid := slice b 0x40 16, level := leNat b 0x52 2, schema := leNat b 0x54 2, period := leNat b 0x56 2, epoch := nvEpoch b, last := leNat b 0x58 8, time := s.frame.time, net := net.val }) ∧ (s.joinReject j = none) ∧ (s.memberRanks.contains j.rank = false) :=
  ⟨0, nvM 4 0xFFFF (List.replicate 16 1 ++ [5, 0, 0, 0, 0, 0, 208, 7] ++ List.replicate 8 0), { mgrS with frame := { periodUs := 2000 } }, { rank := 5, uid := List.replicate 16 1, level := 0, schema := 0, period := 2000, epoch := 0, last := 0, time := 0, net := 0 }, by decide +kernel⟩

theorem test_meets_GroupJoin_7 : ∃ net : Fin 2, ∃ b : Bytes, ∃ s : State, ∃ j : JoinReq, ∃ r : Nat, (s.inService) ∧ (s.nvOk b nvJoin = true) ∧ (s.isManager = true) ∧ (s.group.duplicate = false) ∧ (j = { rank := leNat b 0x50 2, uid := slice b 0x40 16, level := leNat b 0x52 2, schema := leNat b 0x54 2, period := leNat b 0x56 2, epoch := nvEpoch b, last := leNat b 0x58 8, time := s.frame.time, net := net.val }) ∧ (s.joinReject j = some r) :=
  ⟨0, nvM 4 0xFFFF (List.replicate 16 1 ++ [9, 0, 0, 0, 0, 0, 208, 7] ++ List.replicate 8 0), { mgrS with frame := { periodUs := 2000 } }, { rank := 9, uid := List.replicate 16 1, level := 0, schema := 0, period := 2000, epoch := 0, last := 0, time := 0, net := 0 }, 2, by decide +kernel⟩

theorem test_meets_GroupJoin_8 : ∃ s : State, ∃ t : Nat, (s.inService) ∧ (s.group.lastJoin = some t) ∧ (s.group.state = 2) ∧ (s.group.admission = none) ∧ (t + 500000000 ≤ s.frame.time) ∧ (s.netUp 0 = true) ∧ (s.netUp 1 = true) :=
  ⟨{ askS with frame := { time := 500000000 }, loft := { image := some { img0 with ports := List.replicate 4 { use := true, net := 0, mode := 0 } ++ List.replicate 4 { use := true, net := 1, mode := 0 } } }, tether := { ports := List.replicate 8 { up := true } } }, 0, by decide +kernel⟩

theorem test_meets_GroupJoin_9 : ∃ b : Bytes, ∃ s : State, (s.inService) ∧ (s.nvOk b nvAdmit = true) ∧ (leNat b 0x40 2 = s.rank) ∧ (s.group.state = 2) :=
  ⟨nvM 5 0 ([3] ++ List.replicate 159 0), askS, by decide +kernel⟩

theorem test_meets_GroupJoin_10 : ∃ b : Bytes, ∃ s : State, (s.inService) ∧ (s.nvOk b nvReject = true) ∧ (s.group.state = 2) :=
  ⟨nvM 6 0 (List.replicate 8 0), askS, by decide +kernel⟩

theorem test_meets_GroupJoin_11 : ∃ b : Bytes, ∃ s : State, ∃ m : Member, (s.inService) ∧ (s.nvOk b nvReady = true) ∧ (s.isManager = true) ∧ (m ∈ s.group.members) ∧ (m.rank = nvSrc b) ∧ (m.ready = false) ∧ (s.group.places = []) :=
  ⟨nvM 7 5 [], { mgrS with group := { mgrS.group with members := [{ rank := 5, uid := [] }] } }, { rank := 5, uid := [] }, by decide +kernel⟩

theorem test_meets_GroupJoin_12 : ∃ r : BitVec 16, ∃ s : State, ∃ m : Member, (s.inService) ∧ (s.isManager = true) ∧ (m ∈ s.group.members) ∧ (m.rank = r.toNat) ∧ (m.ready = false) ∧ (m.admittedAt + 500000000 ≤ s.frame.time) :=
  ⟨5, { mgrS with frame := { time := 500000000 }, group := { mgrS.group with members := [{ rank := 5, uid := [] }] } }, { rank := 5, uid := [] }, by decide +kernel⟩

theorem test_meets_GroupJoin_13 : ∃ r : BitVec 16, ∃ s : State, (s.inService) ∧ (s.isManager = true) ∧ (s.group.running = true) ∧ (s.group.runningAt + 20000000000 ≤ s.frame.time) ∧ (r.toNat < s.group.expected) ∧ (s.memberRanks.contains r.toNat = false) ∧ (s.group.failed.contains r.toNat = false) ∧ (s.group.causes = []) :=
  ⟨2, { mgrS with frame := { time := 20000000000 } }, by decide +kernel⟩

theorem test_meets_GroupJoin_14 : ∃ s : State, (16 ≤ s.frame.sinceBeacon) ∧ (s.isManager = false) ∧ (s.bare = false) :=
  ⟨{ memS with frame := { sinceBeacon := 16 } }, by decide +kernel⟩

theorem test_meets_GroupWatch_1 : ∃ b : Bytes, ∃ s : State, (s.inService) ∧ (s.nvOk b nvStatus = true) ∧ (s.isManager = true) ∧ (bit (byteAt b 0x41) 0 = false) :=
  ⟨nvM 8 4 (List.replicate 16 0), mgrS, by decide +kernel⟩

theorem test_meets_GroupWatch_2 : ∃ b : Bytes, ∃ s : State, (s.inService) ∧ (s.nvOk b nvStatus = true) ∧ (s.isManager = true) ∧ (bit (byteAt b 0x41) 0 = true) ∧ (s.memberRanks.contains (nvSrc b) = true) ∧ (s.group.causes = []) :=
  ⟨nvM 8 4 ([3, 1] ++ List.replicate 14 0), mgrS, by decide +kernel⟩

theorem test_meets_GroupWatch_3 : ∃ r : BitVec 16, ∃ s : State, ∃ m : Member, (s.inService) ∧ (s.isManager = true) ∧ (m ∈ s.group.members) ∧ (m.rank = r.toNat) ∧ (m.ready = true) ∧ (r.toNat ≠ s.rank) ∧ (m.lastStatus + 16 ≤ s.frame.num.toNat) ∧ (s.group.causes = []) :=
  ⟨4, { mgrS with frame := { num := 16 } }, { rank := 4, uid := [], ready := true }, by decide +kernel⟩

theorem test_meets_GroupWatch_4 : ∃ b : Bytes, ∃ s : State, (s.nvOk b nvFail = true) ∧ (s.inGroup = true) :=
  ⟨nvM 0xB 0 [4, 0, 1, 0, 0, 0, 0, 0], memS, by decide +kernel⟩

theorem test_meets_GroupWatch_5 : ∃ b : Bytes, ∃ s : State, (s.inService) ∧ (s.nvOk b nvLevel = true) ∧ (s.isManager = false) ∧ (s.inGroup = true) :=
  ⟨nvM 0x12 0 (List.replicate 16 0), memS, by decide +kernel⟩

theorem test_meets_GroupWatch_6 : ∃ b : Bytes, ∃ s : State, (s.inService) ∧ (s.nvOk b nvTakeover = true) ∧ (s.inGroup = true) ∧ (s.isManager = false) :=
  ⟨nvM 0x13 4 (List.replicate 8 0), memS, by decide +kernel⟩

theorem test_meets_GroupWatch_7 : ∃ b : Bytes, ∃ s : State, (s.inService) ∧ (s.nvOk b nvVote = true) ∧ (s.group.asking = true) ∧ (leNat b 0x40 4 = s.group.round) ∧ (leNat b 0x44 1 = 1) ∧ (s.group.votes.contains (nvSrc b) = false) :=
  ⟨nvM 0x14 4 [1, 0, 0, 0, 1, 0, 0, 0], { memS with group := { memS.group with asking := true, round := 1, votes := [3] } }, by decide +kernel⟩

theorem test_meets_GroupWatch_8 : ∃ b : Bytes, ∃ s : State, (s.inService) ∧ (s.nvOk b nvVote = false ∨ s.group.asking = false ∨ s.group.votes.contains (nvSrc b) = true) :=
  ⟨nvM 0x14 4 [1, 0, 0, 0, 1, 0, 0, 0], memS, by decide +kernel⟩

theorem test_meets_GroupWatch_9 : ∃ s : State, (s.inService) ∧ (s.group.asking = true) ∧ (s.group.elected = false) ∧ (s.group.askAt + 64 ≤ s.frame.num.toNat) :=
  ⟨{ memS with frame := { num := 64 }, group := { memS.group with asking := true } }, by decide +kernel⟩

theorem test_meets_PlacementMessages_1 : ∃ b : Bytes, ∃ s : State, (s.takes b nvPlace = true) ∧ (s.isManager = false) ∧ (leNat b 0x40 4 = 0) ∧ (leNat b 0x44 2 = 0) :=
  ⟨nvM 9 0 (List.replicate 8 0), memS, by decide +kernel⟩

theorem test_meets_PlacementMessages_2 : ∃ b : Bytes, ∃ s : State, (s.takes b nvPlace = false) ∧ (s.takes b nvPlaceAck = false) ∧ (s.takes b nvCopy = false) ∧ (s.takes b nvCopyAck = false) ∧ (s.takes b nvJournal = false) ∧ (s.takes b nvJournalAck = false) :=
  ⟨[], memS, by decide +kernel⟩

theorem test_meets_PlacementMessages_3 : ∃ b : Bytes, ∃ s : State, ∃ o : PlaceOut, (s.takes b nvPlaceAck = true) ∧ (s.group.placesOut = [o]) ∧ (o.epoch = nvEpoch b) ∧ (o.released = true) :=
  ⟨nvM 0xA 4 [], { mgrS with group := { mgrS.group with placesOut := [{ epoch := 0, entries := [], released := true, waiting := [4, 5] }] } }, { epoch := 0, entries := [], released := true, waiting := [4, 5] }, by decide +kernel⟩

theorem test_meets_PlacementMessages_4 : ∃ s : State, (s.inService) ∧ (s.isManager = true) ∧ (s.group.running = true) ∧ (s.groupFrame.toNat % 64 = 0) :=
  ⟨mgrS, by decide +kernel⟩

theorem test_meets_PlacementMessages_5 : ∃ b : Bytes, ∃ s : State, (s.takes b nvCopy = true) ∧ (leNat b 0x40 1 = 0 ∨ 3 < leNat b 0x40 1) :=
  ⟨nvM 0xC 4 (List.replicate 48 0), memS, by decide +kernel⟩

theorem test_meets_PlacementMessages_6 : ∃ b : Bytes, ∃ s : State, ∃ n : Nat, ∃ kind : Nat, ∃ p : Place, (s.takes b nvCopy = true) ∧ (leNat b 0x40 1 = kind ∧ 1 ≤ kind ∧ kind ≤ 3) ∧ (leNat b 0x68 4 = n) ∧ (leNat b 0x6C 4 = 0 ∨ ((slice b (leNat b 0x6C 4) (b.length - leNat b 0x6C 4)).all fun x => decide (x = 0)) = true) ∧ (p = { kind := if kind = 1 then (if leNat b 0x54 4 = 0 then 5 else 1) else kind, serving := 0, home := nvSrc b, shadow1 := s.rank, shadow2 := 0xFFFF, key1 := le 64 b 0x48, key2 := le 32 b 0x50, version := le 32 b 0x54, epoch := 0 }) ∧ (∀ q, s.placeOf p = some q → q.names s.rank = true) ∧ (s.hasTenant (leNat b 0x44 4) = true) ∧ (s.fits (leNat b 0x44 4) 2 (units n) = true) :=
  ⟨nvM 0xC 4 ([2, 0, 0, 0, 1] ++ List.replicate 35 0 ++ [2, 0, 0, 0, 0, 0, 0, 0, 9, 9, 0, 0, 0, 0, 0, 0]), memS, 2, 2, { kind := 2, serving := 0, home := 4, shadow1 := 3, shadow2 := 0xFFFF, key1 := 0, key2 := 0, version := 0, epoch := 0 }, by decide +kernel, by decide +kernel, by decide +kernel, by decide +kernel, by decide +kernel, (by have e : memS.placeOf { kind := 2, serving := 0, home := 4, shadow1 := 3, shadow2 := 0xFFFF, key1 := 0, key2 := 0, version := 0, epoch := 0 } = none := (by decide +kernel); intro q h; rw [e] at h; cases h), by decide +kernel⟩

theorem test_meets_PlacementMessages_7 : ∃ b : Bytes, ∃ s : State, ∃ c : CopyOut, (s.takes b nvCopyAck = true) ∧ (s.group.copies = [c]) ∧ (c.copyId = leNat b 0x40 8) ∧ (c.toRank = nvSrc b) ∧ (c.ofs = leNat b 0x48 8) ∧ (leNat b 0x50 1 = 0) :=
  ⟨nvM 0xD 4 (List.replicate 24 0), { memS with group := { memS.group with copies := [cop0] } }, cop0, by decide +kernel⟩

theorem test_meets_PlacementMessages_8 : ∃ k : BitVec 64, ∃ s : State, (s.inService) ∧ ((s.group.copies.all fun (c : CopyOut) => decide (c.copyId ≠ k.toNat) || decide (s.frame.num.toNat < c.sent + 64)) = true) :=
  ⟨7, memS, by decide +kernel⟩

theorem test_meets_PlacementMessages_9 : ∃ k : BitVec 64, ∃ s : State, ∃ c : CopyOut, (s.inService) ∧ (s.group.copies = [c]) ∧ (c.copyId = k.toNat) ∧ (c.sent + 64 ≤ s.frame.num.toNat) ∧ (c.kind = 2) ∧ (c.for_ ≠ .shadow) ∧ (c.for_ ≠ .mirrorFull) ∧ (s.group.places = []) :=
  ⟨7, { memS with frame := { num := 64 }, group := { memS.group with copies := [{ cop0 with copyId := 7, kind := 2 }] } }, { cop0 with copyId := 7, kind := 2 }, by decide +kernel⟩

theorem test_meets_PlacementMessages_10 : ∃ b : Bytes, ∃ s : State, (s.takes b nvJournal = true) ∧ ((leNat b 0x42 2).testBit 1 = true) ∧ (b.length = 0x60 + (if (leNat b 0x42 2).testBit 2 then 128 else 0)) :=
  ⟨nvM 0xE 4 ([4, 0, 2] ++ List.replicate 29 0), memS, by decide +kernel⟩

theorem test_meets_PlacementMessages_11 : ∃ b : Bytes, ∃ s : State, ∃ i : Nat, (s.takes b nvJournalAck = true) ∧ (s.ctxIndex (le 32 b 0x44) = some i) ∧ (leNat b 0x40 2 = s.rank) ∧ (nvSrc b = (s.ctxAt i).buddy) ∧ (byteAt b 0x4C = 0) :=
  ⟨nvM 0xF 4 ([3] ++ List.replicate 15 0), { memS with library := { contexts := [(0, { ctx0 with buddy := 4 })] } }, 0, by decide +kernel⟩

theorem test_meets_GroupRequests_1 : ∃ b : Bytes, ∃ s : State, (s.inService) ∧ (s.nvOk b nvQuery = true) ∧ (s.inGroup = true) ∧ (s.search.shards = []) :=
  ⟨nvM 0x10 0 (List.replicate 32 0), memS, by decide +kernel⟩

theorem test_meets_GroupRequests_2 : ∃ b : Bytes, ∃ s : State, ∃ x : Shard, ∃ q : QueryParams, ∃ l : List (Shard × Option Nat × Bool), (s.inService) ∧ (s.nvOk b nvQuery = true) ∧ (s.inGroup = true) ∧ (readQuery (queryBlock b) = q) ∧ (queryOk (queryBlock b) q = true) ∧ ((s.search.shards.filter fun x => decide (x.index = q.index) && ((upTo (leNat b 0x58 2)).map fun i => le 16 b (0x60 + 2 * i)).contains x.shard && decide (x.tenant = leNat b 0x54 4)) = [x]) ∧ (x.state = 1) ∧ (q.given = true ∨ q.vec.length = q.vecLen x) ∧ (s.fits (leNat b 0x54 4) 1 (units (65536 + 8 * q.budget)) = true) ∧ (s.queryFilters (leNat b 0x54 4) q true [x] = some l) :=
  ⟨nvqMsg, { memS with search := shdS.search }, shd, readQuery qry64, [(shd, (none, false))], by decide +kernel⟩

theorem test_meets_GroupRequests_3 : ∃ b : Bytes, ∃ s : State, ∃ q : Query, (s.inService) ∧ (s.nvOk b nvAnswer = true) ∧ (s.search.queries.find? (fun q => decide (q.groupId = some (le 64 b 0x40)) && q.answerTo.isNone && q.awaiting.contains (nvSrc b)) = some q) ∧ (leNat b 0x48 2 ≠ 0) ∧ (q.asked = [(nvSrc b, 3)]) :=
  ⟨nvM 0x11 4 (List.replicate 8 0 ++ [2] ++ List.replicate 71 0), { mgrS with search := { queries := [{ qry0 with groupId := some 0, awaiting := [4], asked := [(4, 3)] }] } }, { qry0 with groupId := some 0, awaiting := [4], asked := [(4, 3)] }, by decide +kernel⟩

theorem test_meets_GroupRequests_4 : ∃ s : State, (s.inService) ∧ (s.search.queries = []) :=
  ⟨mgrS, by decide +kernel⟩

theorem test_meets_GroupRequests_5 : ∃ b : Bytes, ∃ s : State, (s.inService) ∧ (s.nvOk b nvLocate = true) ∧ (s.isManager = true) ∧ (s.group.relocs = []) ∧ (s.group.places = []) :=
  ⟨nvM 0x15 0xFFFF (List.replicate 16 0), mgrS, by decide +kernel⟩

theorem test_meets_GroupRequests_6 : ∃ b : Bytes, ∃ s : State, (s.inService) ∧ (s.nvOk b nvDrain = true) ∧ (s.isManager = true) ∧ (s.group.drain.isSome = true ∨ (leNat b 0x40 2 ≠ s.rank ∧ s.able (leNat b 0x40 2) = false)) :=
  ⟨nvM 0x17 0xFFFF [7, 0, 0, 0, 0, 0, 0, 0], mgrS, by decide +kernel⟩

theorem test_meets_GroupRequests_7 : ∃ b : Bytes, ∃ s : State, (s.inService) ∧ (s.nvOk b nvDrain = true) ∧ (s.isManager = true) ∧ (s.group.drain = none) ∧ (leNat b 0x40 2 ≠ s.rank) ∧ (s.able (leNat b 0x40 2) = true) :=
  ⟨nvM 0x17 0xFFFF [4, 0, 0, 0, 0, 0, 0, 0], mgrS, by decide +kernel⟩

theorem test_meets_GroupRequests_8 : ∃ r : BitVec 16, ∃ s : State, ∃ d : Drain, ∃ m : Member, (s.inService) ∧ (s.group.drain = some d) ∧ (s.isManager = true) ∧ (d.rank = r.toNat) ∧ (m ∈ s.group.members) ∧ (m.rank = r.toNat) ∧ (m.drained = true) :=
  ⟨5, { mgrS with group := { mgrS.group with drain := some { rank := 5, net := 0 }, members := [{ rank := 5, uid := [], drained := true }] } }, { rank := 5, net := 0 }, { rank := 5, uid := [], drained := true }, by decide +kernel⟩

theorem test_meets_FaultReports_1 : ∃ f : FaultIn, ∃ s : State, (s.powered = true) ∧ (sourceClass f.source = some .corrected) :=
  ⟨flt 2 0, imageS, by decide +kernel⟩

theorem test_meets_FaultReports_2 : ∃ f : FaultIn, ∃ s : State, (s.powered = true) ∧ (sourceClass f.source = some .deferred) ∧ (s.drogue.first.valid = false) :=
  ⟨flt 8 0, imageS, by decide +kernel⟩

theorem test_meets_FaultReports_3 : ∃ f : FaultIn, ∃ s : State, (s.powered = true) ∧ (sourceClass f.source = some .localFatal) ∧ (f.source ≠ 0x03) ∧ (s.safe = false) ∧ (s.drogue.locals = []) :=
  ⟨flt 0x0D 0x800, imageS, by decide +kernel⟩

theorem test_meets_FaultReports_4 : ∃ f : FaultIn, ∃ s : State, (s.powered = true) ∧ (f.source = 0x03) ∧ (s.safe = true) ∧ (s.drogue.waiting = []) :=
  ⟨flt 3 0x105, quietS, by decide +kernel⟩

theorem test_meets_FaultReports_5 : ∃ f : FaultIn, ∃ s : State, (s.powered = true) ∧ (sourceClass f.source = some .moduleFatal) ∧ (f.source ≠ 0x15) ∧ (s.drogue.state = 0) ∧ (s.recentExits < 4) :=
  ⟨flt 0x10 0, imageS, by decide +kernel⟩

theorem test_meets_FaultReports_6 : ∃ f : FaultIn, ∃ s : State, (s.powered = true) ∧ (sourceClass f.source = some .moduleFatal) ∧ (f.source ≠ 0x15) ∧ (s.drogue.state ≠ 0) :=
  ⟨flt 9 0, quietS, by decide +kernel⟩

theorem test_meets_FaultReports_7 : ∃ f : FaultIn, ∃ s : State, (s.powered = true) ∧ (f.source = 0x15) :=
  ⟨flt 0x15 0xC00, imageS, by decide +kernel⟩

theorem test_meets_FaultReports_8 : ∃ f : FaultIn, (sourceClass f.source = none) :=
  ⟨flt 0x16 0, by decide +kernel⟩

theorem test_meets_FaultReports_9 : ∃ s : State, ∃ t : Nat, (s.drogue.state = 1) ∧ (s.drogue.exiting = false) ∧ (s.supplyBad = false) ∧ (s.sparReset = false) ∧ (s.drogue.quietFrom = some t) ∧ (t + s.quietNs ≤ s.frame.time) :=
  ⟨quietS, 0, by decide +kernel⟩

theorem test_meets_FaultReports_10 : ∃ s : State, ∃ t : Nat, (s.drogue.quietFrom = some t) ∧ (s.drogue.state ≠ 1 ∨ s.supplyBad = true ∨ s.frame.time < t + s.quietNs) :=
  ⟨{ quietS with drogue := { quietS.drogue with quietFrom := some 5 } }, 5, by decide +kernel⟩

theorem test_meets_FaultReports_11 : ∃ s : State, (s.powered = true) ∧ (s.safe = true) :=
  ⟨quietS, by decide +kernel⟩

theorem test_meets_FaultReports_12 : ∃ s : State, (s.firmwareUp = true) :=
  ⟨imageS, by decide +kernel⟩

theorem test_meets_FaultReports_13 : ∃ f : FaultIn, ((sourceClass f.source).isSome) :=
  ⟨flt 2 0, by decide +kernel⟩

theorem test_meets_HeartbeatsAndRestarts_1 : ∃ s : State, ∃ v : BitVec 32, ∃ n : Nat, ∃ k : Core, (s.firmwareUp = true) ∧ (n < 4) ∧ ((bits v 2 0) = n) ∧ (s.gondola.cores[n]? = some k) ∧ (k.restarting = false) ∧ (Sparse.get (0 : W32) s.parity.masks (0xB8 + n) = 0) :=
  ⟨imageS, 2, 2, {}, by decide +kernel⟩

theorem test_meets_HeartbeatsAndRestarts_2 : ∃ s : State, ∃ m : BitVec 16, ∃ v : BitVec 32, (s.firmwareUp = true) ∧ (m.toNat ≠ bits v 2 0 ∨ 4 < bits v 2 0) :=
  ⟨imageS, 5, 1, by decide +kernel⟩

theorem test_meets_HeartbeatsAndRestarts_3 : ∃ core : Fin 5, ∃ s : State, (core.val < 4) ∧ (s.firmwareUp = true) ∧ ((s.coreAt core.val).halted = false) ∧ ((s.coreAt core.val).watchOff = false) ∧ (s.drogue.hbTime.getD core.val 0 + 10000000 ≤ s.frame.time) :=
  ⟨1, { imageS with frame := { time := 10000000 } }, by decide +kernel⟩

theorem test_meets_HeartbeatsAndRestarts_4 : ∃ s : State, (s.firmwareUp = true) ∧ (s.drogue.hbTime.getD 4 0 + 10000000 ≤ s.frame.time) :=
  ⟨{ imageS with frame := { time := 10000000 } }, by decide +kernel⟩

theorem test_meets_HeartbeatsAndRestarts_5 : ∃ core : Fin 5, ∃ s : State, ((s.coreAt core.val).watchOff = false) ∧ (s.frame.time < s.drogue.hbTime.getD core.val 0 + 10000000) :=
  ⟨1, imageS, by decide +kernel⟩

theorem test_meets_HeartbeatsAndRestarts_6 : ∃ s : State, (s.coresSilent = true) :=
  ⟨{ imageS with frame := { time := 100000000 } }, by decide +kernel⟩

theorem test_meets_HeartbeatsAndRestarts_7 : ∃ s : State, (s.coresSilent = false) :=
  ⟨imageS, by decide +kernel⟩

theorem test_meets_HeartbeatsAndRestarts_8 : ∃ s : State, ∃ c : Fin 8, ∃ k : Cluster, (s.clusters[c.val]? = some k) :=
  ⟨{ imageS with clusters := List.replicate 8 { inReset := true } }, 3, { inReset := true }, by decide +kernel⟩

theorem test_meets_HeartbeatsAndRestarts_9 : ∃ s : State, (s.bridle.inReset = true) :=
  ⟨{ imageS with bridle := { inReset := true } }, by decide +kernel⟩

theorem test_meets_HeartbeatsAndRestarts_10 : ∃ s : State, ∃ n : Fin 4, ∃ k : Core, (s.gondola.cores[n.val]? = some k) :=
  ⟨abortS, 3, { restarting := true, aborts := [{ ctrl := 1, sq := 0, cid := 9 }] }, by decide +kernel⟩

theorem test_meets_SpdmRequests_1 : ∃ i : Instr, ∃ code : Nat, ∃ vendor : Nat, ∃ b : Bytes, ∃ s : State, (spdmOf i = some (code, vendor, b)) ∧ (spdmCode b = code) ∧ (vendor = 0 ∨ vendorCode b = vendor) ∧ (s.firmwareUp = true) :=
  ⟨.getDigests [0x13, 0x81, 0, 0], 0x81, 0, [0x13, 0x81, 0, 0], spdmS, by decide +kernel⟩

theorem test_meets_SpdmRequests_2 : ∃ i : Instr, ∃ code : Nat, ∃ vendor : Nat, ∃ b : Bytes, (spdmOf i = some (code, vendor, b)) ∧ (spdmCode b ≠ code ∨ (vendor ≠ 0 ∧ vendorCode b ≠ vendor)) :=
  ⟨.getDigests [0x13, 0x82, 0, 0], 0x81, 0, [0x13, 0x82, 0, 0], by decide +kernel⟩

theorem test_meets_SpdmRequests_3 : ∃ b : Bytes, ∃ s : State, (s.firmwareUp = true) ∧ (4 ≤ b.length) ∧ (b.length ≤ 4096) ∧ (byteAt b 0 = 0x10) ∧ (byteAt b 1 = 0x84) :=
  ⟨[0x10, 0x84, 0, 0], spdmS, by decide +kernel⟩

theorem test_meets_SpdmRequests_4 : ∃ b : Bytes, ∃ s : State, (s.firmwareUp = true) ∧ (s.sec.spdm.stage = 1) ∧ (20 ≤ b.length) ∧ (b.length ≤ 4096) ∧ (byteAt b 0 = 0x13) ∧ (byteAt b 1 = 0xE1) ∧ (42 ≤ leNat b 12 4) :=
  ⟨[0x13, 0xE1, 0, 0] ++ List.replicate 8 0 ++ [0, 1, 0, 0, 0, 0, 0, 0], { spdmS with sec := { spdm := { stage := 1 } } }, by decide +kernel⟩

theorem test_meets_SpdmRequests_5 : ∃ b : Bytes, ∃ s : State, (s.firmwareUp = true) ∧ (s.sec.spdm.stage = 2) ∧ (32 ≤ b.length) ∧ (b.length ≤ 4096) ∧ (leNat b 4 2 = b.length) ∧ (byteAt b 0 = 0x13) ∧ (byteAt b 1 = 0xE3) :=
  ⟨[0x13, 0xE3, 0, 0, 32, 0] ++ List.replicate 26 0, { spdmS with sec := { spdm := { stage := 2 } } }, by decide +kernel⟩

theorem test_meets_SpdmRequests_6 : ∃ i : Instr, ∃ code : Nat, ∃ vendor : Nat, ∃ b : Bytes, ∃ s : State, (spdmOf i = some (code, vendor, b)) ∧ (code ≠ 0x84) ∧ (code ≠ 0x86) ∧ (code ≠ 0xE1) ∧ (code ≠ 0xE3) ∧ (spdmCode b = code) ∧ (vendor = 0 ∨ vendorCode b = vendor) ∧ (s.firmwareUp = true) ∧ (s.sec.spdm.stage ≠ 3) ∧ (byteAt b 0 = 0x13) ∧ (4 ≤ b.length) ∧ (b.length ≤ 4096) :=
  ⟨.challenge ([0x13, 0x83, 0, 0]), 0x83, 0, [0x13, 0x83, 0, 0], imageS, by decide +kernel⟩

theorem test_meets_SpdmRequests_7 : ∃ b : Bytes, ∃ s : State, (s.spdmReady b) ∧ (byteAt b 1 = 0x81) :=
  ⟨[0x13, 0x81, 0, 0], spdmS, by decide +kernel⟩

theorem test_meets_SpdmRequests_8 : ∃ b : Bytes, ∃ s : State, (s.spdmReady b) ∧ (byteAt b 1 = 0x82) :=
  ⟨[0x13, 0x82, 0, 0, 0, 0, 64, 0], spdmS, by decide +kernel⟩

theorem test_meets_SpdmRequests_9 : ∃ b : Bytes, ∃ s : State, (s.spdmReady b) ∧ (byteAt b 1 = 0x83) :=
  ⟨[0x13, 0x83, 0, 0], spdmS, by decide +kernel⟩

theorem test_meets_SpdmRequests_10 : ∃ b : Bytes, ∃ s : State, (s.spdmReady b) ∧ (byteAt b 1 = 0xE0) :=
  ⟨[0x13, 0xE0, 0, 0], spdmS, by decide +kernel⟩

theorem test_meets_SpdmRequests_11 : ∃ b : Bytes, ∃ s : State, (s.spdmReady b) ∧ (byteAt b 1 = 0x86) ∧ (s.sec.spdm.chunk = []) :=
  ⟨[0x13, 0x86, 0, 0, 0, 0], spdmS, by decide +kernel⟩

theorem test_meets_SpdmRequests_12 : ∃ b : Bytes, ∃ s : State, (s.spdmReady b) ∧ (byteAt b 1 = 0xFE) ∧ (vendorCode b = 1) :=
  ⟨vendorMsg [1, 0], spdmS, by decide +kernel⟩

theorem test_meets_SpdmRequests_13 : ∃ b : Bytes, ∃ s : State, (s.spdmReady b) ∧ (byteAt b 1 = 0xFE) ∧ (vendorCode b = 3) :=
  ⟨vendorMsg [3, 0], spdmS, by decide +kernel⟩

theorem test_meets_SpdmRequests_14 : ∃ b : Bytes, ∃ m : Bytes, ∃ s : State, (s.spdmReady b) ∧ (byteAt b 1 = 0xFE) ∧ (vendorCode b = 2) ∧ (s.sec.spdm.lastSigned = some m) :=
  ⟨vendorMsg [2, 0], [1], { spdmS with sec := { spdm := { stage := 3, peerSize := 4096, lastSigned := some [1] } } }, by decide +kernel⟩

theorem test_meets_SpdmRequests_15 : ∃ b : Bytes, ∃ s : State, (s.spdmReady b) ∧ (byteAt b 1 = 0xFE) ∧ (vendorCode b = 4) :=
  ⟨vendorMsg ([4, 0] ++ List.replicate 481 0), spdmS, by decide +kernel⟩

theorem test_meets_SpdmRequests_16 : ∃ b : Bytes, ∃ s : State, (s.spdmReady b) ∧ (byteAt b 1 = 0xFE) ∧ (vendorCode b = 5) :=
  ⟨vendorMsg [5, 0], spdmS, by decide +kernel⟩

theorem test_meets_SpdmRequests_17 : ∃ i : Instr, ∃ code : Nat, ∃ vendor : Nat, ∃ b : Bytes, ∃ s : State, (spdmOf i = some (code, vendor, b)) ∧ (spdmCode b = code) ∧ (vendor = 0 ∨ vendorCode b = vendor) ∧ (s.firmwareUp = false) :=
  ⟨.getDigests [0x13, 0x81, 0, 0], 0x81, 0, [0x13, 0x81, 0, 0], startS, by decide +kernel⟩

theorem test_meets_SpdmRequests_18 : ∃ b : Bytes, ∃ s : State, (s.spdmReady b) ∧ (byteAt b 1 = 0x86) ∧ (s.sec.spdm.chunk ≠ []) ∧ (6 ≤ b.length) ∧ (byteAt b 3 = s.sec.spdm.chunkHandle) ∧ (leNat b 4 2 = s.sec.spdm.chunkSeq) :=
  ⟨[0x13, 0x86, 0, 0, 0, 0], { spdmS with sec := { spdm := { stage := 3, peerSize := 4096, chunk := [1, 2], chunkHandle := 0, chunkSeq := 0, chunkLen := 2 } } }, by decide +kernel⟩

theorem test_meets_SpdmRequests_19 : ∃ b : Bytes, ∃ x : Bytes, ∃ s : State, ∃ k : Nat, (s.spdmReady b) ∧ (byteAt b 1 = 0xFE) ∧ (vendorPayload b = some x) ∧ (leNat x 0 2 = 4) ∧ (leNat x 2 1 = k) ∧ (k < 4) ∧ (bit s.sec.ownerSet k = false) ∧ (slice x 435 16 = s.gondola.uid) ∧ (s.nonceOk (slice x 451 32) = true) ∧ (s.safe = false) ∧ ((s.owned = false ∧ (x.length = 483 ∨ x.length = 17107)) ∨ (s.owned = true ∧ x.length = 17107 ∧ zeros x 484 15 = true ∧ s.ownerGood (leNat x 483 1) = true ∧ sigFails (s.sec.ownerKeys.getD (leNat x 483 1) ([], [])) x 483 = 0)) :=
  ⟨vendorMsg ([4, 0, 1] ++ List.replicate 432 1 ++ ownS.gondola.uid ++ List.replicate 32 7), [4, 0, 1] ++ List.replicate 432 1 ++ ownS.gondola.uid ++ List.replicate 32 7, ownS, 1, by decide +kernel⟩

theorem test_meets_SpdmRequests_20 : ∃ b : Bytes, ∃ x : Bytes, ∃ s : State, ∃ k : Nat, (s.spdmReady b) ∧ (byteAt b 1 = 0xFE) ∧ (vendorPayload b = some x) ∧ (leNat x 0 2 = 5) ∧ (leNat x 2 1 = k) ∧ (k < 4) ∧ (bit s.sec.ownerSet k = true) ∧ (((upTo 4).any fun i => decide (i ≠ k) && s.ownerGood i) = true) ∧ (slice x 3 16 = s.gondola.uid) ∧ (s.nonceOk (slice x 19 32) = true) ∧ (s.safe = false) ∧ (x.length = 16675) ∧ (zeros x 52 15 = true) ∧ (s.ownerGood (leNat x 51 1) = true) :=
  ⟨vendorMsg revMsg, revMsg, { ownS with sec := { ownS.sec with ownerSet := 3 } }, 1, by decide +kernel, by decide +kernel, vendorPayload_msg revMsg (by decide +kernel) (by decide +kernel), by decide +kernel⟩

theorem test_meets_SpdmRequests_21 : ∃ req : Bytes, (spdmCode req = 0x84) :=
  ⟨rowReq 0x84 0, by decide +kernel⟩

theorem test_meets_SpdmRequests_22 : ∃ req : Bytes, (spdmCode req = 0xE1) :=
  ⟨rowReq 0xE1 0, by decide +kernel⟩

theorem test_meets_SpdmRequests_23 : ∃ req : Bytes, (spdmCode req = 0xE3) :=
  ⟨rowReq 0xE3 0, by decide +kernel⟩

theorem test_meets_SpdmRequests_24 : ∃ req : Bytes, (spdmCode req = 0x81) :=
  ⟨rowReq 0x81 0, by decide +kernel⟩

theorem test_meets_SpdmRequests_25 : ∃ req : Bytes, (spdmCode req = 0x82) :=
  ⟨rowReq 0x82 0, by decide +kernel⟩

theorem test_meets_SpdmRequests_26 : ∃ req : Bytes, (spdmCode req = 0x83) :=
  ⟨rowReq 0x83 0, by decide +kernel⟩

theorem test_meets_SpdmRequests_27 : ∃ req : Bytes, (spdmCode req = 0xE0) :=
  ⟨rowReq 0xE0 0, by decide +kernel⟩

theorem test_meets_SpdmRequests_28 : ∃ req : Bytes, (spdmCode req = 0x86) :=
  ⟨rowReq 0x86 0, by decide +kernel⟩

theorem test_meets_SpdmRequests_29 : ∃ req : Bytes, (spdmCode req = 0xFE ∧ vendorCode req = 1) :=
  ⟨rowReq 0xFE 1, by decide +kernel⟩

theorem test_meets_SpdmRequests_30 : ∃ req : Bytes, (spdmCode req = 0xFE ∧ vendorCode req = 2) :=
  ⟨rowReq 0xFE 2, by decide +kernel⟩

theorem test_meets_SpdmRequests_31 : ∃ req : Bytes, (spdmCode req = 0xFE ∧ vendorCode req = 3) :=
  ⟨rowReq 0xFE 3, by decide +kernel⟩

theorem test_meets_SpdmRequests_32 : ∃ req : Bytes, (spdmCode req = 0xFE ∧ vendorCode req = 4) :=
  ⟨rowReq 0xFE 4, by decide +kernel⟩

theorem test_meets_SpdmRequests_33 : ∃ req : Bytes, (spdmCode req = 0xFE ∧ vendorCode req = 5) :=
  ⟨rowReq 0xFE 5, by decide +kernel⟩

theorem test_meets_DebugFrames_1 : ∃ i : Instr, ∃ f : DbgFrame, ∃ hdr : Bool, ∃ write : Bool, ∃ wait : Bool, ∃ s : State, (dbgFrameOf s i = some (hdr, f, write, wait)) ∧ (f.fits) ∧ (s.dbgUp = false ∨ s.dbg.lineError = true) :=
  ⟨.rdNext true false, frameDbg 3 false 4 0 false, true, false, false, startS, by decide +kernel⟩

theorem test_meets_DebugFrames_2 : ∃ i : Instr, ∃ f : DbgFrame, ∃ hdr : Bool, ∃ write : Bool, ∃ wait : Bool, ∃ s : State, (dbgFrameOf s i = some (hdr, f, write, wait)) ∧ (f.fits) ∧ (s.lineOk) ∧ (hdr = false) :=
  ⟨.rdNext false false, frameDbg 3 false 4 0 false, false, false, false, dbgS, by decide +kernel⟩

theorem test_meets_DebugFrames_3 : ∃ i : Instr, ∃ f : DbgFrame, ∃ hdr : Bool, ∃ write : Bool, ∃ wait : Bool, ∃ s : State, (dbgFrameOf s i = some (hdr, f, write, wait)) ∧ (f.fits) ∧ (s.lineOk) ∧ (hdr = true) ∧ (s.dbg.waiting.isSome = true) ∧ (s.dbg.waiting ≠ some f) :=
  ⟨.rdNext true false, frameDbg 3 false 4 0 false, true, false, false, { dbgS with dbg := { waiting := some (frameDbg 1 false 0 0 false) } }, by decide +kernel⟩

theorem test_meets_DebugFrames_4 : ∃ i : Instr, ∃ f : DbgFrame, ∃ hdr : Bool, ∃ write : Bool, ∃ wait : Bool, ∃ s : State, (dbgFrameOf s i = some (hdr, f, write, wait)) ∧ (f.fits) ∧ (s.lineOk) ∧ (hdr = true) ∧ (s.dbg.waiting = none) ∧ (write = true) ∧ (¬ f.odd) :=
  ⟨.wrNext true 1 true false, frameDbg 4 false 4 1 true, true, true, false, dbgS, by decide +kernel⟩

theorem test_meets_DebugFrames_5 : ∃ i : Instr, ∃ f : DbgFrame, ∃ hdr : Bool, ∃ write : Bool, ∃ wait : Bool, ∃ s : State, ∃ b : WinBlock, ∃ o : Nat, (dbgFrameOf s i = some (hdr, f, write, wait)) ∧ (f.fits) ∧ (s.lineOk) ∧ (hdr = true) ∧ (s.dbg.waiting = none) ∧ (write = false ∨ f.odd) ∧ (f.wide = false) ∧ (winBlock (f.addr.toNat / 4 * 4) = some (b, o)) ∧ (s.dbgAllows (some (b, o)) write f.data = false) :=
  ⟨.wrNext true 1 false false, frameDbg 4 false 4 1 false, true, true, false, lockedS, .gon, 4, by decide +kernel⟩

theorem test_meets_DebugFrames_6 : ∃ i : Instr, ∃ f : DbgFrame, ∃ hdr : Bool, ∃ write : Bool, ∃ wait : Bool, ∃ s : State, ∃ b : WinBlock, ∃ o : Nat, (dbgFrameOf s i = some (hdr, f, write, wait)) ∧ (f.fits) ∧ (s.lineOk) ∧ (hdr = true) ∧ (s.dbg.waiting = none) ∧ (write = false ∨ f.odd) ∧ (f.wide = false) ∧ (winBlock (f.addr.toNat / 4 * 4) = some (b, o)) ∧ (s.dbgAllows (some (b, o)) write f.data = true) ∧ (f.addr.toNat % 4 ≠ 0) :=
  ⟨.rd true false 6 false, frameDbg 1 false 6 0 false, true, false, false, dbgS, .gon, 4, by decide +kernel⟩

theorem test_meets_DebugFrames_7 : ∃ i : Instr, ∃ f : DbgFrame, ∃ hdr : Bool, ∃ write : Bool, ∃ wait : Bool, ∃ s : State, ∃ b : WinBlock, ∃ o : Nat, (dbgFrameOf s i = some (hdr, f, write, wait)) ∧ (f.fits) ∧ (s.lineOk) ∧ (hdr = true) ∧ (s.dbg.waiting = none) ∧ (write = false ∨ f.odd) ∧ (f.wide = false) ∧ (winBlock f.addr.toNat = some (b, o)) ∧ (s.dbgAllows (some (b, o)) write f.data = true) ∧ (f.addr.toNat % 4 = 0) ∧ (wait = true) :=
  ⟨.rd true false 4 true, frameDbg 1 false 4 0 false, true, false, true, dbgS, .gon, 4, by decide +kernel⟩

theorem test_meets_DebugFrames_8 : ∃ i : Instr, ∃ f : DbgFrame, ∃ hdr : Bool, ∃ write : Bool, ∃ wait : Bool, ∃ s : State, ∃ b : WinBlock, ∃ o : Nat, (dbgFrameOf s i = some (hdr, f, write, wait)) ∧ (f.fits) ∧ (s.lineOk) ∧ (hdr = true) ∧ (s.dbg.waiting = none) ∧ (write = true) ∧ (f.odd) ∧ (f.wide = false) ∧ (winBlock f.addr.toNat = some (b, o)) ∧ (s.dbgAllows (some (b, o)) true f.data = true) ∧ (f.addr.toNat % 4 = 0) ∧ (wait = false) :=
  ⟨.wr true false 4 1 false false, frameDbg 2 false 4 1 false, true, true, false, dbgS, .gon, 4, by decide +kernel⟩

theorem test_meets_DebugFrames_9 : ∃ s : State, (s.lineOk) ∧ (s.dbg.waiting = none) :=
  ⟨lockedS, by decide +kernel⟩

theorem test_meets_DebugFrames_10 : ∃ wide : Bool, ∃ a : BitVec 64, (wide = false) ∧ (2 ^ 32 ≤ a.toNat) :=
  ⟨false, 0x100000000, by decide +kernel⟩

theorem test_meets_DebugFrames_11 : ∃ s : State, ∃ a : BitVec 64, (s.lineOk) ∧ (s.dbg.waiting = none) ∧ (s.dbgAllows none false 0 = true) ∧ (a.toNat % 4 = 0) ∧ (rankOf a ≠ s.rank) :=
  ⟨dbgS, 0xFFFF000000000000, by decide +kernel⟩

theorem test_meets_DebugFrames_12 : ∃ s : State, ∃ high : Nat, ∃ low : Nat, (s.dbgUp = true) ∧ (56 ≤ high) ∧ (2 ≤ low) :=
  ⟨dbgS, 56, 2, by decide +kernel⟩

theorem test_meets_DebugFrames_13 : ∃ high : Nat, ∃ low : Nat, (high < 56 ∨ low < 2) :=
  ⟨55, 2, by decide +kernel⟩

theorem test_meets_DebugFrames_14 : ∃ wide : Bool, ∃ addr : W64, (wide ∨ addr.toNat < 2 ^ 32) :=
  ⟨true, 0, by decide +kernel⟩

theorem test_meets_DebugFrames_15 : ∃ wide : Bool, ∃ addr : W64, (wide ∨ addr.toNat < 2 ^ 32) :=
  ⟨true, 0, by decide +kernel⟩

theorem test_meets_DebugRegisters_1 : ∃ i : Instr, ∃ o : Nat, ∃ v : W32, ∃ s : State, (dbgWriteOf i = some (o, v)) ∧ (o ≠ 0x18) ∧ (v ≠ 2 ∨ o ≠ 8) ∧ (s.dbgUp = false ∨ s.dbgAllows (some (.dbg, o)) true v = false) :=
  ⟨.clrFault, 8, 3, lockedS, by decide +kernel⟩

theorem test_meets_DebugRegisters_2 : ∃ s : State, (s.dbgUp = false ∨ s.sec.unlocked = false) :=
  ⟨lockedS, by decide +kernel⟩

theorem test_meets_DebugRegisters_3 : ∃ s : State, (s.firmwareUp = true) ∧ (s.dbg.checking = false) ∧ (s.sec.fails < 16) :=
  ⟨lockedS, by decide +kernel⟩

theorem test_meets_DebugRegisters_4 : ∃ s : State, (s.firmwareUp = true) ∧ (s.dbg.checking = false) ∧ (16 ≤ s.sec.fails) :=
  ⟨{ lockedS with sec := { fails := 16 } }, by decide +kernel⟩

theorem test_meets_DebugRegisters_5 : ∃ s : State, (s.dbg.checking = true) :=
  ⟨{ lockedS with dbg := { checking := true } }, by decide +kernel⟩

theorem test_meets_DebugRegisters_6 : ∃ s : State, (s.dbgUp = true) ∧ (s.dbgAllows (some (.dbg, 8)) true 2 = true) :=
  ⟨dbgS, by decide +kernel⟩

theorem test_meets_DebugRegisters_7 : ∃ s : State, (s.dbgUp = true) ∧ (s.dbgAllows (some (.dbg, 8)) true 3 = true) :=
  ⟨dbgS, by decide +kernel⟩

theorem test_meets_DebugRegisters_8 : ∃ s : State, (s.phase = .recovery) :=
  ⟨recoveryS, by decide +kernel⟩

theorem test_meets_DebugRegisters_9 : ∃ s : State, (s.phase = .recovery) ∧ (s.dbg.rcv.length ≠ s.dbg.rcvLen.toNat) :=
  ⟨recoveryS, by decide +kernel⟩

theorem test_meets_DebugRegisters_10 : ∃ s : State, ∃ u : State, (s.phase = .recovery) ∧ (s.dbg.rcv.length = s.dbg.rcvLen.toNat) ∧ (s.dbg.rcvLen.toNat % 4 = 0) ∧ (s.dbg.rcvLen.toNat ≤ 67108864) ∧ (u = { s with dbg := { s.dbg with rcv := [] }, sec := { s.sec with slots := setAt s.sec.slots 0 (some s.dbg.rcv) } }) :=
  ⟨{ recoveryS with dbg := { rcvLen := 4, rcv := [1, 2, 3, 4] } }, { recoveryS with dbg := { rcvLen := 4, rcv := [] }, sec := { recoveryS.sec with slots := setAt recoveryS.sec.slots 0 (some [1, 2, 3, 4]) } }, by decide +kernel⟩

theorem test_meets_DebugRegisters_11 : ∃ v : W32, ∃ s : State, (s.dbgUp = true) ∧ (s.dbgAllows (some (.dbg, 0x14)) true v = true) :=
  ⟨1, dbgS, by decide +kernel⟩

theorem test_meets_DebugRegisters_12 : ∃ v : W32, ∃ s : State, (s.dbgUp = true) ∧ (s.dbgAllows (some (.dbg, 0x14)) true v = true) :=
  ⟨1, dbgS, by decide +kernel⟩

theorem test_meets_DebugRegisters_13 : ∃ v : W32, ∃ s : State, (s.dbgUp = true) ∧ (s.dbgAllows (some (.dbg, 0x18)) true v = true) :=
  ⟨1, haltedS, by decide +kernel⟩

theorem test_meets_DebugRegisters_14 : ∃ s : State, (s.host.open_ = []) :=
  ⟨haltedS, by decide +kernel⟩

theorem test_meets_DebugRegisters_15 : ∃ v : W32, ∃ s : State, (s.dbgUp = true) ∧ (s.dbgAllows (some (.dbg, 0x1C)) true v = true) :=
  ⟨1, haltedS, by decide +kernel⟩

theorem test_meets_DebugRegisters_16 : ∃ k : Fin 4, ∃ pc : W32, ∃ j : Nat, ∃ x : Core, ∃ s : State, (s.dbgUp = true) ∧ (j < 8) ∧ (bit (s.dbg.coreBp.getD (8 * k.val + j) 0) 0 = true) ∧ (bits (s.dbg.coreBp.getD (8 * k.val + j) 0) 31 2 = bits pc 31 2) ∧ (s.gondola.cores[k.val]? = some x) ∧ (x.halted = false) ∧ (x.restarting = false) :=
  ⟨1, 0x1000, 2, {}, { dbgS with dbg := { coreBp := (List.replicate 32 0).set 10 0x1001 } }, by decide +kernel⟩

theorem test_meets_DebugRegisters_17 : ∃ c : Fin 8, ∃ j : Nat, ∃ k : Cluster, ∃ r : Running, ∃ s : State, (s.dbgUp = true) ∧ (j < 4) ∧ (s.dbg.sqBp.getD (4 * c.val + j) 0 = BitVec.ofNat 32 (0x80000000 + k.seq.pc)) ∧ (k.seq.pc < 4096) ∧ (s.clusters[c.val]? = some k) ∧ (k.halted = false) ∧ (k.ic.busy = false) ∧ (k.seq.run = some r) ∧ (r.ended = false) :=
  ⟨1, 2, bpK, bpRun, bpS, by decide +kernel⟩

theorem test_meets_DebugRegisters_18 : ∃ s : State, (s.dbgUp = false) :=
  ⟨startS, by decide +kernel⟩

theorem test_meets_DebugRegisters_19 : ∃ s : State, (s.powered = true) :=
  ⟨imageS, by decide +kernel⟩

theorem test_meets_DebugRegisters_20 : ∃ s : State, (s.powered = false) :=
  ⟨offS, by decide +kernel⟩

theorem test_meets_StepTakesTheFront_1 : ∃ c : Instr, ∃ rest : List Instr, ∃ s : State, (s.pending = c :: rest) :=
  ⟨.boot, [], { State.reset with pending := [.boot] }, by decide +kernel⟩

theorem test_meets_StepTakesTheFront_2 : ∃ s : State, (s.pending = []) :=
  ⟨State.reset, by decide +kernel⟩

theorem test_meets_OnlyIllFormedCommandsStop_1 : ∃ c : Instr, (c.wellFormed = true) :=
  ⟨.boot, by decide +kernel⟩

theorem test_meets_OnlyIllFormedCommandsStop_2 : ∃ c : Instr, (c.wellFormed = false) :=
  ⟨.sensorSample [], by decide +kernel⟩

theorem test_meets_QueueRunsToItsEnd_1 : ∃ c : Instr, ∃ s : State, ∃ t : State, (exec c s = .next t) :=
  ⟨.railTimeout 1, imageS, imageS, by rfl⟩

theorem test_meets_QueueRunsToItsEnd_2 : ∃ s : State, (∀ c ∈ s.pending, c.wellFormed = true) :=
  ⟨{ State.reset with pending := [.boot, .powerGood] }, by decide +kernel⟩

theorem test_meets_StepsKeepTheBlocks_1 : ∃ s : State, ∃ t : State, (s.Shape) ∧ (step s = .next t) :=
  ⟨State.reset, State.reset, by refine ⟨by decide +kernel, by rfl⟩⟩

theorem test_meets_StepsKeepCanonicalForm_1 : ∃ s : State, ∃ t : State, (s.Canonical) ∧ (step s = .next t) :=
  ⟨State.reset, State.reset, by refine ⟨by decide +kernel, by rfl⟩⟩

theorem test_meets_IntegerResults_1 : ∃ fd : Nat, ∃ lo : Int, ∃ hi : Int, (intLimits fd = some (lo, hi)) :=
  ⟨8, -2147483648, 2147483647, by decide +kernel⟩

theorem test_meets_IntegerResults_2 : ∃ fd : Nat, ∃ lo : Int, ∃ hi : Int, (intLimits fd = some (lo, hi)) :=
  ⟨11, 0, 255, by decide +kernel⟩

theorem test_meets_SketchDistance_1 : ∃ x : Bytes, ∃ y : Bytes, (x.length = 128) ∧ (y.length = 128) :=
  ⟨List.replicate 128 0, List.replicate 128 1, by decide +kernel⟩

end Sys2Proof.Machine
end

