-- ==== Sys2Proof/Tests/Slice0.lean ====
section
/-! SUPPORT. Tests: the checks of WellFormed with a term that each refuses, and single steps and conversions whose results the spec states. -/

namespace Sys2Proof.Machine

/-! An ill-formed term for each check of WellFormed, and a well-formed one beside it. -/

theorem test_refused_lengths : (([.sensorSample [0], .registerAccessWrite adm 0 0 2 0 [1], .registerWrite 5 0 0, .passSubmit [] [] fwSrc, .calibrationRead 0 0 [0, 0], .faultReport (flt 0x16 0), .rd true false 0x100000000 false, .wr true false 0x100000000 0 false false] : List Instr).all fun i => !i.wellFormed) = true := by decide +kernel

theorem test_accepted_lengths : (([.sensorSample (List.replicate 8 0), .registerAccessWrite adm 0 0 2 0 [1, 2], .registerWrite 4 0 0, .passSubmit (List.replicate 128 0) [] fwSrc, .calibrationRead 0 0 (List.replicate 8 0), .faultReport (flt 0x15 0), .rd true true 0x100000000 false, .wr true false 0xFFFFFFFF 0 false false] : List Instr).all fun i => i.wellFormed) = true := by decide +kernel

/-- Operation codes of the program words (06 R134; 07 R162). -/
theorem test_refused_words : (([.vnop 0 0x400000000000000, .vsetvl 0 0x0, .vld 0 0xc00000000000000, .vst 0 0x800000000000000, .vgather 0 0x1400000000000000, .vperm 0 0x1000000000000000, .vbcast 0 0x1c00000000000000, .vcvt 0 0x1800000000000000, .vadd 0 0x2400000000000000, .vmul 0 0x2000000000000000, .vfma 0 0x2c00000000000000, .vcmp 0 0x2800000000000000, .vsel 0 0x3400000000000000, .vmin 0 0x3000000000000000, .vmax 0 0x3c00000000000000, .vmlog 0 0x3800000000000000, .vred 0 0x4400000000000000, .mwait 0 0x8000000000000000, .sli 0 0x8c00000000000000, .sadd 0 0x8800000000000000, .sld 0 0x9400000000000000, .br 0 0x9000000000000000, .spawn 0 0x9c00000000000000, .signal 0 0x9800000000000000, .mrun 0 ⟨0, 0, 0, 0⟩] : List Instr).all fun i => !i.wellFormed) = true := by decide +kernel

theorem test_accepted_words : (([.vnop 0 0x0, .vsetvl 0 0x400000000000000, .vld 0 0x800000000000000, .vst 0 0xc00000000000000, .vgather 0 0x1000000000000000, .vperm 0 0x1400000000000000, .vbcast 0 0x1800000000000000, .vcvt 0 0x1c00000000000000, .vadd 0 0x2000000000000000, .vmul 0 0x2400000000000000, .vfma 0 0x2800000000000000, .vcmp 0 0x2c00000000000000, .vsel 0 0x3000000000000000, .vmin 0 0x3400000000000000, .vmax 0 0x3800000000000000, .vmlog 0 0x3c00000000000000, .vred 0 0x4000000000000000, .mwait 0 0x8400000000000000, .sli 0 0x8800000000000000, .sadd 0 0x8c00000000000000, .sld 0 0x9000000000000000, .br 0 0x9400000000000000, .spawn 0 0x9800000000000000, .signal 0 0x9c00000000000000, .mrun 0 ⟨0x8000000000000000, 0, 0, 0⟩] : List Instr).all fun i => i.wellFormed) = true := by decide +kernel

/-- OP of the parameter blocks of Model Load and Set Filter (15 R361, R364). -/
theorem test_refused_blocks : (([.modelLoadBegin hdr1 (List.replicate 128 0 |>.set 0 2), .modelLoadData hdr1 (List.replicate 128 0 |>.set 0 3), .modelLoadCommit hdr1 (List.replicate 128 0 |>.set 0 4), .modelLoadAddScale hdr1 (List.replicate 128 0 |>.set 0 5), .modelLoadAbandon hdr1 (List.replicate 128 0 |>.set 0 1), .filterCreate hdr1 (List.replicate 128 0 |>.set 10 2), .filterAddIds hdr1 (List.replicate 128 0 |>.set 10 3), .filterRemoveIds hdr1 (List.replicate 128 0 |>.set 10 4), .filterFillAll hdr1 (List.replicate 128 0 |>.set 10 5), .filterCombine hdr1 (List.replicate 128 0 |>.set 10 6), .filterDestroy hdr1 (List.replicate 128 0 |>.set 10 1)] : List Instr).all fun i => !i.wellFormed) = true := by decide +kernel

theorem test_accepted_blocks : (([.modelLoadBegin hdr1 (List.replicate 128 0 |>.set 0 1), .modelLoadData hdr1 (List.replicate 128 0 |>.set 0 2), .modelLoadCommit hdr1 (List.replicate 128 0 |>.set 0 3), .modelLoadAddScale hdr1 (List.replicate 128 0 |>.set 0 4), .modelLoadAbandon hdr1 (List.replicate 128 0 |>.set 0 5), .filterCreate hdr1 (List.replicate 128 0 |>.set 10 1), .filterAddIds hdr1 (List.replicate 128 0 |>.set 10 2), .filterRemoveIds hdr1 (List.replicate 128 0 |>.set 10 3), .filterFillAll hdr1 (List.replicate 128 0 |>.set 10 4), .filterCombine hdr1 (List.replicate 128 0 |>.set 10 5), .filterDestroy hdr1 (List.replicate 128 0 |>.set 10 6)] : List Instr).all fun i => i.wellFormed) = true := by decide +kernel

/-- Request codes of SPDM and vendor-defined requests (19 R449, R450). -/
theorem test_refused_requests : (([.getVersion [0x13, 0x94, 0, 0], .getCapabilities [0x13, 0xf1, 0, 0], .negotiateAlgorithms [0x13, 0xf3, 0, 0], .getDigests [0x13, 0x91, 0, 0], .getCertificate [0x13, 0x92, 0, 0], .challenge [0x13, 0x93, 0, 0], .getMeasurements [0x13, 0xf0, 0, 0], .chunkGet [0x13, 0x96, 0, 0], .getPqCert [0x13, 0xE0, 0, 0], .getPqSignature [0x13, 0xE0, 0, 0], .getNonce [0x13, 0xE0, 0, 0], .ownerSet [0x13, 0xE0, 0, 0], .ownerRevoke [0x13, 0xE0, 0, 0], .getPqCert (vendorMsg [2, 0]), .getPqSignature (vendorMsg [3, 0]), .getNonce (vendorMsg [4, 0]), .ownerSet (vendorMsg [5, 0]), .ownerRevoke (vendorMsg [1, 0])] : List Instr).all fun i => !i.wellFormed) = true := by decide +kernel

theorem test_accepted_requests : (([.getVersion [0x13, 0x84, 0, 0], .getCapabilities [0x13, 0xe1, 0, 0], .negotiateAlgorithms [0x13, 0xe3, 0, 0], .getDigests [0x13, 0x81, 0, 0], .getCertificate [0x13, 0x82, 0, 0], .challenge [0x13, 0x83, 0, 0], .getMeasurements [0x13, 0xe0, 0, 0], .chunkGet [0x13, 0x86, 0, 0], .getPqCert (vendorMsg [1, 0]), .getPqSignature (vendorMsg [2, 0]), .getNonce (vendorMsg [3, 0]), .ownerSet (vendorMsg [4, 0]), .ownerRevoke (vendorMsg [5, 0])] : List Instr).all fun i => i.wellFormed) = true := by decide +kernel

/-! Steps -/

/-- The front of the queue runs, and the rest waits. -/
theorem test_step_front : (match step { seqS with pending := [.railTimeout 2, .boot] } with | .next t => decide (t.pending = [.boot]) && decide (t.phase = .stopped) && decide (t.power.rail = 3) | _ => false) = true := by decide +kernel

theorem test_step_idle : (match step State.reset with | .next t => decide (t = State.reset) | _ => false) = true := by decide +kernel

theorem test_step_illformed : (match step { State.reset with pending := [.sensorSample []] } with | .fault .illFormed => true | _ => false) = true := by decide +kernel

/-- The examples of 16 R373, and the corner pairs. -/
theorem test_pam6_examples : pamOf 0 = (0, 1) ∧ pamOf 4 = (1, 0) ∧ pamOf 31 = (5, 4) ∧ pamValue 0 5 = none ∧ pamValue 5 4 = some 31 := by decide +kernel

/-- 20 R458, R460: power-good starts the frame counters anew; 20 R475 PWR_RST_CAUSE. -/
theorem test_power_good : (match exec .powerGood seqS with | .next t => decide (t.power.cause = 1) && decide (t.phase = .starting) | _ => false) = true := by decide +kernel

/-! Number formats: the worked table of 04 after R104 (FP8 E4M3, OVF_IEEE 0), and its E5M2 example -/

theorem test_e4m3_table : ([(0x3E99999A, 0x2A, false), (0xBE99999A, 0xAA, false), (0x41880000, 0x58, false), (0x41980000, 0x5A, false), (0x43960000, 0x79, false), (0x43E80000, 0x7E, false), (0x43FA0000, 0x7E, true), (0x7F800000, 0x7E, true), (0x3A83126F, 0x01, false), (0x3A6BEDFA, 0x00, false)] : List (Nat × Nat × Bool)).all (fun x => convert 3 false false (dec32 (BitVec.ofNat 32 x.1)) == (x.2.1, (x.2.2, false))) = true := by decide +kernel

theorem test_e4m3_nan : (convert 3 false false (dec32 0x7FC00000)).1 = 0x7F := by decide +kernel

theorem test_e5m2_ieee : [0x476A6000, 0x47700000, 0x7F800000].map (fun x => (convert 4 false true (dec32 (BitVec.ofNat 32 x)))) = [(0x7B, (false, false)), (0x7C, (true, false)), (0x7C, (false, false))] := by decide +kernel

theorem test_e5m2_saturates : convert 4 false false (dec32 0x47700000) = (0x7B, (true, false)) ∧ (convert 4 false false (dec32 0x7FC00000)).1 = 0x7E := by decide +kernel

/-- 04, the packing example: FP4 pair, and four FP6 elements in three bytes. -/
theorem test_packing : packRow 7 [2, 0xD] = [0xD2] ∧ packRow 6 [1, 2, 3, 0x3F] = [0x81, 0x30, 0xFC] := by decide +kernel

/-- INT32 chains give the nearer limit (04 R98). -/
theorem test_acc_sat : clampInt (-2147483648) 2147483647 (2147483647 + 1) = (2147483647, true) ∧ clampInt (-2147483648) 2147483647 (-2147483648 + 1) = (-2147483647, false) := by decide +kernel

/-- 06, the VRED example: 10^8, 1.0, -10^8, (absent), 3.0 give 3.0. -/
theorem test_fp32_order : fadd (fadd 0x4CBEBC20 0x3F800000) (fadd 0xCCBEBC20 0) = 0 ∧ fadd 0 0x40400000 = 0x40400000 := by decide +kernel

/-! The window: the worked addresses of 22 -/

theorem test_window_spc : winBlock 0x01158020 = some (.spc 5, 0x18020) := by decide +kernel

theorem test_window_pwr : winBlock 0x05000058 = some (.pwr, 0x58) := by decide +kernel

theorem test_window_gaps : [0x00300000, 0x00FFFFFC, 0x01200000, 0x013FFFFC, 0x08000000].map winBlock = [none, none, none, none, none] := by decide +kernel

/-- 22, the ten registers read at FRM: the number's two words, the group offset. -/
def frmS : State := { imageS with frame := { imageS.frame with num := 0x3FFFFFFFF, grpOfs := 0x1234, syncState := 2 } }

theorem test_frm_example : [0x00, 0x04, 0x08, 0x0C, 0x10, 0x14].map (fun o => frmS.readReg .frm o) = [0x7D0, 0xA, 0xFFFFFFFF, 3, 0x1234, 0] := by decide +kernel

/-! The debug port: the worked header of 21 -/

/-- A read of DRG_FIRST_INFO by an unlocked port of scope READ is answered OK with the register. -/
theorem test_debug_read : (match exec (.rd true false 0x04000010 false) { imageS with sec := { unlocked := true, scope := 2 } } with | .next t => decide (t.dbg.answers = [{ ack := .ok, data := some 0 }]) | _ => false) = true := by decide +kernel

/-- The same read while locked. -/
theorem test_debug_locked : (match exec (.rd true false 0x04000010 false) imageS with | .next t => decide (t.dbg.answers = [{ ack := .denied, data := none }]) | _ => false) = true := by decide +kernel

/-! The die service port: the row word of 13's example -/

theorem test_row_word : bits (0x011F412C : W32) 24 23 = 2 ∧ blockOfRow 0x011F412C = 1000 ∧ bits (0x011F412C : W32) 10 0 = 300 ∧ dieOfWord 3 0xA5 = 8 * 101 + 5 := by decide +kernel

/-! Tables of codes -/

/-- CRC-32 of IEEE 802.3 of the nine bytes 31h to 39h is CBF43926h (the catalogue's check value). -/
theorem test_crc32 : crc32 [0x31, 0x32, 0x33, 0x34, 0x35, 0x36, 0x37, 0x38, 0x39] = 0xCBF43926 := by decide +kernel

/-- R268: the distance of a sketch from its complement. -/
theorem test_sketch : sketchDist (List.replicate 128 0xFF) (List.replicate 128 0) = 1024 ∧ sketchDist (List.replicate 128 0x0F) (List.replicate 128 0xFF) = 512 := by decide +kernel

/-- The table gives no row bits. -/
theorem test_no_words : decodeTableWord 32 0 = none ∧ (State.reset.withFetchWord 32 7).pending = [] := by decide

/-- The interface the host reads. -/
theorem test_core : (match Sys2Proof.core.step Sys2Proof.core.reset with | .next _ => true | _ => false) = true := by decide +kernel

end Sys2Proof.Machine
end

section
/-! SUPPORT. What refuses a Cianber I/O command before it starts (15 R352, R357), and the statement on it. -/

namespace Sys2Proof.Machine

/-- A Cianber command whose header, data or module state is refused completes with the refusal's status and does nothing else (15 R352, R357). -/
theorem startIo_of_cianberRefusal {i : Instr} {h : IoHdr} {s : State} {t : Status} (hi : ioOf i = some (h, false))
    (hr : s.cianberRefusal h (searchCmd i) (ioBlock i).length = some t) : startIo i s = s.complete h.id t := by
  unfold ioOf at hi
  split at hi <;> cases hi
  all_goals
    simp only [searchCmd, ioBlock] at hr
    simp only [startIo, hr]

section
variable {s : State} {h : IoHdr} {search : Bool} {len : Nat} {m : Image}

theorem cianberRefusal_safe (hs : s.safe = true) : s.cianberRefusal h search len = some stInterrupted := by
  simp [State.cianberRefusal, hs]

theorem cianberRefusal_bare (hs : s.safe = false) (hm : s.loft.image = none) :
    s.cianberRefusal h search len = some stNotLoaded := by
  simp [State.cianberRefusal, hs, hm]

/-- Under an image with no query buffers a search command finds no structure loaded (03 R56). -/
theorem cianberRefusal_no_buffers (hs : s.safe = false) (hm : s.loft.image = some m) (hq : m.qryStage = 0) :
    s.cianberRefusal h true len = some stNotLoaded := by
  simp [State.cianberRefusal, hs, hm, hq]

/-- With an image and its buffers, what is refused next is a module outside its group, then the header (R357). -/
theorem cianberRefusal_loaded (hs : s.safe = false) (hm : s.loft.image = some m) (hq : m.qryStage ≠ 0 ∨ search = false) :
    s.cianberRefusal h search len =
      if s.outside then some stSequence
      else if 2 ≤ h.cdw3.toNat then some stInvalidField
      else if h.sglOk = false then some stSgl
      else if h.nsid ≠ 0 ∨ s.hasTenant h.tenant.toNat = false ∨ 67108864 < len ∨ 67108864 < h.resLen then some stInvalidField
      else none := by
  have hb : (search && decide (m.qryStage = 0)) = false := by
    rcases hq with hq | hq <;> simp [hq]
  have hc : h.cdw3.toNat / 2 ≠ 0 ↔ 2 ≤ h.cdw3.toNat := by omega
  simp only [State.cianberRefusal, hs, hm, hb, hc, Bool.not_eq_true', Bool.false_eq_true, if_false]

end

/-- Settles O23: every clause is one case of `cianberRefusal`, read off in its order of checks. -/
theorem cianberRefusals : Obligations.CianberRefusals := by
  unfold Obligations.CianberRefusals
  refine ⟨fun i h s hi hs => ?_, fun i h s hi hs hm => ?_, fun i h s m hi hsearch hs hm hq => ?_,
    fun i h s m hi hs hm hq ho => ?_, fun i h s m hi hs hm hq ho hbad => ?_⟩
  · exact startIo_of_cianberRefusal hi (cianberRefusal_safe hs)
  · exact startIo_of_cianberRefusal hi (cianberRefusal_bare hs hm)
  · exact startIo_of_cianberRefusal hi (hsearch ▸ cianberRefusal_no_buffers hs hm hq)
  · refine startIo_of_cianberRefusal hi ?_
    simp [cianberRefusal_loaded hs hm hq, ho]
  · refine startIo_of_cianberRefusal hi ?_
    rw [cianberRefusal_loaded hs hm hq, ho, if_neg Bool.false_ne_true]
    split_ifs with h2 hsgl hf
    · rfl
    · rfl
    · rfl
    · exact absurd (hbad.resolve_left h2 |>.resolve_left hsgl) hf

end Sys2Proof.Machine
end

section
/-! SUPPORT. The numbers of the module's blocks (00 R8), and what updates, branches and folds do to them. -/

namespace Sys2Proof.Machine

/-- How many clusters, Envelope controllers, ports, lanes and management cores the state holds (00 R8). -/
def State.blocks (s : State) : Nat × Nat × Nat × Nat × Nat :=
  (s.clusters.length, s.media.ctrls.length, s.tether.ports.length, s.tether.lanes.length, s.gondola.cores.length)

/-- The numbers of blocks that the module has. -/
abbrev moduleBlocks : Nat × Nat × Nat × Nat × Nat := (8, 8, 8, 32, 4)

theorem State.shape_iff (s : State) : s.Shape ↔ s.blocks = moduleBlocks := by
  simp [State.Shape, State.blocks]

@[simp ↓] theorem State.blocks_fold (s : State) :
    (s.clusters.length, s.media.ctrls.length, s.tether.ports.length, s.tether.lanes.length, s.gondola.cores.length) = s.blocks := by rfl

/-- An update that writes fields out keeps the blocks where it keeps the five lists' lengths. -/
@[simp ↓] theorem State.blocks_mk (pending phase frame loft clusters sched sparReset reel library bridle search media host tether group drogue parity gondola sec power dbg draws) :
    (State.mk pending phase frame loft clusters sched sparReset reel library bridle search media host tether group drogue parity gondola sec power dbg draws).blocks =
      (clusters.length, media.ctrls.length, tether.ports.length, tether.lanes.length, gondola.cores.length) := by rfl

section
variable {β : Type} (c : Prop) [Decidable c]

@[simp ↓] theorem ite_blocks (s t : State) : (if c then s else t).blocks = if c then s.blocks else t.blocks := apply_ite _ _ _ _
theorem ite_keeps {n : Nat × Nat × Nat × Nat × Nat} {s t : State} (hs : c → s.blocks = n) (ht : ¬c → t.blocks = n) : (if c then s else t).blocks = n := by
  split
  · exact hs ‹_›
  · exact ht ‹_›

@[simp ↓] theorem ite_snd_blocks (s t : β × State) : (if c then s else t).2.blocks = if c then s.2.blocks else t.2.blocks := by split <;> rfl
@[simp ↓] theorem ite_fst_blocks (s t : State × β) : (if c then s else t).1.blocks = if c then s.1.blocks else t.1.blocks := by split <;> rfl

end

/-- A pair's state keeps its blocks under the name that a match gives it. -/
theorem blocks_of_eq {β : Type} {p : β × State} {b : β} {t : State} {n : Nat × Nat × Nat × Nat × Nat} (h : p = (b, t))
    (hp : p.2.blocks = n) : t.blocks = n := by
  subst h; exact hp

/-- What every step of a fold keeps, the fold keeps; `g` reads the blocks out of what the fold carries. -/
theorem foldl_keeps_of {σ α δ : Type} {g : σ → δ} {n : δ} {f : σ → α → σ} (h : ∀ x a, g x = n → g (f x a) = n) (l : List α)
    (x : σ) (hx : g x = n) : g (l.foldl f x) = n := by
  induction l generalizing x with
  | nil => exact hx
  | cons a l ih => exact ih _ (h x a hx)

section
variable {α β γ : Type}

theorem foldl_keeps {n : Nat × Nat × Nat × Nat × Nat} {f : State → α → State} (h : ∀ s a, s.blocks = n → (f s a).blocks = n)
    (l : List α) (s : State) (hs : s.blocks = n) : (l.foldl f s).blocks = n :=
  foldl_keeps_of (g := State.blocks) h l s hs

theorem foldl_snd_keeps {n : Nat × Nat × Nat × Nat × Nat} {f : β × State → α → β × State}
    (h : ∀ x a, x.2.blocks = n → (f x a).2.blocks = n) (l : List α) (x : β × State) (hx : x.2.blocks = n) : (l.foldl f x).2.blocks = n :=
  foldl_keeps_of (g := fun x => x.2.blocks) h l x hx

@[simp ↓] theorem foldl_blocks {f : State → α → State} (h : ∀ s a, (f s a).blocks = s.blocks) (l : List α) (s : State) :
    (l.foldl f s).blocks = s.blocks :=
  foldl_keeps (fun t a ht => (h t a).trans ht) l s rfl

@[simp ↓] theorem foldl_snd_blocks {f : β × State → α → β × State} (h : ∀ x a, (f x a).2.blocks = x.2.blocks) (l : List α)
    (x : β × State) : (l.foldl f x).2.blocks = x.2.blocks :=
  foldl_snd_keeps (fun y a hy => (h y a).trans hy) l x rfl

@[simp ↓] theorem foldl_fst_blocks {f : State × β → α → State × β} (h : ∀ x a, (f x a).1.blocks = x.1.blocks) (l : List α)
    (x : State × β) : (l.foldl f x).1.blocks = x.1.blocks :=
  foldl_keeps_of (g := fun x => x.1.blocks) (fun y a hy => (h y a).trans hy) l x rfl

theorem foldl_snd_snd_blocks {f : β × γ × State → α → β × γ × State} (h : ∀ x a, (f x a).2.2.blocks = x.2.2.blocks) (l : List α)
    (x : β × γ × State) : (l.foldl f x).2.2.blocks = x.2.2.blocks :=
  foldl_keeps_of (g := fun x => x.2.2.blocks) (fun y a hy => (h y a).trans hy) l x rfl

end

/-! Updates of one block that a later update writes out as fields. -/

@[simp] theorem State.advance_clusters_length (s : State) (t : Nat) : (s.advance t).clusters.length = s.clusters.length := by
  simp only [State.advance]
  split <;> simp

@[simp] theorem State.modCtrl_ctrls_length (s : State) (n : Nat) (f : Ctrl → Ctrl) : (s.modCtrl n f).media.ctrls.length = s.media.ctrls.length := length_modifyAt _ _ _
@[simp] theorem State.modDsp_ctrls_length (s : State) (n : Nat) (f : Dsp → Dsp) : (s.modDsp n f).media.ctrls.length = s.media.ctrls.length := length_modifyAt _ _ _
@[simp] theorem State.modBlk_ctrls_length (s : State) (d b : Nat) (f : Blk → Blk) : (s.modBlk d b f).media.ctrls.length = s.media.ctrls.length := by rfl
@[simp] theorem State.modDie_ctrls_length (s : State) (d : Nat) (f : Die → Die) : (s.modDie d f).media.ctrls.length = s.media.ctrls.length := by rfl
@[simp] theorem State.modHealth_ctrls_length (s : State) (f : Health → Health) : (s.modHealth f).media.ctrls.length = s.media.ctrls.length := by rfl

end Sys2Proof.Machine
end

section
/-! SUPPORT. Each function of the model keeps the numbers of blocks, in the order of the model. What follows a stop of the module, which
makes clusters and cores anew, keeps the module's own numbers. -/

namespace Sys2Proof.Machine

section
variable (s : State)

/-! The operations every command shares: parts of the state by number, completions (15 R358, R369), the telemetry ring (15 R366), asynchronous events, free values. -/

@[simp ↓] theorem State.advance_blocks (t : Nat) : (s.advance t).blocks = s.blocks := by
  simp only [State.advance]
  (repeat' split) <;> simp

@[simp ↓] theorem State.modCluster_blocks (c : Nat) (f : Cluster → Cluster) : (s.modCluster c f).blocks = s.blocks := by simp [State.modCluster]
@[simp ↓] theorem State.modTile_blocks (t : Nat) (f : Tile → Tile) : (s.modTile t f).blocks = s.blocks := by simp [State.modTile]
@[simp ↓] theorem State.modCtrl_blocks (n : Nat) (f : Ctrl → Ctrl) : (s.modCtrl n f).blocks = s.blocks := by simp [State.modCtrl]
@[simp ↓] theorem State.modPort_blocks (p : Nat) (f : Port → Port) : (s.modPort p f).blocks = s.blocks := by simp [State.modPort]
@[simp ↓] theorem State.modLane_blocks (l : Nat) (f : Lane → Lane) : (s.modLane l f).blocks = s.blocks := by simp [State.modLane]
@[simp ↓] theorem State.modCore_blocks (k : Nat) (f : Core → Core) : (s.modCore k f).blocks = s.blocks := by simp [State.modCore]
@[simp ↓] theorem State.modDie_blocks (d : Nat) (f : Die → Die) : (s.modDie d f).blocks = s.blocks := by rfl
@[simp ↓] theorem State.drawn_blocks : s.drawn.blocks = s.blocks := by rfl
@[simp ↓] theorem State.logError_blocks (id : CmdId) (t : Status) : (s.logError id t).blocks = s.blocks := by simp [State.logError]
@[simp ↓] theorem State.answer_blocks (id : CmdId) (t : Status) (dw0 : W32) (data : Bytes) (dw1 : W32) :
    (s.answer id t dw0 data dw1).blocks = s.blocks := by
  simp [State.answer]

@[simp ↓] theorem State.enter_blocks (id : CmdId) (ordered : Bool) (held : Option Instr) (resLen : Option Nat) (tenant nsid : Nat) :
    (s.enter id ordered held resLen tenant nsid).blocks = s.blocks := by
  rfl

@[simp ↓] theorem State.leave_blocks (id : CmdId) : (s.leave id).blocks = s.blocks := by rfl
@[simp ↓] theorem State.complete_blocks (id : CmdId) (t : Status) (dw0 dw1 : W32) (data : Bytes) :
    (s.complete id t dw0 dw1 data).blocks = s.blocks := by
  simp [State.complete]

@[simp ↓] theorem State.completeOpt_blocks (id : Option CmdId) (t : Status) (dw0 dw1 : W32) (data : Bytes) :
    (s.completeOpt id t dw0 dw1 data).blocks = s.blocks := by
  unfold State.completeOpt
  split <;> simp

@[simp ↓] theorem State.raiseEvent_blocks (e mask : W32) : (s.raiseEvent e mask).blocks = s.blocks := by simp [State.raiseEvent]
@[simp ↓] theorem State.telemetry_blocks (block event unit detail : Nat) :
    (s.telemetry block event unit detail).blocks = s.blocks := by simp [State.telemetry]

@[simp ↓] theorem State.setFrmEvt_blocks (n : Nat) : (s.setFrmEvt n).blocks = s.blocks := by simp [State.setFrmEvt]
@[simp ↓] theorem State.send_blocks (net toRank : Nat) (m : Bytes) : (s.send net toRank m).blocks = s.blocks := by rfl

/-! Counting, classing and capturing a fault report (18 R425 to R430). What a report makes the module do stands in Drogue. -/

@[simp ↓] theorem State.record_blocks (c : FaultClass) (f : FaultIn) : (s.record c f).blocks = s.blocks := by rfl
@[simp ↓] theorem State.corrected_blocks : s.corrected.blocks = s.blocks := by rfl
@[simp ↓] theorem State.biteCmd_blocks (e : Nat) (id : CmdId) : (s.biteCmd e id).blocks = s.blocks := by rfl
@[simp ↓] theorem State.biteAt_blocks (e : Nat) (a : W64) : (s.biteAt e a).blocks = s.blocks := by rfl
@[simp ↓] theorem State.parWrite_blocks (g base n : Nat) : (s.parWrite g base n).blocks = s.blocks := by simp [State.parWrite]
@[simp ↓] theorem State.parRead_blocks (g base n : Nat) : (s.parRead g base n).2.blocks = s.blocks := by simp [State.parRead]
@[simp ↓] theorem State.countParity_blocks (g n : Nat) : (s.countParity g n).blocks = s.blocks := by simp [State.countParity]
@[simp ↓] theorem State.parTrip_blocks (g base n : Nat) : (s.parTrip g base n).2.blocks = s.blocks := by simp [State.parTrip]
@[simp ↓] theorem State.parDisarm_blocks (p : Nat → Bool) : (s.parDisarm p).blocks = s.blocks := by rfl

/-! The frame timer and the frame table (02). What the other blocks do at a tick stands in Tick. -/

@[simp ↓] theorem State.frameOverrun_blocks (cl : BitVec 8) (freeze late : Bool) :
    (s.frameOverrun cl freeze late).blocks = s.blocks := by simp [State.frameOverrun]

@[simp ↓] theorem State.chargeOverrun_blocks (c t : Nat) : (s.chargeOverrun c t).blocks = s.blocks := by
  unfold State.chargeOverrun
  (repeat' split) <;> simp

@[simp ↓] theorem openSlot_blocks (c k : Nat) : (openSlot c k s).blocks = s.blocks := by
  simp only [openSlot]
  (repeat' split) <;> simp

@[simp ↓] theorem closeSlot_blocks (c k : Nat) : (closeSlot c k s).blocks = s.blocks := by
  unfold closeSlot
  split <;> simp

@[simp ↓] theorem guardBegin_blocks (c k : Nat) : (guardBegin c k s).blocks = s.blocks := by
  unfold guardBegin
  split <;> simp

@[simp ↓] theorem closingBegin_blocks (c k : Nat) : (closingBegin c k s).blocks = s.blocks := by
  unfold closingBegin
  split <;> simp

@[simp ↓] theorem State.acceptEvent_blocks (e : Nat) (err : Int) (st : BitVec 3) : (s.acceptEvent e err st).blocks = s.blocks := by rfl
@[simp ↓] theorem refEvent_blocks (div t : Nat) : (refEvent div t s).blocks = s.blocks := by
  simp only [refEvent]
  (repeat' split) <;> simp

@[simp ↓] theorem syncEdge_blocks (t : Nat) : (syncEdge t s).blocks = s.blocks := by
  unfold syncEdge
  split <;> simp

@[simp ↓] theorem acquireTimeout_blocks : (acquireTimeout s).blocks = s.blocks := by simp [acquireTimeout]
@[simp ↓] theorem syncLost_blocks : (syncLost s).blocks = s.blocks := by simp [syncLost]
@[simp ↓] theorem State.countExpected_blocks : s.countExpected.blocks = s.blocks := by simp [State.countExpected]
@[simp ↓] theorem frmEvtClear_blocks (v : W32) : (frmEvtClear v s).blocks = s.blocks := by rfl

/-! Objects of the Loft address space: addresses, contents, allocation, charges and quotas (09 R204 to R208, R211; 03 R70, R78; 14 R312). -/

@[simp ↓] theorem State.modObj_blocks (ofs : Nat) (f : Obj → Obj) : (s.modObj ofs f).blocks = s.blocks := by rfl
@[simp ↓] theorem State.writeObj_blocks (a : W64) (b : Bytes) : (s.writeObj a b).blocks = s.blocks := by
  unfold State.writeObj
  split <;> simp

@[simp ↓] theorem State.markObj_blocks (a : W64) (n : Nat) : (s.markObj a n).blocks = s.blocks := by
  unfold State.markObj
  split <;> simp

@[simp ↓] theorem State.useGroups_blocks (l : List Nat) : (s.useGroups l).blocks = s.blocks := by rfl
@[simp ↓] theorem State.freeGroupList_blocks (l : List Nat) : (s.freeGroupList l).blocks = s.blocks := by rfl
@[simp ↓] theorem State.allocT1_blocks (tenant : Nat) (k : ObjKind) (fmt : Byte) (n : Nat) : (s.allocT1 tenant k fmt n).2.blocks = s.blocks := by rfl
@[simp ↓] theorem State.allocT2_blocks (tenant : Nat) (k : ObjKind) (fmt : Byte) (n : Nat) : (s.allocT2 tenant k fmt n).2.blocks = s.blocks := by rfl
@[simp ↓] theorem State.freeObj_blocks (a : W64) : (s.freeObj a).blocks = s.blocks := by
  unfold State.freeObj
  split <;> simp

@[simp ↓] theorem State.freeObjs_blocks (l : List W64) : (s.freeObjs l).blocks = s.blocks := by simp [State.freeObjs]
@[simp ↓] theorem State.trimObj_blocks (a : W64) : (s.trimObj a).blocks = s.blocks := by
  unfold State.trimObj
  split <;> simp

@[simp ↓] theorem State.quotaRefused_blocks (t : Nat) : (s.quotaRefused t).blocks = s.blocks := by rfl
@[simp ↓] theorem State.noteFar_blocks (t : Nat) (a : W64) (i u : Nat) : (s.noteFar t a i u).blocks = s.blocks := by rfl
@[simp ↓] theorem State.noteRead_blocks (a : W64) (n : Nat) : (s.noteRead a n).blocks = s.blocks := by
  unfold State.noteRead
  (repeat' split) <;> simp

/-! Requests of classes A to C and their completion (11 R256, R266, R267; 15 R358, R359). -/

@[simp ↓] theorem State.modContract_blocks (id : Nat) (f : CtEntry → CtEntry) : (s.modContract id f).blocks = s.blocks := by rfl
@[simp ↓] theorem State.closeRequest_blocks (id : CmdId) : (s.closeRequest id).blocks = s.blocks := by
  unfold State.closeRequest
  split <;> simp

@[simp ↓] theorem State.finishRequest_blocks (id : CmdId) (t : Status) (dw0 : W32) (data : Bytes) (flags : W32) :
    (s.finishRequest id t dw0 data flags).blocks = s.blocks := by
  simp [State.finishRequest]

@[simp ↓] theorem State.noteCause_blocks (bit_ : Nat) (p : Request → Bool) : (s.noteCause bit_ p).blocks = s.blocks := by rfl
@[simp ↓] theorem State.noteExtraRun_blocks (id : Option CmdId) : (s.noteExtraRun id).blocks = s.blocks := by rfl
@[simp ↓] theorem State.notePoisonedPass_blocks (id : Option CmdId) : (s.notePoisonedPass id).blocks = s.blocks := by rfl

/-! The media: stripe records, the map, program jobs, die parity, the journal, erases, garbage collection, failed dies (13 R294, R302 to R308; 14 R312 to R339). -/

@[simp ↓] theorem State.modBlk_blocks (d b : Nat) (f : Blk → Blk) : (s.modBlk d b f).blocks = s.blocks := by rfl
@[simp ↓] theorem State.modChan_blocks (c : Nat) (f : Channel → Channel) : (s.modChan c f).blocks = s.blocks := by rfl
@[simp ↓] theorem State.setLevels_blocks (d b : Nat) (l : List Byte) : (s.setLevels d b l).blocks = s.blocks := by rfl
@[simp ↓] theorem State.takeSeq_blocks : s.takeSeq.2.blocks = s.blocks := by rfl
@[simp ↓] theorem State.addJob_blocks (w : Wordline) (p : Pass) (after : List Nat) (half : Option Bool) :
    (s.addJob w p after half).blocks = s.blocks := by
  rfl

@[simp ↓] theorem State.journalAll_blocks (l : List JBody) (after : List Nat) (half : Option Bool) :
    (s.journalAll l after half).2.blocks = s.blocks := by
  simp [State.journalAll]

@[simp ↓] theorem State.journal_blocks (b : JBody) : (s.journal b).2.blocks = s.blocks := by rfl
@[simp ↓] theorem State.commitParts_blocks (parts : List JBody) : (s.commitParts parts).2.blocks = s.blocks := by simp [State.commitParts]
@[simp ↓] theorem State.journalMap_blocks (l : List Nat) : (s.journalMap l).blocks = s.blocks := by simp [State.journalMap]
@[simp ↓] theorem State.setMap_blocks (t : Nat) (w : W64) : (s.setMap t w).blocks = s.blocks := by rfl
@[simp ↓] theorem State.writeStripeAt_blocks (at_ : Option (Nat × Nat)) (stream : Nat) (grouped : Bool) (t : Nat) (u0 u1 : Option Container) :
    (s.writeStripeAt at_ stream grouped t u0 u1).2.blocks = s.blocks := by
  simp only [State.writeStripeAt]
  (repeat' split) <;> simp

@[simp ↓] theorem State.writeStripe_blocks (stream : Nat) (grouped : Bool) (t : Nat) (u0 u1 : Option Container) :
    (s.writeStripe stream grouped t u0 u1).2.blocks = s.blocks := by
  simp [State.writeStripe]

@[simp ↓] theorem State.writePart_blocks (stream : Nat) (grouped : Bool) (for_ : WriteFor) (l : List (Nat × Option Container × Option Container)) :
    (s.writePart stream grouped for_ l).2.blocks = s.blocks := by
  simp [State.writePart]

@[simp ↓] theorem State.applyRec_blocks (r : StripeRec) : (s.applyRec r).blocks = s.blocks := by rfl
@[simp ↓] theorem State.stepPart_blocks (p : WritePart) : (s.stepPart p).2.blocks = s.blocks := by
  unfold State.stepPart
  split <;> simp

@[simp ↓] theorem State.stepParts_blocks : s.stepParts.2.blocks = s.blocks := by simp [State.stepParts]
@[simp ↓] theorem State.settleParity_blocks : s.settleParity.blocks = s.blocks := by rfl
@[simp ↓] theorem State.beginJob_blocks (j : ProgJob) : (s.beginJob j).blocks = s.blocks := by
  simp only [State.beginJob]
  (repeat' split) <;> simp

@[simp ↓] theorem State.kick_blocks : s.kick.blocks = s.blocks := by simp [State.kick]
@[simp ↓] theorem State.joinGroup_blocks (w : Wordline) : (s.joinGroup w).blocks = s.blocks := by
  simp only [State.joinGroup]
  (repeat' split) <;> simp

@[simp ↓] theorem State.closeGroups_blocks (all : Bool) : (s.closeGroups all).blocks = s.blocks := by simp [State.closeGroups]
@[simp ↓] theorem State.releaseGroups_blocks : s.releaseGroups.blocks = s.blocks := by rfl
@[simp ↓] theorem State.retire_blocks (d b cause : Nat) : (s.retire d b cause).blocks = s.blocks := by simp [State.retire]
@[simp ↓] theorem State.rewriteRec_blocks (r : StripeRec) : (s.rewriteRec r).blocks = s.blocks := by
  unfold State.rewriteRec
  split <;> simp

@[simp ↓] theorem State.dropGcs_blocks (hit : StripeRec → Bool) : (s.dropGcs hit).blocks = s.blocks := by simp [State.dropGcs]
@[simp ↓] theorem State.evacuate_blocks (d b : Nat) : (s.evacuate d b).blocks = s.blocks := by simp [State.evacuate]
@[simp ↓] theorem State.passEnds_blocks (j : ProgJob) (fail : Bool) : (s.passEnds j fail).blocks = s.blocks := by
  unfold State.passEnds
  split <;> simp

@[simp ↓] theorem State.eraseStart_blocks (d b : Nat) : (s.eraseStart d b).blocks = s.blocks := by rfl
@[simp ↓] theorem State.startErases_blocks : s.startErases.blocks = s.blocks := by simp [State.startErases]
@[simp ↓] theorem State.eraseEnds_blocks (d : Nat) (fail : Bool) : (s.eraseEnds d fail).blocks = s.blocks := by
  unfold State.eraseEnds
  split <;> simp

@[simp ↓] theorem State.noteLost_blocks (l : Nat) : (s.noteLost l).blocks = s.blocks := by
  simp only [State.noteLost]
  (repeat' split) <;> simp

@[simp ↓] theorem State.markLost_blocks (l : Nat) : (s.markLost l).blocks = s.blocks := by
  unfold State.markLost
  (repeat' split) <;> simp

@[simp ↓] theorem State.refresh_blocks (d b : Nat) : (s.refresh d b).blocks = s.blocks := by simp [State.refresh]
@[simp ↓] theorem State.modHealth_blocks (f : Health → Health) : (s.modHealth f).blocks = s.blocks := by rfl
@[simp ↓] theorem State.ladder_blocks (d b step : Nat) : (s.ladder d b step).blocks = s.blocks := by simp [State.ladder]
@[simp ↓] theorem State.gcBegin_blocks (d : Nat) (bad : List Nat) : (s.gcBegin d bad).blocks = s.blocks := by
  unfold State.gcBegin
  split
  · rfl
  · refine (ite_blocks ..).trans (ite_eq_iff'.2 ⟨fun _ => ?_, fun _ => rfl⟩)
    refine (State.blocks_mk ..).trans (foldl_snd_snd_blocks (fun a y => ?_) _ _)
    split
    · simp
    · rfl

@[simp ↓] theorem State.gcWriteFlag_blocks (g : Gc) : (s.gcWriteFlag g).blocks = s.blocks := by simp [State.gcWriteFlag]
@[simp ↓] theorem State.gcFinish_blocks (g : Gc) : (s.gcFinish g).blocks = s.blocks := by
  unfold State.gcFinish
  refine foldl_blocks (fun s _ => ?_) _ _
  (repeat' split) <;> simp

@[simp ↓] theorem State.settleGc_blocks : s.settleGc.blocks = s.blocks := by
  unfold State.settleGc
  refine foldl_blocks (fun s _ => ?_) _ _
  (repeat' split) <;> simp

@[simp ↓] theorem State.flushRest_blocks : s.flushRest.blocks = s.blocks := by
  unfold State.flushRest
  split <;> simp

@[simp ↓] theorem State.settleMedia_blocks : s.settleMedia.2.blocks = s.blocks := by simp [State.settleMedia]
@[simp ↓] theorem State.failDie_blocks (d : Nat) : (s.failDie d).blocks = s.blocks := by
  unfold State.failDie
  refine (State.journalMap_blocks ..).trans ((foldl_blocks (fun s r => ?_) _ _).trans ?_)
  · dsimp only
    split <;> simp
  · simp

@[simp ↓] theorem State.clearGroupMap_blocks (g : Nat) : (s.clearGroupMap g).blocks = s.blocks := by simp [State.clearGroupMap]
@[simp ↓] theorem State.flushMedia_blocks (clean : Bool) : (s.flushMedia clean).blocks = s.blocks := by
  unfold State.flushMedia
  refine (State.flushRest_blocks _).trans (foldl_blocks (fun s x => ?_) _ _)
  dsimp only
  (repeat' split) <;> simp

@[simp ↓] theorem State.stopMedia_blocks (cut : Bool) : (s.stopMedia cut).blocks = s.blocks := by
  unfold State.stopMedia
  simp only [State.blocks_mk, List.length_map, State.blocks_fold]
  refine (foldl_blocks (fun s r => ?_) _ _).trans ((foldl_blocks (fun s e => ?_) _ _).trans ?_)
  · split <;> simp
  · split <;> simp
  · simp

/-! The die service port and the channels' wait states (13 R295 to R303). -/

@[simp ↓] theorem State.modDsp_blocks (n : Nat) (f : Dsp → Dsp) : (s.modDsp n f).blocks = s.blocks := by simp [State.modDsp]
@[simp ↓] theorem State.dspFault_blocks (n : Nat) (e : BitVec 3) : (s.dspFault n e).blocks = s.blocks := by simp [State.dspFault]
@[simp ↓] theorem dspKey_blocks (n : Nat) (v : W32) (t : Nat) : (dspKey n v t s).blocks = s.blocks := by simp [dspKey]
@[simp ↓] theorem dspCmd_blocks (n : Nat) (v : W32) (t : Nat) : (dspCmd n v t s).blocks = s.blocks := by simp [dspCmd]
@[simp ↓] theorem dspAddr_blocks (n : Nat) (v : W32) (t : Nat) : (dspAddr n v t s).blocks = s.blocks := by simp [dspAddr]
@[simp ↓] theorem dspLaunch_blocks (n cmd : Nat) (addrs : List W32) (data : W32) :
    (dspLaunch n cmd addrs data s).blocks = s.blocks := by simp [dspLaunch]

@[simp ↓] theorem dspData_blocks (n : Nat) (v : W32) (t : Nat) : (dspData n v t s).blocks = s.blocks := by simp [dspData]
@[simp ↓] theorem dspFirmware_blocks (n cmd : Nat) (addrs : List W32) (data : W32) :
    (dspFirmware n cmd addrs data s).blocks = s.blocks := by simp [dspFirmware]

@[simp ↓] theorem dspDoor_blocks (n cmd : Nat) (door : DspDoor) : (dspDoor n cmd door s).blocks = s.blocks := by
  unfold dspDoor
  split <;> simp

@[simp ↓] theorem State.fillBuf_blocks (n len : Nat) : (s.fillBuf n len).blocks = s.blocks := by simp [State.fillBuf]
@[simp ↓] theorem dspDone_blocks (n : Nat) (page : Bytes) (step : Nat) : (dspDone n page step s).blocks = s.blocks := by
  simp only [dspDone]
  (repeat' split) <;> simp

@[simp ↓] theorem dspTimeout_blocks (n : Nat) : (dspTimeout n s).blocks = s.blocks := by simp [dspTimeout]
@[simp ↓] theorem State.dspAbandon_blocks (n : Nat) : (s.dspAbandon n).blocks = s.blocks := by simp [State.dspAbandon]
@[simp ↓] theorem waitWrite_blocks (ch : Nat) (second : Bool) (v : W32) : (waitWrite ch second v s).blocks = s.blocks := by rfl
@[simp ↓] theorem State.trainCtrl_blocks (n : Nat) (rates : List (BitVec 3)) : (s.trainCtrl n rates).blocks = s.blocks := by simp [State.trainCtrl]

/-! A change of the module's rank: the addresses of its own objects change with it (09 R204; 03 R77). -/

@[simp ↓] theorem State.readdress_blocks (n : Nat) : (s.readdress n).blocks = s.blocks := by simp [State.readdress]

/-! Models by identifier, the context table, KV extents, emitting a token, rewinding (10 R231, R235, R245 to R253). What commands do with contexts stands in ContextCmds. -/

@[simp ↓] theorem State.modModel_blocks (id : W64) (f : Model → Model) : (s.modModel id f).blocks = s.blocks := by rfl
@[simp ↓] theorem State.writeTable_blocks (id : W64) : (s.writeTable id).blocks = s.blocks := by
  unfold State.writeTable
  split <;> simp

@[simp ↓] theorem State.modCtx_blocks (i : Nat) (f : Context → Context) : (s.modCtx i f).blocks = s.blocks := by rfl
@[simp ↓] theorem State.writeKv_blocks (m : Model) (ext : W64) (t draw : Nat) : (s.writeKv m ext t draw).blocks = s.blocks := by simp [State.writeKv]
@[simp ↓] theorem State.finishBatch_blocks (i : Nat) (b : Batch) (t : Status) (flags : W32) :
    (s.finishBatch i b t flags).blocks = s.blocks := by simp [State.finishBatch]

@[simp ↓] theorem State.rewindCtx_blocks (i l : Nat) : (s.rewindCtx i l).blocks = s.blocks := by
  simp only [State.rewindCtx]
  (repeat' split) <;> simp

@[simp ↓] theorem State.addExtent_blocks (i : Nat) : (s.addExtent i).blocks = s.blocks := by
  simp only [State.addExtent]
  (repeat' split) <;> simp

@[simp ↓] theorem State.addExtents_blocks (i n : Nat) : (s.addExtents i n).blocks = s.blocks := by
  induction n generalizing s with
  | zero => rfl
  | succ n ih => simp [State.addExtents, ih]

@[simp ↓] theorem State.startHead_blocks (i : Nat) : (s.startHead i).blocks = s.blocks := by
  unfold State.startHead
  (repeat' split) <;> simp

@[simp ↓] theorem State.startBatch_blocks (i : Nat) : (s.startBatch i).blocks = s.blocks := by simp [State.startBatch]
@[simp ↓] theorem State.settleBatch_blocks (i : Nat) : (s.settleBatch i).blocks = s.blocks := by
  simp only [State.settleBatch]
  (repeat' split) <;> simp

@[simp ↓] theorem State.damageCtx_blocks (i : Nat) : (s.damageCtx i).blocks = s.blocks := by simp [State.damageCtx]
@[simp ↓] theorem State.modHead_blocks (i : Nat) (f : Batch → Batch) : (s.modHead i f).blocks = s.blocks := by rfl
@[simp ↓] theorem State.appendToken_blocks (i : Nat) (tok : W32) : (s.appendToken i tok).blocks = s.blocks := by
  simp only [State.appendToken]
  (repeat' split) <;> simp

@[simp ↓] theorem State.holdToken_blocks (i : Nat) (tok : W32) : (s.holdToken i tok).blocks = s.blocks := by
  simp only [State.holdToken]
  (repeat' split) <;> simp

@[simp ↓] theorem State.emitToken_blocks (h tok : W32) (marked : Bool) : (s.emitToken h tok marked).blocks = s.blocks := by
  simp only [State.emitToken]
  (repeat' split) <;> simp

@[simp ↓] theorem State.releaseHeld_blocks (i n : Nat) : (s.releaseHeld i n).blocks = s.blocks := by
  induction n generalizing s with
  | zero => rfl
  | succ n ih =>
    unfold State.releaseHeld
    (repeat' split) <;> simp [ih]

@[simp ↓] theorem State.releaseTokens_blocks (i : Nat) : (s.releaseTokens i).blocks = s.blocks := by
  unfold State.releaseTokens
  split <;> simp

@[simp ↓] theorem State.failBatch_blocks (h : W32) (t : Status) (flags : W32) : (s.failBatch h t flags).blocks = s.blocks := by
  unfold State.failBatch
  (repeat' split) <;> simp

/-! Sequencer interrupts: pending and enable bits, entering and ending a handler (07 R180 to R184). -/

@[simp ↓] theorem State.raise_blocks (c n : Nat) : (s.raise c n).blocks = s.blocks := by simp [State.raise]
@[simp ↓] theorem State.raiseAll_blocks (n : Nat) : (s.raiseAll n).blocks = s.blocks := by simp [State.raiseAll]
@[simp ↓] theorem enterHandler_blocks (c : Nat) : (enterHandler c s).blocks = s.blocks := by
  simp only [enterHandler]
  (repeat' split) <;> simp

@[simp ↓] theorem leaveHandler_blocks (c : Nat) : (leaveHandler c s).blocks = s.blocks := by simp [leaveHandler]
@[simp ↓] theorem State.loadHandlers_blocks : s.loadHandlers.blocks = s.blocks := by simp [State.loadHandlers]
@[simp ↓] theorem icPendSet_blocks (c : Nat) (hi : Bool) (v : W32) : (icPendSet c hi v s).blocks = s.blocks := by simp [icPendSet]
@[simp ↓] theorem icPendClr_blocks (c : Nat) (hi : Bool) (v : W32) : (icPendClr c hi v s).blocks = s.blocks := by simp [icPendClr]
@[simp ↓] theorem icEnSet_blocks (c : Nat) (hi : Bool) (v : W32) : (icEnSet c hi v s).blocks = s.blocks := by simp [icEnSet]
@[simp ↓] theorem icEnClr_blocks (c : Nat) (hi : Bool) (v : W32) : (icEnClr c hi v s).blocks = s.blocks := by simp [icEnClr]

/-! Status flags of tiles and vector units and the counts that go with them (05 R130; 06 R154, R155; 07 R179). -/

@[simp ↓] theorem mtFlagsClear_blocks (t : Nat) (v : W32) : (mtFlagsClear t v s).blocks = s.blocks := by simp [mtFlagsClear]
@[simp ↓] theorem vuFlagsClear_blocks (c : Nat) (v : W32) : (vuFlagsClear c v s).blocks = s.blocks := by simp [vuFlagsClear]

/-! The stores of a cluster and the matrix runs: operand fetch, accumulation, poison, output stage (05 R106 to R124; 08 R190, R194). -/

@[simp ↓] theorem State.putBits_blocks (c sp tile base : Nat) (l : List (Byte × Byte)) :
    (s.putBits c sp tile base l).blocks = s.blocks := by simp [State.putBits]

@[simp ↓] theorem State.writeBits_blocks (c sp tile base : Nat) (l : List (Byte × Byte)) :
    (s.writeBits c sp tile base l).blocks = s.blocks := by simp [State.writeBits]

@[simp ↓] theorem State.writeSpace_blocks (c sp tile base : Nat) (l : List (Byte × Bool)) : (s.writeSpace c sp tile base l).blocks = s.blocks := by
  simp [State.writeSpace]

@[simp ↓] theorem State.drainRows_blocks (c f : Nat) (r : Run) (l : List OutElem) :
    (s.drainRows c f r l).blocks = s.blocks := by simp [State.drainRows]

@[simp ↓] theorem State.drainPanels_blocks (c f : Nat) (r : Run) (l : List OutElem) : (s.drainPanels c f r l).blocks = s.blocks := by
  unfold State.drainPanels
  refine foldl_blocks (fun s _ => ?_) _ _
  (repeat' split) <;> simp

@[simp ↓] theorem State.storeEntries_blocks (c : Nat) (l : List Entry) : (s.storeEntries c l).blocks = s.blocks := by simp [State.storeEntries]
@[simp ↓] theorem State.countAcc_blocks (c : Nat) (half : Tile → Bool) (l : List Entry) :
    (s.countAcc c half l).blocks = s.blocks := by simp [State.countAcc]

@[simp ↓] theorem State.countStore_blocks (c f : Nat) (r : Run) : (s.countStore c f r).blocks = s.blocks := by simp [State.countStore]
@[simp ↓] theorem State.drainRun_blocks (c : Nat) (r : Run) (len : Nat) (chained : Bool) :
    (s.drainRun c r len chained).blocks = s.blocks := by simp [State.drainRun]

/-! The vector unit: registers, lanes, masks, arithmetic, loads and stores, permutes, conversions, reductions, poison (06 R131 to R152). -/

@[simp ↓] theorem State.putS_blocks (c n : Nat) (r : SReg) : (s.putS c n r).blocks = s.blocks := by simp [State.putS]
@[simp ↓] theorem State.parLanes_blocks (c r : Nat) (l : List LaneOut) : (s.parLanes c r l).blocks = s.blocks := by simp [State.parLanes]
@[simp ↓] theorem State.putV_blocks (c r : Nat) (l : List LaneOut) : (s.putV c r l).blocks = s.blocks := by simp [State.putV]
@[simp ↓] theorem State.putM_blocks (c r : Nat) (l : List LaneOut) : (s.putM c r l).blocks = s.blocks := by simp [State.putM]
@[simp ↓] theorem State.countVu_blocks (c n cycles : Nat) : (s.countVu c n cycles).blocks = s.blocks := by simp [State.countVu]
@[simp ↓] theorem State.countBad_blocks (c g n : Nat) : (s.countBad c g n).blocks = s.blocks := by simp [State.countBad]
@[simp ↓] theorem State.countReads_blocks (c : Nat) (regs masks l : List Nat) :
    (s.countReads c regs masks l).blocks = s.blocks := by simp [State.countReads]

@[simp ↓] theorem State.countWindow_blocks (c : Nat) (els : List (Nat × Nat)) : (s.countWindow c els).blocks = s.blocks := by simp [State.countWindow]
theorem vLoad_blocks {c : Nat} {w : VWord} {s t : State} (h : vLoad c w s = .done t) : t.blocks = s.blocks := by
  unfold vLoad at h
  dsimp only at h
  split at h
  · cases h
  · split at h
    · cases h
    · obtain rfl := VOut.done.inj h
      simp

@[simp ↓] theorem State.storeElems_blocks (c base w : Nat) (els : List (Nat × Nat × Bool)) : (s.storeElems c base w els).blocks = s.blocks := by
  unfold State.storeElems
  refine (foldl_blocks (fun s sp => ?_) _ _).trans (foldl_blocks (fun s x => ?_) _ _)
  · dsimp only
    split <;> simp
  · split <;> simp

theorem vStore_blocks {c : Nat} {w : VWord} {s t : State} (h : vStore c w s = .done t) : t.blocks = s.blocks := by
  unfold vStore at h
  dsimp only at h
  split at h
  · cases h
  · split at h
    · cases h
    · obtain rfl := VOut.done.inj h
      simp

theorem vGather_blocks {c : Nat} {w : VWord} {s t : State} (h : vGather c w s = .done t) : t.blocks = s.blocks := by
  unfold vGather at h
  dsimp only at h
  split at h
  · cases h
  · split at h
    · cases h
    · obtain rfl := VOut.done.inj h
      simp

@[simp ↓] theorem laneOp_blocks (c : Nat) (w : VWord) (regs : List Nat) (f : State → Nat → LaneOut) :
    (laneOp c w regs f s).blocks = s.blocks := by simp [laneOp]

@[simp ↓] theorem vPerm_blocks (c : Nat) (w : VWord) : (vPerm c w s).blocks = s.blocks := by simp [vPerm]
@[simp ↓] theorem vBcast_blocks (c : Nat) (w : VWord) : (vBcast c w s).blocks = s.blocks := by simp [vBcast]
@[simp ↓] theorem vCvt_blocks (c : Nat) (w : VWord) : (vCvt c w s).blocks = s.blocks := by simp [vCvt]
@[simp ↓] theorem vArith_blocks (c : Nat) (w : VWord) (regs : List Nat) (f : List Val → Val) :
    (vArith c w regs f s).blocks = s.blocks := by simp [vArith]

@[simp ↓] theorem vAdd_blocks (c : Nat) (w : VWord) : (vAdd c w s).blocks = s.blocks := by simp [vAdd]
@[simp ↓] theorem vMul_blocks (c : Nat) (w : VWord) : (vMul c w s).blocks = s.blocks := by simp [vMul]
@[simp ↓] theorem vFma_blocks (c : Nat) (w : VWord) : (vFma c w s).blocks = s.blocks := by simp [vFma]
@[simp ↓] theorem vMin_blocks (c : Nat) (w : VWord) : (vMin c w s).blocks = s.blocks := by simp [vMin]
@[simp ↓] theorem vMax_blocks (c : Nat) (w : VWord) : (vMax c w s).blocks = s.blocks := by simp [vMax]
@[simp ↓] theorem maskOp_blocks (c : Nat) (w : VWord) (regs masks : List Nat) (f : State → Nat → Bool × Bool) :
    (maskOp c w regs masks f s).blocks = s.blocks := by
  simp [maskOp]

@[simp ↓] theorem vCmp_blocks (c : Nat) (w : VWord) : (vCmp c w s).blocks = s.blocks := by simp [vCmp]
@[simp ↓] theorem vSel_blocks (c : Nat) (w : VWord) : (vSel c w s).blocks = s.blocks := by simp [vSel]
@[simp ↓] theorem vMlog_blocks (c : Nat) (w : VWord) : (vMlog c w s).blocks = s.blocks := by simp [vMlog]
theorem vSetVl_blocks {c : Nat} {w : VWord} {s t : State} (h : vSetVl c w s = .done t) : t.blocks = s.blocks := by
  unfold vSetVl at h
  dsimp only at h
  split at h
  · cases h
  · obtain rfl := VOut.done.inj h
    simp

@[simp ↓] theorem vRed_blocks (c : Nat) (w : VWord) : (vRed c w s).blocks = s.blocks := by simp [vRed]
theorem vecOp_blocks {c : Nat} {w : VWord} {s t : State} (h : vecOp c w s = .done t) : t.blocks = s.blocks := by
  unfold vecOp at h
  split at h
  case h_2 => exact vSetVl_blocks h
  case h_3 => exact vLoad_blocks h
  case h_4 => exact vStore_blocks h
  case h_5 => exact vGather_blocks h
  all_goals
    obtain rfl := VOut.done.inj h
    simp

/-! The Bridle: routing records, dispatches and returns, messages, drop notices, redirects (10 R236 to R244). -/

@[simp ↓] theorem State.routeOut_blocks (c : Nat) (model : W64) (ctx pos : W32) (layer : W16) (fmt : Byte) (rt : Bytes) (rtMarked : Bool) (data : Bytes) (marks : List Nat) :
    (s.routeOut c model ctx pos layer fmt rt rtMarked data marks).blocks = s.blocks := by
  unfold State.routeOut
  (repeat' split) <;> simp

@[simp ↓] theorem State.replyLater_blocks (r : Reply) : (s.replyLater r).blocks = s.blocks := by rfl
@[simp ↓] theorem State.brdSend_blocks (rank : Nat) (model : W64) (l : List BRec) : (s.brdSend rank model l).blocks = s.blocks := by rfl
@[simp ↓] theorem State.stageRec_blocks (a : Arrived) : (s.stageRec a).blocks = s.blocks := by simp [State.stageRec]
@[simp ↓] theorem State.placeDispatch_blocks (rank : Nat) (model : W64) (r : BRec) (gf : Nat) :
    (s.placeDispatch rank model r gf).blocks = s.blocks := by
  unfold State.placeDispatch
  split <;> simp

@[simp ↓] theorem State.takeReturn_blocks (rank : Nat) (model : W64) (r : BRec) : (s.takeReturn rank model r).blocks = s.blocks := by
  unfold State.takeReturn
  (repeat' split) <;> simp

@[simp ↓] theorem State.replyOut_blocks (r : Reply) : (s.replyOut r).blocks = s.blocks := by simp [State.replyOut]
@[simp ↓] theorem State.redirect_blocks (d : Dispatch) (rank shown : Nat) : (s.redirect d rank shown).blocks = s.blocks := by rfl
@[simp ↓] theorem State.dropToken_blocks (d : Dispatch) : (s.dropToken d).blocks = s.blocks := by simp [State.dropToken]
@[simp ↓] theorem State.takeRefusal_blocks (rank : Nat) (model : W64) (r : BRec) : (s.takeRefusal rank model r).blocks = s.blocks := by
  simp only [State.takeRefusal]
  (repeat' split) <;> simp

@[simp ↓] theorem State.placeRec_blocks (rank : Nat) (model : W64) (r : BRec) (gf : Nat) : (s.placeRec rank model r gf).blocks = s.blocks := by
  unfold State.placeRec
  split <;> simp

@[simp ↓] theorem State.brdTake_blocks (net : Nat) (b : Bytes) (t : Nat) (bad : Bool) : (s.brdTake net b t bad).blocks = s.blocks := by
  unfold State.brdTake
  simp

@[simp ↓] theorem State.brdNoticed_blocks (b : Bytes) : (s.brdNoticed b).blocks = s.blocks := by simp [State.brdNoticed]
@[simp ↓] theorem State.lostOn_blocks (rank net since : Nat) : (s.lostOn rank net since).blocks = s.blocks := by rfl
@[simp ↓] theorem State.brdTimeout_blocks (ctx pos : W32) (layer : W16) (slot : Byte) : (s.brdTimeout ctx pos layer slot).blocks = s.blocks := by rfl
@[simp ↓] theorem State.markOneFrame_blocks : s.markOneFrame.blocks = s.blocks := by rfl
@[simp ↓] theorem State.brdExchange_blocks : s.brdExchange.blocks = s.blocks := by
  unfold State.brdExchange
  split
  · rfl
  · dsimp only
    rw [State.markOneFrame_blocks, foldl_blocks, foldl_blocks, State.blocks_mk, State.blocks_fold, foldl_blocks, foldl_blocks, foldl_blocks]
    · intro s d
      (repeat' split) <;> simp
    · simp
    · intro s r
      split <;> simp
    · simp
    · simp

/-! The Reel: heat, moves between tiers, the fetch plan, the horizon, remote reads, refetches, KV repair (09 R209 to R213, R218 to R226; 10 R252; 14 R339). -/

@[simp ↓] theorem State.modReel_blocks (f : Reel → Reel) : (s.modReel f).blocks = s.blocks := by rfl
@[simp ↓] theorem State.modPiece_blocks (ofs i : Nat) (f : Piece → Piece) : (s.modPiece ofs i f).blocks = s.blocks := by rfl
@[simp ↓] theorem State.addMove_blocks (a : W64) (i : Nat) (k : MoveKind) (tenant charge : Nat) (ready : Bool) (left : List Nat) (copyId : Option Nat) :
    (s.addMove a i k tenant charge ready left copyId).blocks = s.blocks := by
  rfl

@[simp ↓] theorem State.startUp_blocks (o : Obj) (i : Nat) : (s.startUp o i).blocks = s.blocks := by
  unfold State.startUp
  split <;> simp

/-- The definition is unfolded as a function, so that no check of the proof computes with the address of a free piece. -/
@[simp ↓] theorem State.startRemote_blocks (a : W64) (i : Nat) : (s.startRemote a i).blocks = s.blocks := by
  have key : ∀ f, f = State.startRemote → (f s a i).blocks = s.blocks := by
    intro f hf
    delta State.startRemote at hf
    subst hf
    dsimp only
    split
    · rfl
    · rw [ite_blocks, State.addMove_blocks, ite_self]
  exact key _ rfl

@[simp ↓] theorem State.clearMarks_blocks (o : Obj) (i : Nat) : (s.clearMarks o i).blocks = s.blocks := by rfl
@[simp ↓] theorem State.refuseDown_blocks (o : Obj) (i : Nat) : (s.refuseDown o i).blocks = s.blocks := by rfl
@[simp ↓] theorem State.startDown_blocks (o : Obj) (i : Nat) : (s.startDown o i).blocks = s.blocks := by
  unfold State.startDown
  (repeat' split) <;> simp

@[simp ↓] theorem State.cachePiece_blocks (m : Move) : (s.cachePiece m).blocks = s.blocks := by simp [State.cachePiece]
@[simp ↓] theorem State.dropCached_blocks (a : W64) (i : Nat) : (s.dropCached a i).blocks = s.blocks := by rfl
@[simp ↓] theorem State.abortMove_blocks (m : Move) (count : Bool) : (s.abortMove m count).blocks = s.blocks := by
  simp only [State.abortMove]
  (repeat' split) <;> simp

@[simp ↓] theorem State.commitMove_blocks (m : Move) : (s.commitMove m).blocks = s.blocks := by
  simp only [State.commitMove]
  (repeat' split) <;> simp

@[simp ↓] theorem State.touchWrite_blocks (a : W64) (n : Nat) : (s.touchWrite a n).blocks = s.blocks := by
  unfold State.touchWrite
  split <;> simp

@[simp ↓] theorem State.heatTick_blocks : s.heatTick.blocks = s.blocks := by rfl
@[simp ↓] theorem State.sink_blocks (x : W64 × Nat) : (s.sink x).blocks = s.blocks := by
  unfold State.sink
  split <;> simp

@[simp ↓] theorem State.relieve_blocks (t : Nat) : (s.relieve t).blocks = s.blocks := by
  unfold State.relieve
  split <;> simp

@[simp ↓] theorem State.pressure_blocks : s.pressure.blocks = s.blocks := by simp [State.pressure]
@[simp ↓] theorem State.promote_blocks : s.promote.blocks = s.blocks := by simp [State.promote]
@[simp ↓] theorem State.coldMoves_blocks : s.coldMoves.blocks = s.blocks := by simp [State.coldMoves]
@[simp ↓] theorem State.enterFetch_blocks (f : Fetch) : (s.enterFetch f).blocks = s.blocks := by rfl
@[simp ↓] theorem State.noteWait_blocks (o : Obj) (i lo n : Nat) : (s.noteWait o i lo n).blocks = s.blocks := by simp [State.noteWait]
@[simp ↓] theorem State.planFetch_blocks (prio deadline tenant until_ : Nat) (id : Option CmdId) (x : W64 × Nat) :
    (s.planFetch prio deadline tenant until_ id x).blocks = s.blocks := by
  unfold State.planFetch
  split
  · split
    · rfl
    · refine foldl_blocks (fun s i => ?_) _ _
      dsimp only
      (repeat' split) <;> simp
  · simp

@[simp ↓] theorem State.issueFetch_blocks (f : Fetch) : (s.issueFetch f).blocks = s.blocks := by
  unfold State.issueFetch
  split <;> simp

@[simp ↓] theorem State.readStripes_blocks : s.readStripes.blocks = s.blocks := by rfl
@[simp ↓] theorem State.planTick_blocks : s.planTick.blocks = s.blocks := by simp [State.planTick]
@[simp ↓] theorem State.horizonTick_blocks : s.horizonTick.blocks = s.blocks := by simp [State.horizonTick]
@[simp ↓] theorem State.dropRemote_blocks (x : RemoteRead) : (s.dropRemote x).blocks = s.blocks := by rfl
@[simp ↓] theorem State.remoteTick_blocks : s.remoteTick.blocks = s.blocks := by
  unfold State.remoteTick
  refine foldl_blocks (fun s x => ?_) _ _
  dsimp only
  (repeat' split) <;> simp

@[simp ↓] theorem State.stopMarked_blocks : s.stopMarked.blocks = s.blocks := by
  unfold State.stopMarked
  refine foldl_blocks (fun s _ => ?_) _ _
  (repeat' split) <;> simp

@[simp ↓] theorem State.reelTick_blocks : s.reelTick.blocks = s.blocks := by simp [State.reelTick]
@[simp ↓] theorem fetchEnds_blocks (a : W64) (i : Nat) (bad : List Nat) (steps : List (Nat × Fin 6)) (data : Bytes) (marks : List Nat) :
    (fetchEnds a i bad steps data marks s).blocks = s.blocks := by
  unfold fetchEnds
  (repeat' split) <;> simp

@[simp ↓] theorem State.removeDie_blocks (d : Nat) : (s.removeDie d).blocks = s.blocks := by simp [State.removeDie]
@[simp ↓] theorem moveTimeout_blocks (mv : Nat) : (moveTimeout mv s).blocks = s.blocks := by
  unfold moveTimeout
  split <;> simp

/-- As for storePieces, a write part stands for any function that keeps the blocks. -/
@[simp ↓] theorem refetchUnit_blocks (a : W64) (t1Ok t2Ok t3Ok : Bool) : (refetchUnit a t1Ok t2Ok t3Ok s).blocks = s.blocks := by
  unfold refetchUnit
  have hw := @State.writePart_blocks
  revert hw
  generalize State.writePart = w
  revert w
  refine id fun w hw => ?_
  dsimp only
  (repeat' split) <;> simp [hw]

@[simp ↓] theorem kvRepair_blocks (h : W32) (u : Nat) : (kvRepair h u s).blocks = s.blocks := by
  simp only [kvRepair]
  (repeat' split) <;> simp

@[simp ↓] theorem State.reelParts_blocks (l : List WritePart) : (s.reelParts l).blocks = s.blocks := by
  unfold State.reelParts
  refine foldl_blocks (fun s _ => ?_) _ _
  (repeat' split) <;> simp

/-! Passes: submission and its check, program load, eligibility, start, commit, discard and re-run, reload, watchdog, spawn, completion records, cluster and Spar resets (07 R156 to R179; 05 R118, R125, R126, R128; 06 R153; 08 R191 to R193). -/

@[simp ↓] theorem State.writeRecord_blocks (d : PassDesc) (r : Record) : (s.writeRecord d r).blocks = s.blocks := by simp [State.writeRecord]
@[simp ↓] theorem State.modEntry_blocks (uid : Nat) (f : PassEntry → PassEntry) : (s.modEntry uid f).blocks = s.blocks := by rfl
@[simp ↓] theorem State.refetched_blocks (o : Obj) (rel : Nat) : (s.refetched o rel).blocks = s.blocks := by rfl
@[simp ↓] theorem State.refetchLines_blocks (a : W64) (lines bad : List Nat) : (s.refetchLines a lines bad).blocks = s.blocks := by
  unfold State.refetchLines
  split <;> simp

@[simp ↓] theorem State.markLines_blocks (a : W64) (n : Nat) (l : List Nat) : (s.markLines a n l).blocks = s.blocks := by simp [State.markLines]
@[simp ↓] theorem State.sourced_blocks (f : Fill) (spoilt : Bool) : (s.sourced f spoilt).2.blocks = s.blocks := by
  unfold State.sourced
  split <;> simp

@[simp ↓] theorem State.chargeT0_blocks (t n : Nat) : (s.chargeT0 t n).blocks = s.blocks := by rfl
@[simp ↓] theorem State.releaseT0_blocks (t n : Nat) : (s.releaseT0 t n).blocks = s.blocks := by rfl
@[simp ↓] theorem State.applyFill_blocks (c : Nat) (f : Fill) : (s.applyFill c f).blocks = s.blocks := by simp [State.applyFill]
@[simp ↓] theorem State.pinCopies_blocks (c : Nat) : (s.pinCopies c).blocks = s.blocks := by simp [State.pinCopies]
@[simp ↓] theorem State.releaseFills_blocks (c : Nat) : (s.releaseFills c).blocks = s.blocks := by simp [State.releaseFills]
@[simp ↓] theorem State.dropEntry_blocks (uid : Nat) : (s.dropEntry uid).blocks = s.blocks := by
  unfold State.dropEntry
  (repeat' split) <;> simp

@[simp ↓] theorem State.failRequest_blocks (p : PassSrc) (st : Status) (dw0 dw1 : W32) : (s.failRequest p st dw0 dw1).blocks = s.blocks := by
  unfold State.failRequest
  (repeat' split) <;> simp

@[simp ↓] theorem State.refuseRequest_blocks (e : PassEntry) (status detail : Nat) :
    (s.refuseRequest e status detail).blocks = s.blocks := by simp [State.refuseRequest]

@[simp ↓] theorem State.refusePass_blocks (e : PassEntry) (status detail : Nat) :
    (s.refusePass e status detail).blocks = s.blocks := by simp [State.refusePass]

@[simp ↓] theorem State.dropPass_blocks (e : PassEntry) : (s.dropPass e).blocks = s.blocks := by simp [State.dropPass]
@[simp ↓] theorem State.placeAt_blocks (tenant : Nat) (program : Bool) (a : W64) (n : Nat) :
    (s.placeAt tenant program a n).2.blocks = s.blocks := by simp [State.placeAt]

/-- What a write part does stands for any function that keeps the blocks, so that no check of the proof computes a stripe. -/
@[simp ↓] theorem State.storePieces_blocks (a : W64) : (s.storePieces a).blocks = s.blocks := by
  unfold State.storePieces
  have hw := @State.writePart_blocks
  revert hw
  generalize State.writePart = w
  revert w
  refine id fun w hw => ?_
  split
  · rfl
  · refine foldl_blocks (fun s x => ?_) _ _
    split <;> simp [hw]

@[simp ↓] theorem State.stagePass_blocks (d : PassDesc) (prog : List W64) : (s.stagePass d prog).2.blocks = s.blocks := by
  simp only [State.stagePass]
  (repeat' split) <;> simp

@[simp ↓] theorem submitPass_blocks (b : Bytes) (prog : List W64) (src : PassSrc) : (submitPass b prog src s).blocks = s.blocks := by
  simp only [submitPass]
  (repeat' split) <;> simp

@[simp ↓] theorem State.recheck_blocks (e : PassEntry) : (s.recheck e).2.blocks = s.blocks := by
  unfold State.recheck
  split <;> simp

@[simp ↓] theorem State.recheckSpawns_blocks (c : Nat) : (s.recheckSpawns c).blocks = s.blocks := by
  unfold State.recheckSpawns
  split
  · rfl
  · refine foldl_blocks (fun s e => ?_) _ _
    have hp := s.recheck_blocks e
    split <;> simp [blocks_of_eq ‹_› hp]

@[simp ↓] theorem State.recheckPasses_blocks : s.recheckPasses.blocks = s.blocks := by
  unfold State.recheckPasses
  refine (foldl_blocks (fun s c => s.recheckSpawns_blocks c) _ _).trans (foldl_blocks (fun s e => ?_) _ _)
  split <;> simp

@[simp ↓] theorem loadProgram_blocks (c uid : Nat) : (loadProgram c uid s).blocks = s.blocks := by
  simp only [loadProgram]
  (repeat' split) <;> simp

@[simp ↓] theorem startPass_blocks (c uid t0 : Nat) : (startPass c uid t0 s).blocks = s.blocks := by
  simp only [startPass]
  (repeat' split) <;> simp

@[simp ↓] theorem State.settleOverrun_blocks (c : Nat) : (s.settleOverrun c).blocks = s.blocks := by simp [State.settleOverrun]
@[simp ↓] theorem State.lateCheck_blocks (c : Nat) (e : PassEntry) : (s.lateCheck c e).blocks = s.blocks := by simp [State.lateCheck]
@[simp ↓] theorem State.vacate_blocks (c : Nat) (e : PassEntry) (cycles : Nat) : (s.vacate c e cycles).blocks = s.blocks := by simp [State.vacate]
@[simp ↓] theorem State.handOn_blocks (c : Nat) (e : PassEntry) (marked : Bool) : (s.handOn c e marked).blocks = s.blocks := by
  unfold State.handOn
  refine (foldl_blocks (fun s o => ?_) _ _).trans ?_
  · cases o <;> simp
  · split <;> simp

@[simp ↓] theorem State.releaseSpawns_blocks (l : List PassEntry) : (s.releaseSpawns l).blocks = s.blocks := by simp [State.releaseSpawns]
@[simp ↓] theorem commitPass_blocks (c cycles t : Nat) : (commitPass c cycles t s).blocks = s.blocks := by
  simp only [commitPass]
  (repeat' split) <;> simp

@[simp ↓] theorem State.poisonOutputs_blocks (c : Nat) (d : PassDesc) : (s.poisonOutputs c d).blocks = s.blocks := by simp [State.poisonOutputs]
@[simp ↓] theorem State.endPoisoned_blocks (c : Nat) (e : PassEntry) (r : Running) (status cycles : Nat) :
    (s.endPoisoned c e r status cycles).blocks = s.blocks := by
  simp [State.endPoisoned]

@[simp ↓] theorem discardPass_blocks (c cause unit src master : Nat) (report : Bool) :
    (discardPass c cause unit src master s report).blocks = s.blocks := by
  simp only [discardPass]
  (repeat' split) <;> simp

@[simp ↓] theorem weightPoison_blocks (c tile : Nat) : (weightPoison c tile s).blocks = s.blocks := by
  simp only [weightPoison]
  (repeat' split) <;> simp

@[simp ↓] theorem State.reloadCopy_blocks (c : Nat) (bad : List W64) (x : T0Copy) : (s.reloadCopy c bad x).blocks = s.blocks := by
  unfold State.reloadCopy
  split <;> simp

@[simp ↓] theorem reloadEnd_blocks (c uid : Nat) (bad : List W64) : (reloadEnd c uid bad s).blocks = s.blocks := by
  unfold reloadEnd
  split <;> simp

@[simp ↓] theorem watchdogPass_blocks (c : Nat) : (watchdogPass c s).blocks = s.blocks := by
  simp only [watchdogPass]
  (repeat' split) <;> simp

@[simp ↓] theorem clusterReset_blocks (c : Nat) : (clusterReset c s).blocks = s.blocks := by simp [clusterReset]
@[simp ↓] theorem State.failWithheld_blocks (c : Nat) : (s.failWithheld c).blocks = s.blocks := by simp [State.failWithheld]
@[simp ↓] theorem tileFault_blocks (tile : Nat) : (tileFault tile s).2.blocks = s.blocks := by simp [tileFault]
@[simp ↓] theorem vectorFault_blocks (c : Nat) : (vectorFault c s).blocks = s.blocks := by simp [vectorFault]
@[simp ↓] theorem vaddrFault_blocks (c op lane addr : Nat) : (vaddrFault c op lane addr s).blocks = s.blocks := by simp [vaddrFault]
@[simp ↓] theorem poisonCtrl_blocks (c : Nat) : (poisonCtrl c s).blocks = s.blocks := by simp [poisonCtrl]
@[simp ↓] theorem State.progBad_blocks (c n : Nat) : (s.progBad c n).2.blocks = s.blocks := by simp [State.progBad]
@[simp ↓] theorem State.goto_blocks (c i : Nat) : (s.goto c i).blocks = s.blocks := by simp [State.goto]
@[simp ↓] theorem State.nextWord_blocks (c n : Nat) : (s.nextWord c n).blocks = s.blocks := by simp [State.nextWord]
@[simp ↓] theorem issueWord_blocks (c : Nat) (w : W64) (f : State → State) (n : Nat) (hf : ∀ s, (f s).blocks = s.blocks) :
    (issueWord c w f s n).blocks = s.blocks := by
  unfold issueWord
  split
  · have hp := s.progBad_blocks c n
    split <;> simp [blocks_of_eq ‹_› hp, hf]
  · rfl

@[simp ↓] theorem issueVector_blocks (op c : Nat) (w : W64) : (issueVector op c w s).blocks = s.blocks := by
  unfold issueVector
  split
  · rfl
  · refine issueWord_blocks _ _ _ _ _ fun s => ?_
    dsimp only
    split
    · simp [vecOp_blocks ‹_›]
    · simp
    · simp

@[simp ↓] theorem issueSeq_blocks (op c : Nat) (w : W64) (f : VWord → State → State) (hf : ∀ v s, (f v s).blocks = s.blocks) :
    (issueSeq op c w f s).blocks = s.blocks := by
  unfold issueSeq
  split
  · rfl
  · exact issueWord_blocks _ _ _ _ _ fun s => hf _ s

@[simp ↓] theorem seqMrun_blocks (c : Nat) (r : RunRec) : (seqMrun c r s).blocks = s.blocks := by
  simp only [seqMrun]
  (repeat' split) <;> simp

@[simp ↓] theorem seqMwait_blocks (c : Nat) (w : VWord) : (seqMwait c w s).blocks = s.blocks := by
  unfold seqMwait
  split <;> simp

@[simp ↓] theorem seqSli_blocks (c d : Nat) (v : W32) : (seqSli c d v s).blocks = s.blocks := by simp [seqSli]
@[simp ↓] theorem seqSadd_blocks (c : Nat) (w : VWord) : (seqSadd c w s).blocks = s.blocks := by simp [seqSadd]
@[simp ↓] theorem State.readWindow_blocks (c a : Nat) : (s.readWindow c a).blocks = s.blocks := by
  unfold State.readWindow
  split <;> simp

@[simp ↓] theorem seqSld_blocks (c : Nat) (w : VWord) : (seqSld c w s).blocks = s.blocks := by simp [seqSld]
@[simp ↓] theorem seqBr_blocks (c : Nat) (w : VWord) : (seqBr c w s).blocks = s.blocks := by simp [seqBr]
@[simp ↓] theorem seqSpawn_blocks (c : Nat) (w : VWord) : (seqSpawn c w s).blocks = s.blocks := by
  unfold seqSpawn
  split <;> simp

@[simp ↓] theorem seqSignal_blocks (c : Nat) (w : VWord) : (seqSignal c w s).blocks = s.blocks := by simp [seqSignal]
@[simp ↓] theorem seqEnd_blocks (c : Nat) : (seqEnd c s).blocks = s.blocks := by
  simp only [seqEnd]
  (repeat' split) <;> simp

@[simp ↓] theorem runDrains_blocks (c u : Nat) : (runDrains c u s).blocks = s.blocks := by
  simp only [runDrains]
  (repeat' split) <;> simp

@[simp ↓] theorem State.makeRoom_blocks (c : Nat) (f : Fill) : (s.makeRoom c f).2.blocks = s.blocks := by
  unfold State.makeRoom
  split <;> simp

@[simp ↓] theorem reelFill_blocks (c : Nat) (f : Fill) (spoilt : Bool) : (reelFill c f spoilt s).blocks = s.blocks := by simp [reelFill]
@[simp ↓] theorem loadScales_blocks (c uid : Nat) (bad : List W64) : (loadScales c uid bad s).blocks = s.blocks := by
  unfold loadScales
  (repeat' split) <;> simp

@[simp ↓] theorem State.endAllPasses_blocks : s.endAllPasses.blocks = s.blocks := by
  unfold State.endAllPasses
  refine (State.blocks_mk ..).trans ((foldl_blocks (fun s e => ?_) _ _).trans (foldl_blocks (fun s c => ?_) _ _))
  · dsimp only
    split <;> simp
  · split <;> simp

@[simp ↓] theorem sparResetBegin_blocks : (sparResetBegin s).blocks = s.blocks := by simp [sparResetBegin]

/-! Service classes: admitting a request, the class A fetch budget, planned switches, contract registers (11 R255 to R267). -/

@[simp ↓] theorem State.countRefused_blocks (cid : Nat) : (s.countRefused cid).blocks = s.blocks := by rfl
@[simp ↓] theorem State.reserve_blocks (gf a b : Nat) : (s.reserve gf a b).blocks = s.blocks := by rfl
@[simp ↓] theorem State.reserveVolume_blocks (gf h : Nat) (v : Nat × Nat) :
    (s.reserveVolume gf h v).1.blocks = s.blocks := by simp [State.reserveVolume]

@[simp ↓] theorem State.admitRequest_blocks (id : CmdId) (cls cid tenant deadlineB : Nat) (p : Plan) :
    (s.admitRequest id cls cid tenant deadlineB p).blocks = s.blocks := by
  simp [State.admitRequest]

@[simp ↓] theorem State.windowTick_blocks : s.windowTick.blocks = s.blocks := by rfl
@[simp ↓] theorem State.planPasses_blocks : s.planPasses.blocks = s.blocks := by simp [State.planPasses]
@[simp ↓] theorem State.switchTick_blocks : s.switchTick.blocks = s.blocks := by
  unfold State.switchTick
  split
  · rfl
  · refine foldl_blocks (fun s l => ?_) _ _
    dsimp only
    (repeat' split) <;> simp

@[simp ↓] theorem State.switchOpen_blocks (c : Nat) : (s.switchOpen c).blocks = s.blocks := by
  unfold State.switchOpen
  split <;> simp

/-! The Tether: lanes and their training, ports, queue pairs, time-stamps (16). Host connections that a port loses stand in Hosts. -/

@[simp ↓] theorem signalDetect_blocks (lane : Nat) : (signalDetect lane s).blocks = s.blocks := by simp [signalDetect]
@[simp ↓] theorem trainingFrame_blocks (lane : Nat) (ctl sts : W32) (crcCtl crcSts : W16) (q : LaneSelf) :
    (trainingFrame lane ctl sts crcCtl crcSts q s).blocks = s.blocks := by
  simp [trainingFrame]

@[simp ↓] theorem State.portEvent_blocks (p n : Nat) : (s.portEvent p n).blocks = s.blocks := by simp [State.portEvent]
@[simp ↓] theorem trainingTimeout_blocks (lane : Nat) : (trainingTimeout lane s).blocks = s.blocks := by simp [trainingTimeout]
@[simp ↓] theorem modeSwitch_blocks (p : Nat) : (modeSwitch p s).blocks = s.blocks := by simp [modeSwitch]
@[simp ↓] theorem State.losePeers_blocks (n : Nat) : (s.losePeers n).blocks = s.blocks := by
  unfold State.losePeers
  split
  · rfl
  · refine foldl_blocks (fun s q => ?_) _ _
    split <;> simp

@[simp ↓] theorem State.moveQps_blocks (n : Nat) (home : Bool) : (s.moveQps n home).blocks = s.blocks := by rfl
@[simp ↓] theorem State.openQps_blocks (rank : Nat) : (s.openQps rank).blocks = s.blocks := by
  unfold State.openQps
  refine foldl_blocks (fun s _ => ?_) _ _
  (repeat' split) <;> simp

@[simp ↓] theorem State.closePeer_blocks (rank : Nat) : (s.closePeer rank).blocks = s.blocks := by rfl
@[simp ↓] theorem State.openPeer_blocks (rank : Nat) : (s.openPeer rank).blocks = s.blocks := by simp [State.openPeer]
@[simp ↓] theorem State.tryUp_blocks (p : Nat) : (s.tryUp p).blocks = s.blocks := by simp [State.tryUp]
@[simp ↓] theorem alignmentMarker_blocks (lane : Nat) (am : BitVec 257) (pairs bitErr corr uncorr : Nat) :
    (alignmentMarker lane am pairs bitErr corr uncorr s).blocks = s.blocks := by
  simp [alignmentMarker]

@[simp ↓] theorem State.linkDown_blocks (p : Nat) : (s.linkDown p).blocks = s.blocks := by simp [State.linkDown]
@[simp ↓] theorem portRetrain_blocks (p : Nat) : (portRetrain p s).blocks = s.blocks := by simp [portRetrain]
@[simp ↓] theorem fecDegrade_blocks (lane : Nat) : (fecDegrade lane s).blocks = s.blocks := by simp [fecDegrade]
@[simp ↓] theorem addressAcquired_blocks (p : Nat) : (addressAcquired p s).blocks = s.blocks := by simp [addressAcquired]
@[simp ↓] theorem State.modQp_blocks (n : Nat) (f : QueuePair → QueuePair) : (s.modQp n f).blocks = s.blocks := by rfl
@[simp ↓] theorem congestion_blocks (qp : Nat) : (congestion qp s).blocks = s.blocks := by rfl
@[simp ↓] theorem rateRaise_blocks (qp : Nat) : (rateRaise qp s).blocks = s.blocks := by rfl
@[simp ↓] theorem ackRetry_blocks (qp : Nat) : (ackRetry qp s).blocks = s.blocks := by
  unfold ackRetry
  (repeat' split) <;> simp

@[simp ↓] theorem ptpStamp_blocks (p : Nat) (egress : Bool) (seq : W16) (t : Nat) :
    (ptpStamp p egress seq t s).blocks = s.blocks := by simp [ptpStamp]

@[simp ↓] theorem tetEvtClear_blocks (p : Nat) (v : W32) : (tetEvtClear p v s).blocks = s.blocks := by simp [tetEvtClear]
@[simp ↓] theorem State.activatePorts_blocks (i : Image) : (s.activatePorts i).1.blocks = s.blocks := by
  unfold State.activatePorts
  refine foldl_fst_blocks (fun a p => ?_) _ _
  split <;> simp

@[simp ↓] theorem State.homeQps_blocks : s.homeQps.blocks = s.blocks := by simp [State.homeQps]
@[simp ↓] theorem State.portReset_blocks (p : Nat) : (s.portReset p).blocks = s.blocks := by simp [State.portReset]

/-! Novzeow messages: header, lengths, reserved bytes, and the bodies this module sends (17 R390 to R393). -/

@[simp ↓] theorem State.nv_blocks (net type dst : Nat) (body : Bytes) : (s.nv net type dst body).blocks = s.blocks := by rfl
@[simp ↓] theorem State.nvTo_blocks (type dst : Nat) (body : Bytes) : (s.nvTo type dst body).blocks = s.blocks := by rfl
@[simp ↓] theorem State.nvAll_blocks (type : Nat) (body : Bytes) : (s.nvAll type body).blocks = s.blocks := by simp [State.nvAll]

/-! The placement directory, copies of objects, mirrors, journals, and what a promoted copy becomes (17 R400 to R406, R409 to R412). -/

@[simp ↓] theorem State.dropPlace_blocks (p : Place) : (s.dropPlace p).blocks = s.blocks := by rfl
@[simp ↓] theorem State.storePlace_blocks (p : Place) : (s.storePlace p).blocks = s.blocks := by rfl
@[simp ↓] theorem State.dirSet_blocks (p : Place) : (s.dirSet p).blocks = s.blocks := by rfl
@[simp ↓] theorem State.relocate_blocks (r : Reloc) : (s.relocate r).blocks = s.blocks := by simp [State.relocate]
@[simp ↓] theorem State.adopt_blocks (p : Place) : (s.adopt p).blocks = s.blocks := by
  simp only [State.adopt]
  (repeat' split) <;> simp

@[simp ↓] theorem State.report_blocks (l : List Place) : (s.report l).blocks = s.blocks := by simp [State.report]
@[simp ↓] theorem State.sendCopy_blocks (kind pkind tenant : Nat) (key1 : W64) (key2 version : W32) (r : Nat) (for_ : CopyFor) (id : Option CmdId) (l : List CopyPart) :
    (s.sendCopy kind pkind tenant key1 key2 version r for_ id l).blocks = s.blocks := by
  simp [State.sendCopy]

@[simp ↓] theorem State.modNs_blocks (nsid : Nat) (f : Namespace → Namespace) : (s.modNs nsid f).blocks = s.blocks := by rfl
@[simp ↓] theorem State.modShard_blocks (i : W64) (k : W16) (f : Shard → Shard) : (s.modShard i k f).blocks = s.blocks := by rfl
@[simp ↓] theorem State.storeObj_blocks (a : W64) : (s.storeObj a).2.blocks = s.blocks := by
  unfold State.storeObj
  split
  · rfl
  · refine foldl_snd_blocks (fun r x => ?_) _ _
    split <;> simp

@[simp ↓] theorem State.storeObjs_blocks (l : List W64) : (s.storeObjs l).2.blocks = s.blocks := by simp [State.storeObjs]
@[simp ↓] theorem State.copyT3_blocks (a : W64) (o : Obj) (state : W64) (pkind tenant : Nat) (key1 : W64) (key2 version : W32) (r : Nat) (for_ : CopyFor) :
    (s.copyT3 a o state pkind tenant key1 key2 version r for_).blocks = s.blocks := by
  simp [State.copyT3]

@[simp ↓] theorem State.startCopy_blocks (p : Place) (r : Nat) : (s.startCopy p r).blocks = s.blocks := by
  unfold State.startCopy
  (repeat' split) <;> simp

@[simp ↓] theorem State.modHeld_blocks (p : Place) (f : HeldCopy → HeldCopy) : (s.modHeld p f).blocks = s.blocks := by rfl
@[simp ↓] theorem State.dropHeld_blocks (p : Place) : (s.dropHeld p).blocks = s.blocks := by rfl
@[simp ↓] theorem State.freeHeld_blocks (p : Place) : (s.freeHeld p).blocks = s.blocks := by
  unfold State.freeHeld
  split <;> simp

@[simp ↓] theorem State.sendJournal_blocks (i : Nat) : (s.sendJournal i).blocks = s.blocks := by
  unfold State.sendJournal
  extract_lets c
  split
  · rfl
  · split
    · rfl
    · extract_lets
      rw [State.modCtx_blocks, foldl_blocks fun s b => State.nvTo_blocks .., ite_blocks, State.biteAt_blocks, ite_self]

@[simp ↓] theorem State.finishOpen_blocks (i : Nat) : (s.finishOpen i).blocks = s.blocks := by
  simp only [State.finishOpen]
  (repeat' split) <;> simp

@[simp ↓] theorem State.askBuddy_blocks (i : Nat) : (s.askBuddy i).blocks = s.blocks := by simp [State.askBuddy]
@[simp ↓] theorem State.freeCtx_blocks (i : Nat) (tell : Bool) : (s.freeCtx i tell).blocks = s.blocks := by simp [State.freeCtx]
@[simp ↓] theorem State.endCtx_blocks (i : Nat) (tell : Bool) : (s.endCtx i tell).blocks = s.blocks := by simp [State.endCtx]
@[simp ↓] theorem State.resumeCtx_blocks (j : JournalHeld) : (s.resumeCtx j).blocks = s.blocks := by
  unfold State.resumeCtx
  dsimp only
  (repeat' split) <;> simp

@[simp ↓] theorem State.journalAckTo_blocks (home : Nat) (handle : W32) (durable status : Nat) :
    (s.journalAckTo home handle durable status).blocks = s.blocks := by
  rfl

@[simp ↓] theorem State.takeJournal_blocks (b : Bytes) : (s.takeJournal b).blocks = s.blocks := by simp [State.takeJournal]
@[simp ↓] theorem State.takeJournalAck_blocks (b : Bytes) : (s.takeJournalAck b).blocks = s.blocks := by
  unfold State.takeJournalAck
  split <;> simp

@[simp ↓] theorem State.applyExpert_blocks (p : Place) : (s.applyExpert p).blocks = s.blocks := by simp [State.applyExpert]
@[simp ↓] theorem State.promoteNs_blocks (p : Place) : (s.promoteNs p).blocks = s.blocks := by
  unfold State.promoteNs
  split <;> simp

@[simp ↓] theorem State.demoteNs_blocks (p : Place) : (s.demoteNs p).blocks = s.blocks := by
  unfold State.demoteNs
  split <;> simp

@[simp ↓] theorem State.freeHome_blocks (p : Place) : (s.freeHome p).blocks = s.blocks := by
  unfold State.freeHome
  (repeat' split) <;> simp

@[simp ↓] theorem State.applyMirror_blocks (p : Place) : (s.applyMirror p).blocks = s.blocks := by simp [State.applyMirror]
@[simp ↓] theorem State.promoteShard_blocks (p : Place) : (s.promoteShard p).blocks = s.blocks := by
  unfold State.promoteShard
  split <;> simp

@[simp ↓] theorem State.applyShard_blocks (p : Place) : (s.applyShard p).blocks = s.blocks := by
  unfold State.applyShard
  (repeat' split) <;> simp

@[simp ↓] theorem State.drainCtx_blocks (i : Nat) : (s.drainCtx i).blocks = s.blocks := by
  unfold State.drainCtx
  split <;> simp

@[simp ↓] theorem State.applyContext_blocks (p : Place) : (s.applyContext p).blocks = s.blocks := by
  unfold State.applyContext
  (repeat' split) <;> simp

@[simp ↓] theorem State.applyPlace_blocks (p : Place) : (s.applyPlace p).blocks = s.blocks := by
  unfold State.applyPlace
  extract_lets known s0 s1 fresh q s2 s3 s4
  have h4 : s4.blocks = s.blocks := by
    simp [s4, s3, s2, s1]
  clear_value s4
  (repeat' split) <;> simp [h4]

@[simp ↓] theorem State.copyDone_blocks (c : CopyOut) : (s.copyDone c).blocks = s.blocks := by
  simp only [State.copyDone]
  (repeat' split) <;> simp

@[simp ↓] theorem State.landed_blocks (n : Nat) : (s.landed n).blocks = s.blocks := by rfl
@[simp ↓] theorem State.takeCopyAck_blocks (b : Bytes) : (s.takeCopyAck b).blocks = s.blocks := by
  simp only [State.takeCopyAck]
  (repeat' split) <;> simp

@[simp ↓] theorem State.storeHeld_blocks (p : Place) (h : HeldCopy) : (s.storeHeld p h).blocks = s.blocks := by simp [State.storeHeld]
@[simp ↓] theorem State.settleHeld_blocks : s.settleHeld.blocks = s.blocks := by
  unfold State.settleHeld
  refine foldl_blocks (fun s h => ?_) _ _
  split
  · rfl
  · dsimp only
    split
    · simp
    · split
      · rfl
      · split <;> simp

@[simp ↓] theorem State.takeCopy_blocks (b : Bytes) : (s.takeCopy b).blocks = s.blocks := by
  unfold State.takeCopy
  extract_lets src kind tenant ofs n data pkind p ack placed bad old start s1 hh at_ last h2 h3 s4 s5 s6
  have hack : ∀ t st, (ack t st).blocks = t.blocks := fun t st => State.nvTo_blocks ..
  have h1 : s1.blocks = s.blocks := by
    cases ho : old <;> simp [s1, ho]
  have h6 : s6.blocks = s.blocks := by
    simp [s6, s4, h1]
  clear_value s1 s6 ack
  refine ite_keeps _ (fun _ => by simp [hack]) fun _ => ite_keeps _ (fun _ => by simp [hack]) fun _ => ite_keeps _ (fun _ => by simp [hack]) fun _ => ?_
  exact ite_keeps _ (fun _ => by simp [hack, h6]) fun _ => ite_keeps _ (fun _ => by simp [h6]) fun _ => h6

@[simp ↓] theorem mirrorTimeout_blocks (copyId : W64) : (mirrorTimeout copyId s).blocks = s.blocks := by
  simp only [mirrorTimeout]
  (repeat' split) <;> simp

/-! Membership, failure declarations, levels, takeover, drain, and what a group does at each tick (17 R392 to R420). -/

@[simp ↓] theorem State.modGroup_blocks (f : Group → Group) : (s.modGroup f).blocks = s.blocks := by rfl
@[simp ↓] theorem State.modMember_blocks (r : Nat) (f : Member → Member) : (s.modMember r f).blocks = s.blocks := by rfl
@[simp ↓] theorem State.suspect_blocks (r cause : Nat) : (s.suspect r cause).blocks = s.blocks := by simp [State.suspect]
@[simp ↓] theorem State.assign_blocks (p : Place) : (s.assign p).blocks = s.blocks := by
  unfold State.assign
  (repeat' split) <;> simp

@[simp ↓] theorem State.assignAll_blocks (p : Place → Bool) : (s.assignAll p).blocks = s.blocks := by simp [State.assignAll]
@[simp ↓] theorem State.flushPlaces_blocks : s.flushPlaces.blocks = s.blocks := by simp [State.flushPlaces]
@[simp ↓] theorem State.takePlaceAck_blocks (b : Bytes) : (s.takePlaceAck b).blocks = s.blocks := by simp [State.takePlaceAck]
@[simp ↓] theorem State.takePlace_blocks (b : Bytes) : (s.takePlace b).blocks = s.blocks := by simp [State.takePlace]
@[simp ↓] theorem State.reconcile_blocks (e : Nat) : (s.reconcile e).blocks = s.blocks := by
  unfold State.reconcile
  dsimp only
  rw [State.nvTo_blocks, State.modGroup_blocks, ite_blocks, State.nvTo_blocks, ite_self, foldl_blocks, foldl_blocks, foldl_blocks]
  · simp
  · intro s h
    (repeat' split) <;> simp
  · simp
  · simp

@[simp ↓] theorem State.placesTick_blocks : s.placesTick.blocks = s.blocks := by
  simp only [State.placesTick]
  (repeat' split) <;> simp

@[simp ↓] theorem State.groupActivate_blocks (i : Image) (old : Option Image) : (s.groupActivate i old).blocks = s.blocks := by
  unfold State.groupActivate
  split <;> simp

@[simp ↓] theorem State.sendJoin_blocks : s.sendJoin.blocks = s.blocks := by rfl
@[simp ↓] theorem State.followMembers_blocks (l : List Nat) : (s.followMembers l).blocks = s.blocks := by simp [State.followMembers]
@[simp ↓] theorem State.stepIn_blocks (a : Admission) (t : Nat) : (s.stepIn a t).blocks = s.blocks := by simp [State.stepIn]
@[simp ↓] theorem beaconIn_blocks (net : Nat) (b : Bytes) (t : Nat) : (beaconIn net b t s).blocks = s.blocks := by
  unfold beaconIn
  extract_lets s1 uid src waiting n first member dep s2 f s3 s4 s5 s6
  have h1 : s1.blocks = s.blocks := State.advance_blocks ..
  have h6 : s6.blocks = s.blocks := by
    simp [s6, s5, s4, s3, s2, h1]
  have hw : waiting.blocks = s.blocks := by
    simp [waiting, h1]
  clear_value s1 waiting s6
  (repeat' split) <;> simp [h1, h6, hw]

@[simp ↓] theorem joinIn_blocks (net : Nat) (b : Bytes) : (joinIn net b s).blocks = s.blocks := by
  simp only [joinIn]
  (repeat' split) <;> simp

@[simp ↓] theorem joinRetry_blocks : (joinRetry s).blocks = s.blocks := by
  unfold joinRetry
  split <;> simp

@[simp ↓] theorem admitIn_blocks (b : Bytes) : (admitIn b s).blocks = s.blocks := by simp [admitIn]
@[simp ↓] theorem rejectIn_blocks (b : Bytes) : (rejectIn b s).blocks = s.blocks := by simp [rejectIn]
@[simp ↓] theorem readyIn_blocks (b : Bytes) : (readyIn b s).blocks = s.blocks := by simp [readyIn]
@[simp ↓] theorem readyTimeout_blocks (r : Nat) : (readyTimeout r s).blocks = s.blocks := by simp [readyTimeout]
@[simp ↓] theorem admissionDeadline_blocks (r : Nat) : (admissionDeadline r s).blocks = s.blocks := by simp [admissionDeadline]
@[simp ↓] theorem noBeacon_blocks : (noBeacon s).blocks = s.blocks := by simp [noBeacon]
@[simp ↓] theorem statusIn_blocks (b : Bytes) : (statusIn b s).blocks = s.blocks := by simp [statusIn]
@[simp ↓] theorem statusTimeout_blocks (r : Nat) : (statusTimeout r s).blocks = s.blocks := by simp [statusTimeout]
@[simp ↓] theorem failIn_blocks (b : Bytes) : (failIn b s).blocks = s.blocks := by simp [failIn]
@[simp ↓] theorem State.failOver_blocks (r : Nat) (p : Place) : (s.failOver r p).blocks = s.blocks := by
  unfold State.failOver
  (repeat' split) <;> simp

@[simp ↓] theorem State.declare_blocks (r cause : Nat) : (s.declare r cause).blocks = s.blocks := by simp [State.declare]
@[simp ↓] theorem State.linksTick_blocks : s.linksTick.blocks = s.blocks := by simp [State.linksTick]
@[simp ↓] theorem State.levelTick_blocks : s.levelTick.blocks = s.blocks := by simp [State.levelTick]
@[simp ↓] theorem State.levelWithdraw_blocks : s.levelWithdraw.blocks = s.blocks := by simp [State.levelWithdraw]
@[simp ↓] theorem State.levelManage_blocks : s.levelManage.blocks = s.blocks := by simp [State.levelManage]
@[simp ↓] theorem levelIn_blocks (b : Bytes) : (levelIn b s).blocks = s.blocks := by simp [levelIn]
@[simp ↓] theorem State.runningTick_blocks : s.runningTick.blocks = s.blocks := by simp [State.runningTick]
@[simp ↓] theorem State.admitOne_blocks (j : JoinReq) : (s.admitOne j).blocks = s.blocks := by rfl
@[simp ↓] theorem State.sendSnapshot_blocks (r : Nat) (l : List Place) : (s.sendSnapshot r l).blocks = s.blocks := by simp [State.sendSnapshot]
@[simp ↓] theorem State.snapshotTick_blocks : s.snapshotTick.blocks = s.blocks := by simp [State.snapshotTick]
@[simp ↓] theorem State.batchTick_blocks : s.batchTick.blocks = s.blocks := by simp [State.batchTick]
@[simp ↓] theorem State.deputyTick_blocks : s.deputyTick.blocks = s.blocks := by simp [State.deputyTick]
@[simp ↓] theorem State.drainTick_blocks : s.drainTick.blocks = s.blocks := by
  unfold State.drainTick
  split
  · rfl
  · refine (foldl_blocks (fun s p => ?_) _ _).trans (State.modMember_blocks ..)
    (repeat' split) <;> simp

@[simp ↓] theorem State.drainingTick_blocks : s.drainingTick.blocks = s.blocks := by simp [State.drainingTick]
@[simp ↓] theorem State.takeoverTick_blocks : s.takeoverTick.blocks = s.blocks := by simp [State.takeoverTick]
@[simp ↓] theorem State.takeMembers_blocks : s.takeMembers.blocks = s.blocks := by rfl
@[simp ↓] theorem State.actingManager_blocks (voted : Bool) : (s.actingManager voted).blocks = s.blocks := by simp [State.actingManager]
@[simp ↓] theorem State.managerTick_blocks : s.managerTick.blocks = s.blocks := by simp [State.managerTick]
@[simp ↓] theorem State.groupTick_blocks : s.groupTick.blocks = s.blocks := by simp [State.groupTick]
@[simp ↓] theorem takeoverIn_blocks (b : Bytes) : (takeoverIn b s).blocks = s.blocks := by simp [takeoverIn]
@[simp ↓] theorem voteIn_blocks (b : Bytes) : (voteIn b s).blocks = s.blocks := by simp [voteIn]
@[simp ↓] theorem takeoverTimeout_blocks : (takeoverTimeout s).blocks = s.blocks := by simp [takeoverTimeout]
@[simp ↓] theorem locateIn_blocks (net : Nat) (b : Bytes) : (locateIn net b s).blocks = s.blocks := by
  simp only [locateIn]
  (repeat' split) <;> simp

@[simp ↓] theorem State.drainAnswer_blocks (net rank result : Nat) : (s.drainAnswer net rank result).blocks = s.blocks := by rfl
@[simp ↓] theorem drainIn_blocks (net : Nat) (b : Bytes) : (drainIn net b s).blocks = s.blocks := by simp [drainIn]
@[simp ↓] theorem drainDone_blocks (r : Nat) : (drainDone r s).blocks = s.blocks := by
  unfold drainDone
  split <;> simp

@[simp ↓] theorem discoverIn_blocks (net : Nat) (b : Bytes) : (discoverIn net b s).blocks = s.blocks := by simp [discoverIn]
@[simp ↓] theorem helloIn_blocks (net : Nat) (b : Bytes) : (helloIn net b s).blocks = s.blocks := by simp [helloIn]
@[simp ↓] theorem placementRetry_blocks : (placementRetry s).blocks = s.blocks := by simp [placementRetry]
@[simp ↓] theorem buddyTimeout_blocks (h : W32) : (buddyTimeout h s).blocks = s.blocks := by
  unfold buddyTimeout
  split <;> simp

/-! What the compute commands do: model loads, contexts, token batches, refits (08 R196 to R201; 10 R231 to R234, R247, R248, R250; 15 R360 to R363). -/

@[simp ↓] theorem State.releaseModel_blocks (m : Model) : (s.releaseModel m).blocks = s.blocks := by simp [State.releaseModel]
@[simp ↓] theorem State.growObj_blocks (tenant : Nat) (k : ObjKind) (fmt : Byte) (old : Option LoadObj) (n : Nat) :
    (s.growObj tenant k fmt old n).2.blocks = s.blocks := by
  unfold State.growObj
  split <;> simp

@[simp ↓] theorem loadBegin_blocks (id : CmdId) (tenant : Nat) (b : Bytes) : (loadBegin id tenant b s).blocks = s.blocks := by simp [loadBegin]
@[simp ↓] theorem loadData_blocks (id : CmdId) (tenant : Nat) (b : Bytes) : (loadData id tenant b s).blocks = s.blocks := by
  unfold loadData
  extract_lets
  refine ite_keeps _ (fun _ => by simp) fun _ => ?_
  split
  · simp
  · refine ite_keeps _ (fun _ => by simp) fun _ => ite_keeps _ (fun _ => by simp) fun _ => ?_
    split
    · simp
    · refine ite_keeps _ (fun _ => by simp) fun _ => ?_
      extract_lets old had len more fmt r s1 o s2 t s3
      have h3 : s3.blocks = s.blocks := by
        simp [s3, s2, s1, r]
      exact ite_keeps _ (fun _ => by simp) fun _ => ite_keeps _ (fun _ => by simp) fun _ => by simp [h3]

@[simp ↓] theorem loadCommit_blocks (id : CmdId) (tenant : Nat) (b : Bytes) : (loadCommit id tenant b s).blocks = s.blocks := by
  unfold loadCommit
  (repeat' split) <;> simp

@[simp ↓] theorem State.loadEnds_blocks (m : Model) : (s.loadEnds m).blocks = s.blocks := by simp [State.loadEnds]
@[simp ↓] theorem loadAddScale_blocks (id : CmdId) (tenant : Nat) (b : Bytes) : (loadAddScale id tenant b s).blocks = s.blocks := by
  unfold loadAddScale
  (repeat' split) <;> simp

@[simp ↓] theorem loadAbandon_blocks (id : CmdId) (tenant : Nat) (b : Bytes) : (loadAbandon id tenant b s).blocks = s.blocks := by
  unfold loadAbandon
  (repeat' split) <;> simp

@[simp ↓] theorem loadTimeout_blocks (key : W64) : (loadTimeout key s).blocks = s.blocks := by
  unfold loadTimeout
  split <;> simp

@[simp ↓] theorem modelUnload_blocks (id : CmdId) (tenant : Nat) (b : Bytes) : (modelUnload id tenant b s).blocks = s.blocks := by
  unfold modelUnload
  (repeat' split) <;> simp

@[simp ↓] theorem State.unloadTick_blocks : s.unloadTick.blocks = s.blocks := by simp [State.unloadTick]
@[simp ↓] theorem listModels_blocks (id : CmdId) (tenant : Nat) (b : Bytes) : (listModels id tenant b s).blocks = s.blocks := by simp [listModels]
@[simp ↓] theorem State.settleLoads_blocks : s.settleLoads.blocks = s.blocks := by simp [State.settleLoads]
@[simp ↓] theorem openContext_blocks (id : CmdId) (tenant : Nat) (b : Bytes) : (openContext id tenant b s).blocks = s.blocks := by
  unfold openContext
  (repeat' split) <;> simp

@[simp ↓] theorem closeContext_blocks (id : CmdId) (tenant : Nat) (b : Bytes) : (closeContext id tenant b s).blocks = s.blocks := by
  unfold closeContext
  (repeat' split) <;> simp

@[simp ↓] theorem closeDone_blocks (h : W32) : (closeDone h s).blocks = s.blocks := by
  unfold closeDone
  split <;> simp

@[simp ↓] theorem getContext_blocks (id : CmdId) (tenant : Nat) (b : Bytes) : (getContext id tenant b s).blocks = s.blocks := by
  unfold getContext
  (repeat' split) <;> simp

@[simp ↓] theorem tokenBatch_blocks (id : CmdId) (tenant : Nat) (b : Bytes) (plan : Plan) : (tokenBatch id tenant b plan s).blocks = s.blocks := by
  simp only [tokenBatch]
  (repeat' split) <;> simp

@[simp ↓] theorem refitExpert_blocks (id : CmdId) (tenant : Nat) (b : Bytes) : (refitExpert id tenant b s).blocks = s.blocks := by
  unfold refitExpert
  extract_lets
  refine ite_keeps _ (fun _ => by simp) fun _ => ite_keeps _ (fun _ => by simp) fun _ => ite_keeps _ (fun _ => by simp) fun _ => ?_
  split
  · simp
  · refine ite_keeps _ (fun _ => by simp) fun _ => ite_keeps _ (fun _ => by simp) fun _ => ?_
    split
    · simp
    · refine ite_keeps _ (fun _ => by simp) fun _ => ite_keeps _ (fun _ => by simp) fun _ => ite_keeps _ (fun _ => by simp) fun _ => ?_
      extract_lets work st w n r s1 j lib s2
      have h1 : s1.blocks = s.blocks := by
        simp [s1, r, n, w]
      exact ite_keeps _ (fun _ => by simp) fun _ => ite_keeps _ (fun _ => by simp) fun _ => by simp [s2, h1]

@[simp ↓] theorem State.modRefit_blocks (job : Nat) (f : Refit → Refit) : (s.modRefit job f).blocks = s.blocks := by rfl
@[simp ↓] theorem State.dropRefit_blocks (job : Nat) : (s.dropRefit job).blocks = s.blocks := by rfl
@[simp ↓] theorem State.releaseScale_blocks (j : Refit) : (s.releaseScale j).blocks = s.blocks := by simp [State.releaseScale]
@[simp ↓] theorem State.refitFails_blocks (j : Refit) : (s.refitFails j).blocks = s.blocks := by simp [State.refitFails]
@[simp ↓] theorem State.refitWrites_blocks (j : Refit) : (s.refitWrites j).blocks = s.blocks := by
  unfold State.refitWrites
  (repeat' split) <;> simp

@[simp ↓] theorem State.streamState_blocks (j : Refit) : (s.streamState j).blocks = s.blocks := by
  unfold State.streamState
  split <;> simp

@[simp ↓] theorem State.refitTick_blocks : s.refitTick.blocks = s.blocks := by
  unfold State.refitTick
  refine foldl_blocks (fun s _ => ?_) _ _
  (repeat' split) <;> simp

@[simp ↓] theorem State.settleRefits_blocks : s.settleRefits.blocks = s.blocks := by
  unfold State.settleRefits
  refine foldl_blocks (fun s j => ?_) _ _
  dsimp only
  (repeat' split) <;> simp

@[simp ↓] theorem refitCommit_blocks (job : Nat) : (refitCommit job s).blocks = s.blocks := by
  unfold refitCommit
  (repeat' split) <;> simp

@[simp ↓] theorem refitShadowTimeout_blocks (job : Nat) : (refitShadowTimeout job s).blocks = s.blocks := by
  simp only [refitShadowTimeout]
  (repeat' split) <;> simp

/-! The search commands: shards, inserts, deletes, filters, queries, group queries, repair, embedding jobs (12 R270 to R292; 15 R364, R365; 17 R405, R416). -/

@[simp ↓] theorem State.modSearch_blocks (f : Search → Search) : (s.modSearch f).blocks = s.blocks := by rfl
@[simp ↓] theorem createIndex_blocks (id : CmdId) (tenant : Nat) (b : Bytes) : (createIndex id tenant b s).blocks = s.blocks := by simp [createIndex]
@[simp ↓] theorem State.indexCommit_blocks (x : Shard) : (s.indexCommit x).2.blocks = s.blocks := by rfl
@[simp ↓] theorem State.shadowCommit_blocks (i : W64) (k : W16) (id : Option CmdId) (seq : Nat) (nodes : List Nat) :
    (s.shadowCommit i k id seq nodes).blocks = s.blocks := by
  unfold State.shadowCommit
  split <;> simp

@[simp ↓] theorem destroyIndex_blocks (id : CmdId) (tenant : Nat) (b : Bytes) : (destroyIndex id tenant b s).blocks = s.blocks := by
  unfold destroyIndex
  (repeat' split) <;> simp

@[simp ↓] theorem State.settleShards_blocks : s.settleShards.blocks = s.blocks := by
  unfold State.settleShards
  refine foldl_blocks (fun s _ => ?_) _ _
  (repeat' split) <;> simp

@[simp ↓] theorem State.indexWrite_blocks (a : W64) (b : Bytes) : (s.indexWrite a b).blocks = s.blocks := by simp [State.indexWrite]
@[simp ↓] theorem State.putShard_blocks (x y : Shard) (l : List Nat) : (s.putShard x y l).blocks = s.blocks := by simp [State.putShard]
@[simp ↓] theorem State.countWalk_blocks (a b : QShard) : (s.countWalk a b).blocks = s.blocks := by rfl
@[simp ↓] theorem State.insertVecs_blocks (x : Shard) (id : Option CmdId) (l : List (W64 × Bytes)) :
    (s.insertVecs x id l).blocks = s.blocks := by simp [State.insertVecs]

@[simp ↓] theorem insertCmd_blocks (id : CmdId) (tenant : Nat) (b : Bytes) : (insertCmd id tenant b s).blocks = s.blocks := by
  unfold insertCmd
  split <;> simp

@[simp ↓] theorem State.putFilter_blocks (f : Filter) (bits : Marks) : (s.putFilter f bits).blocks = s.blocks := by simp [State.putFilter]
@[simp ↓] theorem State.clearNodeBits_blocks (i : W64) (k : W16) (l : List Nat) :
    (s.clearNodeBits i k l).blocks = s.blocks := by simp [State.clearNodeBits]

@[simp ↓] theorem State.publishTick_blocks : s.publishTick.blocks = s.blocks := by
  unfold State.publishTick
  refine foldl_blocks (fun s _ => ?_) _ _
  (repeat' split) <;> simp

@[simp ↓] theorem State.settleInserts_blocks : s.settleInserts.blocks = s.blocks := by simp [State.settleInserts]
@[simp ↓] theorem State.settleDeletes_blocks : s.settleDeletes.blocks = s.blocks := by simp [State.settleDeletes]
@[simp ↓] theorem deleteCmd_blocks (id : CmdId) (tenant : Nat) (b : Bytes) : (deleteCmd id tenant b s).blocks = s.blocks := by
  unfold deleteCmd
  split <;> simp

@[simp ↓] theorem indexRepair_blocks : (indexRepair s).blocks = s.blocks := by
  simp only [indexRepair]
  (repeat' split) <;> simp

@[simp ↓] theorem State.changeFilter_blocks (id : CmdId) (x : Shard) (idx : Nat) (bits : Marks) (all : Bool) (dw0 : W32) :
    (s.changeFilter id x idx bits all dw0).blocks = s.blocks := by
  simp [State.changeFilter]

@[simp ↓] theorem setFilter_blocks (id : CmdId) (tenant : Nat) (b : Bytes) : (setFilter id tenant b s).blocks = s.blocks := by
  simp only [setFilter]
  (repeat' split) <;> simp

@[simp ↓] theorem State.filterTick_blocks : s.filterTick.blocks = s.blocks := by
  unfold State.filterTick
  refine foldl_blocks (fun s _ => ?_) _ _
  (repeat' split) <;> simp

@[simp ↓] theorem State.settleFilters_blocks : s.settleFilters.blocks = s.blocks := by
  unfold State.settleFilters
  refine foldl_blocks (fun s _ => ?_) _ _
  (repeat' split) <;> simp

@[simp ↓] theorem State.beginQuery_blocks (id : CmdId) (tenant : Nat) (p : QueryParams) (l : List (Shard × Option Nat × Bool)) (gid : Option W64) (ans : Option Nat) (asked : List (Nat × Nat)) (dl : Nat) :
    (s.beginQuery id tenant p l gid ans asked dl).blocks = s.blocks := by
  rfl

@[simp ↓] theorem queryCmd_blocks (id : CmdId) (tenant : Nat) (b : Bytes) (plan : Plan) : (queryCmd id tenant b plan s).blocks = s.blocks := by
  unfold queryCmd
  extract_lets p held mine dir asked bad found own s1 dl qid s2 pb pad s3
  have h3 : s3.blocks = s.blocks := by
    simp [s3, s2, s1]
  refine ite_keeps _ (fun _ => by simp) fun _ => ite_keeps _ (fun _ => by simp) fun _ => ite_keeps _ (fun _ => by simp) fun _ => ?_
  split
  · simp
  · refine ite_keeps _ (fun _ => by simp) fun _ => ?_
    split
    · simp
    · exact ite_keeps _ (fun _ => by simp) fun _ => ite_keeps _ (fun _ => by simp) fun _ => ite_keeps _ (fun _ => by simp) fun _ => by simp [h3]

@[simp ↓] theorem State.modQuery_blocks (id : CmdId) (f : Query → Query) : (s.modQuery id f).blocks = s.blocks := by rfl
@[simp ↓] theorem State.startTraversal_blocks (q : Query) (k : QShard) (ctx : Nat) : (s.startTraversal q k ctx).blocks = s.blocks := by
  unfold State.startTraversal
  split <;> simp

@[simp ↓] theorem nodeRead_blocks (ctx : Nat) (marked : Bool) : (nodeRead ctx marked s).blocks = s.blocks := by
  unfold nodeRead
  (repeat' split) <;> simp

@[simp ↓] theorem State.rerank_blocks (q : Query) (k : QShard) : (s.rerank q k).blocks = s.blocks := by
  simp only [State.rerank]
  (repeat' split) <;> simp

@[simp ↓] theorem State.finishQuery_blocks (q : Query) : (s.finishQuery q).blocks = s.blocks := by
  unfold State.finishQuery
  (repeat' split) <;> simp

@[simp ↓] theorem State.queryTick_blocks : s.queryTick.blocks = s.blocks := by
  unfold State.queryTick
  refine (foldl_blocks (fun s q => by simp) _ _).trans ((foldl_blocks (fun s q => ?_) _ _).trans (foldl_blocks (fun s q => ?_) _ _))
  · refine foldl_blocks (fun s k => ?_) _ _
    (repeat' split) <;> simp
  · simp

@[simp ↓] theorem queryIn_blocks (b : Bytes) : (queryIn b s).blocks = s.blocks := by
  simp only [queryIn]
  (repeat' split) <;> simp

@[simp ↓] theorem answerIn_blocks (b : Bytes) : (answerIn b s).blocks = s.blocks := by
  unfold answerIn
  (repeat' split) <;> simp

@[simp ↓] theorem groupQueryTimeout_blocks (qid : W64) : (groupQueryTimeout qid s).blocks = s.blocks := by
  unfold groupQueryTimeout
  split <;> simp

@[simp ↓] theorem embeddingJob_blocks (id : CmdId) (tenant : Nat) (b : Bytes) (outDim : Nat) :
    (embeddingJob id tenant b outDim s).blocks = s.blocks := by
  simp only [embeddingJob]
  (repeat' split) <;> simp

@[simp ↓] theorem State.modJob_blocks (id : W16) (f : EmbedJob → EmbedJob) : (s.modJob id f).blocks = s.blocks := by rfl
@[simp ↓] theorem State.endJob_blocks (j : EmbedJob) (t : Status) : (s.endJob j t).blocks = s.blocks := by simp [State.endJob]
@[simp ↓] theorem State.jobTick_blocks (j : EmbedJob) : (s.jobTick j).blocks = s.blocks := by
  unfold State.jobTick
  (repeat' split) <;> simp

@[simp ↓] theorem State.searchTick_blocks : s.searchTick.blocks = s.blocks := by simp [State.searchTick]
@[simp ↓] theorem State.settleSearch_blocks : s.settleSearch.blocks = s.blocks := by simp [State.settleSearch]

/-! I/O commands: their order, the NVM command set, queue resets, namespaces (15 R347 to R359; 14 R342; 17 R404; 19 R452, R453). -/

@[simp ↓] theorem State.modHostCtrl_blocks (n : W16) (f : HostCtrl → HostCtrl) : (s.modHostCtrl n f).blocks = s.blocks := by rfl
@[simp ↓] theorem State.changeRange_blocks (id : CmdId) (n : Namespace) (ofs len : Nat) (d : Option Bytes) :
    (s.changeRange id n ofs len d).2.blocks = s.blocks := by
  unfold State.changeRange
  split
  · rfl
  · refine foldl_snd_blocks (fun r i => ?_) _ _
    (repeat' split) <;> simp

@[simp ↓] theorem State.hostChange_blocks (h : IoHdr) (n : Namespace) (l : List (Nat × Nat)) (d : Option Bytes) :
    (s.hostChange h n l d).blocks = s.blocks := by
  simp [State.hostChange]

@[simp ↓] theorem nvmWrite_blocks (h : IoHdr) (slba : W64) (nlb : W16) (data : Bytes) : (nvmWrite h slba nlb data s).blocks = s.blocks := by
  unfold nvmWrite
  (repeat' split) <;> simp

@[simp ↓] theorem nvmWriteZeroes_blocks (h : IoHdr) (slba : W64) (nlb : W16) : (nvmWriteZeroes h slba nlb s).blocks = s.blocks := by
  unfold nvmWriteZeroes
  (repeat' split) <;> simp

@[simp ↓] theorem nvmDsm_blocks (h : IoHdr) (attrs : W32) (ranges : List (W64 × W32)) : (nvmDsm h attrs ranges s).blocks = s.blocks := by
  unfold nvmDsm
  split <;> simp

@[simp ↓] theorem nvmFlush_blocks (h : IoHdr) : (nvmFlush h s).blocks = s.blocks := by
  unfold nvmFlush
  split <;> simp

@[simp ↓] theorem State.finishRead_blocks (r : HostRead) : (s.finishRead r).blocks = s.blocks := by
  simp only [State.finishRead]
  (repeat' split) <;> simp

@[simp ↓] theorem nvmRead_blocks (h : IoHdr) (slba : W64) (nlb : W16) : (nvmRead h slba nlb s).blocks = s.blocks := by
  unfold nvmRead
  (repeat' split) <;> simp

@[simp ↓] theorem State.slotRead_blocks (l : Nat) (bad : Bool) : (s.slotRead l bad).blocks = s.blocks := by simp [State.slotRead]
@[simp ↓] theorem startIo_blocks (i : Instr) : (startIo i s).blocks = s.blocks := by
  simp only [startIo]
  (repeat' split) <;> simp

@[simp ↓] theorem State.startNext_blocks : s.startNext.blocks = s.blocks := by
  unfold State.startNext
  (repeat' split) <;> simp

@[simp ↓] theorem State.startAll_blocks (n : Nat) : (State.startAll n s).blocks = s.blocks := by
  induction n generalizing s with
  | zero => rfl
  | succ n ih => simp [State.startAll, ih]

@[simp ↓] theorem State.runIo_blocks : s.runIo.blocks = s.blocks := by simp [State.runIo]
@[simp ↓] theorem State.trimLost_blocks : s.trimLost.blocks = s.blocks := by rfl
@[simp ↓] theorem State.mirrorPart_blocks (p : WritePart) : (s.mirrorPart p).blocks = s.blocks := by
  simp only [State.mirrorPart]
  (repeat' split) <;> simp

@[simp ↓] theorem State.settleHost_blocks (ended : List WritePart) : (s.settleHost ended).blocks = s.blocks := by simp [State.settleHost]
@[simp ↓] theorem State.dropNs_blocks (n : Namespace) : (s.dropNs n).blocks = s.blocks := by simp [State.dropNs]
@[simp ↓] theorem State.settleNamespaces_blocks : s.settleNamespaces.blocks = s.blocks := by
  unfold State.settleNamespaces
  refine foldl_blocks (fun s _ => ?_) _ _
  (repeat' split) <;> simp

@[simp ↓] theorem State.settle_blocks : s.settle.blocks = s.blocks := by simp [State.settle]
@[simp ↓] theorem State.rename_blocks (a b : CmdId) : (State.rename a b s).blocks = s.blocks := by rfl
@[simp ↓] theorem State.dropParts_blocks (id : CmdId) : (s.dropParts id).blocks = s.blocks := by rfl
@[simp ↓] theorem State.stopBatch_blocks (id : CmdId) : (s.stopBatch id).blocks = s.blocks := by
  unfold State.stopBatch
  refine foldl_blocks (fun s _ => ?_) _ _
  (repeat' split) <;> simp

@[simp ↓] theorem State.stopTick_blocks : s.stopTick.blocks = s.blocks := by simp [State.stopTick]
@[simp ↓] theorem State.dropQuery_blocks (id : CmdId) : (s.dropQuery id).blocks = s.blocks := by
  unfold State.dropQuery
  split <;> simp

@[simp ↓] theorem State.loseCmd_blocks (post : Bool) (o : OpenCmd) : (s.loseCmd post o).blocks = s.blocks := by simp [State.loseCmd]
@[simp ↓] theorem State.queueReset_blocks (p : CmdId → Bool) (post : Bool) : (s.queueReset p post).blocks = s.blocks := by simp [State.queueReset]
@[simp ↓] theorem State.closeQp_blocks (ctrl sq : W16) : (s.closeQp ctrl sq).blocks = s.blocks := by rfl
@[simp ↓] theorem State.loseQueue_blocks (ctrl sq : W16) (post : Bool) : (s.loseQueue ctrl sq post).blocks = s.blocks := by simp [State.loseQueue]
@[simp ↓] theorem State.resetController_blocks (ctrl : W16) : (s.resetController ctrl).blocks = s.blocks := by simp [State.resetController]
@[simp ↓] theorem State.dropController_blocks (ctrl : W16) : (s.dropController ctrl).blocks = s.blocks := by simp [State.dropController]
@[simp ↓] theorem State.portLost_blocks (p : Nat) : (s.portLost p).blocks = s.blocks := by simp [State.portLost]

/-! Associations and admin commands: Connect, properties, Identify, logs, features, asynchronous events, namespaces (15 R343 to R349, R356, R366, R367; 14 R340 to R342; 20 R470, R471). -/

@[simp ↓] theorem State.eventTo_blocks (ctrl : W16) (e mask : W32) : (s.eventTo ctrl e mask).blocks = s.blocks := by
  unfold State.eventTo
  split <;> simp

@[simp ↓] theorem State.warnEvents_blocks : s.warnEvents.blocks = s.blocks := by simp [State.warnEvents]
@[simp ↓] theorem getLogPage_blocks (id : CmdId) (lid : Byte) (lsi : W16) (ofs len : Nat) : (getLogPage id lid lsi ofs len s).blocks = s.blocks := by
  unfold getLogPage
  split <;> simp

@[simp ↓] theorem identify_blocks (id : CmdId) (cns : Byte) (nsid : W32) : (identify id cns nsid s).blocks = s.blocks := by
  unfold identify
  (repeat' split) <;> simp

@[simp ↓] theorem getFeatures_blocks (id : CmdId) (fid : Byte) : (getFeatures id fid s).blocks = s.blocks := by
  unfold getFeatures
  (repeat' split) <;> simp

@[simp ↓] theorem setFeatures_blocks (id : CmdId) (fid : Byte) (v : W32) : (setFeatures id fid v s).blocks = s.blocks := by
  unfold setFeatures
  (repeat' split) <;> simp

@[simp ↓] theorem asyncEvent_blocks (id : CmdId) : (asyncEvent id s).blocks = s.blocks := by
  unfold asyncEvent
  (repeat' split) <;> simp

@[simp ↓] theorem abortCmd_blocks (id : CmdId) : (abortCmd id s).blocks = s.blocks := by rfl
@[simp ↓] theorem keepAlive_blocks (id : CmdId) : (keepAlive id s).blocks = s.blocks := by rfl
@[simp ↓] theorem keepAliveExpired_blocks (ctrl : W16) : (keepAliveExpired ctrl s).blocks = s.blocks := by
  unfold keepAliveExpired
  split <;> simp

@[simp ↓] theorem State.openHostQp_blocks (port : Nat) (ctrl sq : W16) : (s.openHostQp port ctrl sq).blocks = s.blocks := by rfl
@[simp ↓] theorem connectCmd_blocks (id : CmdId) (port : Nat) (sqsize : W16) (kato : W32) : (connectCmd id port sqsize kato s).blocks = s.blocks := by
  unfold connectCmd
  (repeat' split) <;> simp

@[simp ↓] theorem propertyGet_blocks (id : CmdId) (ofs : W32) : (propertyGet id ofs s).blocks = s.blocks := by
  unfold propertyGet
  (repeat' split) <;> simp

@[simp ↓] theorem setCc_blocks (id : CmdId) (v : W32) : (setCc id v s).blocks = s.blocks := by
  unfold setCc
  split <;> simp

@[simp ↓] theorem disconnectCmd_blocks (id : CmdId) : (disconnectCmd id s).blocks = s.blocks := by
  unfold disconnectCmd
  split <;> simp

@[simp ↓] theorem connectionLost_blocks (ctrl sq : W16) : (connectionLost ctrl sq s).blocks = s.blocks := by
  unfold connectionLost
  split <;> simp

@[simp ↓] theorem createNamespace_blocks (id : CmdId) (nsze : W64) (lbaf : Nat) (b : Bytes) :
    (createNamespace id nsze lbaf b s).blocks = s.blocks := by
  unfold createNamespace
  split <;> simp

@[simp ↓] theorem deleteNamespace_blocks (id : CmdId) (nsid : Nat) : (deleteNamespace id nsid s).blocks = s.blocks := by
  unfold deleteNamespace
  (repeat' split) <;> simp

@[simp ↓] theorem State.formatOne_blocks (id : CmdId) (lbaf : Nat) (erase : Bool) (n : Namespace) :
    (s.formatOne id lbaf erase n).blocks = s.blocks := by
  unfold State.formatOne
  split <;> simp

@[simp ↓] theorem formatNvm_blocks (id : CmdId) (nsid : W32) (lbaf ses : Nat) : (formatNvm id nsid lbaf ses s).blocks = s.blocks := by
  unfold formatNvm
  split <;> simp

/-! Loading, checking, activating and discarding a Loft image (03 R56 to R61, R75 to R81). -/

@[simp ↓] theorem State.modLoft_blocks (f : Loft → Loft) : (s.modLoft f).blocks = s.blocks := by rfl
@[simp ↓] theorem imageTransfer_blocks (id : CmdId) (numd ofst : W32) (data : Bytes) :
    (imageTransfer id numd ofst data s).blocks = s.blocks := by simp [imageTransfer]

@[simp ↓] theorem State.discardPending_blocks : s.discardPending.blocks = s.blocks := by
  unfold State.discardPending
  split <;> simp

@[simp ↓] theorem imageCancel_blocks (id : CmdId) : (imageCancel id s).blocks = s.blocks := by
  unfold imageCancel
  split <;> simp

@[simp ↓] theorem imageApply_blocks (id : CmdId) (rsv : Bool) (mode act : Nat) :
    (imageApply id rsv mode act s).blocks = s.blocks := by simp [imageApply]

@[simp ↓] theorem checkDone_blocks : (checkDone s).blocks = s.blocks := by
  simp only [checkDone]
  (repeat' split) <;> simp

@[simp ↓] theorem State.evictT0_blocks (i : Image) : (s.evictT0 i).blocks = s.blocks := by simp [State.evictT0]
@[simp ↓] theorem State.activate_blocks (p : Pending) : (s.activate p).blocks = s.blocks := by simp [State.activate]
@[simp ↓] theorem State.activateDue_blocks : s.activateDue.blocks = s.blocks := by
  unfold State.activateDue
  split <;> simp

/-! What the Drogue does on a fault: local-fatal actions, the safe state, its exit, heartbeats (18 R425 to R437; 01 R29). -/

@[simp ↓] theorem State.modDrogue_blocks (f : Drogue → Drogue) : (s.modDrogue f).blocks = s.blocks := by rfl
@[simp ↓] theorem State.endFreeze_blocks : s.endFreeze.blocks = s.blocks := by simp [State.endFreeze]
@[simp ↓] theorem beginSparReset_blocks : (beginSparReset s).blocks = s.blocks := by simp [beginSparReset]
@[simp ↓] theorem State.abortAdmin_blocks (k : Nat) : (s.abortAdmin k).blocks = s.blocks := by simp [State.abortAdmin]
@[simp ↓] theorem State.act_blocks (a : LocalAct) : (s.act a).blocks = s.blocks := by
  unfold State.act
  (repeat' split) <;> simp

@[simp ↓] theorem State.restartQuiet_blocks : s.restartQuiet.blocks = s.blocks := by rfl
@[simp ↓] theorem State.interruptCmd_blocks (o : OpenCmd) : (s.interruptCmd o).blocks = s.blocks := by
  simp only [State.interruptCmd]
  (repeat' split) <;> simp

@[simp ↓] theorem State.stopForSafe_blocks : s.stopForSafe.blocks = s.blocks := by simp [State.stopForSafe]
@[simp ↓] theorem State.enterSafe_blocks (src : Byte) : (s.enterSafe src).blocks = s.blocks := by simp [State.enterSafe]
@[simp ↓] theorem State.moduleFatal_blocks (f : FaultIn) : (s.moduleFatal f).blocks = s.blocks := by simp [State.moduleFatal]
@[simp ↓] theorem State.countLocal_blocks (f : FaultIn) : (s.countLocal f).2.blocks = s.blocks := by simp [State.countLocal]
@[simp ↓] theorem State.localFatal_blocks (f : FaultIn) : (s.localFatal f).blocks = s.blocks := by simp [State.localFatal]
@[simp ↓] theorem State.report_keeps_blocks (f : FaultIn) : (s.report_ f).blocks = s.blocks := by
  unfold State.report_
  split <;> simp

@[simp ↓] theorem quietEnds_blocks : (quietEnds s).blocks = s.blocks := by
  unfold quietEnds
  split <;> simp

@[simp ↓] theorem State.leaveSafe_blocks : s.leaveSafe.blocks = s.blocks := by simp [State.leaveSafe]
@[simp ↓] theorem sparResetDone_blocks : (sparResetDone s).blocks = s.blocks := by simp [sparResetDone]
@[simp ↓] theorem drogueParity_blocks : (drogueParity s).blocks = s.blocks := by simp [drogueParity]
@[simp ↓] theorem capClear_blocks (v : W32) : (capClear v s).blocks = s.blocks := by simp [capClear]
@[simp ↓] theorem heartbeat_blocks (master : W16) (v : W32) : (heartbeat master v s).blocks = s.blocks := by simp [heartbeat]
@[simp ↓] theorem heartbeatMiss_blocks (core : Nat) : (heartbeatMiss core s).blocks = s.blocks := by simp [heartbeatMiss]
@[simp ↓] theorem coreRestarted_blocks (k : Nat) : (coreRestarted k s).blocks = s.blocks := by simp [coreRestarted]
@[simp ↓] theorem clusterResetDone_blocks (c : Nat) : (clusterResetDone c s).blocks = s.blocks := by simp [clusterResetDone]
@[simp ↓] theorem bridleResetDone_blocks : (bridleResetDone s).blocks = s.blocks := by simp [bridleResetDone]

/-! Signed images, the boot chain, SPDM, owner keys and the debug token (19). Byte layouts of the SPDM messages are DSP0274's (log 4). -/

@[simp ↓] theorem State.modSec_blocks (f : Sec → Sec) : (s.modSec f).blocks = s.blocks := by rfl
@[simp ↓] theorem State.drawBytes_blocks (n : Nat) : (s.drawBytes n).2.blocks = s.blocks := by rfl
@[simp ↓] theorem fwDownload_blocks (id : CmdId) (ofst : W32) (data : Bytes) : (fwDownload id ofst data s).blocks = s.blocks := by simp [fwDownload]
@[simp ↓] theorem fwCommit_blocks (id : CmdId) (action slot : Nat) : (fwCommit id action slot s).blocks = s.blocks := by simp [fwCommit]
@[simp ↓] theorem boot_blocks : (boot s).blocks = s.blocks := by
  simp only [boot]
  (repeat' split) <;> simp

@[simp ↓] theorem State.fuseFirmware_blocks : s.fuseFirmware.blocks = s.blocks := by
  simp only [State.fuseFirmware]
  (repeat' split) <;> simp

@[simp ↓] theorem State.modSpdm_blocks (f : Spdm → Spdm) : (s.modSpdm f).blocks = s.blocks := by rfl
@[simp ↓] theorem State.respond_blocks (r : Bytes) : (s.respond r).blocks = s.blocks := by simp [State.respond]
@[simp ↓] theorem spdmVersion_blocks (req : Bytes) : (spdmVersion req s).blocks = s.blocks := by simp [spdmVersion]
@[simp ↓] theorem spdmCapabilities_blocks (req : Bytes) : (spdmCapabilities req s).blocks = s.blocks := by simp [spdmCapabilities]
@[simp ↓] theorem spdmAlgorithms_blocks (req : Bytes) : (spdmAlgorithms req s).blocks = s.blocks := by simp [spdmAlgorithms]
@[simp ↓] theorem spdmDigests_blocks (req : Bytes) : (spdmDigests req s).blocks = s.blocks := by simp [spdmDigests]
@[simp ↓] theorem spdmCertificate_blocks (req : Bytes) : (spdmCertificate req s).blocks = s.blocks := by simp [spdmCertificate]
@[simp ↓] theorem spdmChallenge_blocks (req : Bytes) : (spdmChallenge req s).blocks = s.blocks := by simp [spdmChallenge]
@[simp ↓] theorem spdmMeasurements_blocks (req : Bytes) : (spdmMeasurements req s).blocks = s.blocks := by simp [spdmMeasurements]
@[simp ↓] theorem spdmChunkGet_blocks (req : Bytes) : (spdmChunkGet req s).blocks = s.blocks := by simp [spdmChunkGet]
@[simp ↓] theorem pqSignature_blocks (signed : Option Bytes) : (pqSignature signed s).blocks = s.blocks := by
  unfold pqSignature
  split <;> simp

@[simp ↓] theorem getNonce_blocks : (getNonce s).blocks = s.blocks := by simp [getNonce]
@[simp ↓] theorem ownerSet_blocks (b : Bytes) : (ownerSet b s).blocks = s.blocks := by simp [ownerSet]
@[simp ↓] theorem ownerRevoke_blocks (b : Bytes) : (ownerRevoke b s).blocks = s.blocks := by simp [ownerRevoke]
@[simp ↓] theorem spdmVendor_blocks (req : Bytes) (signed : Option Bytes) : (spdmVendor req signed s).blocks = s.blocks := by
  unfold spdmVendor
  (repeat' split) <;> simp

@[simp ↓] theorem spdmRequest_blocks (req : Bytes) : (spdmRequest req s).blocks = s.blocks := by
  simp only [spdmRequest]
  (repeat' split) <;> simp

@[simp ↓] theorem spdmChunkSend_blocks (req : Bytes) : (spdmChunkSend req s).blocks = s.blocks := by simp [spdmChunkSend]
@[simp ↓] theorem spdm_blocks (req : Bytes) : (spdm req s).blocks = s.blocks := by simp [spdm]
@[simp ↓] theorem spdmWhole_blocks (req : Bytes) : (spdmWhole req s).blocks = s.blocks := by simp [spdmWhole]
@[simp ↓] theorem securitySend_blocks (id : CmdId) (secp : Byte) (data : Bytes) :
    (securitySend id secp data s).blocks = s.blocks := by simp [securitySend]

@[simp ↓] theorem securityReceive_blocks (id : CmdId) (secp : Byte) (len : Nat) :
    (securityReceive id secp len s).blocks = s.blocks := by simp [securityReceive]

@[simp ↓] theorem State.newNonce_blocks : s.newNonce.blocks = s.blocks := by rfl
@[simp ↓] theorem unlock_blocks : (unlock s).blocks = s.blocks := by simp [unlock]
@[simp ↓] theorem tokenChecked_blocks : (tokenChecked s).blocks = s.blocks := by simp [tokenChecked]

/-! Input, power-up, resets, Hold, sleep, throttles, sensors, adaptive loops (20; 13 R306, R308; 01 R26). -/

@[simp ↓] theorem State.modPower_blocks (f : Power → Power) : (s.modPower f).blocks = s.blocks := by rfl
@[simp ↓] theorem State.stopLinks_blocks (cut : Bool) (h : s.blocks = moduleBlocks) : (s.stopLinks cut).blocks = moduleBlocks := by
  obtain ⟨hc, hm, -, hl, hg⟩ := s.shape_iff.2 h
  refine (State.blocks_mk ..).trans ((foldl_blocks (fun s i => by simp) _ _).trans ?_)
  cases cut <;> simp [hc, hm, hl, hg]

@[simp ↓] theorem State.stopRefits_blocks (alive : Nat → Bool) : (s.stopRefits alive).blocks = s.blocks := by simp [State.stopRefits]
@[simp ↓] theorem State.stopModels_blocks : s.stopModels.blocks = s.blocks := by simp [State.stopModels]
@[simp ↓] theorem State.stopSearch_blocks (alive : Nat → Bool) : (s.stopSearch alive).blocks = s.blocks := by simp [State.stopSearch]
@[simp ↓] theorem State.stopNamespaces_blocks (alive : Nat → Bool) (cut : Bool) : (s.stopNamespaces alive cut).blocks = s.blocks := by
  unfold State.stopNamespaces
  refine foldl_blocks (fun s _ => ?_) _ _
  (repeat' split) <;> simp

@[simp ↓] theorem State.stopReel_blocks (cut : Bool) : (s.stopReel cut).blocks = s.blocks := by simp [State.stopReel]
@[simp ↓] theorem State.stopSec_blocks : s.stopSec.blocks = s.blocks := by rfl
@[simp ↓] theorem State.moduleStop_blocks (cut : Bool) (h : s.blocks = moduleBlocks) : (s.moduleStop cut).blocks = moduleBlocks := by
  have hs : ∀ alive, ((((((((s.stopLinks cut).stopRefits alive).stopModels).stopSearch alive).stopMedia cut).stopNamespaces alive cut).stopReel cut).stopSec).Shape := by
    intro alive
    rw [State.shape_iff]
    simp [h]
  obtain ⟨hc, hm, hp, hl, -⟩ := hs s.survives
  unfold State.moduleStop
  refine (State.blocks_mk ..).trans ?_
  cases cut <;> simp [hc, hm, hp, hl]

@[simp ↓] theorem State.resetModule_blocks (cause : BitVec 4) (h : s.blocks = moduleBlocks) : (s.resetModule cause).blocks = moduleBlocks := by
  simp [State.resetModule, h]

@[simp ↓] theorem modReset_blocks (ns : Nat) (h : s.blocks = moduleBlocks) : (modReset ns s).blocks = moduleBlocks := by simp [modReset, h]
@[simp ↓] theorem State.inputLoss_blocks (next : Phase) (h : s.blocks = moduleBlocks) :
    (s.inputLoss next).blocks = moduleBlocks := by simp [State.inputLoss, h]

@[simp ↓] theorem holdupFalls_blocks : (holdupFalls s).blocks = s.blocks := by simp [holdupFalls]
@[simp ↓] theorem pwrAssert_blocks (mv : Nat) : (pwrAssert mv s).blocks = s.blocks := by
  simp only [pwrAssert]
  (repeat' split) <;> simp

@[simp ↓] theorem pwrDeassert_blocks (h : s.blocks = moduleBlocks) : (pwrDeassert s).blocks = moduleBlocks := by simp [pwrDeassert, h]
@[simp ↓] theorem inputBack_blocks : (inputBack s).blocks = s.blocks := by simp [inputBack]
@[simp ↓] theorem railTimeout_blocks (rail : Nat) : (railTimeout rail s).blocks = s.blocks := by simp [railTimeout]
@[simp ↓] theorem powerGood_blocks : (powerGood s).blocks = s.blocks := by simp [powerGood]
@[simp ↓] theorem inputSample_blocks (mv ma10 : Nat) (h : s.blocks = moduleBlocks) : (inputSample mv ma10 s).blocks = moduleBlocks := by
  unfold inputSample
  split <;> simp [h]

@[simp ↓] theorem holdupTest_blocks (us : Nat) : (holdupTest us s).blocks = s.blocks := by simp [holdupTest]
@[simp ↓] theorem State.supplyCleared_blocks (was : Bool) : (s.supplyCleared was).blocks = s.blocks := by simp [State.supplyCleared]
@[simp ↓] theorem sensorSample_blocks (l : List W16) (h : s.blocks = moduleBlocks) :
    (sensorSample l s).blocks = moduleBlocks := by simp [sensorSample, h]

@[simp ↓] theorem railOut_blocks (rail : Nat) : (railOut rail s).blocks = s.blocks := by simp [railOut]
@[simp ↓] theorem railBack_blocks (rail : Nat) : (railBack rail s).blocks = s.blocks := by simp [railBack]
@[simp ↓] theorem State.noteThrottle_blocks : s.noteThrottle.blocks = s.blocks := by rfl
@[simp ↓] theorem State.setTarget_blocks (n : BitVec 3) : (s.setTarget n).blocks = s.blocks := by simp [State.setTarget]
@[simp ↓] theorem softDown_blocks : (softDown s).blocks = s.blocks := by simp [softDown]
@[simp ↓] theorem softUp_blocks : (softUp s).blocks = s.blocks := by simp [softUp]
@[simp ↓] theorem State.chargeStop_blocks (m : BitVec 8) : (s.chargeStop m).blocks = s.blocks := by simp [State.chargeStop]
@[simp ↓] theorem State.chargeFreeze_blocks : s.chargeFreeze.blocks = s.blocks := by simp [State.chargeFreeze]
@[simp ↓] theorem State.chargeHalts_blocks : s.chargeHalts.blocks = s.blocks := by simp [State.chargeHalts]
@[simp ↓] theorem hardThrottle_blocks : (hardThrottle s).blocks = s.blocks := by simp [hardThrottle]
@[simp ↓] theorem freezeEnd_blocks : (freezeEnd s).blocks = s.blocks := by simp [freezeEnd]
@[simp ↓] theorem State.stepTrim_blocks (g : Nat) (up : Bool) : (s.stepTrim g up).blocks = s.blocks := by rfl
@[simp ↓] theorem avsGroup_blocks (g margin pm : Nat) : (avsGroup s g margin pm).blocks = s.blocks := by simp [avsGroup]
@[simp ↓] theorem avsLoop_blocks (margins pm : List Nat) : (avsLoop margins pm s).blocks = s.blocks := by simp [avsLoop]
@[simp ↓] theorem droop_blocks (g : Nat) : (droop g s).blocks = s.blocks := by simp [droop]
@[simp ↓] theorem droopEnd_blocks (g : Nat) : (droopEnd g s).blocks = s.blocks := by rfl
@[simp ↓] theorem sleepReq_blocks (c : Nat) : (sleepReq c s).blocks = s.blocks := by simp [sleepReq]
@[simp ↓] theorem sleepEnter_blocks (c : Nat) : (sleepEnter c s).blocks = s.blocks := by simp [sleepEnter]
@[simp ↓] theorem sleepWake_blocks (c : Nat) : (sleepWake c s).blocks = s.blocks := by simp [sleepWake]
@[simp ↓] theorem holdSet_blocks (v : W32) : (holdSet v s).blocks = s.blocks := by simp [holdSet]
@[simp ↓] theorem holdClr_blocks (v : W32) : (holdClr v s).blocks = s.blocks := by simp [holdClr]
@[simp ↓] theorem State.holdTick_blocks : s.holdTick.blocks = s.blocks := by
  unfold State.holdTick
  split <;> simp

@[simp ↓] theorem State.fault_blocks (f : FaultIn) (h : s.blocks = moduleBlocks) : (s.fault f).blocks = moduleBlocks := by simp [State.fault, h]
@[simp ↓] theorem watchdog_blocks (h : s.blocks = moduleBlocks) : (watchdog s).blocks = moduleBlocks := by simp [watchdog, h]

/-! What the Envelope reports: programs, erases and reads that end, dies that fail, flushes, reclamation, scrub, the rebuild at a start (13 R294 to R310; 14 R326 to R341). -/

@[simp ↓] theorem State.dieFails_blocks (d : Nat) : (s.dieFails d).blocks = s.blocks := by simp [State.dieFails]
@[simp ↓] theorem State.countDie_blocks (d : Nat) : (s.countDie d).blocks = s.blocks := by simp [State.countDie]
@[simp ↓] theorem State.channelFails_blocks (ch : Nat) : (s.channelFails ch).blocks = s.blocks := by simp [State.channelFails]
@[simp ↓] theorem State.train_blocks (n : Nat) (rates : List (BitVec 3)) : (s.train n rates).blocks = s.blocks := by simp [State.train]
@[simp ↓] theorem envResetEnds_blocks (n : Nat) (rates : List (BitVec 3)) : (envResetEnds n rates s).blocks = s.blocks := by simp [envResetEnds]
@[simp ↓] theorem State.writeNow_blocks (n : Nat) : (s.writeNow n).blocks = s.blocks := by rfl
@[simp ↓] theorem programEnds_blocks (job : Nat) (fail : Bool) : (programEnds job fail s).blocks = s.blocks := by
  unfold programEnds
  split <;> simp

@[simp ↓] theorem eraseEnds_blocks (d : Nat) (fail : Bool) : (eraseEnds d fail s).blocks = s.blocks := by
  unfold eraseEnds
  split <;> simp

@[simp ↓] theorem State.staged_blocks (g : Nat) : (s.staged g).2.blocks = s.blocks := by simp [State.staged]
@[simp ↓] theorem flashReadEnds_blocks (l step : Nat) : (flashReadEnds l step s).blocks = s.blocks := by
  unfold flashReadEnds
  split <;> simp

@[simp ↓] theorem dieTimeout_blocks (d : Nat) : (dieTimeout d s).blocks = s.blocks := by
  unfold dieTimeout
  split <;> simp

@[simp ↓] theorem calibrationRead_blocks (d b : Nat) (l : List Byte) : (calibrationRead d b l s).blocks = s.blocks := by simp [calibrationRead]
@[simp ↓] theorem flushDue_blocks : (flushDue s).blocks = s.blocks := by simp [flushDue]
@[simp ↓] theorem gcStart_blocks (d : Nat) (bad : List Nat) : (gcStart d bad s).blocks = s.blocks := by simp [gcStart]
@[simp ↓] theorem gcCommit_blocks (n : Nat) : (gcCommit n s).blocks = s.blocks := by simp [gcCommit]
@[simp ↓] theorem scrub_blocks (d b cw step : Nat) : (scrub d b cw step s).blocks = s.blocks := by
  simp only [scrub]
  (repeat' split) <;> simp

@[simp ↓] theorem tempSample_blocks : (tempSample s).blocks = s.blocks := by simp [tempSample]
@[simp ↓] theorem startDie_blocks (rb : RebuildIn) (d : Nat) : (startDie rb s d).blocks = s.blocks := by simp [startDie]
@[simp ↓] theorem startBlock_blocks (e : Nat × Blk) : (startBlock s e).blocks = s.blocks := by
  unfold startBlock
  split <;> simp

@[simp ↓] theorem State.rewriteCut_blocks : s.rewriteCut.blocks = s.blocks := by simp [State.rewriteCut]
@[simp ↓] theorem startBad_blocks (e : Nat × Die) : (startBad s e).blocks = s.blocks := by simp [startBad]
@[simp ↓] theorem rebuild_blocks (rb : RebuildIn) : (rebuild rb s).blocks = s.blocks := by simp [rebuild]
@[simp ↓] theorem shardReplay_blocks (index : W64) (shard : W16) : (shardReplay index shard s).blocks = s.blocks := by
  unfold shardReplay
  (repeat' split) <;> simp

/-! The register window: the block map, what every register reads, what a write does, unavailable blocks (22; the register tables of 02 to 21). -/

@[simp ↓] theorem State.bufParity_blocks (b : WinBlock) (o : Nat) : (s.bufParity b o).2.blocks = s.blocks := by
  unfold State.bufParity
  split <;> simp

@[simp ↓] theorem State.readParity_blocks (b : WinBlock) (o master : Nat) (h : s.blocks = moduleBlocks) :
    (s.readParity b o master).2.blocks = moduleBlocks := by
  unfold State.readParity
  split
  · simp [h]
  · split
    · exact h
    · split
      · exact h
      · simp [blocks_of_eq ‹_› ((s.parTrip_blocks ..).trans h)]

@[simp ↓] theorem State.winBad_blocks (cause : BitVec 4) (master addr : Nat) : (s.winBad cause master addr).blocks = s.blocks := by rfl
@[simp ↓] theorem flipMask_blocks (g : Nat) (v : W32) (master : Nat) : (flipMask g v master s).blocks = s.blocks := by simp [flipMask]
@[simp ↓] theorem icWrite_blocks (c r : Nat) (v : W32) : (icWrite c r v s).blocks = s.blocks := by
  unfold icWrite
  split <;> simp

@[simp ↓] theorem State.writeReg_blocks (via : Via) (master : Nat) (b : WinBlock) (o : Nat) (v : W32) :
    (s.writeReg via master b o v).blocks = s.blocks := by
  unfold State.writeReg
  split <;> simp

@[simp ↓] theorem State.winWrite_blocks (via : Via) (master : Nat) (b : WinBlock) (o addr : Nat) (v : W32) :
    (s.winWrite via master b o addr v).blocks = s.blocks := by
  simp [State.winWrite]

theorem State.regRefused_blocks {s t : State} {core : Nat} {addr cdw11 : W32} {rsv : BitVec 31}
    (h : s.regRefused core addr cdw11 rsv = some t) : t.blocks = s.blocks := by
  unfold State.regRefused at h
  dsimp only at h
  split at h
  · cases h; rfl
  · split at h
    · cases h; simp
    · split at h
      · cases h; simp
      · cases h

@[simp ↓] theorem State.accessRead_blocks (core a : Nat) (h : s.blocks = moduleBlocks) : (s.accessRead core a).2.blocks = moduleBlocks := by
  unfold State.accessRead
  split
  · exact h
  · refine (ite_snd_blocks ..).trans (ite_eq_iff'.2 ⟨fun _ => h, fun _ => ?_⟩)
    split
    · exact blocks_of_eq ‹_› (s.readParity_blocks _ _ _ h)
    · exact h

@[simp ↓] theorem regAccessRead_blocks (id : CmdId) (core : Nat) (addr cdw11 : W32) (rsv : BitVec 31) (h : s.blocks = moduleBlocks) :
    (regAccessRead id core addr cdw11 rsv s).blocks = moduleBlocks := by
  unfold regAccessRead
  split
  · simp [State.regRefused_blocks ‹_›, h]
  · refine (State.answer_blocks ..).trans (foldl_snd_keeps (fun x a hx => ?_) _ _ h)
    exact x.2.accessRead_blocks core a hx

@[simp ↓] theorem regAccessWrite_blocks (id : CmdId) (core : Nat) (addr cdw11 : W32) (rsv : BitVec 31) (data : List W32) :
    (regAccessWrite id core addr cdw11 rsv data s).blocks = s.blocks := by
  unfold regAccessWrite
  split
  · simp [State.regRefused_blocks ‹_›]
  · refine (State.answer_blocks ..).trans (foldl_blocks (fun s x => ?_) _ _)
    split <;> simp

@[simp ↓] theorem coreWrite_blocks (master addr : Nat) (v : W32) : (coreWrite master addr v s).blocks = s.blocks := by
  unfold coreWrite
  (repeat' split) <;> simp

/-! Admin commands as the management cores serve them, and those that wait for a halted core (03 R58 to R61; 15 R343 to R349, R354, R368; 19 R443, R449; 21 R495). -/

@[simp ↓] theorem applyDwords_blocks (id : CmdId) (rsv : Bool) (mode : Nat) (cdw11 cdw12 : W32) :
    (applyDwords id rsv mode cdw11 cdw12 s).blocks = s.blocks := by
  simp [applyDwords]

@[simp ↓] theorem State.giveFwEvent_blocks (ctrl : W16) : (s.giveFwEvent ctrl).blocks = s.blocks := by simp [State.giveFwEvent]
@[simp ↓] theorem propertySet_blocks (id : CmdId) (ofs : W32) (v : W64) (h : s.blocks = moduleBlocks) :
    (propertySet id ofs v s).blocks = moduleBlocks := by
  unfold propertySet
  split <;> simp [h]

@[simp ↓] theorem adminOp_blocks (i : Instr) (h : s.blocks = moduleBlocks) : (adminOp i s).blocks = moduleBlocks := by
  unfold adminOp
  split <;> simp [h]

@[simp ↓] theorem State.resumeCore_blocks (k n : Nat) (h : s.blocks = moduleBlocks) : (State.resumeCore k n s).blocks = moduleBlocks := by
  induction n generalizing s with
  | zero => exact h
  | succ n ih =>
    unfold State.resumeCore
    split
    · exact h
    · split
      · exact h
      · exact ih _ (by simp [h])

@[simp ↓] theorem adminIn_blocks (id : CmdId) (i : Instr) (h : s.blocks = moduleBlocks) : (adminIn id i s).blocks = moduleBlocks := by
  unfold adminIn adminOn
  simp [h]

/-! The words of a cluster's program and its handlers (06 R134 to R151; 07 R161 to R165, R177, R181). -/

@[simp ↓] theorem fetched_blocks (c n : Nat) (w : W64) (f : State → State) (h : s.blocks = moduleBlocks) (hf : ∀ s, (f s).blocks = s.blocks) :
    (fetched c n w f s).blocks = moduleBlocks := by
  unfold fetched
  split
  · have hp := (s.parTrip_blocks (0xA8 + c) (handlerByte (s.clusterAt c).ic.pc) (8 * n)).trans h
    split <;> simp [blocks_of_eq ‹_› hp, hf]
  · simp [hf, h]

@[simp ↓] theorem issueSli_blocks (c : Nat) (w : W64) : (issueSli c w s).blocks = s.blocks := by simp [issueSli]
@[simp ↓] theorem issueEnd_blocks (c : Nat) (w : W64) : (issueEnd c w s).blocks = s.blocks := by simp [issueEnd]
@[simp ↓] theorem issueNext_blocks (c : Nat) (h : s.blocks = moduleBlocks) : (issueNext c s).blocks = moduleBlocks := by
  simp only [issueNext]
  (repeat' split) <;> simp [h]

/-! The debug port, ROM recovery and the SMBus devices (19 R454; 21). -/

@[simp ↓] theorem State.modDbg_blocks (f : Dbg → Dbg) : (s.modDbg f).blocks = s.blocks := by rfl
@[simp ↓] theorem haltSet_blocks (v : W32) : (haltSet v s).blocks = s.blocks := by simp [haltSet]
@[simp ↓] theorem haltClr_blocks (v : W32) (h : s.blocks = moduleBlocks) : (haltClr v s).blocks = moduleBlocks := by
  obtain ⟨hc, hm, hp, hl, hg⟩ := s.shape_iff.2 h
  unfold haltClr
  exact foldl_keeps (fun s k hs => State.resumeCore_blocks _ _ _ hs) _ _ (by simp [hc, hm, hp, hl, hg])

@[simp ↓] theorem stepCluster_blocks (c : Nat) (h : s.blocks = moduleBlocks) : (stepCluster c s).blocks = moduleBlocks := by simp [stepCluster, h]
@[simp ↓] theorem dbgStep_blocks (v : W32) (h : s.blocks = moduleBlocks) : (dbgStep v s).blocks = moduleBlocks := by
  unfold dbgStep
  refine foldl_keeps (fun s c hs => ?_) _ _ h
  split
  · exact stepCluster_blocks _ _ hs
  · exact hs

@[simp ↓] theorem breakpointHit_blocks (u : BpUnit) : (breakpointHit u s).blocks = s.blocks := by
  unfold breakpointHit
  (repeat' split) <;> simp

@[simp ↓] theorem relock_blocks (h : s.blocks = moduleBlocks) : (relock s).blocks = moduleBlocks := by simp [relock, h]
@[simp ↓] theorem State.dbgFault_blocks (n : BitVec 4) : (s.dbgFault n).blocks = s.blocks := by rfl
@[simp ↓] theorem rcvCommit_blocks (h : s.blocks = moduleBlocks) : (rcvCommit s).blocks = moduleBlocks := by simp [rcvCommit, h]
@[simp ↓] theorem dbgWrite_blocks (o : Nat) (v : W32) (h : s.blocks = moduleBlocks) : (dbgWrite o v s).blocks = moduleBlocks := by
  unfold dbgWrite
  (repeat' split) <;> simp [h]

@[simp ↓] theorem State.portWrite_blocks (b : WinBlock) (o addr : Nat) (v : W32) (h : s.blocks = moduleBlocks) :
    (s.portWrite b o addr v).blocks = moduleBlocks := by
  unfold State.portWrite
  split <;> simp [h]

@[simp ↓] theorem State.debugRow_blocks (addr : Nat) (v : W32) (h : s.blocks = moduleBlocks) : (s.debugRow addr v).blocks = moduleBlocks := by
  unfold State.debugRow
  split <;> simp [h]

@[simp ↓] theorem State.dbgAnswer_blocks (ack : Ack) (data : Option W32) : (s.dbgAnswer ack data).blocks = s.blocks := by rfl
@[simp ↓] theorem State.dbgFail_blocks (n : BitVec 4) : (s.dbgFail n).blocks = s.blocks := by rfl
@[simp ↓] theorem State.dbgAt_blocks (f : DbgFrame) : (s.dbgAt f).blocks = s.blocks := by rfl
@[simp ↓] theorem frameRead_blocks (f : DbgFrame) (h : s.blocks = moduleBlocks) : (frameRead f s).blocks = moduleBlocks := by
  simp only [frameRead]
  (repeat' split) <;> simp [h]

@[simp ↓] theorem frameWrite_blocks (f : DbgFrame) (h : s.blocks = moduleBlocks) : (frameWrite f s).blocks = moduleBlocks := by
  unfold frameWrite
  (repeat' split) <;> simp [h]

@[simp ↓] theorem frameRun_blocks (f : DbgFrame) (write wait : Bool) (h : s.blocks = moduleBlocks) :
    (frameRun f write wait s).blocks = moduleBlocks := by
  simp [frameRun, h]

@[simp ↓] theorem frameIn_blocks (hdr : Bool) (f : DbgFrame) (write wait : Bool) (h : s.blocks = moduleBlocks) :
    (frameIn hdr f write wait s).blocks = moduleBlocks := by
  simp [frameIn, h]

@[simp ↓] theorem lineReset_blocks (high low : Nat) : (lineReset high low s).blocks = s.blocks := by simp [lineReset]
@[simp ↓] theorem nvmeMiBasic_blocks (code : Byte) : (nvmeMiBasic code s).blocks = s.blocks := by simp [nvmeMiBasic]
@[simp ↓] theorem fruRead_blocks (ofs len : Nat) : (fruRead ofs len s).blocks = s.blocks := by rfl

/-! What the module does at a tick, in the order of 02 R34. -/

@[simp ↓] theorem State.countHours_blocks (before : Nat) : (s.countHours before).blocks = s.blocks := by rfl
@[simp ↓] theorem slotEnds_blocks (c k : Nat) : (slotEnds c k s).blocks = s.blocks := by
  simp only [slotEnds]
  (repeat' split) <;> simp

@[simp ↓] theorem guardStarts_blocks (c k : Nat) : (guardStarts c k s).blocks = s.blocks := by
  unfold guardStarts
  split <;> simp

@[simp ↓] theorem State.endSlots_blocks : s.endSlots.blocks = s.blocks := by
  unfold State.endSlots
  refine foldl_blocks (fun s _ => ?_) _ _
  (repeat' split) <;> simp

@[simp ↓] theorem State.releaseRows_blocks : s.releaseRows.blocks = s.blocks := by simp [State.releaseRows]
@[simp ↓] theorem State.pickRow_blocks : s.pickRow.blocks = s.blocks := by
  unfold State.pickRow
  split <;> simp

@[simp ↓] theorem State.readTable_blocks : s.readTable.blocks = s.blocks := by
  unfold State.readTable
  split
  · rfl
  · have hp := s.parTrip_blocks 0xB0 parTable 64
    split <;> simp [blocks_of_eq ‹_› hp]

@[simp ↓] theorem State.wakeForSlots_blocks : s.wakeForSlots.blocks = s.blocks := by simp [State.wakeForSlots]
@[simp ↓] theorem State.noteRemote_blocks : s.noteRemote.blocks = s.blocks := by simp [State.noteRemote]
@[simp ↓] theorem State.exchange_blocks : s.exchange.blocks = s.blocks := by simp [State.exchange]
@[simp ↓] theorem State.shiftRecent_blocks : s.shiftRecent.blocks = s.blocks := by rfl
@[simp ↓] theorem State.clusterTick_blocks : s.clusterTick.blocks = s.blocks := by simp [State.clusterTick]
@[simp ↓] theorem State.chargeFrame_blocks : s.chargeFrame.blocks = s.blocks := by simp [State.chargeFrame]
@[simp ↓] theorem State.tickUp_blocks (stepped : Bool) : (s.tickUp stepped).blocks = s.blocks := by simp [State.tickUp]
@[simp ↓] theorem tick_blocks (move trim : Int) : (tick move trim s).blocks = s.blocks := by
  unfold tick
  split <;> simp

/-! The rows of power, sensors, throttles, Hold and the frame timer. -/

@[simp ↓] theorem accessWrite_blocks (addr : Nat) (v : W32) : (accessWrite addr v s).blocks = s.blocks := by
  unfold accessWrite
  (repeat' split) <;> simp

@[simp ↓] theorem slotBegins_blocks (c k : Nat) : (slotBegins c k s).blocks = s.blocks := by
  simp only [slotBegins]
  (repeat' split) <;> simp

/-! The rows of Novzeow messages and the group's timeouts. -/

@[simp ↓] theorem serving_blocks (f : State → State) (hf : ∀ s, (f s).blocks = s.blocks) : (serving f s).blocks = s.blocks := by simp [serving, hf]

/-! The rows of I/O commands and of the events of models, contexts, refits and search. -/

@[simp ↓] theorem nodeIn_blocks (ctx : Nat) (marked : Bool) : (nodeIn ctx marked s).blocks = s.blocks := by simp [nodeIn]
@[simp ↓] theorem ioIn_blocks (h : IoHdr) (nvm : Bool) (i : Instr) : (ioIn h nvm i s).blocks = s.blocks := by simp [ioIn]
@[simp ↓] theorem writeIn_blocks (h : IoHdr) (slba : W64) (nlb : W16) (data : Bytes) : (writeIn h slba nlb data s).blocks = s.blocks := by
  unfold writeIn
  dsimp only
  split
  · rfl
  · split
    case h_1 b t hp =>
      simp [blocks_of_eq hp (s.staged_blocks _)]
    case h_2 b t hp =>
      simp [blocks_of_eq hp (s.staged_blocks _)]

/-! The rows of ports and queue pairs that end something. -/

@[simp ↓] theorem portFalls_blocks (p : Nat) : (portFalls p s).blocks = s.blocks := by simp [portFalls]
@[simp ↓] theorem ackTimeout_blocks (qp : Nat) : (ackTimeout qp s).blocks = s.blocks := by
  unfold ackTimeout
  (repeat' split) <;> simp

/-! The rows of the die service port, of flash and of media management. -/

@[simp ↓] theorem dspWrite_blocks (n o : Nat) (v : W32) (t : Nat) (h : s.blocks = moduleBlocks) :
    (dspWrite n o v t s).blocks = moduleBlocks := by simp [dspWrite, h]

@[simp ↓] theorem dspRead_blocks (n cmd : Nat) (door : DspDoor) (h : s.blocks = moduleBlocks) : (dspRead n cmd door s).blocks = moduleBlocks := by
  unfold dspRead
  split <;> simp [h]

@[simp ↓] theorem dspProgram_blocks (n cmd : Nat) (die row data : W32) (p : Pass) :
    (dspProgram n cmd die row data p s).blocks = s.blocks := by simp [dspProgram]

/-! The rows of the Reel and the Bridle. -/

@[simp ↓] theorem fetchIn_blocks (addr : W64) (piece : Nat) (bad : List Nat) (steps : List (Nat × Fin 6)) (data : Bytes) (marks : List Nat) :
    (fetchIn addr piece bad steps data marks s).blocks = s.blocks := by
  unfold fetchIn
  dsimp only
  split
  · rfl
  · have hp := s.staged_blocks 0x9A
    split <;> simp [blocks_of_eq ‹_› hp]

@[simp ↓] theorem messageIn_blocks (net : Nat) (b : Bytes) (t : Nat) : (messageIn net b t s).blocks = s.blocks := by simp [messageIn]

/-! The rows of passes, clusters and their interrupt controllers. -/

@[simp ↓] theorem passStarts_blocks (c uid t : Nat) (h : s.blocks = moduleBlocks) : (passStarts c uid t s).blocks = moduleBlocks := by
  unfold passStarts
  split <;> simp [h]

@[simp ↓] theorem passLate_blocks (c : Nat) : (passLate c s).blocks = s.blocks := by
  unfold passLate
  split <;> simp

@[simp ↓] theorem watchdogEnds_blocks (c t : Nat) (h : s.blocks = moduleBlocks) :
    (watchdogEnds c t s).blocks = moduleBlocks := by simp [watchdogEnds, h]

@[simp ↓] theorem tilePath_blocks (tile : Nat) (h : s.blocks = moduleBlocks) : (tilePath tile s).blocks = moduleBlocks := by
  unfold tilePath
  split
  · exact h
  · have hp := (tileFault_blocks s tile).trans h
    split <;> simp [blocks_of_eq ‹_› hp]

@[simp ↓] theorem weightMark_blocks (tile : Nat) : (weightMark tile s).blocks = s.blocks := by
  unfold weightMark
  split <;> simp

@[simp ↓] theorem reelWrite_blocks (c : Nat) (f : Fill) : (reelWrite c f s).blocks = s.blocks := by
  unfold reelWrite
  split
  · rfl
  · have hp := s.staged_blocks 0x9A
    split <;> simp [blocks_of_eq ‹_› hp]

@[simp ↓] theorem handlerIn_blocks (c : Nat) (h : s.blocks = moduleBlocks) : (handlerIn c s).blocks = moduleBlocks := by
  unfold handlerIn
  split
  · exact h
  · have hp := (s.parTrip_blocks (0xA8 + c) 0 4).trans h
    split <;> simp [blocks_of_eq ‹_› hp]

end

end Sys2Proof.Machine
end

section
/-! SUPPORT. Every command keeps the numbers of blocks, and the statement on steps. -/

namespace Sys2Proof.Machine

/-- What a command answers keeps the module's blocks. -/
def KeepsBlocks (o : Host.Outcome State Fault Refusal) : Prop := ∀ t, o = .next t → t.blocks = moduleBlocks

theorem keepsBlocks_next {t : State} (ht : t.blocks = moduleBlocks) : KeepsBlocks (.next t) := by
  rintro _ ⟨⟩
  exact ht

theorem keepsBlocks_ite {c : Prop} [Decidable c] {t : State} {e : Fault} (ht : t.blocks = moduleBlocks) :
    KeepsBlocks (if c then .next t else .fault e) := by
  split
  · exact keepsBlocks_next ht
  · rintro _ ⟨⟩

section
variable (s : State)

theorem spdmRow_keepsBlocks (code vendor : Nat) (req : Bytes) (h : s.blocks = moduleBlocks) : KeepsBlocks (spdmRow code vendor req s) :=
  keepsBlocks_ite (by simp [h])

/-- Each row answers `.next` of a function of the model or, where it checks its operands, of one behind that check. -/
theorem exec_keepsBlocks (i : Instr) (h : s.blocks = moduleBlocks) : KeepsBlocks (exec i s) := by
  cases i
  -- rows that check their operands
  case registerAccessWrite | registerWrite | rd | wr | sensorSample | faultReport | modelLoadBegin | modelLoadData |
      modelLoadCommit | modelLoadAddScale | modelLoadAbandon | filterCreate | filterAddIds | filterRemoveIds | filterFillAll |
      filterCombine | filterDestroy | calibrationRead | passSubmit =>
    exact keepsBlocks_ite (by simp [h])
  -- words of a cluster's handler, which check their opcode
  case vnop | vsetvl | vld | vst | vgather | vperm | vbcast | vcvt | vadd | vmul | vfma | vcmp | vsel | vmin | vmax | vmlog |
      vred | mrun | sli | mwait | sadd | sld | br | spawn | signal =>
    exact keepsBlocks_ite (by simp [h])
  -- rows of SPDM, which check the code of their message
  case getVersion | getCapabilities | negotiateAlgorithms | getDigests | getCertificate | challenge | getMeasurements |
      chunkGet | getPqCert | getPqSignature | getNonce | ownerSet | ownerRevoke =>
    exact spdmRow_keepsBlocks s _ _ _ h
  -- every other row answers one state
  all_goals exact keepsBlocks_next (by simp [h])

end

/-- Settles O56: a command at the front of the queue keeps the blocks, and an empty queue answers the same state. -/
theorem stepsKeepTheBlocks : Obligations.StepsKeepTheBlocks := by
  unfold Obligations.StepsKeepTheBlocks
  intro s t hs e
  rw [State.shape_iff] at hs ⊢
  unfold step at e
  split at e
  · obtain rfl := Host.Outcome.next.inj e
    exact hs
  · exact exec_keepsBlocks _ _ ((State.blocks_mk ..).trans hs) t e

end Sys2Proof.Machine
end

section
/-! SUPPORT. What branches, matches and folds do to the commands that wait in the queue. -/

namespace Sys2Proof.Machine

/-- The commands that wait, under a name of their own: a lemma about it is a step of a proof by `simp`, where a lemma about the field `pending` is
true by unfolding, leaves no step behind, and makes the kernel compute with the update. -/
def State.queue (s : State) : List Instr := s.pending

/-- An update of other fields leaves the queue. -/
@[simp ↓] theorem State.queue_mk (s : State) (phase frame loft clusters sched sparReset reel library bridle search media host tether group drogue parity gondola sec power dbg draws) :
    (State.mk s.pending phase frame loft clusters sched sparReset reel library bridle search media host tether group drogue parity gondola sec power dbg draws).queue = s.queue := by rfl

section
variable {β : Type} (c : Prop) [Decidable c]

@[simp ↓] theorem ite_queue (s t : State) : (if c then s else t).queue = if c then s.queue else t.queue := apply_ite _ _ _ _
@[simp ↓] theorem ite_snd_queue (s t : β × State) : (if c then s else t).2.queue = if c then s.2.queue else t.2.queue := by split <;> rfl
@[simp ↓] theorem ite_fst_queue (s t : State × β) : (if c then s else t).1.queue = if c then s.1.queue else t.1.queue := by split <;> rfl

theorem ite_keeps_queue {q : List Instr} {s t : State} (hs : c → s.queue = q) (ht : ¬c → t.queue = q) : (if c then s else t).queue = q := by
  split
  · exact hs ‹_›
  · exact ht ‹_›

end

/-- A pair's state keeps its queue under the name that a match gives it. -/
theorem queue_of_eq {β : Type} {p : β × State} {b : β} {t : State} {q : List Instr} (h : p = (b, t)) (hp : p.2.queue = q) :
    t.queue = q := by
  subst h; exact hp

section
variable {α β γ : Type}

@[simp ↓] theorem foldl_queue {f : State → α → State} (h : ∀ s a, (f s a).queue = s.queue) (l : List α) (s : State) :
    (l.foldl f s).queue = s.queue :=
  foldl_keeps_of (g := State.queue) (fun t a ht => (h t a).trans ht) l s rfl

@[simp ↓] theorem foldl_snd_queue {f : β × State → α → β × State} (h : ∀ x a, (f x a).2.queue = x.2.queue) (l : List α)
    (x : β × State) : (l.foldl f x).2.queue = x.2.queue :=
  foldl_keeps_of (g := fun x => x.2.queue) (fun y a hy => (h y a).trans hy) l x rfl

@[simp ↓] theorem foldl_fst_queue {f : State × β → α → State × β} (h : ∀ x a, (f x a).1.queue = x.1.queue) (l : List α)
    (x : State × β) : (l.foldl f x).1.queue = x.1.queue :=
  foldl_keeps_of (g := fun x => x.1.queue) (fun y a hy => (h y a).trans hy) l x rfl

theorem foldl_snd_snd_queue {f : β × γ × State → α → β × γ × State} (h : ∀ x a, (f x a).2.2.queue = x.2.2.queue) (l : List α)
    (x : β × γ × State) : (l.foldl f x).2.2.queue = x.2.2.queue :=
  foldl_keeps_of (g := fun x => x.2.2.queue) (fun y a hy => (h y a).trans hy) l x rfl

end

end Sys2Proof.Machine
end

section
/-! SUPPORT. Each function of the model leaves the commands that wait in the queue, in the order of the model. -/

namespace Sys2Proof.Machine

section
variable (s : State)

/-! The operations every command shares: parts of the state by number, completions (15 R358, R369), the telemetry ring (15 R366), asynchronous events, free values. -/

@[simp ↓] theorem State.advance_queue (t : Nat) : (s.advance t).queue = s.queue := by
  simp only [State.advance]
  (repeat' split) <;> simp

@[simp ↓] theorem State.modCluster_queue (c : Nat) (f : Cluster → Cluster) : (s.modCluster c f).queue = s.queue := by simp [State.modCluster]
@[simp ↓] theorem State.modTile_queue (t : Nat) (f : Tile → Tile) : (s.modTile t f).queue = s.queue := by simp [State.modTile]
@[simp ↓] theorem State.modCtrl_queue (n : Nat) (f : Ctrl → Ctrl) : (s.modCtrl n f).queue = s.queue := by simp [State.modCtrl]
@[simp ↓] theorem State.modPort_queue (p : Nat) (f : Port → Port) : (s.modPort p f).queue = s.queue := by simp [State.modPort]
@[simp ↓] theorem State.modLane_queue (l : Nat) (f : Lane → Lane) : (s.modLane l f).queue = s.queue := by simp [State.modLane]
@[simp ↓] theorem State.modCore_queue (k : Nat) (f : Core → Core) : (s.modCore k f).queue = s.queue := by simp [State.modCore]
@[simp ↓] theorem State.modDie_queue (d : Nat) (f : Die → Die) : (s.modDie d f).queue = s.queue := by rfl
@[simp ↓] theorem State.drawn_queue : s.drawn.queue = s.queue := by rfl
@[simp ↓] theorem State.logError_queue (id : CmdId) (t : Status) : (s.logError id t).queue = s.queue := by simp [State.logError]
@[simp ↓] theorem State.answer_queue (id : CmdId) (t : Status) (dw0 : W32) (data : Bytes) (dw1 : W32) :
    (s.answer id t dw0 data dw1).queue = s.queue := by
  simp [State.answer]

@[simp ↓] theorem State.enter_queue (id : CmdId) (ordered : Bool) (held : Option Instr) (resLen : Option Nat) (tenant nsid : Nat) :
    (s.enter id ordered held resLen tenant nsid).queue = s.queue := by
  rfl

@[simp ↓] theorem State.leave_queue (id : CmdId) : (s.leave id).queue = s.queue := by rfl
@[simp ↓] theorem State.complete_queue (id : CmdId) (t : Status) (dw0 dw1 : W32) (data : Bytes) :
    (s.complete id t dw0 dw1 data).queue = s.queue := by
  simp [State.complete]

@[simp ↓] theorem State.completeOpt_queue (id : Option CmdId) (t : Status) (dw0 dw1 : W32) (data : Bytes) :
    (s.completeOpt id t dw0 dw1 data).queue = s.queue := by
  unfold State.completeOpt
  split <;> simp

@[simp ↓] theorem State.raiseEvent_queue (e mask : W32) : (s.raiseEvent e mask).queue = s.queue := by simp [State.raiseEvent]
@[simp ↓] theorem State.telemetry_queue (block event unit detail : Nat) :
    (s.telemetry block event unit detail).queue = s.queue := by simp [State.telemetry]

@[simp ↓] theorem State.setFrmEvt_queue (n : Nat) : (s.setFrmEvt n).queue = s.queue := by simp [State.setFrmEvt]
@[simp ↓] theorem State.send_queue (net toRank : Nat) (m : Bytes) : (s.send net toRank m).queue = s.queue := by rfl

/-! Counting, classing and capturing a fault report (18 R425 to R430). What a report makes the module do stands in Drogue. -/

@[simp ↓] theorem State.record_queue (c : FaultClass) (f : FaultIn) : (s.record c f).queue = s.queue := by rfl
@[simp ↓] theorem State.corrected_queue : s.corrected.queue = s.queue := by rfl
@[simp ↓] theorem State.biteCmd_queue (e : Nat) (id : CmdId) : (s.biteCmd e id).queue = s.queue := by rfl
@[simp ↓] theorem State.biteAt_queue (e : Nat) (a : W64) : (s.biteAt e a).queue = s.queue := by rfl
@[simp ↓] theorem State.parWrite_queue (g base n : Nat) : (s.parWrite g base n).queue = s.queue := by simp [State.parWrite]
@[simp ↓] theorem State.parRead_queue (g base n : Nat) : (s.parRead g base n).2.queue = s.queue := by simp [State.parRead]
@[simp ↓] theorem State.countParity_queue (g n : Nat) : (s.countParity g n).queue = s.queue := by simp [State.countParity]
@[simp ↓] theorem State.parTrip_queue (g base n : Nat) : (s.parTrip g base n).2.queue = s.queue := by simp [State.parTrip]
@[simp ↓] theorem State.parDisarm_queue (p : Nat → Bool) : (s.parDisarm p).queue = s.queue := by rfl

/-! The frame timer and the frame table (02). What the other blocks do at a tick stands in Tick. -/

@[simp ↓] theorem State.frameOverrun_queue (cl : BitVec 8) (freeze late : Bool) :
    (s.frameOverrun cl freeze late).queue = s.queue := by simp [State.frameOverrun]

@[simp ↓] theorem State.chargeOverrun_queue (c t : Nat) : (s.chargeOverrun c t).queue = s.queue := by
  unfold State.chargeOverrun
  (repeat' split) <;> simp

@[simp ↓] theorem openSlot_queue (c k : Nat) : (openSlot c k s).queue = s.queue := by
  simp only [openSlot]
  (repeat' split) <;> simp

@[simp ↓] theorem closeSlot_queue (c k : Nat) : (closeSlot c k s).queue = s.queue := by
  unfold closeSlot
  split <;> simp

@[simp ↓] theorem guardBegin_queue (c k : Nat) : (guardBegin c k s).queue = s.queue := by
  unfold guardBegin
  split <;> simp

@[simp ↓] theorem closingBegin_queue (c k : Nat) : (closingBegin c k s).queue = s.queue := by
  unfold closingBegin
  split <;> simp

@[simp ↓] theorem State.acceptEvent_queue (e : Nat) (err : Int) (st : BitVec 3) : (s.acceptEvent e err st).queue = s.queue := by rfl
@[simp ↓] theorem refEvent_queue (div t : Nat) : (refEvent div t s).queue = s.queue := by
  simp only [refEvent]
  (repeat' split) <;> simp

@[simp ↓] theorem syncEdge_queue (t : Nat) : (syncEdge t s).queue = s.queue := by
  unfold syncEdge
  split <;> simp

@[simp ↓] theorem acquireTimeout_queue : (acquireTimeout s).queue = s.queue := by simp [acquireTimeout]
@[simp ↓] theorem syncLost_queue : (syncLost s).queue = s.queue := by simp [syncLost]
@[simp ↓] theorem State.countExpected_queue : s.countExpected.queue = s.queue := by simp [State.countExpected]
@[simp ↓] theorem frmEvtClear_queue (v : W32) : (frmEvtClear v s).queue = s.queue := by rfl

/-! Objects of the Loft address space: addresses, contents, allocation, charges and quotas (09 R204 to R208, R211; 03 R70, R78; 14 R312). -/

@[simp ↓] theorem State.modObj_queue (ofs : Nat) (f : Obj → Obj) : (s.modObj ofs f).queue = s.queue := by rfl
@[simp ↓] theorem State.writeObj_queue (a : W64) (b : Bytes) : (s.writeObj a b).queue = s.queue := by
  unfold State.writeObj
  split <;> simp

@[simp ↓] theorem State.markObj_queue (a : W64) (n : Nat) : (s.markObj a n).queue = s.queue := by
  unfold State.markObj
  split <;> simp

@[simp ↓] theorem State.useGroups_queue (l : List Nat) : (s.useGroups l).queue = s.queue := by rfl
@[simp ↓] theorem State.freeGroupList_queue (l : List Nat) : (s.freeGroupList l).queue = s.queue := by rfl
@[simp ↓] theorem State.allocT1_queue (tenant : Nat) (k : ObjKind) (fmt : Byte) (n : Nat) : (s.allocT1 tenant k fmt n).2.queue = s.queue := by rfl
@[simp ↓] theorem State.allocT2_queue (tenant : Nat) (k : ObjKind) (fmt : Byte) (n : Nat) : (s.allocT2 tenant k fmt n).2.queue = s.queue := by rfl
@[simp ↓] theorem State.freeObj_queue (a : W64) : (s.freeObj a).queue = s.queue := by
  unfold State.freeObj
  split <;> simp

@[simp ↓] theorem State.freeObjs_queue (l : List W64) : (s.freeObjs l).queue = s.queue := by simp [State.freeObjs]
@[simp ↓] theorem State.trimObj_queue (a : W64) : (s.trimObj a).queue = s.queue := by
  unfold State.trimObj
  split <;> simp

@[simp ↓] theorem State.quotaRefused_queue (t : Nat) : (s.quotaRefused t).queue = s.queue := by rfl
@[simp ↓] theorem State.noteFar_queue (t : Nat) (a : W64) (i u : Nat) : (s.noteFar t a i u).queue = s.queue := by rfl
@[simp ↓] theorem State.noteRead_queue (a : W64) (n : Nat) : (s.noteRead a n).queue = s.queue := by
  unfold State.noteRead
  (repeat' split) <;> simp

/-! Requests of classes A to C and their completion (11 R256, R266, R267; 15 R358, R359). -/

@[simp ↓] theorem State.modContract_queue (id : Nat) (f : CtEntry → CtEntry) : (s.modContract id f).queue = s.queue := by rfl
@[simp ↓] theorem State.closeRequest_queue (id : CmdId) : (s.closeRequest id).queue = s.queue := by
  unfold State.closeRequest
  split <;> simp

@[simp ↓] theorem State.finishRequest_queue (id : CmdId) (t : Status) (dw0 : W32) (data : Bytes) (flags : W32) :
    (s.finishRequest id t dw0 data flags).queue = s.queue := by
  simp [State.finishRequest]

@[simp ↓] theorem State.noteCause_queue (bit_ : Nat) (p : Request → Bool) : (s.noteCause bit_ p).queue = s.queue := by rfl
@[simp ↓] theorem State.noteExtraRun_queue (id : Option CmdId) : (s.noteExtraRun id).queue = s.queue := by rfl
@[simp ↓] theorem State.notePoisonedPass_queue (id : Option CmdId) : (s.notePoisonedPass id).queue = s.queue := by rfl

/-! The media: stripe records, the map, program jobs, die parity, the journal, erases, garbage collection, failed dies (13 R294, R302 to R308; 14 R312 to R339). -/

@[simp ↓] theorem State.modBlk_queue (d b : Nat) (f : Blk → Blk) : (s.modBlk d b f).queue = s.queue := by rfl
@[simp ↓] theorem State.modChan_queue (c : Nat) (f : Channel → Channel) : (s.modChan c f).queue = s.queue := by rfl
@[simp ↓] theorem State.setLevels_queue (d b : Nat) (l : List Byte) : (s.setLevels d b l).queue = s.queue := by rfl
@[simp ↓] theorem State.takeSeq_queue : s.takeSeq.2.queue = s.queue := by rfl
@[simp ↓] theorem State.addJob_queue (w : Wordline) (p : Pass) (after : List Nat) (half : Option Bool) :
    (s.addJob w p after half).queue = s.queue := by
  rfl

@[simp ↓] theorem State.journalAll_queue (l : List JBody) (after : List Nat) (half : Option Bool) :
    (s.journalAll l after half).2.queue = s.queue := by
  simp [State.journalAll]

@[simp ↓] theorem State.journal_queue (b : JBody) : (s.journal b).2.queue = s.queue := by rfl
@[simp ↓] theorem State.commitParts_queue (parts : List JBody) : (s.commitParts parts).2.queue = s.queue := by simp [State.commitParts]
@[simp ↓] theorem State.journalMap_queue (l : List Nat) : (s.journalMap l).queue = s.queue := by simp [State.journalMap]
@[simp ↓] theorem State.setMap_queue (t : Nat) (w : W64) : (s.setMap t w).queue = s.queue := by rfl
@[simp ↓] theorem State.writeStripeAt_queue (at_ : Option (Nat × Nat)) (stream : Nat) (grouped : Bool) (t : Nat) (u0 u1 : Option Container) :
    (s.writeStripeAt at_ stream grouped t u0 u1).2.queue = s.queue := by
  simp only [State.writeStripeAt]
  (repeat' split) <;> simp

@[simp ↓] theorem State.writeStripe_queue (stream : Nat) (grouped : Bool) (t : Nat) (u0 u1 : Option Container) :
    (s.writeStripe stream grouped t u0 u1).2.queue = s.queue := by
  simp [State.writeStripe]

@[simp ↓] theorem State.writePart_queue (stream : Nat) (grouped : Bool) (for_ : WriteFor) (l : List (Nat × Option Container × Option Container)) :
    (s.writePart stream grouped for_ l).2.queue = s.queue := by
  simp [State.writePart]

@[simp ↓] theorem State.applyRec_queue (r : StripeRec) : (s.applyRec r).queue = s.queue := by rfl
@[simp ↓] theorem State.stepPart_queue (p : WritePart) : (s.stepPart p).2.queue = s.queue := by
  unfold State.stepPart
  split <;> simp

@[simp ↓] theorem State.stepParts_queue : s.stepParts.2.queue = s.queue := by simp [State.stepParts]
@[simp ↓] theorem State.settleParity_queue : s.settleParity.queue = s.queue := by rfl
@[simp ↓] theorem State.beginJob_queue (j : ProgJob) : (s.beginJob j).queue = s.queue := by
  simp only [State.beginJob]
  (repeat' split) <;> simp

@[simp ↓] theorem State.kick_queue : s.kick.queue = s.queue := by simp [State.kick]
@[simp ↓] theorem State.joinGroup_queue (w : Wordline) : (s.joinGroup w).queue = s.queue := by
  simp only [State.joinGroup]
  (repeat' split) <;> simp

@[simp ↓] theorem State.closeGroups_queue (all : Bool) : (s.closeGroups all).queue = s.queue := by simp [State.closeGroups]
@[simp ↓] theorem State.releaseGroups_queue : s.releaseGroups.queue = s.queue := by rfl
@[simp ↓] theorem State.retire_queue (d b cause : Nat) : (s.retire d b cause).queue = s.queue := by simp [State.retire]
@[simp ↓] theorem State.rewriteRec_queue (r : StripeRec) : (s.rewriteRec r).queue = s.queue := by
  unfold State.rewriteRec
  split <;> simp

@[simp ↓] theorem State.dropGcs_queue (hit : StripeRec → Bool) : (s.dropGcs hit).queue = s.queue := by simp [State.dropGcs]
@[simp ↓] theorem State.evacuate_queue (d b : Nat) : (s.evacuate d b).queue = s.queue := by simp [State.evacuate]
@[simp ↓] theorem State.passEnds_queue (j : ProgJob) (fail : Bool) : (s.passEnds j fail).queue = s.queue := by
  unfold State.passEnds
  split <;> simp

@[simp ↓] theorem State.eraseStart_queue (d b : Nat) : (s.eraseStart d b).queue = s.queue := by rfl
@[simp ↓] theorem State.startErases_queue : s.startErases.queue = s.queue := by simp [State.startErases]
@[simp ↓] theorem State.eraseEnds_queue (d : Nat) (fail : Bool) : (s.eraseEnds d fail).queue = s.queue := by
  unfold State.eraseEnds
  split <;> simp

@[simp ↓] theorem State.noteLost_queue (l : Nat) : (s.noteLost l).queue = s.queue := by
  simp only [State.noteLost]
  (repeat' split) <;> simp

@[simp ↓] theorem State.markLost_queue (l : Nat) : (s.markLost l).queue = s.queue := by
  unfold State.markLost
  (repeat' split) <;> simp

@[simp ↓] theorem State.refresh_queue (d b : Nat) : (s.refresh d b).queue = s.queue := by simp [State.refresh]
@[simp ↓] theorem State.modHealth_queue (f : Health → Health) : (s.modHealth f).queue = s.queue := by rfl
@[simp ↓] theorem State.ladder_queue (d b step : Nat) : (s.ladder d b step).queue = s.queue := by simp [State.ladder]
@[simp ↓] theorem State.gcBegin_queue (d : Nat) (bad : List Nat) : (s.gcBegin d bad).queue = s.queue := by
  unfold State.gcBegin
  split
  · rfl
  · refine (ite_queue ..).trans (ite_eq_iff'.2 ⟨fun _ => ?_, fun _ => rfl⟩)
    refine (State.queue_mk ..).trans (foldl_snd_snd_queue (fun a y => ?_) _ _)
    split
    · simp
    · rfl

@[simp ↓] theorem State.gcWriteFlag_queue (g : Gc) : (s.gcWriteFlag g).queue = s.queue := by simp [State.gcWriteFlag]
@[simp ↓] theorem State.gcFinish_queue (g : Gc) : (s.gcFinish g).queue = s.queue := by
  unfold State.gcFinish
  refine foldl_queue (fun s _ => ?_) _ _
  (repeat' split) <;> simp

@[simp ↓] theorem State.settleGc_queue : s.settleGc.queue = s.queue := by
  unfold State.settleGc
  refine foldl_queue (fun s _ => ?_) _ _
  (repeat' split) <;> simp

@[simp ↓] theorem State.flushRest_queue : s.flushRest.queue = s.queue := by
  unfold State.flushRest
  split <;> simp

@[simp ↓] theorem State.settleMedia_queue : s.settleMedia.2.queue = s.queue := by simp [State.settleMedia]
@[simp ↓] theorem State.failDie_queue (d : Nat) : (s.failDie d).queue = s.queue := by
  unfold State.failDie
  refine (State.journalMap_queue ..).trans ((foldl_queue (fun s r => ?_) _ _).trans ?_)
  · dsimp only
    split <;> simp
  · simp

@[simp ↓] theorem State.clearGroupMap_queue (g : Nat) : (s.clearGroupMap g).queue = s.queue := by simp [State.clearGroupMap]
@[simp ↓] theorem State.flushMedia_queue (clean : Bool) : (s.flushMedia clean).queue = s.queue := by
  unfold State.flushMedia
  refine (State.flushRest_queue _).trans (foldl_queue (fun s x => ?_) _ _)
  dsimp only
  (repeat' split) <;> simp

@[simp ↓] theorem State.stopMedia_queue (cut : Bool) : (s.stopMedia cut).queue = s.queue := by
  unfold State.stopMedia
  simp only [State.queue_mk]
  refine (foldl_queue (fun s r => ?_) _ _).trans ((foldl_queue (fun s e => ?_) _ _).trans ?_)
  · split <;> simp
  · split <;> simp
  · simp

/-! The die service port and the channels' wait states (13 R295 to R303). -/

@[simp ↓] theorem State.modDsp_queue (n : Nat) (f : Dsp → Dsp) : (s.modDsp n f).queue = s.queue := by simp [State.modDsp]
@[simp ↓] theorem State.dspFault_queue (n : Nat) (e : BitVec 3) : (s.dspFault n e).queue = s.queue := by simp [State.dspFault]
@[simp ↓] theorem dspKey_queue (n : Nat) (v : W32) (t : Nat) : (dspKey n v t s).queue = s.queue := by simp [dspKey]
@[simp ↓] theorem dspCmd_queue (n : Nat) (v : W32) (t : Nat) : (dspCmd n v t s).queue = s.queue := by simp [dspCmd]
@[simp ↓] theorem dspAddr_queue (n : Nat) (v : W32) (t : Nat) : (dspAddr n v t s).queue = s.queue := by simp [dspAddr]
@[simp ↓] theorem dspLaunch_queue (n cmd : Nat) (addrs : List W32) (data : W32) :
    (dspLaunch n cmd addrs data s).queue = s.queue := by simp [dspLaunch]

@[simp ↓] theorem dspData_queue (n : Nat) (v : W32) (t : Nat) : (dspData n v t s).queue = s.queue := by simp [dspData]
@[simp ↓] theorem dspFirmware_queue (n cmd : Nat) (addrs : List W32) (data : W32) :
    (dspFirmware n cmd addrs data s).queue = s.queue := by simp [dspFirmware]

@[simp ↓] theorem dspDoor_queue (n cmd : Nat) (door : DspDoor) : (dspDoor n cmd door s).queue = s.queue := by
  unfold dspDoor
  split <;> simp

@[simp ↓] theorem State.fillBuf_queue (n len : Nat) : (s.fillBuf n len).queue = s.queue := by simp [State.fillBuf]
@[simp ↓] theorem dspDone_queue (n : Nat) (page : Bytes) (step : Nat) : (dspDone n page step s).queue = s.queue := by
  simp only [dspDone]
  (repeat' split) <;> simp

@[simp ↓] theorem dspTimeout_queue (n : Nat) : (dspTimeout n s).queue = s.queue := by simp [dspTimeout]
@[simp ↓] theorem State.dspAbandon_queue (n : Nat) : (s.dspAbandon n).queue = s.queue := by simp [State.dspAbandon]
@[simp ↓] theorem waitWrite_queue (ch : Nat) (second : Bool) (v : W32) : (waitWrite ch second v s).queue = s.queue := by rfl
@[simp ↓] theorem State.trainCtrl_queue (n : Nat) (rates : List (BitVec 3)) : (s.trainCtrl n rates).queue = s.queue := by simp [State.trainCtrl]

/-! A change of the module's rank: the addresses of its own objects change with it (09 R204; 03 R77). -/

@[simp ↓] theorem State.readdress_queue (n : Nat) : (s.readdress n).queue = s.queue := by simp [State.readdress]

/-! Models by identifier, the context table, KV extents, emitting a token, rewinding (10 R231, R235, R245 to R253). What commands do with contexts stands in ContextCmds. -/

@[simp ↓] theorem State.modModel_queue (id : W64) (f : Model → Model) : (s.modModel id f).queue = s.queue := by rfl
@[simp ↓] theorem State.writeTable_queue (id : W64) : (s.writeTable id).queue = s.queue := by
  unfold State.writeTable
  split <;> simp

@[simp ↓] theorem State.modCtx_queue (i : Nat) (f : Context → Context) : (s.modCtx i f).queue = s.queue := by rfl
@[simp ↓] theorem State.writeKv_queue (m : Model) (ext : W64) (t draw : Nat) : (s.writeKv m ext t draw).queue = s.queue := by simp [State.writeKv]
@[simp ↓] theorem State.finishBatch_queue (i : Nat) (b : Batch) (t : Status) (flags : W32) :
    (s.finishBatch i b t flags).queue = s.queue := by simp [State.finishBatch]

@[simp ↓] theorem State.rewindCtx_queue (i l : Nat) : (s.rewindCtx i l).queue = s.queue := by
  simp only [State.rewindCtx]
  (repeat' split) <;> simp

@[simp ↓] theorem State.addExtent_queue (i : Nat) : (s.addExtent i).queue = s.queue := by
  simp only [State.addExtent]
  (repeat' split) <;> simp

@[simp ↓] theorem State.addExtents_queue (i n : Nat) : (s.addExtents i n).queue = s.queue := by
  induction n generalizing s with
  | zero => rfl
  | succ n ih => simp [State.addExtents, ih]

@[simp ↓] theorem State.startHead_queue (i : Nat) : (s.startHead i).queue = s.queue := by
  unfold State.startHead
  (repeat' split) <;> simp

@[simp ↓] theorem State.startBatch_queue (i : Nat) : (s.startBatch i).queue = s.queue := by simp [State.startBatch]
@[simp ↓] theorem State.settleBatch_queue (i : Nat) : (s.settleBatch i).queue = s.queue := by
  simp only [State.settleBatch]
  (repeat' split) <;> simp

@[simp ↓] theorem State.damageCtx_queue (i : Nat) : (s.damageCtx i).queue = s.queue := by simp [State.damageCtx]
@[simp ↓] theorem State.modHead_queue (i : Nat) (f : Batch → Batch) : (s.modHead i f).queue = s.queue := by rfl
@[simp ↓] theorem State.appendToken_queue (i : Nat) (tok : W32) : (s.appendToken i tok).queue = s.queue := by
  simp only [State.appendToken]
  (repeat' split) <;> simp

@[simp ↓] theorem State.holdToken_queue (i : Nat) (tok : W32) : (s.holdToken i tok).queue = s.queue := by
  simp only [State.holdToken]
  (repeat' split) <;> simp

@[simp ↓] theorem State.emitToken_queue (h tok : W32) (marked : Bool) : (s.emitToken h tok marked).queue = s.queue := by
  simp only [State.emitToken]
  (repeat' split) <;> simp

@[simp ↓] theorem State.releaseHeld_queue (i n : Nat) : (s.releaseHeld i n).queue = s.queue := by
  induction n generalizing s with
  | zero => rfl
  | succ n ih =>
    unfold State.releaseHeld
    (repeat' split) <;> simp [ih]

@[simp ↓] theorem State.releaseTokens_queue (i : Nat) : (s.releaseTokens i).queue = s.queue := by
  unfold State.releaseTokens
  split <;> simp

@[simp ↓] theorem State.failBatch_queue (h : W32) (t : Status) (flags : W32) : (s.failBatch h t flags).queue = s.queue := by
  unfold State.failBatch
  (repeat' split) <;> simp

/-! Sequencer interrupts: pending and enable bits, entering and ending a handler (07 R180 to R184). -/

@[simp ↓] theorem State.raise_queue (c n : Nat) : (s.raise c n).queue = s.queue := by simp [State.raise]
@[simp ↓] theorem State.raiseAll_queue (n : Nat) : (s.raiseAll n).queue = s.queue := by simp [State.raiseAll]
@[simp ↓] theorem enterHandler_queue (c : Nat) : (enterHandler c s).queue = s.queue := by
  simp only [enterHandler]
  (repeat' split) <;> simp

@[simp ↓] theorem leaveHandler_queue (c : Nat) : (leaveHandler c s).queue = s.queue := by simp [leaveHandler]
@[simp ↓] theorem State.loadHandlers_queue : s.loadHandlers.queue = s.queue := by simp [State.loadHandlers]
@[simp ↓] theorem icPendSet_queue (c : Nat) (hi : Bool) (v : W32) : (icPendSet c hi v s).queue = s.queue := by simp [icPendSet]
@[simp ↓] theorem icPendClr_queue (c : Nat) (hi : Bool) (v : W32) : (icPendClr c hi v s).queue = s.queue := by simp [icPendClr]
@[simp ↓] theorem icEnSet_queue (c : Nat) (hi : Bool) (v : W32) : (icEnSet c hi v s).queue = s.queue := by simp [icEnSet]
@[simp ↓] theorem icEnClr_queue (c : Nat) (hi : Bool) (v : W32) : (icEnClr c hi v s).queue = s.queue := by simp [icEnClr]

/-! Status flags of tiles and vector units and the counts that go with them (05 R130; 06 R154, R155; 07 R179). -/

@[simp ↓] theorem mtFlagsClear_queue (t : Nat) (v : W32) : (mtFlagsClear t v s).queue = s.queue := by simp [mtFlagsClear]
@[simp ↓] theorem vuFlagsClear_queue (c : Nat) (v : W32) : (vuFlagsClear c v s).queue = s.queue := by simp [vuFlagsClear]

/-! The stores of a cluster and the matrix runs: operand fetch, accumulation, poison, output stage (05 R106 to R124; 08 R190, R194). -/

@[simp ↓] theorem State.putBits_queue (c sp tile base : Nat) (l : List (Byte × Byte)) :
    (s.putBits c sp tile base l).queue = s.queue := by simp [State.putBits]

@[simp ↓] theorem State.writeBits_queue (c sp tile base : Nat) (l : List (Byte × Byte)) :
    (s.writeBits c sp tile base l).queue = s.queue := by simp [State.writeBits]

@[simp ↓] theorem State.writeSpace_queue (c sp tile base : Nat) (l : List (Byte × Bool)) : (s.writeSpace c sp tile base l).queue = s.queue := by
  simp [State.writeSpace]

@[simp ↓] theorem State.drainRows_queue (c f : Nat) (r : Run) (l : List OutElem) :
    (s.drainRows c f r l).queue = s.queue := by simp [State.drainRows]

@[simp ↓] theorem State.drainPanels_queue (c f : Nat) (r : Run) (l : List OutElem) : (s.drainPanels c f r l).queue = s.queue := by
  unfold State.drainPanels
  refine foldl_queue (fun s _ => ?_) _ _
  (repeat' split) <;> simp

@[simp ↓] theorem State.storeEntries_queue (c : Nat) (l : List Entry) : (s.storeEntries c l).queue = s.queue := by simp [State.storeEntries]
@[simp ↓] theorem State.countAcc_queue (c : Nat) (half : Tile → Bool) (l : List Entry) :
    (s.countAcc c half l).queue = s.queue := by simp [State.countAcc]

@[simp ↓] theorem State.countStore_queue (c f : Nat) (r : Run) : (s.countStore c f r).queue = s.queue := by simp [State.countStore]
@[simp ↓] theorem State.drainRun_queue (c : Nat) (r : Run) (len : Nat) (chained : Bool) :
    (s.drainRun c r len chained).queue = s.queue := by simp [State.drainRun]

/-! The vector unit: registers, lanes, masks, arithmetic, loads and stores, permutes, conversions, reductions, poison (06 R131 to R152). -/

@[simp ↓] theorem State.putS_queue (c n : Nat) (r : SReg) : (s.putS c n r).queue = s.queue := by simp [State.putS]
@[simp ↓] theorem State.parLanes_queue (c r : Nat) (l : List LaneOut) : (s.parLanes c r l).queue = s.queue := by simp [State.parLanes]
@[simp ↓] theorem State.putV_queue (c r : Nat) (l : List LaneOut) : (s.putV c r l).queue = s.queue := by simp [State.putV]
@[simp ↓] theorem State.putM_queue (c r : Nat) (l : List LaneOut) : (s.putM c r l).queue = s.queue := by simp [State.putM]
@[simp ↓] theorem State.countVu_queue (c n cycles : Nat) : (s.countVu c n cycles).queue = s.queue := by simp [State.countVu]
@[simp ↓] theorem State.countBad_queue (c g n : Nat) : (s.countBad c g n).queue = s.queue := by simp [State.countBad]
@[simp ↓] theorem State.countReads_queue (c : Nat) (regs masks l : List Nat) :
    (s.countReads c regs masks l).queue = s.queue := by simp [State.countReads]

@[simp ↓] theorem State.countWindow_queue (c : Nat) (els : List (Nat × Nat)) : (s.countWindow c els).queue = s.queue := by simp [State.countWindow]
theorem vLoad_queue {c : Nat} {w : VWord} {s t : State} (h : vLoad c w s = .done t) : t.queue = s.queue := by
  unfold vLoad at h
  dsimp only at h
  split at h
  · cases h
  · split at h
    · cases h
    · obtain rfl := VOut.done.inj h
      simp

@[simp ↓] theorem State.storeElems_queue (c base w : Nat) (els : List (Nat × Nat × Bool)) : (s.storeElems c base w els).queue = s.queue := by
  unfold State.storeElems
  refine (foldl_queue (fun s sp => ?_) _ _).trans (foldl_queue (fun s x => ?_) _ _)
  · dsimp only
    split <;> simp
  · split <;> simp

theorem vStore_queue {c : Nat} {w : VWord} {s t : State} (h : vStore c w s = .done t) : t.queue = s.queue := by
  unfold vStore at h
  dsimp only at h
  split at h
  · cases h
  · split at h
    · cases h
    · obtain rfl := VOut.done.inj h
      simp

theorem vGather_queue {c : Nat} {w : VWord} {s t : State} (h : vGather c w s = .done t) : t.queue = s.queue := by
  unfold vGather at h
  dsimp only at h
  split at h
  · cases h
  · split at h
    · cases h
    · obtain rfl := VOut.done.inj h
      simp

@[simp ↓] theorem laneOp_queue (c : Nat) (w : VWord) (regs : List Nat) (f : State → Nat → LaneOut) :
    (laneOp c w regs f s).queue = s.queue := by simp [laneOp]

@[simp ↓] theorem vPerm_queue (c : Nat) (w : VWord) : (vPerm c w s).queue = s.queue := by simp [vPerm]
@[simp ↓] theorem vBcast_queue (c : Nat) (w : VWord) : (vBcast c w s).queue = s.queue := by simp [vBcast]
@[simp ↓] theorem vCvt_queue (c : Nat) (w : VWord) : (vCvt c w s).queue = s.queue := by simp [vCvt]
@[simp ↓] theorem vArith_queue (c : Nat) (w : VWord) (regs : List Nat) (f : List Val → Val) :
    (vArith c w regs f s).queue = s.queue := by simp [vArith]

@[simp ↓] theorem vAdd_queue (c : Nat) (w : VWord) : (vAdd c w s).queue = s.queue := by simp [vAdd]
@[simp ↓] theorem vMul_queue (c : Nat) (w : VWord) : (vMul c w s).queue = s.queue := by simp [vMul]
@[simp ↓] theorem vFma_queue (c : Nat) (w : VWord) : (vFma c w s).queue = s.queue := by simp [vFma]
@[simp ↓] theorem vMin_queue (c : Nat) (w : VWord) : (vMin c w s).queue = s.queue := by simp [vMin]
@[simp ↓] theorem vMax_queue (c : Nat) (w : VWord) : (vMax c w s).queue = s.queue := by simp [vMax]
@[simp ↓] theorem maskOp_queue (c : Nat) (w : VWord) (regs masks : List Nat) (f : State → Nat → Bool × Bool) :
    (maskOp c w regs masks f s).queue = s.queue := by
  simp [maskOp]

@[simp ↓] theorem vCmp_queue (c : Nat) (w : VWord) : (vCmp c w s).queue = s.queue := by simp [vCmp]
@[simp ↓] theorem vSel_queue (c : Nat) (w : VWord) : (vSel c w s).queue = s.queue := by simp [vSel]
@[simp ↓] theorem vMlog_queue (c : Nat) (w : VWord) : (vMlog c w s).queue = s.queue := by simp [vMlog]
theorem vSetVl_queue {c : Nat} {w : VWord} {s t : State} (h : vSetVl c w s = .done t) : t.queue = s.queue := by
  unfold vSetVl at h
  dsimp only at h
  split at h
  · cases h
  · obtain rfl := VOut.done.inj h
    simp

@[simp ↓] theorem vRed_queue (c : Nat) (w : VWord) : (vRed c w s).queue = s.queue := by simp [vRed]
theorem vecOp_queue {c : Nat} {w : VWord} {s t : State} (h : vecOp c w s = .done t) : t.queue = s.queue := by
  unfold vecOp at h
  split at h
  case h_2 => exact vSetVl_queue h
  case h_3 => exact vLoad_queue h
  case h_4 => exact vStore_queue h
  case h_5 => exact vGather_queue h
  all_goals
    obtain rfl := VOut.done.inj h
    simp

/-! The Bridle: routing records, dispatches and returns, messages, drop notices, redirects (10 R236 to R244). -/

@[simp ↓] theorem State.routeOut_queue (c : Nat) (model : W64) (ctx pos : W32) (layer : W16) (fmt : Byte) (rt : Bytes) (rtMarked : Bool) (data : Bytes) (marks : List Nat) :
    (s.routeOut c model ctx pos layer fmt rt rtMarked data marks).queue = s.queue := by
  unfold State.routeOut
  (repeat' split) <;> simp

@[simp ↓] theorem State.replyLater_queue (r : Reply) : (s.replyLater r).queue = s.queue := by rfl
@[simp ↓] theorem State.brdSend_queue (rank : Nat) (model : W64) (l : List BRec) : (s.brdSend rank model l).queue = s.queue := by rfl
@[simp ↓] theorem State.stageRec_queue (a : Arrived) : (s.stageRec a).queue = s.queue := by simp [State.stageRec]
@[simp ↓] theorem State.placeDispatch_queue (rank : Nat) (model : W64) (r : BRec) (gf : Nat) :
    (s.placeDispatch rank model r gf).queue = s.queue := by
  unfold State.placeDispatch
  split <;> simp

@[simp ↓] theorem State.takeReturn_queue (rank : Nat) (model : W64) (r : BRec) : (s.takeReturn rank model r).queue = s.queue := by
  unfold State.takeReturn
  (repeat' split) <;> simp

@[simp ↓] theorem State.replyOut_queue (r : Reply) : (s.replyOut r).queue = s.queue := by simp [State.replyOut]
@[simp ↓] theorem State.redirect_queue (d : Dispatch) (rank shown : Nat) : (s.redirect d rank shown).queue = s.queue := by rfl
@[simp ↓] theorem State.dropToken_queue (d : Dispatch) : (s.dropToken d).queue = s.queue := by simp [State.dropToken]
@[simp ↓] theorem State.takeRefusal_queue (rank : Nat) (model : W64) (r : BRec) : (s.takeRefusal rank model r).queue = s.queue := by
  simp only [State.takeRefusal]
  (repeat' split) <;> simp

@[simp ↓] theorem State.placeRec_queue (rank : Nat) (model : W64) (r : BRec) (gf : Nat) : (s.placeRec rank model r gf).queue = s.queue := by
  unfold State.placeRec
  split <;> simp

@[simp ↓] theorem State.brdTake_queue (net : Nat) (b : Bytes) (t : Nat) (bad : Bool) : (s.brdTake net b t bad).queue = s.queue := by
  unfold State.brdTake
  simp

@[simp ↓] theorem State.brdNoticed_queue (b : Bytes) : (s.brdNoticed b).queue = s.queue := by simp [State.brdNoticed]
@[simp ↓] theorem State.lostOn_queue (rank net since : Nat) : (s.lostOn rank net since).queue = s.queue := by rfl
@[simp ↓] theorem State.brdTimeout_queue (ctx pos : W32) (layer : W16) (slot : Byte) : (s.brdTimeout ctx pos layer slot).queue = s.queue := by rfl
@[simp ↓] theorem State.markOneFrame_queue : s.markOneFrame.queue = s.queue := by rfl
@[simp ↓] theorem State.brdExchange_queue : s.brdExchange.queue = s.queue := by
  unfold State.brdExchange
  split
  · rfl
  · dsimp only
    rw [State.markOneFrame_queue, foldl_queue, foldl_queue, State.queue_mk, foldl_queue, foldl_queue, foldl_queue]
    · intro s d
      (repeat' split) <;> simp
    · simp
    · intro s r
      split <;> simp
    · simp
    · simp

/-! The Reel: heat, moves between tiers, the fetch plan, the horizon, remote reads, refetches, KV repair (09 R209 to R213, R218 to R226; 10 R252; 14 R339). -/

@[simp ↓] theorem State.modReel_queue (f : Reel → Reel) : (s.modReel f).queue = s.queue := by rfl
@[simp ↓] theorem State.modPiece_queue (ofs i : Nat) (f : Piece → Piece) : (s.modPiece ofs i f).queue = s.queue := by rfl
@[simp ↓] theorem State.addMove_queue (a : W64) (i : Nat) (k : MoveKind) (tenant charge : Nat) (ready : Bool) (left : List Nat) (copyId : Option Nat) :
    (s.addMove a i k tenant charge ready left copyId).queue = s.queue := by
  rfl

@[simp ↓] theorem State.startUp_queue (o : Obj) (i : Nat) : (s.startUp o i).queue = s.queue := by
  unfold State.startUp
  split <;> simp

/-- The definition is unfolded as a function, so that no check of the proof computes with the address of a free piece. -/
@[simp ↓] theorem State.startRemote_queue (a : W64) (i : Nat) : (s.startRemote a i).queue = s.queue := by
  have key : ∀ f, f = State.startRemote → (f s a i).queue = s.queue := by
    intro f hf
    delta State.startRemote at hf
    subst hf
    dsimp only
    split
    · rfl
    · rw [ite_queue, State.addMove_queue, ite_self]
  exact key _ rfl

@[simp ↓] theorem State.clearMarks_queue (o : Obj) (i : Nat) : (s.clearMarks o i).queue = s.queue := by rfl
@[simp ↓] theorem State.refuseDown_queue (o : Obj) (i : Nat) : (s.refuseDown o i).queue = s.queue := by rfl
@[simp ↓] theorem State.startDown_queue (o : Obj) (i : Nat) : (s.startDown o i).queue = s.queue := by
  unfold State.startDown
  (repeat' split) <;> simp

@[simp ↓] theorem State.cachePiece_queue (m : Move) : (s.cachePiece m).queue = s.queue := by simp [State.cachePiece]
@[simp ↓] theorem State.dropCached_queue (a : W64) (i : Nat) : (s.dropCached a i).queue = s.queue := by rfl
@[simp ↓] theorem State.abortMove_queue (m : Move) (count : Bool) : (s.abortMove m count).queue = s.queue := by
  simp only [State.abortMove]
  (repeat' split) <;> simp

@[simp ↓] theorem State.commitMove_queue (m : Move) : (s.commitMove m).queue = s.queue := by
  simp only [State.commitMove]
  (repeat' split) <;> simp

@[simp ↓] theorem State.touchWrite_queue (a : W64) (n : Nat) : (s.touchWrite a n).queue = s.queue := by
  unfold State.touchWrite
  split <;> simp

@[simp ↓] theorem State.heatTick_queue : s.heatTick.queue = s.queue := by rfl
@[simp ↓] theorem State.sink_queue (x : W64 × Nat) : (s.sink x).queue = s.queue := by
  unfold State.sink
  split <;> simp

@[simp ↓] theorem State.relieve_queue (t : Nat) : (s.relieve t).queue = s.queue := by
  unfold State.relieve
  split <;> simp

@[simp ↓] theorem State.pressure_queue : s.pressure.queue = s.queue := by simp [State.pressure]
@[simp ↓] theorem State.promote_queue : s.promote.queue = s.queue := by simp [State.promote]
@[simp ↓] theorem State.coldMoves_queue : s.coldMoves.queue = s.queue := by simp [State.coldMoves]
@[simp ↓] theorem State.enterFetch_queue (f : Fetch) : (s.enterFetch f).queue = s.queue := by rfl
@[simp ↓] theorem State.noteWait_queue (o : Obj) (i lo n : Nat) : (s.noteWait o i lo n).queue = s.queue := by simp [State.noteWait]
@[simp ↓] theorem State.planFetch_queue (prio deadline tenant until_ : Nat) (id : Option CmdId) (x : W64 × Nat) :
    (s.planFetch prio deadline tenant until_ id x).queue = s.queue := by
  unfold State.planFetch
  split
  · split
    · rfl
    · refine foldl_queue (fun s i => ?_) _ _
      dsimp only
      (repeat' split) <;> simp
  · simp

@[simp ↓] theorem State.issueFetch_queue (f : Fetch) : (s.issueFetch f).queue = s.queue := by
  unfold State.issueFetch
  split <;> simp

@[simp ↓] theorem State.readStripes_queue : s.readStripes.queue = s.queue := by rfl
@[simp ↓] theorem State.planTick_queue : s.planTick.queue = s.queue := by simp [State.planTick]
@[simp ↓] theorem State.horizonTick_queue : s.horizonTick.queue = s.queue := by simp [State.horizonTick]
@[simp ↓] theorem State.dropRemote_queue (x : RemoteRead) : (s.dropRemote x).queue = s.queue := by rfl
@[simp ↓] theorem State.remoteTick_queue : s.remoteTick.queue = s.queue := by
  unfold State.remoteTick
  refine foldl_queue (fun s x => ?_) _ _
  dsimp only
  (repeat' split) <;> simp

@[simp ↓] theorem State.stopMarked_queue : s.stopMarked.queue = s.queue := by
  unfold State.stopMarked
  refine foldl_queue (fun s _ => ?_) _ _
  (repeat' split) <;> simp

@[simp ↓] theorem State.reelTick_queue : s.reelTick.queue = s.queue := by simp [State.reelTick]
@[simp ↓] theorem fetchEnds_queue (a : W64) (i : Nat) (bad : List Nat) (steps : List (Nat × Fin 6)) (data : Bytes) (marks : List Nat) :
    (fetchEnds a i bad steps data marks s).queue = s.queue := by
  unfold fetchEnds
  (repeat' split) <;> simp

@[simp ↓] theorem State.removeDie_queue (d : Nat) : (s.removeDie d).queue = s.queue := by simp [State.removeDie]
@[simp ↓] theorem moveTimeout_queue (mv : Nat) : (moveTimeout mv s).queue = s.queue := by
  unfold moveTimeout
  split <;> simp

/-- As for storePieces, a write part stands for any function that leaves the queue. -/
@[simp ↓] theorem refetchUnit_queue (a : W64) (t1Ok t2Ok t3Ok : Bool) : (refetchUnit a t1Ok t2Ok t3Ok s).queue = s.queue := by
  unfold refetchUnit
  have hw := @State.writePart_queue
  revert hw
  generalize State.writePart = w
  revert w
  refine id fun w hw => ?_
  dsimp only
  (repeat' split) <;> simp [hw]

@[simp ↓] theorem kvRepair_queue (h : W32) (u : Nat) : (kvRepair h u s).queue = s.queue := by
  simp only [kvRepair]
  (repeat' split) <;> simp

@[simp ↓] theorem State.reelParts_queue (l : List WritePart) : (s.reelParts l).queue = s.queue := by
  unfold State.reelParts
  refine foldl_queue (fun s _ => ?_) _ _
  (repeat' split) <;> simp

/-! Passes: submission and its check, program load, eligibility, start, commit, discard and re-run, reload, watchdog, spawn, completion records, cluster and Spar resets (07 R156 to R179; 05 R118, R125, R126, R128; 06 R153; 08 R191 to R193). -/

@[simp ↓] theorem State.writeRecord_queue (d : PassDesc) (r : Record) : (s.writeRecord d r).queue = s.queue := by simp [State.writeRecord]
@[simp ↓] theorem State.modEntry_queue (uid : Nat) (f : PassEntry → PassEntry) : (s.modEntry uid f).queue = s.queue := by rfl
@[simp ↓] theorem State.refetched_queue (o : Obj) (rel : Nat) : (s.refetched o rel).queue = s.queue := by rfl
@[simp ↓] theorem State.refetchLines_queue (a : W64) (lines bad : List Nat) : (s.refetchLines a lines bad).queue = s.queue := by
  unfold State.refetchLines
  split <;> simp

@[simp ↓] theorem State.markLines_queue (a : W64) (n : Nat) (l : List Nat) : (s.markLines a n l).queue = s.queue := by simp [State.markLines]
@[simp ↓] theorem State.sourced_queue (f : Fill) (spoilt : Bool) : (s.sourced f spoilt).2.queue = s.queue := by
  unfold State.sourced
  split <;> simp

@[simp ↓] theorem State.chargeT0_queue (t n : Nat) : (s.chargeT0 t n).queue = s.queue := by rfl
@[simp ↓] theorem State.releaseT0_queue (t n : Nat) : (s.releaseT0 t n).queue = s.queue := by rfl
@[simp ↓] theorem State.applyFill_queue (c : Nat) (f : Fill) : (s.applyFill c f).queue = s.queue := by simp [State.applyFill]
@[simp ↓] theorem State.pinCopies_queue (c : Nat) : (s.pinCopies c).queue = s.queue := by simp [State.pinCopies]
@[simp ↓] theorem State.releaseFills_queue (c : Nat) : (s.releaseFills c).queue = s.queue := by simp [State.releaseFills]
@[simp ↓] theorem State.dropEntry_queue (uid : Nat) : (s.dropEntry uid).queue = s.queue := by
  unfold State.dropEntry
  (repeat' split) <;> simp

@[simp ↓] theorem State.failRequest_queue (p : PassSrc) (st : Status) (dw0 dw1 : W32) : (s.failRequest p st dw0 dw1).queue = s.queue := by
  unfold State.failRequest
  (repeat' split) <;> simp

@[simp ↓] theorem State.refuseRequest_queue (e : PassEntry) (status detail : Nat) :
    (s.refuseRequest e status detail).queue = s.queue := by simp [State.refuseRequest]

@[simp ↓] theorem State.refusePass_queue (e : PassEntry) (status detail : Nat) :
    (s.refusePass e status detail).queue = s.queue := by simp [State.refusePass]

@[simp ↓] theorem State.dropPass_queue (e : PassEntry) : (s.dropPass e).queue = s.queue := by simp [State.dropPass]
@[simp ↓] theorem State.placeAt_queue (tenant : Nat) (program : Bool) (a : W64) (n : Nat) :
    (s.placeAt tenant program a n).2.queue = s.queue := by simp [State.placeAt]

/-- What a write part does stands for any function that leaves the queue, so that no check of the proof computes a stripe. -/
@[simp ↓] theorem State.storePieces_queue (a : W64) : (s.storePieces a).queue = s.queue := by
  unfold State.storePieces
  have hw := @State.writePart_queue
  revert hw
  generalize State.writePart = w
  revert w
  refine id fun w hw => ?_
  split
  · rfl
  · refine foldl_queue (fun s x => ?_) _ _
    split <;> simp [hw]

@[simp ↓] theorem State.stagePass_queue (d : PassDesc) (prog : List W64) : (s.stagePass d prog).2.queue = s.queue := by
  simp only [State.stagePass]
  (repeat' split) <;> simp

@[simp ↓] theorem submitPass_queue (b : Bytes) (prog : List W64) (src : PassSrc) : (submitPass b prog src s).queue = s.queue := by
  simp only [submitPass]
  (repeat' split) <;> simp

@[simp ↓] theorem State.recheck_queue (e : PassEntry) : (s.recheck e).2.queue = s.queue := by
  unfold State.recheck
  split <;> simp

@[simp ↓] theorem State.recheckSpawns_queue (c : Nat) : (s.recheckSpawns c).queue = s.queue := by
  unfold State.recheckSpawns
  split
  · rfl
  · refine foldl_queue (fun s e => ?_) _ _
    have hp := s.recheck_queue e
    split <;> simp [queue_of_eq ‹_› hp]

@[simp ↓] theorem State.recheckPasses_queue : s.recheckPasses.queue = s.queue := by
  unfold State.recheckPasses
  refine (foldl_queue (fun s c => s.recheckSpawns_queue c) _ _).trans (foldl_queue (fun s e => ?_) _ _)
  split <;> simp

@[simp ↓] theorem loadProgram_queue (c uid : Nat) : (loadProgram c uid s).queue = s.queue := by
  simp only [loadProgram]
  (repeat' split) <;> simp

@[simp ↓] theorem startPass_queue (c uid t0 : Nat) : (startPass c uid t0 s).queue = s.queue := by
  simp only [startPass]
  (repeat' split) <;> simp

@[simp ↓] theorem State.settleOverrun_queue (c : Nat) : (s.settleOverrun c).queue = s.queue := by simp [State.settleOverrun]
@[simp ↓] theorem State.lateCheck_queue (c : Nat) (e : PassEntry) : (s.lateCheck c e).queue = s.queue := by simp [State.lateCheck]
@[simp ↓] theorem State.vacate_queue (c : Nat) (e : PassEntry) (cycles : Nat) : (s.vacate c e cycles).queue = s.queue := by simp [State.vacate]
@[simp ↓] theorem State.handOn_queue (c : Nat) (e : PassEntry) (marked : Bool) : (s.handOn c e marked).queue = s.queue := by
  unfold State.handOn
  refine (foldl_queue (fun s o => ?_) _ _).trans ?_
  · cases o <;> simp
  · split <;> simp

@[simp ↓] theorem State.releaseSpawns_queue (l : List PassEntry) : (s.releaseSpawns l).queue = s.queue := by simp [State.releaseSpawns]
@[simp ↓] theorem commitPass_queue (c cycles t : Nat) : (commitPass c cycles t s).queue = s.queue := by
  simp only [commitPass]
  (repeat' split) <;> simp

@[simp ↓] theorem State.poisonOutputs_queue (c : Nat) (d : PassDesc) : (s.poisonOutputs c d).queue = s.queue := by simp [State.poisonOutputs]
@[simp ↓] theorem State.endPoisoned_queue (c : Nat) (e : PassEntry) (r : Running) (status cycles : Nat) :
    (s.endPoisoned c e r status cycles).queue = s.queue := by
  simp [State.endPoisoned]

@[simp ↓] theorem discardPass_queue (c cause unit src master : Nat) (report : Bool) :
    (discardPass c cause unit src master s report).queue = s.queue := by
  simp only [discardPass]
  (repeat' split) <;> simp

@[simp ↓] theorem weightPoison_queue (c tile : Nat) : (weightPoison c tile s).queue = s.queue := by
  simp only [weightPoison]
  (repeat' split) <;> simp

@[simp ↓] theorem State.reloadCopy_queue (c : Nat) (bad : List W64) (x : T0Copy) : (s.reloadCopy c bad x).queue = s.queue := by
  unfold State.reloadCopy
  split <;> simp

@[simp ↓] theorem reloadEnd_queue (c uid : Nat) (bad : List W64) : (reloadEnd c uid bad s).queue = s.queue := by
  unfold reloadEnd
  split <;> simp

@[simp ↓] theorem watchdogPass_queue (c : Nat) : (watchdogPass c s).queue = s.queue := by
  simp only [watchdogPass]
  (repeat' split) <;> simp

@[simp ↓] theorem clusterReset_queue (c : Nat) : (clusterReset c s).queue = s.queue := by simp [clusterReset]
@[simp ↓] theorem State.failWithheld_queue (c : Nat) : (s.failWithheld c).queue = s.queue := by simp [State.failWithheld]
@[simp ↓] theorem tileFault_queue (tile : Nat) : (tileFault tile s).2.queue = s.queue := by simp [tileFault]
@[simp ↓] theorem vectorFault_queue (c : Nat) : (vectorFault c s).queue = s.queue := by simp [vectorFault]
@[simp ↓] theorem vaddrFault_queue (c op lane addr : Nat) : (vaddrFault c op lane addr s).queue = s.queue := by simp [vaddrFault]
@[simp ↓] theorem poisonCtrl_queue (c : Nat) : (poisonCtrl c s).queue = s.queue := by simp [poisonCtrl]
@[simp ↓] theorem State.progBad_queue (c n : Nat) : (s.progBad c n).2.queue = s.queue := by simp [State.progBad]
@[simp ↓] theorem State.goto_queue (c i : Nat) : (s.goto c i).queue = s.queue := by simp [State.goto]
@[simp ↓] theorem State.nextWord_queue (c n : Nat) : (s.nextWord c n).queue = s.queue := by simp [State.nextWord]
@[simp ↓] theorem issueWord_queue (c : Nat) (w : W64) (f : State → State) (n : Nat) (hf : ∀ s, (f s).queue = s.queue) :
    (issueWord c w f s n).queue = s.queue := by
  unfold issueWord
  split
  · have hp := s.progBad_queue c n
    split <;> simp [queue_of_eq ‹_› hp, hf]
  · rfl

@[simp ↓] theorem issueVector_queue (op c : Nat) (w : W64) : (issueVector op c w s).queue = s.queue := by
  unfold issueVector
  split
  · rfl
  · refine issueWord_queue _ _ _ _ _ fun s => ?_
    dsimp only
    split
    · simp [vecOp_queue ‹_›]
    · simp
    · simp

@[simp ↓] theorem issueSeq_queue (op c : Nat) (w : W64) (f : VWord → State → State) (hf : ∀ v s, (f v s).queue = s.queue) :
    (issueSeq op c w f s).queue = s.queue := by simp [issueSeq, hf]

@[simp ↓] theorem seqMrun_queue (c : Nat) (r : RunRec) : (seqMrun c r s).queue = s.queue := by
  simp only [seqMrun]
  (repeat' split) <;> simp

@[simp ↓] theorem seqMwait_queue (c : Nat) (w : VWord) : (seqMwait c w s).queue = s.queue := by
  unfold seqMwait
  split <;> simp

@[simp ↓] theorem seqSli_queue (c d : Nat) (v : W32) : (seqSli c d v s).queue = s.queue := by simp [seqSli]
@[simp ↓] theorem seqSadd_queue (c : Nat) (w : VWord) : (seqSadd c w s).queue = s.queue := by simp [seqSadd]
@[simp ↓] theorem State.readWindow_queue (c a : Nat) : (s.readWindow c a).queue = s.queue := by
  unfold State.readWindow
  split <;> simp

@[simp ↓] theorem seqSld_queue (c : Nat) (w : VWord) : (seqSld c w s).queue = s.queue := by simp [seqSld]
@[simp ↓] theorem seqBr_queue (c : Nat) (w : VWord) : (seqBr c w s).queue = s.queue := by simp [seqBr]
@[simp ↓] theorem seqSpawn_queue (c : Nat) (w : VWord) : (seqSpawn c w s).queue = s.queue := by
  unfold seqSpawn
  split <;> simp

@[simp ↓] theorem seqSignal_queue (c : Nat) (w : VWord) : (seqSignal c w s).queue = s.queue := by simp [seqSignal]
@[simp ↓] theorem seqEnd_queue (c : Nat) : (seqEnd c s).queue = s.queue := by
  simp only [seqEnd]
  (repeat' split) <;> simp

@[simp ↓] theorem runDrains_queue (c u : Nat) : (runDrains c u s).queue = s.queue := by
  simp only [runDrains]
  (repeat' split) <;> simp

@[simp ↓] theorem State.makeRoom_queue (c : Nat) (f : Fill) : (s.makeRoom c f).2.queue = s.queue := by
  unfold State.makeRoom
  split <;> simp

@[simp ↓] theorem reelFill_queue (c : Nat) (f : Fill) (spoilt : Bool) : (reelFill c f spoilt s).queue = s.queue := by simp [reelFill]
@[simp ↓] theorem loadScales_queue (c uid : Nat) (bad : List W64) : (loadScales c uid bad s).queue = s.queue := by
  unfold loadScales
  (repeat' split) <;> simp

@[simp ↓] theorem State.endAllPasses_queue : s.endAllPasses.queue = s.queue := by
  unfold State.endAllPasses
  refine (State.queue_mk ..).trans ((foldl_queue (fun s e => ?_) _ _).trans (foldl_queue (fun s c => ?_) _ _))
  · dsimp only
    split <;> simp
  · split <;> simp

@[simp ↓] theorem sparResetBegin_queue : (sparResetBegin s).queue = s.queue := by simp [sparResetBegin]

/-! Service classes: admitting a request, the class A fetch budget, planned switches, contract registers (11 R255 to R267). -/

@[simp ↓] theorem State.countRefused_queue (cid : Nat) : (s.countRefused cid).queue = s.queue := by rfl
@[simp ↓] theorem State.reserve_queue (gf a b : Nat) : (s.reserve gf a b).queue = s.queue := by rfl
@[simp ↓] theorem State.reserveVolume_queue (gf h : Nat) (v : Nat × Nat) :
    (s.reserveVolume gf h v).1.queue = s.queue := by simp [State.reserveVolume]

@[simp ↓] theorem State.admitRequest_queue (id : CmdId) (cls cid tenant deadlineB : Nat) (p : Plan) :
    (s.admitRequest id cls cid tenant deadlineB p).queue = s.queue := by
  simp [State.admitRequest]

@[simp ↓] theorem State.windowTick_queue : s.windowTick.queue = s.queue := by rfl
@[simp ↓] theorem State.planPasses_queue : s.planPasses.queue = s.queue := by simp [State.planPasses]
@[simp ↓] theorem State.switchTick_queue : s.switchTick.queue = s.queue := by
  unfold State.switchTick
  split
  · rfl
  · refine foldl_queue (fun s l => ?_) _ _
    dsimp only
    (repeat' split) <;> simp

@[simp ↓] theorem State.switchOpen_queue (c : Nat) : (s.switchOpen c).queue = s.queue := by
  unfold State.switchOpen
  split <;> simp

/-! The Tether: lanes and their training, ports, queue pairs, time-stamps (16). Host connections that a port loses stand in Hosts. -/

@[simp ↓] theorem signalDetect_queue (lane : Nat) : (signalDetect lane s).queue = s.queue := by simp [signalDetect]
@[simp ↓] theorem trainingFrame_queue (lane : Nat) (ctl sts : W32) (crcCtl crcSts : W16) (q : LaneSelf) :
    (trainingFrame lane ctl sts crcCtl crcSts q s).queue = s.queue := by
  simp [trainingFrame]

@[simp ↓] theorem State.portEvent_queue (p n : Nat) : (s.portEvent p n).queue = s.queue := by simp [State.portEvent]
@[simp ↓] theorem trainingTimeout_queue (lane : Nat) : (trainingTimeout lane s).queue = s.queue := by simp [trainingTimeout]
@[simp ↓] theorem modeSwitch_queue (p : Nat) : (modeSwitch p s).queue = s.queue := by simp [modeSwitch]
@[simp ↓] theorem State.losePeers_queue (n : Nat) : (s.losePeers n).queue = s.queue := by
  unfold State.losePeers
  split
  · rfl
  · refine foldl_queue (fun s q => ?_) _ _
    split <;> simp

@[simp ↓] theorem State.moveQps_queue (n : Nat) (home : Bool) : (s.moveQps n home).queue = s.queue := by rfl
@[simp ↓] theorem State.openQps_queue (rank : Nat) : (s.openQps rank).queue = s.queue := by
  unfold State.openQps
  refine foldl_queue (fun s _ => ?_) _ _
  (repeat' split) <;> simp

@[simp ↓] theorem State.closePeer_queue (rank : Nat) : (s.closePeer rank).queue = s.queue := by rfl
@[simp ↓] theorem State.openPeer_queue (rank : Nat) : (s.openPeer rank).queue = s.queue := by simp [State.openPeer]
@[simp ↓] theorem State.tryUp_queue (p : Nat) : (s.tryUp p).queue = s.queue := by simp [State.tryUp]
@[simp ↓] theorem alignmentMarker_queue (lane : Nat) (am : BitVec 257) (pairs bitErr corr uncorr : Nat) :
    (alignmentMarker lane am pairs bitErr corr uncorr s).queue = s.queue := by
  simp [alignmentMarker]

@[simp ↓] theorem State.linkDown_queue (p : Nat) : (s.linkDown p).queue = s.queue := by simp [State.linkDown]
@[simp ↓] theorem portRetrain_queue (p : Nat) : (portRetrain p s).queue = s.queue := by simp [portRetrain]
@[simp ↓] theorem fecDegrade_queue (lane : Nat) : (fecDegrade lane s).queue = s.queue := by simp [fecDegrade]
@[simp ↓] theorem addressAcquired_queue (p : Nat) : (addressAcquired p s).queue = s.queue := by simp [addressAcquired]
@[simp ↓] theorem State.modQp_queue (n : Nat) (f : QueuePair → QueuePair) : (s.modQp n f).queue = s.queue := by rfl
@[simp ↓] theorem congestion_queue (qp : Nat) : (congestion qp s).queue = s.queue := by rfl
@[simp ↓] theorem rateRaise_queue (qp : Nat) : (rateRaise qp s).queue = s.queue := by rfl
@[simp ↓] theorem ackRetry_queue (qp : Nat) : (ackRetry qp s).queue = s.queue := by
  unfold ackRetry
  (repeat' split) <;> simp

@[simp ↓] theorem ptpStamp_queue (p : Nat) (egress : Bool) (seq : W16) (t : Nat) :
    (ptpStamp p egress seq t s).queue = s.queue := by simp [ptpStamp]

@[simp ↓] theorem tetEvtClear_queue (p : Nat) (v : W32) : (tetEvtClear p v s).queue = s.queue := by simp [tetEvtClear]
@[simp ↓] theorem State.activatePorts_queue (i : Image) : (s.activatePorts i).1.queue = s.queue := by
  unfold State.activatePorts
  refine foldl_fst_queue (fun a p => ?_) _ _
  split <;> simp

@[simp ↓] theorem State.homeQps_queue : s.homeQps.queue = s.queue := by simp [State.homeQps]
@[simp ↓] theorem State.portReset_queue (p : Nat) : (s.portReset p).queue = s.queue := by simp [State.portReset]

/-! Novzeow messages: header, lengths, reserved bytes, and the bodies this module sends (17 R390 to R393). -/

@[simp ↓] theorem State.nv_queue (net type dst : Nat) (body : Bytes) : (s.nv net type dst body).queue = s.queue := by rfl
@[simp ↓] theorem State.nvTo_queue (type dst : Nat) (body : Bytes) : (s.nvTo type dst body).queue = s.queue := by rfl
@[simp ↓] theorem State.nvAll_queue (type : Nat) (body : Bytes) : (s.nvAll type body).queue = s.queue := by simp [State.nvAll]

/-! The placement directory, copies of objects, mirrors, journals, and what a promoted copy becomes (17 R400 to R406, R409 to R412). -/

@[simp ↓] theorem State.dropPlace_queue (p : Place) : (s.dropPlace p).queue = s.queue := by rfl
@[simp ↓] theorem State.storePlace_queue (p : Place) : (s.storePlace p).queue = s.queue := by rfl
@[simp ↓] theorem State.dirSet_queue (p : Place) : (s.dirSet p).queue = s.queue := by rfl
@[simp ↓] theorem State.relocate_queue (r : Reloc) : (s.relocate r).queue = s.queue := by simp [State.relocate]
@[simp ↓] theorem State.adopt_queue (p : Place) : (s.adopt p).queue = s.queue := by
  simp only [State.adopt]
  (repeat' split) <;> simp

@[simp ↓] theorem State.report_queue (l : List Place) : (s.report l).queue = s.queue := by simp [State.report]
@[simp ↓] theorem State.sendCopy_queue (kind pkind tenant : Nat) (key1 : W64) (key2 version : W32) (r : Nat) (for_ : CopyFor) (id : Option CmdId) (l : List CopyPart) :
    (s.sendCopy kind pkind tenant key1 key2 version r for_ id l).queue = s.queue := by
  simp [State.sendCopy]

@[simp ↓] theorem State.modNs_queue (nsid : Nat) (f : Namespace → Namespace) : (s.modNs nsid f).queue = s.queue := by rfl
@[simp ↓] theorem State.modShard_queue (i : W64) (k : W16) (f : Shard → Shard) : (s.modShard i k f).queue = s.queue := by rfl
@[simp ↓] theorem State.storeObj_queue (a : W64) : (s.storeObj a).2.queue = s.queue := by
  unfold State.storeObj
  split
  · rfl
  · refine foldl_snd_queue (fun r x => ?_) _ _
    split <;> simp

@[simp ↓] theorem State.storeObjs_queue (l : List W64) : (s.storeObjs l).2.queue = s.queue := by simp [State.storeObjs]
@[simp ↓] theorem State.copyT3_queue (a : W64) (o : Obj) (state : W64) (pkind tenant : Nat) (key1 : W64) (key2 version : W32) (r : Nat) (for_ : CopyFor) :
    (s.copyT3 a o state pkind tenant key1 key2 version r for_).queue = s.queue := by
  simp [State.copyT3]

@[simp ↓] theorem State.startCopy_queue (p : Place) (r : Nat) : (s.startCopy p r).queue = s.queue := by
  unfold State.startCopy
  (repeat' split) <;> simp

@[simp ↓] theorem State.modHeld_queue (p : Place) (f : HeldCopy → HeldCopy) : (s.modHeld p f).queue = s.queue := by rfl
@[simp ↓] theorem State.dropHeld_queue (p : Place) : (s.dropHeld p).queue = s.queue := by rfl
@[simp ↓] theorem State.freeHeld_queue (p : Place) : (s.freeHeld p).queue = s.queue := by
  unfold State.freeHeld
  split <;> simp

@[simp ↓] theorem State.sendJournal_queue (i : Nat) : (s.sendJournal i).queue = s.queue := by
  unfold State.sendJournal
  extract_lets c
  split
  · rfl
  · split
    · rfl
    · extract_lets
      rw [State.modCtx_queue, foldl_queue fun s b => State.nvTo_queue .., ite_queue, State.biteAt_queue, ite_self]

@[simp ↓] theorem State.finishOpen_queue (i : Nat) : (s.finishOpen i).queue = s.queue := by
  simp only [State.finishOpen]
  (repeat' split) <;> simp

@[simp ↓] theorem State.askBuddy_queue (i : Nat) : (s.askBuddy i).queue = s.queue := by simp [State.askBuddy]
@[simp ↓] theorem State.freeCtx_queue (i : Nat) (tell : Bool) : (s.freeCtx i tell).queue = s.queue := by simp [State.freeCtx]
@[simp ↓] theorem State.endCtx_queue (i : Nat) (tell : Bool) : (s.endCtx i tell).queue = s.queue := by simp [State.endCtx]
@[simp ↓] theorem State.resumeCtx_queue (j : JournalHeld) : (s.resumeCtx j).queue = s.queue := by
  unfold State.resumeCtx
  dsimp only
  (repeat' split) <;> simp

@[simp ↓] theorem State.journalAckTo_queue (home : Nat) (handle : W32) (durable status : Nat) :
    (s.journalAckTo home handle durable status).queue = s.queue := by
  rfl

@[simp ↓] theorem State.takeJournal_queue (b : Bytes) : (s.takeJournal b).queue = s.queue := by simp [State.takeJournal]
@[simp ↓] theorem State.takeJournalAck_queue (b : Bytes) : (s.takeJournalAck b).queue = s.queue := by
  unfold State.takeJournalAck
  split <;> simp

@[simp ↓] theorem State.applyExpert_queue (p : Place) : (s.applyExpert p).queue = s.queue := by simp [State.applyExpert]
@[simp ↓] theorem State.promoteNs_queue (p : Place) : (s.promoteNs p).queue = s.queue := by
  unfold State.promoteNs
  split <;> simp

@[simp ↓] theorem State.demoteNs_queue (p : Place) : (s.demoteNs p).queue = s.queue := by
  unfold State.demoteNs
  split <;> simp

@[simp ↓] theorem State.freeHome_queue (p : Place) : (s.freeHome p).queue = s.queue := by
  unfold State.freeHome
  (repeat' split) <;> simp

@[simp ↓] theorem State.applyMirror_queue (p : Place) : (s.applyMirror p).queue = s.queue := by simp [State.applyMirror]
@[simp ↓] theorem State.promoteShard_queue (p : Place) : (s.promoteShard p).queue = s.queue := by
  unfold State.promoteShard
  split <;> simp

@[simp ↓] theorem State.applyShard_queue (p : Place) : (s.applyShard p).queue = s.queue := by
  unfold State.applyShard
  (repeat' split) <;> simp

@[simp ↓] theorem State.drainCtx_queue (i : Nat) : (s.drainCtx i).queue = s.queue := by
  unfold State.drainCtx
  split <;> simp

@[simp ↓] theorem State.applyContext_queue (p : Place) : (s.applyContext p).queue = s.queue := by
  unfold State.applyContext
  (repeat' split) <;> simp

@[simp ↓] theorem State.applyPlace_queue (p : Place) : (s.applyPlace p).queue = s.queue := by
  unfold State.applyPlace
  extract_lets known s0 s1 fresh q s2 s3 s4
  have h4 : s4.queue = s.queue := by
    simp [s4, s3, s2, s1]
  clear_value s4
  (repeat' split) <;> simp [h4]

@[simp ↓] theorem State.copyDone_queue (c : CopyOut) : (s.copyDone c).queue = s.queue := by
  simp only [State.copyDone]
  (repeat' split) <;> simp

@[simp ↓] theorem State.landed_queue (n : Nat) : (s.landed n).queue = s.queue := by rfl
@[simp ↓] theorem State.takeCopyAck_queue (b : Bytes) : (s.takeCopyAck b).queue = s.queue := by
  simp only [State.takeCopyAck]
  (repeat' split) <;> simp

@[simp ↓] theorem State.storeHeld_queue (p : Place) (h : HeldCopy) : (s.storeHeld p h).queue = s.queue := by simp [State.storeHeld]
@[simp ↓] theorem State.settleHeld_queue : s.settleHeld.queue = s.queue := by
  unfold State.settleHeld
  refine foldl_queue (fun s h => ?_) _ _
  split
  · rfl
  · dsimp only
    split
    · simp
    · split
      · rfl
      · split <;> simp

@[simp ↓] theorem State.takeCopy_queue (b : Bytes) : (s.takeCopy b).queue = s.queue := by
  unfold State.takeCopy
  extract_lets src kind tenant ofs n data pkind p ack placed bad old start s1 hh at_ last h2 h3 s4 s5 s6
  have hack : ∀ t st, (ack t st).queue = t.queue := fun t st => State.nvTo_queue ..
  have h1 : s1.queue = s.queue := by
    cases ho : old <;> simp [s1, ho]
  have h6 : s6.queue = s.queue := by
    simp [s6, s4, h1]
  clear_value s1 s6 ack
  refine ite_keeps_queue _ (fun _ => by simp [hack]) fun _ => ite_keeps_queue _ (fun _ => by simp [hack]) fun _ => ite_keeps_queue _ (fun _ => by simp [hack]) fun _ => ?_
  exact ite_keeps_queue _ (fun _ => by simp [hack, h6]) fun _ => ite_keeps_queue _ (fun _ => by simp [h6]) fun _ => h6

@[simp ↓] theorem mirrorTimeout_queue (copyId : W64) : (mirrorTimeout copyId s).queue = s.queue := by
  simp only [mirrorTimeout]
  (repeat' split) <;> simp

/-! Membership, failure declarations, levels, takeover, drain, and what a group does at each tick (17 R392 to R420). -/

@[simp ↓] theorem State.modGroup_queue (f : Group → Group) : (s.modGroup f).queue = s.queue := by rfl
@[simp ↓] theorem State.modMember_queue (r : Nat) (f : Member → Member) : (s.modMember r f).queue = s.queue := by rfl
@[simp ↓] theorem State.suspect_queue (r cause : Nat) : (s.suspect r cause).queue = s.queue := by simp [State.suspect]
@[simp ↓] theorem State.assign_queue (p : Place) : (s.assign p).queue = s.queue := by
  unfold State.assign
  (repeat' split) <;> simp

@[simp ↓] theorem State.assignAll_queue (p : Place → Bool) : (s.assignAll p).queue = s.queue := by simp [State.assignAll]
@[simp ↓] theorem State.flushPlaces_queue : s.flushPlaces.queue = s.queue := by simp [State.flushPlaces]
@[simp ↓] theorem State.takePlaceAck_queue (b : Bytes) : (s.takePlaceAck b).queue = s.queue := by simp [State.takePlaceAck]
@[simp ↓] theorem State.takePlace_queue (b : Bytes) : (s.takePlace b).queue = s.queue := by simp [State.takePlace]
@[simp ↓] theorem State.reconcile_queue (e : Nat) : (s.reconcile e).queue = s.queue := by
  unfold State.reconcile
  dsimp only
  rw [State.nvTo_queue, State.modGroup_queue, ite_queue, State.nvTo_queue, ite_self, foldl_queue, foldl_queue, foldl_queue]
  · simp
  · intro s h
    (repeat' split) <;> simp
  · simp
  · simp

@[simp ↓] theorem State.placesTick_queue : s.placesTick.queue = s.queue := by
  simp only [State.placesTick]
  (repeat' split) <;> simp

@[simp ↓] theorem State.groupActivate_queue (i : Image) (old : Option Image) : (s.groupActivate i old).queue = s.queue := by
  unfold State.groupActivate
  split <;> simp

@[simp ↓] theorem State.sendJoin_queue : s.sendJoin.queue = s.queue := by rfl
@[simp ↓] theorem State.followMembers_queue (l : List Nat) : (s.followMembers l).queue = s.queue := by simp [State.followMembers]
@[simp ↓] theorem State.stepIn_queue (a : Admission) (t : Nat) : (s.stepIn a t).queue = s.queue := by simp [State.stepIn]
@[simp ↓] theorem beaconIn_queue (net : Nat) (b : Bytes) (t : Nat) : (beaconIn net b t s).queue = s.queue := by
  unfold beaconIn
  extract_lets s1 uid src waiting n first member dep s2 f s3 s4 s5 s6
  have h1 : s1.queue = s.queue := State.advance_queue ..
  have h6 : s6.queue = s.queue := by
    simp [s6, s5, s4, s3, s2, h1]
  have hw : waiting.queue = s.queue := by
    simp [waiting, h1]
  clear_value s1 waiting s6
  (repeat' split) <;> simp [h1, h6, hw]

@[simp ↓] theorem joinIn_queue (net : Nat) (b : Bytes) : (joinIn net b s).queue = s.queue := by
  simp only [joinIn]
  (repeat' split) <;> simp

@[simp ↓] theorem joinRetry_queue : (joinRetry s).queue = s.queue := by
  unfold joinRetry
  split <;> simp

@[simp ↓] theorem admitIn_queue (b : Bytes) : (admitIn b s).queue = s.queue := by simp [admitIn]
@[simp ↓] theorem rejectIn_queue (b : Bytes) : (rejectIn b s).queue = s.queue := by simp [rejectIn]
@[simp ↓] theorem readyIn_queue (b : Bytes) : (readyIn b s).queue = s.queue := by simp [readyIn]
@[simp ↓] theorem readyTimeout_queue (r : Nat) : (readyTimeout r s).queue = s.queue := by simp [readyTimeout]
@[simp ↓] theorem admissionDeadline_queue (r : Nat) : (admissionDeadline r s).queue = s.queue := by simp [admissionDeadline]
@[simp ↓] theorem noBeacon_queue : (noBeacon s).queue = s.queue := by simp [noBeacon]
@[simp ↓] theorem statusIn_queue (b : Bytes) : (statusIn b s).queue = s.queue := by simp [statusIn]
@[simp ↓] theorem statusTimeout_queue (r : Nat) : (statusTimeout r s).queue = s.queue := by simp [statusTimeout]
@[simp ↓] theorem failIn_queue (b : Bytes) : (failIn b s).queue = s.queue := by simp [failIn]
@[simp ↓] theorem State.failOver_queue (r : Nat) (p : Place) : (s.failOver r p).queue = s.queue := by
  unfold State.failOver
  (repeat' split) <;> simp

@[simp ↓] theorem State.declare_queue (r cause : Nat) : (s.declare r cause).queue = s.queue := by simp [State.declare]
@[simp ↓] theorem State.linksTick_queue : s.linksTick.queue = s.queue := by simp [State.linksTick]
@[simp ↓] theorem State.levelTick_queue : s.levelTick.queue = s.queue := by simp [State.levelTick]
@[simp ↓] theorem State.levelWithdraw_queue : s.levelWithdraw.queue = s.queue := by simp [State.levelWithdraw]
@[simp ↓] theorem State.levelManage_queue : s.levelManage.queue = s.queue := by simp [State.levelManage]
@[simp ↓] theorem levelIn_queue (b : Bytes) : (levelIn b s).queue = s.queue := by simp [levelIn]
@[simp ↓] theorem State.runningTick_queue : s.runningTick.queue = s.queue := by simp [State.runningTick]
@[simp ↓] theorem State.admitOne_queue (j : JoinReq) : (s.admitOne j).queue = s.queue := by rfl
@[simp ↓] theorem State.sendSnapshot_queue (r : Nat) (l : List Place) : (s.sendSnapshot r l).queue = s.queue := by simp [State.sendSnapshot]
@[simp ↓] theorem State.snapshotTick_queue : s.snapshotTick.queue = s.queue := by simp [State.snapshotTick]
@[simp ↓] theorem State.batchTick_queue : s.batchTick.queue = s.queue := by simp [State.batchTick]
@[simp ↓] theorem State.deputyTick_queue : s.deputyTick.queue = s.queue := by simp [State.deputyTick]
@[simp ↓] theorem State.drainTick_queue : s.drainTick.queue = s.queue := by
  unfold State.drainTick
  split
  · rfl
  · refine (foldl_queue (fun s p => ?_) _ _).trans (State.modMember_queue ..)
    (repeat' split) <;> simp

@[simp ↓] theorem State.drainingTick_queue : s.drainingTick.queue = s.queue := by simp [State.drainingTick]
@[simp ↓] theorem State.takeoverTick_queue : s.takeoverTick.queue = s.queue := by simp [State.takeoverTick]
@[simp ↓] theorem State.takeMembers_queue : s.takeMembers.queue = s.queue := by rfl
@[simp ↓] theorem State.actingManager_queue (voted : Bool) : (s.actingManager voted).queue = s.queue := by simp [State.actingManager]
@[simp ↓] theorem State.managerTick_queue : s.managerTick.queue = s.queue := by simp [State.managerTick]
@[simp ↓] theorem State.groupTick_queue : s.groupTick.queue = s.queue := by simp [State.groupTick]
@[simp ↓] theorem takeoverIn_queue (b : Bytes) : (takeoverIn b s).queue = s.queue := by simp [takeoverIn]
@[simp ↓] theorem voteIn_queue (b : Bytes) : (voteIn b s).queue = s.queue := by simp [voteIn]
@[simp ↓] theorem takeoverTimeout_queue : (takeoverTimeout s).queue = s.queue := by simp [takeoverTimeout]
@[simp ↓] theorem locateIn_queue (net : Nat) (b : Bytes) : (locateIn net b s).queue = s.queue := by
  simp only [locateIn]
  (repeat' split) <;> simp

@[simp ↓] theorem State.drainAnswer_queue (net rank result : Nat) : (s.drainAnswer net rank result).queue = s.queue := by rfl
@[simp ↓] theorem drainIn_queue (net : Nat) (b : Bytes) : (drainIn net b s).queue = s.queue := by simp [drainIn]
@[simp ↓] theorem drainDone_queue (r : Nat) : (drainDone r s).queue = s.queue := by
  unfold drainDone
  split <;> simp

@[simp ↓] theorem discoverIn_queue (net : Nat) (b : Bytes) : (discoverIn net b s).queue = s.queue := by simp [discoverIn]
@[simp ↓] theorem helloIn_queue (net : Nat) (b : Bytes) : (helloIn net b s).queue = s.queue := by simp [helloIn]
@[simp ↓] theorem placementRetry_queue : (placementRetry s).queue = s.queue := by simp [placementRetry]
@[simp ↓] theorem buddyTimeout_queue (h : W32) : (buddyTimeout h s).queue = s.queue := by
  unfold buddyTimeout
  split <;> simp

/-! What the compute commands do: model loads, contexts, token batches, refits (08 R196 to R201; 10 R231 to R234, R247, R248, R250; 15 R360 to R363). -/

@[simp ↓] theorem State.releaseModel_queue (m : Model) : (s.releaseModel m).queue = s.queue := by simp [State.releaseModel]
@[simp ↓] theorem State.growObj_queue (tenant : Nat) (k : ObjKind) (fmt : Byte) (old : Option LoadObj) (n : Nat) :
    (s.growObj tenant k fmt old n).2.queue = s.queue := by
  unfold State.growObj
  split <;> simp

@[simp ↓] theorem loadBegin_queue (id : CmdId) (tenant : Nat) (b : Bytes) : (loadBegin id tenant b s).queue = s.queue := by simp [loadBegin]
@[simp ↓] theorem loadData_queue (id : CmdId) (tenant : Nat) (b : Bytes) : (loadData id tenant b s).queue = s.queue := by
  unfold loadData
  extract_lets
  refine ite_keeps_queue _ (fun _ => by simp) fun _ => ?_
  split
  · simp
  · refine ite_keeps_queue _ (fun _ => by simp) fun _ => ite_keeps_queue _ (fun _ => by simp) fun _ => ?_
    split
    · simp
    · refine ite_keeps_queue _ (fun _ => by simp) fun _ => ?_
      extract_lets old had len more fmt r s1 o s2 t s3
      have h3 : s3.queue = s.queue := by
        simp [s3, s2, s1, r]
      exact ite_keeps_queue _ (fun _ => by simp) fun _ => ite_keeps_queue _ (fun _ => by simp) fun _ => by simp [h3]

@[simp ↓] theorem loadCommit_queue (id : CmdId) (tenant : Nat) (b : Bytes) : (loadCommit id tenant b s).queue = s.queue := by
  unfold loadCommit
  (repeat' split) <;> simp

@[simp ↓] theorem State.loadEnds_queue (m : Model) : (s.loadEnds m).queue = s.queue := by simp [State.loadEnds]
@[simp ↓] theorem loadAddScale_queue (id : CmdId) (tenant : Nat) (b : Bytes) : (loadAddScale id tenant b s).queue = s.queue := by
  unfold loadAddScale
  (repeat' split) <;> simp

@[simp ↓] theorem loadAbandon_queue (id : CmdId) (tenant : Nat) (b : Bytes) : (loadAbandon id tenant b s).queue = s.queue := by
  unfold loadAbandon
  (repeat' split) <;> simp

@[simp ↓] theorem loadTimeout_queue (key : W64) : (loadTimeout key s).queue = s.queue := by
  unfold loadTimeout
  split <;> simp

@[simp ↓] theorem modelUnload_queue (id : CmdId) (tenant : Nat) (b : Bytes) : (modelUnload id tenant b s).queue = s.queue := by
  unfold modelUnload
  (repeat' split) <;> simp

@[simp ↓] theorem State.unloadTick_queue : s.unloadTick.queue = s.queue := by simp [State.unloadTick]
@[simp ↓] theorem listModels_queue (id : CmdId) (tenant : Nat) (b : Bytes) : (listModels id tenant b s).queue = s.queue := by simp [listModels]
@[simp ↓] theorem State.settleLoads_queue : s.settleLoads.queue = s.queue := by simp [State.settleLoads]
@[simp ↓] theorem openContext_queue (id : CmdId) (tenant : Nat) (b : Bytes) : (openContext id tenant b s).queue = s.queue := by
  unfold openContext
  (repeat' split) <;> simp

@[simp ↓] theorem closeContext_queue (id : CmdId) (tenant : Nat) (b : Bytes) : (closeContext id tenant b s).queue = s.queue := by
  unfold closeContext
  (repeat' split) <;> simp

@[simp ↓] theorem closeDone_queue (h : W32) : (closeDone h s).queue = s.queue := by
  unfold closeDone
  split <;> simp

@[simp ↓] theorem getContext_queue (id : CmdId) (tenant : Nat) (b : Bytes) : (getContext id tenant b s).queue = s.queue := by
  unfold getContext
  (repeat' split) <;> simp

@[simp ↓] theorem tokenBatch_queue (id : CmdId) (tenant : Nat) (b : Bytes) (plan : Plan) : (tokenBatch id tenant b plan s).queue = s.queue := by
  simp only [tokenBatch]
  (repeat' split) <;> simp

@[simp ↓] theorem refitExpert_queue (id : CmdId) (tenant : Nat) (b : Bytes) : (refitExpert id tenant b s).queue = s.queue := by
  unfold refitExpert
  extract_lets
  refine ite_keeps_queue _ (fun _ => by simp) fun _ => ite_keeps_queue _ (fun _ => by simp) fun _ => ite_keeps_queue _ (fun _ => by simp) fun _ => ?_
  split
  · simp
  · refine ite_keeps_queue _ (fun _ => by simp) fun _ => ite_keeps_queue _ (fun _ => by simp) fun _ => ?_
    split
    · simp
    · refine ite_keeps_queue _ (fun _ => by simp) fun _ => ite_keeps_queue _ (fun _ => by simp) fun _ => ite_keeps_queue _ (fun _ => by simp) fun _ => ?_
      extract_lets work st w n r s1 j lib s2
      have h1 : s1.queue = s.queue := by
        simp [s1, r, n, w]
      exact ite_keeps_queue _ (fun _ => by simp) fun _ => ite_keeps_queue _ (fun _ => by simp) fun _ => by simp [s2, h1]

@[simp ↓] theorem State.modRefit_queue (job : Nat) (f : Refit → Refit) : (s.modRefit job f).queue = s.queue := by rfl
@[simp ↓] theorem State.dropRefit_queue (job : Nat) : (s.dropRefit job).queue = s.queue := by rfl
@[simp ↓] theorem State.releaseScale_queue (j : Refit) : (s.releaseScale j).queue = s.queue := by simp [State.releaseScale]
@[simp ↓] theorem State.refitFails_queue (j : Refit) : (s.refitFails j).queue = s.queue := by simp [State.refitFails]
@[simp ↓] theorem State.refitWrites_queue (j : Refit) : (s.refitWrites j).queue = s.queue := by
  unfold State.refitWrites
  (repeat' split) <;> simp

@[simp ↓] theorem State.streamState_queue (j : Refit) : (s.streamState j).queue = s.queue := by
  unfold State.streamState
  split <;> simp

@[simp ↓] theorem State.refitTick_queue : s.refitTick.queue = s.queue := by
  unfold State.refitTick
  refine foldl_queue (fun s _ => ?_) _ _
  (repeat' split) <;> simp

@[simp ↓] theorem State.settleRefits_queue : s.settleRefits.queue = s.queue := by
  unfold State.settleRefits
  refine foldl_queue (fun s j => ?_) _ _
  dsimp only
  (repeat' split) <;> simp

@[simp ↓] theorem refitCommit_queue (job : Nat) : (refitCommit job s).queue = s.queue := by
  unfold refitCommit
  (repeat' split) <;> simp

@[simp ↓] theorem refitShadowTimeout_queue (job : Nat) : (refitShadowTimeout job s).queue = s.queue := by
  simp only [refitShadowTimeout]
  (repeat' split) <;> simp

/-! The search commands: shards, inserts, deletes, filters, queries, group queries, repair, embedding jobs (12 R270 to R292; 15 R364, R365; 17 R405, R416). -/

@[simp ↓] theorem State.modSearch_queue (f : Search → Search) : (s.modSearch f).queue = s.queue := by rfl
@[simp ↓] theorem createIndex_queue (id : CmdId) (tenant : Nat) (b : Bytes) : (createIndex id tenant b s).queue = s.queue := by simp [createIndex]
@[simp ↓] theorem State.indexCommit_queue (x : Shard) : (s.indexCommit x).2.queue = s.queue := by rfl
@[simp ↓] theorem State.shadowCommit_queue (i : W64) (k : W16) (id : Option CmdId) (seq : Nat) (nodes : List Nat) :
    (s.shadowCommit i k id seq nodes).queue = s.queue := by
  unfold State.shadowCommit
  split <;> simp

@[simp ↓] theorem destroyIndex_queue (id : CmdId) (tenant : Nat) (b : Bytes) : (destroyIndex id tenant b s).queue = s.queue := by
  unfold destroyIndex
  (repeat' split) <;> simp

@[simp ↓] theorem State.settleShards_queue : s.settleShards.queue = s.queue := by
  unfold State.settleShards
  refine foldl_queue (fun s _ => ?_) _ _
  (repeat' split) <;> simp

@[simp ↓] theorem State.indexWrite_queue (a : W64) (b : Bytes) : (s.indexWrite a b).queue = s.queue := by simp [State.indexWrite]
@[simp ↓] theorem State.putShard_queue (x y : Shard) (l : List Nat) : (s.putShard x y l).queue = s.queue := by simp [State.putShard]
@[simp ↓] theorem State.countWalk_queue (a b : QShard) : (s.countWalk a b).queue = s.queue := by rfl
@[simp ↓] theorem State.insertVecs_queue (x : Shard) (id : Option CmdId) (l : List (W64 × Bytes)) :
    (s.insertVecs x id l).queue = s.queue := by simp [State.insertVecs]

@[simp ↓] theorem insertCmd_queue (id : CmdId) (tenant : Nat) (b : Bytes) : (insertCmd id tenant b s).queue = s.queue := by
  unfold insertCmd
  split <;> simp

@[simp ↓] theorem State.putFilter_queue (f : Filter) (bits : Marks) : (s.putFilter f bits).queue = s.queue := by simp [State.putFilter]
@[simp ↓] theorem State.clearNodeBits_queue (i : W64) (k : W16) (l : List Nat) :
    (s.clearNodeBits i k l).queue = s.queue := by simp [State.clearNodeBits]

@[simp ↓] theorem State.publishTick_queue : s.publishTick.queue = s.queue := by
  unfold State.publishTick
  refine foldl_queue (fun s _ => ?_) _ _
  (repeat' split) <;> simp

@[simp ↓] theorem State.settleInserts_queue : s.settleInserts.queue = s.queue := by simp [State.settleInserts]
@[simp ↓] theorem State.settleDeletes_queue : s.settleDeletes.queue = s.queue := by simp [State.settleDeletes]
@[simp ↓] theorem deleteCmd_queue (id : CmdId) (tenant : Nat) (b : Bytes) : (deleteCmd id tenant b s).queue = s.queue := by
  unfold deleteCmd
  split <;> simp

@[simp ↓] theorem indexRepair_queue : (indexRepair s).queue = s.queue := by
  simp only [indexRepair]
  (repeat' split) <;> simp

@[simp ↓] theorem State.changeFilter_queue (id : CmdId) (x : Shard) (idx : Nat) (bits : Marks) (all : Bool) (dw0 : W32) :
    (s.changeFilter id x idx bits all dw0).queue = s.queue := by
  simp [State.changeFilter]

@[simp ↓] theorem setFilter_queue (id : CmdId) (tenant : Nat) (b : Bytes) : (setFilter id tenant b s).queue = s.queue := by
  simp only [setFilter]
  (repeat' split) <;> simp

@[simp ↓] theorem State.filterTick_queue : s.filterTick.queue = s.queue := by
  unfold State.filterTick
  refine foldl_queue (fun s _ => ?_) _ _
  (repeat' split) <;> simp

@[simp ↓] theorem State.settleFilters_queue : s.settleFilters.queue = s.queue := by
  unfold State.settleFilters
  refine foldl_queue (fun s _ => ?_) _ _
  (repeat' split) <;> simp

@[simp ↓] theorem State.beginQuery_queue (id : CmdId) (tenant : Nat) (p : QueryParams) (l : List (Shard × Option Nat × Bool)) (gid : Option W64) (ans : Option Nat) (asked : List (Nat × Nat)) (dl : Nat) :
    (s.beginQuery id tenant p l gid ans asked dl).queue = s.queue := by
  rfl

@[simp ↓] theorem queryCmd_queue (id : CmdId) (tenant : Nat) (b : Bytes) (plan : Plan) : (queryCmd id tenant b plan s).queue = s.queue := by
  unfold queryCmd
  extract_lets p held mine dir asked bad found own s1 dl qid s2 pb pad s3
  have h3 : s3.queue = s.queue := by
    simp [s3, s2, s1]
  refine ite_keeps_queue _ (fun _ => by simp) fun _ => ite_keeps_queue _ (fun _ => by simp) fun _ => ite_keeps_queue _ (fun _ => by simp) fun _ => ?_
  split
  · simp
  · refine ite_keeps_queue _ (fun _ => by simp) fun _ => ?_
    split
    · simp
    · exact ite_keeps_queue _ (fun _ => by simp) fun _ => ite_keeps_queue _ (fun _ => by simp) fun _ => ite_keeps_queue _ (fun _ => by simp) fun _ => by simp [h3]

@[simp ↓] theorem State.modQuery_queue (id : CmdId) (f : Query → Query) : (s.modQuery id f).queue = s.queue := by rfl
@[simp ↓] theorem State.startTraversal_queue (q : Query) (k : QShard) (ctx : Nat) : (s.startTraversal q k ctx).queue = s.queue := by
  unfold State.startTraversal
  split <;> simp

@[simp ↓] theorem nodeRead_queue (ctx : Nat) (marked : Bool) : (nodeRead ctx marked s).queue = s.queue := by
  unfold nodeRead
  (repeat' split) <;> simp

@[simp ↓] theorem State.rerank_queue (q : Query) (k : QShard) : (s.rerank q k).queue = s.queue := by
  simp only [State.rerank]
  (repeat' split) <;> simp

@[simp ↓] theorem State.finishQuery_queue (q : Query) : (s.finishQuery q).queue = s.queue := by
  unfold State.finishQuery
  (repeat' split) <;> simp

@[simp ↓] theorem State.queryTick_queue : s.queryTick.queue = s.queue := by
  unfold State.queryTick
  refine (foldl_queue (fun s q => by simp) _ _).trans ((foldl_queue (fun s q => ?_) _ _).trans (foldl_queue (fun s q => ?_) _ _))
  · refine foldl_queue (fun s k => ?_) _ _
    (repeat' split) <;> simp
  · simp

@[simp ↓] theorem queryIn_queue (b : Bytes) : (queryIn b s).queue = s.queue := by
  simp only [queryIn]
  (repeat' split) <;> simp

@[simp ↓] theorem answerIn_queue (b : Bytes) : (answerIn b s).queue = s.queue := by
  unfold answerIn
  (repeat' split) <;> simp

@[simp ↓] theorem groupQueryTimeout_queue (qid : W64) : (groupQueryTimeout qid s).queue = s.queue := by
  unfold groupQueryTimeout
  split <;> simp

@[simp ↓] theorem embeddingJob_queue (id : CmdId) (tenant : Nat) (b : Bytes) (outDim : Nat) :
    (embeddingJob id tenant b outDim s).queue = s.queue := by
  simp only [embeddingJob]
  (repeat' split) <;> simp

@[simp ↓] theorem State.modJob_queue (id : W16) (f : EmbedJob → EmbedJob) : (s.modJob id f).queue = s.queue := by rfl
@[simp ↓] theorem State.endJob_queue (j : EmbedJob) (t : Status) : (s.endJob j t).queue = s.queue := by simp [State.endJob]
@[simp ↓] theorem State.jobTick_queue (j : EmbedJob) : (s.jobTick j).queue = s.queue := by
  unfold State.jobTick
  (repeat' split) <;> simp

@[simp ↓] theorem State.searchTick_queue : s.searchTick.queue = s.queue := by simp [State.searchTick]
@[simp ↓] theorem State.settleSearch_queue : s.settleSearch.queue = s.queue := by simp [State.settleSearch]

/-! I/O commands: their order, the NVM command set, queue resets, namespaces (15 R347 to R359; 14 R342; 17 R404; 19 R452, R453). -/

@[simp ↓] theorem State.modHostCtrl_queue (n : W16) (f : HostCtrl → HostCtrl) : (s.modHostCtrl n f).queue = s.queue := by rfl
@[simp ↓] theorem State.changeRange_queue (id : CmdId) (n : Namespace) (ofs len : Nat) (d : Option Bytes) :
    (s.changeRange id n ofs len d).2.queue = s.queue := by
  unfold State.changeRange
  split
  · rfl
  · refine foldl_snd_queue (fun r i => ?_) _ _
    (repeat' split) <;> simp

@[simp ↓] theorem State.hostChange_queue (h : IoHdr) (n : Namespace) (l : List (Nat × Nat)) (d : Option Bytes) :
    (s.hostChange h n l d).queue = s.queue := by
  simp [State.hostChange]

@[simp ↓] theorem nvmWrite_queue (h : IoHdr) (slba : W64) (nlb : W16) (data : Bytes) : (nvmWrite h slba nlb data s).queue = s.queue := by
  unfold nvmWrite
  (repeat' split) <;> simp

@[simp ↓] theorem nvmWriteZeroes_queue (h : IoHdr) (slba : W64) (nlb : W16) : (nvmWriteZeroes h slba nlb s).queue = s.queue := by
  unfold nvmWriteZeroes
  (repeat' split) <;> simp

@[simp ↓] theorem nvmDsm_queue (h : IoHdr) (attrs : W32) (ranges : List (W64 × W32)) : (nvmDsm h attrs ranges s).queue = s.queue := by
  unfold nvmDsm
  split <;> simp

@[simp ↓] theorem nvmFlush_queue (h : IoHdr) : (nvmFlush h s).queue = s.queue := by
  unfold nvmFlush
  split <;> simp

@[simp ↓] theorem State.finishRead_queue (r : HostRead) : (s.finishRead r).queue = s.queue := by
  simp only [State.finishRead]
  (repeat' split) <;> simp

@[simp ↓] theorem nvmRead_queue (h : IoHdr) (slba : W64) (nlb : W16) : (nvmRead h slba nlb s).queue = s.queue := by
  unfold nvmRead
  (repeat' split) <;> simp

@[simp ↓] theorem State.slotRead_queue (l : Nat) (bad : Bool) : (s.slotRead l bad).queue = s.queue := by simp [State.slotRead]
@[simp ↓] theorem startIo_queue (i : Instr) : (startIo i s).queue = s.queue := by
  simp only [startIo]
  (repeat' split) <;> simp

@[simp ↓] theorem State.startNext_queue : s.startNext.queue = s.queue := by
  unfold State.startNext
  (repeat' split) <;> simp

@[simp ↓] theorem State.startAll_queue (n : Nat) : (State.startAll n s).queue = s.queue := by
  induction n generalizing s with
  | zero => rfl
  | succ n ih => simp [State.startAll, ih]

@[simp ↓] theorem State.runIo_queue : s.runIo.queue = s.queue := by simp [State.runIo]
@[simp ↓] theorem State.trimLost_queue : s.trimLost.queue = s.queue := by rfl
@[simp ↓] theorem State.mirrorPart_queue (p : WritePart) : (s.mirrorPart p).queue = s.queue := by
  simp only [State.mirrorPart]
  (repeat' split) <;> simp

@[simp ↓] theorem State.settleHost_queue (ended : List WritePart) : (s.settleHost ended).queue = s.queue := by simp [State.settleHost]
@[simp ↓] theorem State.dropNs_queue (n : Namespace) : (s.dropNs n).queue = s.queue := by simp [State.dropNs]
@[simp ↓] theorem State.settleNamespaces_queue : s.settleNamespaces.queue = s.queue := by
  unfold State.settleNamespaces
  refine foldl_queue (fun s _ => ?_) _ _
  (repeat' split) <;> simp

@[simp ↓] theorem State.settle_queue : s.settle.queue = s.queue := by simp [State.settle]
@[simp ↓] theorem State.rename_queue (a b : CmdId) : (State.rename a b s).queue = s.queue := by rfl
@[simp ↓] theorem State.dropParts_queue (id : CmdId) : (s.dropParts id).queue = s.queue := by rfl
@[simp ↓] theorem State.stopBatch_queue (id : CmdId) : (s.stopBatch id).queue = s.queue := by
  unfold State.stopBatch
  refine foldl_queue (fun s _ => ?_) _ _
  (repeat' split) <;> simp

@[simp ↓] theorem State.stopTick_queue : s.stopTick.queue = s.queue := by simp [State.stopTick]
@[simp ↓] theorem State.dropQuery_queue (id : CmdId) : (s.dropQuery id).queue = s.queue := by
  unfold State.dropQuery
  split <;> simp

@[simp ↓] theorem State.loseCmd_queue (post : Bool) (o : OpenCmd) : (s.loseCmd post o).queue = s.queue := by simp [State.loseCmd]
@[simp ↓] theorem State.queueReset_queue (p : CmdId → Bool) (post : Bool) : (s.queueReset p post).queue = s.queue := by simp [State.queueReset]
@[simp ↓] theorem State.closeQp_queue (ctrl sq : W16) : (s.closeQp ctrl sq).queue = s.queue := by rfl
@[simp ↓] theorem State.loseQueue_queue (ctrl sq : W16) (post : Bool) : (s.loseQueue ctrl sq post).queue = s.queue := by simp [State.loseQueue]
@[simp ↓] theorem State.resetController_queue (ctrl : W16) : (s.resetController ctrl).queue = s.queue := by simp [State.resetController]
@[simp ↓] theorem State.dropController_queue (ctrl : W16) : (s.dropController ctrl).queue = s.queue := by simp [State.dropController]
@[simp ↓] theorem State.portLost_queue (p : Nat) : (s.portLost p).queue = s.queue := by simp [State.portLost]

/-! Associations and admin commands: Connect, properties, Identify, logs, features, asynchronous events, namespaces (15 R343 to R349, R356, R366, R367; 14 R340 to R342; 20 R470, R471). -/

@[simp ↓] theorem State.eventTo_queue (ctrl : W16) (e mask : W32) : (s.eventTo ctrl e mask).queue = s.queue := by
  unfold State.eventTo
  split <;> simp

@[simp ↓] theorem State.warnEvents_queue : s.warnEvents.queue = s.queue := by simp [State.warnEvents]
@[simp ↓] theorem getLogPage_queue (id : CmdId) (lid : Byte) (lsi : W16) (ofs len : Nat) : (getLogPage id lid lsi ofs len s).queue = s.queue := by
  unfold getLogPage
  split <;> simp

@[simp ↓] theorem identify_queue (id : CmdId) (cns : Byte) (nsid : W32) : (identify id cns nsid s).queue = s.queue := by
  unfold identify
  (repeat' split) <;> simp

@[simp ↓] theorem getFeatures_queue (id : CmdId) (fid : Byte) : (getFeatures id fid s).queue = s.queue := by
  unfold getFeatures
  (repeat' split) <;> simp

@[simp ↓] theorem setFeatures_queue (id : CmdId) (fid : Byte) (v : W32) : (setFeatures id fid v s).queue = s.queue := by
  unfold setFeatures
  (repeat' split) <;> simp

@[simp ↓] theorem asyncEvent_queue (id : CmdId) : (asyncEvent id s).queue = s.queue := by
  unfold asyncEvent
  (repeat' split) <;> simp

@[simp ↓] theorem abortCmd_queue (id : CmdId) : (abortCmd id s).queue = s.queue := by rfl
@[simp ↓] theorem keepAlive_queue (id : CmdId) : (keepAlive id s).queue = s.queue := by rfl
@[simp ↓] theorem keepAliveExpired_queue (ctrl : W16) : (keepAliveExpired ctrl s).queue = s.queue := by
  unfold keepAliveExpired
  split <;> simp

@[simp ↓] theorem State.openHostQp_queue (port : Nat) (ctrl sq : W16) : (s.openHostQp port ctrl sq).queue = s.queue := by rfl
@[simp ↓] theorem connectCmd_queue (id : CmdId) (port : Nat) (sqsize : W16) (kato : W32) : (connectCmd id port sqsize kato s).queue = s.queue := by
  unfold connectCmd
  (repeat' split) <;> simp

@[simp ↓] theorem propertyGet_queue (id : CmdId) (ofs : W32) : (propertyGet id ofs s).queue = s.queue := by
  unfold propertyGet
  (repeat' split) <;> simp

@[simp ↓] theorem setCc_queue (id : CmdId) (v : W32) : (setCc id v s).queue = s.queue := by
  unfold setCc
  split <;> simp

@[simp ↓] theorem disconnectCmd_queue (id : CmdId) : (disconnectCmd id s).queue = s.queue := by
  unfold disconnectCmd
  split <;> simp

@[simp ↓] theorem connectionLost_queue (ctrl sq : W16) : (connectionLost ctrl sq s).queue = s.queue := by
  unfold connectionLost
  split <;> simp

@[simp ↓] theorem createNamespace_queue (id : CmdId) (nsze : W64) (lbaf : Nat) (b : Bytes) :
    (createNamespace id nsze lbaf b s).queue = s.queue := by
  unfold createNamespace
  split <;> simp

@[simp ↓] theorem deleteNamespace_queue (id : CmdId) (nsid : Nat) : (deleteNamespace id nsid s).queue = s.queue := by
  unfold deleteNamespace
  (repeat' split) <;> simp

@[simp ↓] theorem State.formatOne_queue (id : CmdId) (lbaf : Nat) (erase : Bool) (n : Namespace) :
    (s.formatOne id lbaf erase n).queue = s.queue := by
  unfold State.formatOne
  split <;> simp

@[simp ↓] theorem formatNvm_queue (id : CmdId) (nsid : W32) (lbaf ses : Nat) : (formatNvm id nsid lbaf ses s).queue = s.queue := by
  unfold formatNvm
  split <;> simp

/-! Loading, checking, activating and discarding a Loft image (03 R56 to R61, R75 to R81). -/

@[simp ↓] theorem State.modLoft_queue (f : Loft → Loft) : (s.modLoft f).queue = s.queue := by rfl
@[simp ↓] theorem imageTransfer_queue (id : CmdId) (numd ofst : W32) (data : Bytes) :
    (imageTransfer id numd ofst data s).queue = s.queue := by simp [imageTransfer]

@[simp ↓] theorem State.discardPending_queue : s.discardPending.queue = s.queue := by
  unfold State.discardPending
  split <;> simp

@[simp ↓] theorem imageCancel_queue (id : CmdId) : (imageCancel id s).queue = s.queue := by
  unfold imageCancel
  split <;> simp

@[simp ↓] theorem imageApply_queue (id : CmdId) (rsv : Bool) (mode act : Nat) :
    (imageApply id rsv mode act s).queue = s.queue := by simp [imageApply]

@[simp ↓] theorem checkDone_queue : (checkDone s).queue = s.queue := by
  simp only [checkDone]
  (repeat' split) <;> simp

@[simp ↓] theorem State.evictT0_queue (i : Image) : (s.evictT0 i).queue = s.queue := by simp [State.evictT0]
@[simp ↓] theorem State.activate_queue (p : Pending) : (s.activate p).queue = s.queue := by simp [State.activate]
@[simp ↓] theorem State.activateDue_queue : s.activateDue.queue = s.queue := by
  unfold State.activateDue
  split <;> simp

/-! What the Drogue does on a fault: local-fatal actions, the safe state, its exit, heartbeats (18 R425 to R437; 01 R29). -/

@[simp ↓] theorem State.modDrogue_queue (f : Drogue → Drogue) : (s.modDrogue f).queue = s.queue := by rfl
@[simp ↓] theorem State.endFreeze_queue : s.endFreeze.queue = s.queue := by simp [State.endFreeze]
@[simp ↓] theorem beginSparReset_queue : (beginSparReset s).queue = s.queue := by simp [beginSparReset]
@[simp ↓] theorem State.abortAdmin_queue (k : Nat) : (s.abortAdmin k).queue = s.queue := by simp [State.abortAdmin]
@[simp ↓] theorem State.act_queue (a : LocalAct) : (s.act a).queue = s.queue := by
  unfold State.act
  (repeat' split) <;> simp

@[simp ↓] theorem State.restartQuiet_queue : s.restartQuiet.queue = s.queue := by rfl
@[simp ↓] theorem State.interruptCmd_queue (o : OpenCmd) : (s.interruptCmd o).queue = s.queue := by
  simp only [State.interruptCmd]
  (repeat' split) <;> simp

@[simp ↓] theorem State.stopForSafe_queue : s.stopForSafe.queue = s.queue := by simp [State.stopForSafe]
@[simp ↓] theorem State.enterSafe_queue (src : Byte) : (s.enterSafe src).queue = s.queue := by simp [State.enterSafe]
@[simp ↓] theorem State.moduleFatal_queue (f : FaultIn) : (s.moduleFatal f).queue = s.queue := by simp [State.moduleFatal]
@[simp ↓] theorem State.countLocal_queue (f : FaultIn) : (s.countLocal f).2.queue = s.queue := by simp [State.countLocal]
@[simp ↓] theorem State.localFatal_queue (f : FaultIn) : (s.localFatal f).queue = s.queue := by simp [State.localFatal]
@[simp ↓] theorem State.report_keeps_queue (f : FaultIn) : (s.report_ f).queue = s.queue := by
  unfold State.report_
  split <;> simp

@[simp ↓] theorem quietEnds_queue : (quietEnds s).queue = s.queue := by
  unfold quietEnds
  split <;> simp

@[simp ↓] theorem State.leaveSafe_queue : s.leaveSafe.queue = s.queue := by simp [State.leaveSafe]
@[simp ↓] theorem sparResetDone_queue : (sparResetDone s).queue = s.queue := by simp [sparResetDone]
@[simp ↓] theorem drogueParity_queue : (drogueParity s).queue = s.queue := by simp [drogueParity]
@[simp ↓] theorem capClear_queue (v : W32) : (capClear v s).queue = s.queue := by simp [capClear]
@[simp ↓] theorem heartbeat_queue (master : W16) (v : W32) : (heartbeat master v s).queue = s.queue := by simp [heartbeat]
@[simp ↓] theorem heartbeatMiss_queue (core : Nat) : (heartbeatMiss core s).queue = s.queue := by simp [heartbeatMiss]
@[simp ↓] theorem coreRestarted_queue (k : Nat) : (coreRestarted k s).queue = s.queue := by simp [coreRestarted]
@[simp ↓] theorem clusterResetDone_queue (c : Nat) : (clusterResetDone c s).queue = s.queue := by simp [clusterResetDone]
@[simp ↓] theorem bridleResetDone_queue : (bridleResetDone s).queue = s.queue := by simp [bridleResetDone]

/-! Signed images, the boot chain, SPDM, owner keys and the debug token (19). Byte layouts of the SPDM messages are DSP0274's (log 4). -/

@[simp ↓] theorem State.modSec_queue (f : Sec → Sec) : (s.modSec f).queue = s.queue := by rfl
@[simp ↓] theorem State.drawBytes_queue (n : Nat) : (s.drawBytes n).2.queue = s.queue := by rfl
@[simp ↓] theorem fwDownload_queue (id : CmdId) (ofst : W32) (data : Bytes) : (fwDownload id ofst data s).queue = s.queue := by simp [fwDownload]
@[simp ↓] theorem fwCommit_queue (id : CmdId) (action slot : Nat) : (fwCommit id action slot s).queue = s.queue := by simp [fwCommit]
@[simp ↓] theorem boot_queue : (boot s).queue = s.queue := by
  simp only [boot]
  (repeat' split) <;> simp

@[simp ↓] theorem State.fuseFirmware_queue : s.fuseFirmware.queue = s.queue := by
  simp only [State.fuseFirmware]
  (repeat' split) <;> simp

@[simp ↓] theorem State.modSpdm_queue (f : Spdm → Spdm) : (s.modSpdm f).queue = s.queue := by rfl
@[simp ↓] theorem State.respond_queue (r : Bytes) : (s.respond r).queue = s.queue := by simp [State.respond]
@[simp ↓] theorem spdmVersion_queue (req : Bytes) : (spdmVersion req s).queue = s.queue := by simp [spdmVersion]
@[simp ↓] theorem spdmCapabilities_queue (req : Bytes) : (spdmCapabilities req s).queue = s.queue := by simp [spdmCapabilities]
@[simp ↓] theorem spdmAlgorithms_queue (req : Bytes) : (spdmAlgorithms req s).queue = s.queue := by simp [spdmAlgorithms]
@[simp ↓] theorem spdmDigests_queue (req : Bytes) : (spdmDigests req s).queue = s.queue := by simp [spdmDigests]
@[simp ↓] theorem spdmCertificate_queue (req : Bytes) : (spdmCertificate req s).queue = s.queue := by simp [spdmCertificate]
@[simp ↓] theorem spdmChallenge_queue (req : Bytes) : (spdmChallenge req s).queue = s.queue := by simp [spdmChallenge]
@[simp ↓] theorem spdmMeasurements_queue (req : Bytes) : (spdmMeasurements req s).queue = s.queue := by simp [spdmMeasurements]
@[simp ↓] theorem spdmChunkGet_queue (req : Bytes) : (spdmChunkGet req s).queue = s.queue := by simp [spdmChunkGet]
@[simp ↓] theorem pqSignature_queue (signed : Option Bytes) : (pqSignature signed s).queue = s.queue := by
  unfold pqSignature
  split <;> simp

@[simp ↓] theorem getNonce_queue : (getNonce s).queue = s.queue := by simp [getNonce]
@[simp ↓] theorem ownerSet_queue (b : Bytes) : (ownerSet b s).queue = s.queue := by simp [ownerSet]
@[simp ↓] theorem ownerRevoke_queue (b : Bytes) : (ownerRevoke b s).queue = s.queue := by simp [ownerRevoke]
@[simp ↓] theorem spdmVendor_queue (req : Bytes) (signed : Option Bytes) : (spdmVendor req signed s).queue = s.queue := by
  unfold spdmVendor
  (repeat' split) <;> simp

@[simp ↓] theorem spdmRequest_queue (req : Bytes) : (spdmRequest req s).queue = s.queue := by
  simp only [spdmRequest]
  (repeat' split) <;> simp

@[simp ↓] theorem spdmChunkSend_queue (req : Bytes) : (spdmChunkSend req s).queue = s.queue := by simp [spdmChunkSend]
@[simp ↓] theorem spdm_queue (req : Bytes) : (spdm req s).queue = s.queue := by simp [spdm]
@[simp ↓] theorem spdmWhole_queue (req : Bytes) : (spdmWhole req s).queue = s.queue := by simp [spdmWhole]
@[simp ↓] theorem securitySend_queue (id : CmdId) (secp : Byte) (data : Bytes) :
    (securitySend id secp data s).queue = s.queue := by simp [securitySend]

@[simp ↓] theorem securityReceive_queue (id : CmdId) (secp : Byte) (len : Nat) :
    (securityReceive id secp len s).queue = s.queue := by simp [securityReceive]

@[simp ↓] theorem State.newNonce_queue : s.newNonce.queue = s.queue := by rfl
@[simp ↓] theorem unlock_queue : (unlock s).queue = s.queue := by simp [unlock]
@[simp ↓] theorem tokenChecked_queue : (tokenChecked s).queue = s.queue := by simp [tokenChecked]

/-! Input, power-up, resets, Hold, sleep, throttles, sensors, adaptive loops (20; 13 R306, R308; 01 R26). -/

@[simp ↓] theorem State.modPower_queue (f : Power → Power) : (s.modPower f).queue = s.queue := by rfl
@[simp ↓] theorem State.stopLinks_queue (cut : Bool) : (s.stopLinks cut).queue = s.queue := by simp [State.stopLinks]

@[simp ↓] theorem State.stopRefits_queue (alive : Nat → Bool) : (s.stopRefits alive).queue = s.queue := by simp [State.stopRefits]
@[simp ↓] theorem State.stopModels_queue : s.stopModels.queue = s.queue := by simp [State.stopModels]
@[simp ↓] theorem State.stopSearch_queue (alive : Nat → Bool) : (s.stopSearch alive).queue = s.queue := by simp [State.stopSearch]
@[simp ↓] theorem State.stopNamespaces_queue (alive : Nat → Bool) (cut : Bool) : (s.stopNamespaces alive cut).queue = s.queue := by
  unfold State.stopNamespaces
  refine foldl_queue (fun s _ => ?_) _ _
  (repeat' split) <;> simp

@[simp ↓] theorem State.stopReel_queue (cut : Bool) : (s.stopReel cut).queue = s.queue := by simp [State.stopReel]
@[simp ↓] theorem State.stopSec_queue : s.stopSec.queue = s.queue := by rfl
@[simp ↓] theorem State.moduleStop_queue (cut : Bool) : (s.moduleStop cut).queue = s.queue := by simp [State.moduleStop]
@[simp ↓] theorem State.resetModule_queue (cause : BitVec 4) : (s.resetModule cause).queue = s.queue := by
  simp [State.resetModule]

@[simp ↓] theorem modReset_queue (ns : Nat) : (modReset ns s).queue = s.queue := by simp [modReset]
@[simp ↓] theorem State.inputLoss_queue (next : Phase) :
    (s.inputLoss next).queue = s.queue := by simp [State.inputLoss]

@[simp ↓] theorem holdupFalls_queue : (holdupFalls s).queue = s.queue := by simp [holdupFalls]
@[simp ↓] theorem pwrAssert_queue (mv : Nat) : (pwrAssert mv s).queue = s.queue := by
  simp only [pwrAssert]
  (repeat' split) <;> simp

@[simp ↓] theorem pwrDeassert_queue : (pwrDeassert s).queue = s.queue := by simp [pwrDeassert]
@[simp ↓] theorem inputBack_queue : (inputBack s).queue = s.queue := by simp [inputBack]
@[simp ↓] theorem railTimeout_queue (rail : Nat) : (railTimeout rail s).queue = s.queue := by simp [railTimeout]
@[simp ↓] theorem powerGood_queue : (powerGood s).queue = s.queue := by simp [powerGood]
@[simp ↓] theorem inputSample_queue (mv ma10 : Nat) : (inputSample mv ma10 s).queue = s.queue := by
  unfold inputSample
  split <;> simp

@[simp ↓] theorem holdupTest_queue (us : Nat) : (holdupTest us s).queue = s.queue := by simp [holdupTest]
@[simp ↓] theorem State.supplyCleared_queue (was : Bool) : (s.supplyCleared was).queue = s.queue := by simp [State.supplyCleared]
@[simp ↓] theorem sensorSample_queue (l : List W16) :
    (sensorSample l s).queue = s.queue := by simp [sensorSample]

@[simp ↓] theorem railOut_queue (rail : Nat) : (railOut rail s).queue = s.queue := by simp [railOut]
@[simp ↓] theorem railBack_queue (rail : Nat) : (railBack rail s).queue = s.queue := by simp [railBack]
@[simp ↓] theorem State.noteThrottle_queue : s.noteThrottle.queue = s.queue := by rfl
@[simp ↓] theorem State.setTarget_queue (n : BitVec 3) : (s.setTarget n).queue = s.queue := by simp [State.setTarget]
@[simp ↓] theorem softDown_queue : (softDown s).queue = s.queue := by simp [softDown]
@[simp ↓] theorem softUp_queue : (softUp s).queue = s.queue := by simp [softUp]
@[simp ↓] theorem State.chargeStop_queue (m : BitVec 8) : (s.chargeStop m).queue = s.queue := by simp [State.chargeStop]
@[simp ↓] theorem State.chargeFreeze_queue : s.chargeFreeze.queue = s.queue := by simp [State.chargeFreeze]
@[simp ↓] theorem State.chargeHalts_queue : s.chargeHalts.queue = s.queue := by simp [State.chargeHalts]
@[simp ↓] theorem hardThrottle_queue : (hardThrottle s).queue = s.queue := by simp [hardThrottle]
@[simp ↓] theorem freezeEnd_queue : (freezeEnd s).queue = s.queue := by simp [freezeEnd]
@[simp ↓] theorem State.stepTrim_queue (g : Nat) (up : Bool) : (s.stepTrim g up).queue = s.queue := by rfl
@[simp ↓] theorem avsGroup_queue (g margin pm : Nat) : (avsGroup s g margin pm).queue = s.queue := by simp [avsGroup]
@[simp ↓] theorem avsLoop_queue (margins pm : List Nat) : (avsLoop margins pm s).queue = s.queue := by simp [avsLoop]
@[simp ↓] theorem droop_queue (g : Nat) : (droop g s).queue = s.queue := by simp [droop]
@[simp ↓] theorem droopEnd_queue (g : Nat) : (droopEnd g s).queue = s.queue := by rfl
@[simp ↓] theorem sleepReq_queue (c : Nat) : (sleepReq c s).queue = s.queue := by simp [sleepReq]
@[simp ↓] theorem sleepEnter_queue (c : Nat) : (sleepEnter c s).queue = s.queue := by simp [sleepEnter]
@[simp ↓] theorem sleepWake_queue (c : Nat) : (sleepWake c s).queue = s.queue := by simp [sleepWake]
@[simp ↓] theorem holdSet_queue (v : W32) : (holdSet v s).queue = s.queue := by simp [holdSet]
@[simp ↓] theorem holdClr_queue (v : W32) : (holdClr v s).queue = s.queue := by simp [holdClr]
@[simp ↓] theorem State.holdTick_queue : s.holdTick.queue = s.queue := by
  unfold State.holdTick
  split <;> simp

@[simp ↓] theorem State.fault_queue (f : FaultIn) : (s.fault f).queue = s.queue := by simp [State.fault]
@[simp ↓] theorem watchdog_queue : (watchdog s).queue = s.queue := by simp [watchdog]

/-! What the Envelope reports: programs, erases and reads that end, dies that fail, flushes, reclamation, scrub, the rebuild at a start (13 R294 to R310; 14 R326 to R341). -/

@[simp ↓] theorem State.dieFails_queue (d : Nat) : (s.dieFails d).queue = s.queue := by simp [State.dieFails]
@[simp ↓] theorem State.countDie_queue (d : Nat) : (s.countDie d).queue = s.queue := by simp [State.countDie]
@[simp ↓] theorem State.channelFails_queue (ch : Nat) : (s.channelFails ch).queue = s.queue := by simp [State.channelFails]
@[simp ↓] theorem State.train_queue (n : Nat) (rates : List (BitVec 3)) : (s.train n rates).queue = s.queue := by simp [State.train]
@[simp ↓] theorem envResetEnds_queue (n : Nat) (rates : List (BitVec 3)) : (envResetEnds n rates s).queue = s.queue := by simp [envResetEnds]
@[simp ↓] theorem State.writeNow_queue (n : Nat) : (s.writeNow n).queue = s.queue := by rfl
@[simp ↓] theorem programEnds_queue (job : Nat) (fail : Bool) : (programEnds job fail s).queue = s.queue := by
  unfold programEnds
  split <;> simp

@[simp ↓] theorem eraseEnds_queue (d : Nat) (fail : Bool) : (eraseEnds d fail s).queue = s.queue := by
  unfold eraseEnds
  split <;> simp

@[simp ↓] theorem State.staged_queue (g : Nat) : (s.staged g).2.queue = s.queue := by simp [State.staged]
@[simp ↓] theorem flashReadEnds_queue (l step : Nat) : (flashReadEnds l step s).queue = s.queue := by
  unfold flashReadEnds
  split <;> simp

@[simp ↓] theorem dieTimeout_queue (d : Nat) : (dieTimeout d s).queue = s.queue := by
  unfold dieTimeout
  split <;> simp

@[simp ↓] theorem calibrationRead_queue (d b : Nat) (l : List Byte) : (calibrationRead d b l s).queue = s.queue := by simp [calibrationRead]
@[simp ↓] theorem flushDue_queue : (flushDue s).queue = s.queue := by simp [flushDue]
@[simp ↓] theorem gcStart_queue (d : Nat) (bad : List Nat) : (gcStart d bad s).queue = s.queue := by simp [gcStart]
@[simp ↓] theorem gcCommit_queue (n : Nat) : (gcCommit n s).queue = s.queue := by simp [gcCommit]
@[simp ↓] theorem scrub_queue (d b cw step : Nat) : (scrub d b cw step s).queue = s.queue := by
  simp only [scrub]
  (repeat' split) <;> simp

@[simp ↓] theorem tempSample_queue : (tempSample s).queue = s.queue := by simp [tempSample]
@[simp ↓] theorem startDie_queue (rb : RebuildIn) (d : Nat) : (startDie rb s d).queue = s.queue := by simp [startDie]
@[simp ↓] theorem startBlock_queue (e : Nat × Blk) : (startBlock s e).queue = s.queue := by
  unfold startBlock
  split <;> simp

@[simp ↓] theorem State.rewriteCut_queue : s.rewriteCut.queue = s.queue := by simp [State.rewriteCut]
@[simp ↓] theorem startBad_queue (e : Nat × Die) : (startBad s e).queue = s.queue := by simp [startBad]
@[simp ↓] theorem rebuild_queue (rb : RebuildIn) : (rebuild rb s).queue = s.queue := by simp [rebuild]
@[simp ↓] theorem shardReplay_queue (index : W64) (shard : W16) : (shardReplay index shard s).queue = s.queue := by
  unfold shardReplay
  (repeat' split) <;> simp

/-! The register window: the block map, what every register reads, what a write does, unavailable blocks (22; the register tables of 02 to 21). -/

@[simp ↓] theorem State.bufParity_queue (b : WinBlock) (o : Nat) : (s.bufParity b o).2.queue = s.queue := by
  unfold State.bufParity
  split <;> simp

@[simp ↓] theorem State.readParity_queue (b : WinBlock) (o master : Nat) :
    (s.readParity b o master).2.queue = s.queue := by
  unfold State.readParity
  split
  · simp
  · split
    · rfl
    · split
      · rfl
      · simp [queue_of_eq ‹_› (s.parTrip_queue ..)]

@[simp ↓] theorem State.winBad_queue (cause : BitVec 4) (master addr : Nat) : (s.winBad cause master addr).queue = s.queue := by rfl
@[simp ↓] theorem flipMask_queue (g : Nat) (v : W32) (master : Nat) : (flipMask g v master s).queue = s.queue := by simp [flipMask]
@[simp ↓] theorem icWrite_queue (c r : Nat) (v : W32) : (icWrite c r v s).queue = s.queue := by
  unfold icWrite
  split <;> simp

@[simp ↓] theorem State.writeReg_queue (via : Via) (master : Nat) (b : WinBlock) (o : Nat) (v : W32) :
    (s.writeReg via master b o v).queue = s.queue := by
  unfold State.writeReg
  split <;> simp

@[simp ↓] theorem State.winWrite_queue (via : Via) (master : Nat) (b : WinBlock) (o addr : Nat) (v : W32) :
    (s.winWrite via master b o addr v).queue = s.queue := by
  simp [State.winWrite]

theorem State.regRefused_queue {s t : State} {core : Nat} {addr cdw11 : W32} {rsv : BitVec 31}
    (h : s.regRefused core addr cdw11 rsv = some t) : t.queue = s.queue := by
  unfold State.regRefused at h
  dsimp only at h
  split at h
  · cases h; rfl
  · split at h
    · cases h; simp
    · split at h
      · cases h; simp
      · cases h

@[simp ↓] theorem State.accessRead_queue (core a : Nat) : (s.accessRead core a).2.queue = s.queue := by
  unfold State.accessRead
  split
  · rfl
  · refine (ite_snd_queue ..).trans (ite_eq_iff'.2 ⟨fun _ => rfl, fun _ => ?_⟩)
    split
    · exact queue_of_eq ‹_› (s.readParity_queue ..)
    · rfl

@[simp ↓] theorem regAccessRead_queue (id : CmdId) (core : Nat) (addr cdw11 : W32) (rsv : BitVec 31) :
    (regAccessRead id core addr cdw11 rsv s).queue = s.queue := by
  unfold regAccessRead
  split
  · simp [State.regRefused_queue ‹_›]
  · simp

@[simp ↓] theorem regAccessWrite_queue (id : CmdId) (core : Nat) (addr cdw11 : W32) (rsv : BitVec 31) (data : List W32) :
    (regAccessWrite id core addr cdw11 rsv data s).queue = s.queue := by
  unfold regAccessWrite
  split
  · simp [State.regRefused_queue ‹_›]
  · refine (State.answer_queue ..).trans (foldl_queue (fun s x => ?_) _ _)
    split <;> simp

@[simp ↓] theorem coreWrite_queue (master addr : Nat) (v : W32) : (coreWrite master addr v s).queue = s.queue := by
  unfold coreWrite
  (repeat' split) <;> simp

/-! Admin commands as the management cores serve them, and those that wait for a halted core (03 R58 to R61; 15 R343 to R349, R354, R368; 19 R443, R449; 21 R495). -/

@[simp ↓] theorem applyDwords_queue (id : CmdId) (rsv : Bool) (mode : Nat) (cdw11 cdw12 : W32) :
    (applyDwords id rsv mode cdw11 cdw12 s).queue = s.queue := by
  simp [applyDwords]

@[simp ↓] theorem State.giveFwEvent_queue (ctrl : W16) : (s.giveFwEvent ctrl).queue = s.queue := by simp [State.giveFwEvent]
@[simp ↓] theorem propertySet_queue (id : CmdId) (ofs : W32) (v : W64) :
    (propertySet id ofs v s).queue = s.queue := by
  unfold propertySet
  split <;> simp

@[simp ↓] theorem adminOp_queue (i : Instr) : (adminOp i s).queue = s.queue := by
  unfold adminOp
  split <;> simp

@[simp ↓] theorem State.resumeCore_queue (k n : Nat) : (State.resumeCore k n s).queue = s.queue := by
  induction n generalizing s with
  | zero => rfl
  | succ n ih =>
    unfold State.resumeCore
    (repeat' split) <;> simp [ih]

@[simp ↓] theorem adminIn_queue (id : CmdId) (i : Instr) : (adminIn id i s).queue = s.queue := by
  unfold adminIn adminOn
  simp

/-! The words of a cluster's program and its handlers (06 R134 to R151; 07 R161 to R165, R177, R181). -/

@[simp ↓] theorem fetched_queue (c n : Nat) (w : W64) (f : State → State) (hf : ∀ s, (f s).queue = s.queue) :
    (fetched c n w f s).queue = s.queue := by
  unfold fetched
  split
  · have hp := s.parTrip_queue (0xA8 + c) (handlerByte (s.clusterAt c).ic.pc) (8 * n)
    split <;> simp [queue_of_eq ‹_› hp, hf]
  · simp [hf]

@[simp ↓] theorem issueSli_queue (c : Nat) (w : W64) : (issueSli c w s).queue = s.queue := by simp [issueSli]
@[simp ↓] theorem issueEnd_queue (c : Nat) (w : W64) : (issueEnd c w s).queue = s.queue := by simp [issueEnd]
@[simp ↓] theorem issueNext_queue (c : Nat) : (issueNext c s).queue = s.queue := by
  simp only [issueNext]
  (repeat' split) <;> simp

/-! The debug port, ROM recovery and the SMBus devices (19 R454; 21). -/

@[simp ↓] theorem State.modDbg_queue (f : Dbg → Dbg) : (s.modDbg f).queue = s.queue := by rfl
@[simp ↓] theorem haltSet_queue (v : W32) : (haltSet v s).queue = s.queue := by simp [haltSet]
@[simp ↓] theorem haltClr_queue (v : W32) : (haltClr v s).queue = s.queue := by simp [haltClr]
@[simp ↓] theorem stepCluster_queue (c : Nat) : (stepCluster c s).queue = s.queue := by simp [stepCluster]
@[simp ↓] theorem dbgStep_queue (v : W32) : (dbgStep v s).queue = s.queue := by simp [dbgStep]

@[simp ↓] theorem breakpointHit_queue (u : BpUnit) : (breakpointHit u s).queue = s.queue := by
  unfold breakpointHit
  (repeat' split) <;> simp

@[simp ↓] theorem relock_queue : (relock s).queue = s.queue := by simp [relock]
@[simp ↓] theorem State.dbgFault_queue (n : BitVec 4) : (s.dbgFault n).queue = s.queue := by rfl
@[simp ↓] theorem rcvCommit_queue : (rcvCommit s).queue = s.queue := by simp [rcvCommit]
@[simp ↓] theorem dbgWrite_queue (o : Nat) (v : W32) : (dbgWrite o v s).queue = s.queue := by
  unfold dbgWrite
  (repeat' split) <;> simp

@[simp ↓] theorem State.portWrite_queue (b : WinBlock) (o addr : Nat) (v : W32) :
    (s.portWrite b o addr v).queue = s.queue := by
  unfold State.portWrite
  split <;> simp

@[simp ↓] theorem State.debugRow_queue (addr : Nat) (v : W32) : (s.debugRow addr v).queue = s.queue := by
  unfold State.debugRow
  split <;> simp

@[simp ↓] theorem State.dbgAnswer_queue (ack : Ack) (data : Option W32) : (s.dbgAnswer ack data).queue = s.queue := by rfl
@[simp ↓] theorem State.dbgFail_queue (n : BitVec 4) : (s.dbgFail n).queue = s.queue := by rfl
@[simp ↓] theorem State.dbgAt_queue (f : DbgFrame) : (s.dbgAt f).queue = s.queue := by rfl
@[simp ↓] theorem frameRead_queue (f : DbgFrame) : (frameRead f s).queue = s.queue := by
  simp only [frameRead]
  (repeat' split) <;> simp

@[simp ↓] theorem frameWrite_queue (f : DbgFrame) : (frameWrite f s).queue = s.queue := by
  unfold frameWrite
  (repeat' split) <;> simp

@[simp ↓] theorem frameRun_queue (f : DbgFrame) (write wait : Bool) :
    (frameRun f write wait s).queue = s.queue := by
  simp [frameRun]

@[simp ↓] theorem frameIn_queue (hdr : Bool) (f : DbgFrame) (write wait : Bool) :
    (frameIn hdr f write wait s).queue = s.queue := by
  simp [frameIn]

@[simp ↓] theorem lineReset_queue (high low : Nat) : (lineReset high low s).queue = s.queue := by simp [lineReset]
@[simp ↓] theorem nvmeMiBasic_queue (code : Byte) : (nvmeMiBasic code s).queue = s.queue := by simp [nvmeMiBasic]
@[simp ↓] theorem fruRead_queue (ofs len : Nat) : (fruRead ofs len s).queue = s.queue := by rfl

/-! What the module does at a tick, in the order of 02 R34. -/

@[simp ↓] theorem State.countHours_queue (before : Nat) : (s.countHours before).queue = s.queue := by rfl
@[simp ↓] theorem slotEnds_queue (c k : Nat) : (slotEnds c k s).queue = s.queue := by
  simp only [slotEnds]
  (repeat' split) <;> simp

@[simp ↓] theorem guardStarts_queue (c k : Nat) : (guardStarts c k s).queue = s.queue := by
  unfold guardStarts
  split <;> simp

@[simp ↓] theorem State.endSlots_queue : s.endSlots.queue = s.queue := by
  unfold State.endSlots
  refine foldl_queue (fun s _ => ?_) _ _
  (repeat' split) <;> simp

@[simp ↓] theorem State.releaseRows_queue : s.releaseRows.queue = s.queue := by simp [State.releaseRows]
@[simp ↓] theorem State.pickRow_queue : s.pickRow.queue = s.queue := by
  unfold State.pickRow
  split <;> simp

@[simp ↓] theorem State.readTable_queue : s.readTable.queue = s.queue := by
  unfold State.readTable
  split
  · rfl
  · have hp := s.parTrip_queue 0xB0 parTable 64
    split <;> simp [queue_of_eq ‹_› hp]

@[simp ↓] theorem State.wakeForSlots_queue : s.wakeForSlots.queue = s.queue := by simp [State.wakeForSlots]
@[simp ↓] theorem State.noteRemote_queue : s.noteRemote.queue = s.queue := by simp [State.noteRemote]
@[simp ↓] theorem State.exchange_queue : s.exchange.queue = s.queue := by simp [State.exchange]
@[simp ↓] theorem State.shiftRecent_queue : s.shiftRecent.queue = s.queue := by rfl
@[simp ↓] theorem State.clusterTick_queue : s.clusterTick.queue = s.queue := by simp [State.clusterTick]
@[simp ↓] theorem State.chargeFrame_queue : s.chargeFrame.queue = s.queue := by simp [State.chargeFrame]
@[simp ↓] theorem State.tickUp_queue (stepped : Bool) : (s.tickUp stepped).queue = s.queue := by simp [State.tickUp]
@[simp ↓] theorem tick_queue (move trim : Int) : (tick move trim s).queue = s.queue := by
  unfold tick
  split <;> simp

/-! The rows of power, sensors, throttles, Hold and the frame timer. -/

@[simp ↓] theorem accessWrite_queue (addr : Nat) (v : W32) : (accessWrite addr v s).queue = s.queue := by
  unfold accessWrite
  (repeat' split) <;> simp

@[simp ↓] theorem slotBegins_queue (c k : Nat) : (slotBegins c k s).queue = s.queue := by
  simp only [slotBegins]
  (repeat' split) <;> simp

/-! The rows of Novzeow messages and the group's timeouts. -/

@[simp ↓] theorem serving_queue (f : State → State) (hf : ∀ s, (f s).queue = s.queue) : (serving f s).queue = s.queue := by simp [serving, hf]

/-! The rows of I/O commands and of the events of models, contexts, refits and search. -/

@[simp ↓] theorem nodeIn_queue (ctx : Nat) (marked : Bool) : (nodeIn ctx marked s).queue = s.queue := by simp [nodeIn]
@[simp ↓] theorem ioIn_queue (h : IoHdr) (nvm : Bool) (i : Instr) : (ioIn h nvm i s).queue = s.queue := by simp [ioIn]
@[simp ↓] theorem writeIn_queue (h : IoHdr) (slba : W64) (nlb : W16) (data : Bytes) : (writeIn h slba nlb data s).queue = s.queue := by
  unfold writeIn
  dsimp only
  split
  · rfl
  · split
    case h_1 b t hp =>
      simp [queue_of_eq hp (s.staged_queue _)]
    case h_2 b t hp =>
      simp [queue_of_eq hp (s.staged_queue _)]

/-! The rows of ports and queue pairs that end something. -/

@[simp ↓] theorem portFalls_queue (p : Nat) : (portFalls p s).queue = s.queue := by simp [portFalls]
@[simp ↓] theorem ackTimeout_queue (qp : Nat) : (ackTimeout qp s).queue = s.queue := by
  unfold ackTimeout
  (repeat' split) <;> simp

/-! The rows of the die service port, of flash and of media management. -/

@[simp ↓] theorem dspWrite_queue (n o : Nat) (v : W32) (t : Nat) :
    (dspWrite n o v t s).queue = s.queue := by simp [dspWrite]

@[simp ↓] theorem dspRead_queue (n cmd : Nat) (door : DspDoor) : (dspRead n cmd door s).queue = s.queue := by
  unfold dspRead
  split <;> simp

@[simp ↓] theorem dspProgram_queue (n cmd : Nat) (die row data : W32) (p : Pass) :
    (dspProgram n cmd die row data p s).queue = s.queue := by simp [dspProgram]

/-! The rows of the Reel and the Bridle. -/

@[simp ↓] theorem fetchIn_queue (addr : W64) (piece : Nat) (bad : List Nat) (steps : List (Nat × Fin 6)) (data : Bytes) (marks : List Nat) :
    (fetchIn addr piece bad steps data marks s).queue = s.queue := by
  unfold fetchIn
  dsimp only
  split
  · rfl
  · have hp := s.staged_queue 0x9A
    split <;> simp [queue_of_eq ‹_› hp]

@[simp ↓] theorem messageIn_queue (net : Nat) (b : Bytes) (t : Nat) : (messageIn net b t s).queue = s.queue := by simp [messageIn]

/-! The rows of passes, clusters and their interrupt controllers. -/

@[simp ↓] theorem passStarts_queue (c uid t : Nat) : (passStarts c uid t s).queue = s.queue := by
  unfold passStarts
  split <;> simp

@[simp ↓] theorem passLate_queue (c : Nat) : (passLate c s).queue = s.queue := by
  unfold passLate
  split <;> simp

@[simp ↓] theorem watchdogEnds_queue (c t : Nat) :
    (watchdogEnds c t s).queue = s.queue := by simp [watchdogEnds]

@[simp ↓] theorem tilePath_queue (tile : Nat) : (tilePath tile s).queue = s.queue := by
  unfold tilePath
  split
  · rfl
  · have hp := tileFault_queue s tile
    split <;> simp [queue_of_eq ‹_› hp]

@[simp ↓] theorem weightMark_queue (tile : Nat) : (weightMark tile s).queue = s.queue := by
  unfold weightMark
  split <;> simp

@[simp ↓] theorem reelWrite_queue (c : Nat) (f : Fill) : (reelWrite c f s).queue = s.queue := by
  unfold reelWrite
  split
  · rfl
  · have hp := s.staged_queue 0x9A
    split <;> simp [queue_of_eq ‹_› hp]

@[simp ↓] theorem handlerIn_queue (c : Nat) : (handlerIn c s).queue = s.queue := by
  unfold handlerIn
  split
  · rfl
  · have hp := s.parTrip_queue (0xA8 + c) 0 4
    split <;> simp [queue_of_eq ‹_› hp]

end

end Sys2Proof.Machine
end

section
/-! SUPPORT. Every command leaves the queue and stops only where it is not well formed, and the statement on runs. -/

namespace Sys2Proof.Machine

/-- What a command answers that is well formed if `w` holds and comes before the queue `q`: a state with that queue, or the fault of an ill-formed term. -/
def AnswersBefore (q : List Instr) (w : Bool) (o : Host.Outcome State Fault Refusal) : Prop :=
  if w then ∃ t, o = .next t ∧ t.queue = q else o = .fault .illFormed

section
variable {q : List Instr} {t : State}

theorem answersBefore_next (ht : t.queue = q) : AnswersBefore q true (.next t) := ⟨t, rfl, ht⟩

theorem answersBefore_ite {w : Bool} {c : Prop} [Decidable c] (hw : w = true ↔ c) (ht : t.queue = q) :
    AnswersBefore q w (if c then .next t else .fault .illFormed) := by
  by_cases hc : c
  · rw [if_pos hc, hw.2 hc]
    exact answersBefore_next ht
  · rw [if_neg hc, Bool.eq_false_iff.2 (mt hw.1 hc)]
    exact rfl

end

section
variable (s : State)

theorem spdmRow_answersBefore {w : Bool} (code vendor : Nat) (req : Bytes)
    (hw : w = true ↔ spdmCode req = code ∧ (vendor = 0 ∨ vendorCode req = vendor)) :
    AnswersBefore s.queue w (spdmRow code vendor req s) :=
  answersBefore_ite hw (by simp)

/-- Each row answers `.next` of a function of the model or, where it checks its operands, of one behind the check that `wellFormed` makes. -/
theorem exec_answersBefore (i : Instr) : AnswersBefore s.queue i.wellFormed (exec i s) := by
  cases i
  -- rows that check their operands
  case registerAccessWrite | registerWrite | rd | wr | sensorSample | faultReport | modelLoadBegin | modelLoadData |
      modelLoadCommit | modelLoadAddScale | modelLoadAbandon | filterCreate | filterAddIds | filterRemoveIds | filterFillAll |
      filterCombine | filterDestroy | calibrationRead | passSubmit =>
    exact answersBefore_ite (by simp [Instr.wellFormed]) (by simp)
  -- words of a cluster's handler, which check their opcode
  case vnop | vsetvl | vld | vst | vgather | vperm | vbcast | vcvt | vadd | vmul | vfma | vcmp | vsel | vmin | vmax | vmlog |
      vred | mrun | sli | mwait | sadd | sld | br | spawn | signal =>
    exact answersBefore_ite decide_eq_true_iff (by simp)
  -- rows of SPDM, which check the code of their message
  case getVersion | getCapabilities | negotiateAlgorithms | getDigests | getCertificate | challenge | getMeasurements |
      chunkGet | getPqCert | getPqSignature | getNonce | ownerSet | ownerRevoke =>
    exact spdmRow_answersBefore s _ _ _ (by simp [Instr.wellFormed])
  -- every other row answers one state
  all_goals exact answersBefore_next (by simp)

end

theorem exec_next_of_wellFormed {c : Instr} (s : State) (h : c.wellFormed = true) :
    ∃ t, exec c s = .next t ∧ t.pending = s.pending := by
  simpa only [AnswersBefore, h, if_true, State.queue] using exec_answersBefore s c

theorem exec_illFormed {c : Instr} (s : State) (h : c.wellFormed = false) : exec c s = .fault .illFormed := by
  simpa only [AnswersBefore, h, Bool.false_eq_true, if_false] using exec_answersBefore s c

theorem exec_leaves_pending {c : Instr} {s t : State} (e : exec c s = .next t) : t.pending = s.pending := by
  cases h : c.wellFormed with
  | true =>
    obtain ⟨u, hu, hq⟩ := exec_next_of_wellFormed s h
    obtain rfl := Host.Outcome.next.inj (e.symm.trans hu)
    exact hq
  | false => exact nomatch e.symm.trans (exec_illFormed s h)

theorem step_of_pending_nil {s : State} (h : s.pending = []) : step s = .next s := by
  simp only [step, h]

theorem step_of_pending_cons {s : State} {c : Instr} {rest : List Instr} (h : s.pending = c :: rest) :
    step s = exec c { s with pending := rest } := by
  simp only [step, h]

/-- A step of a queue of well-formed commands answers a state whose queue is one again. -/
theorem step_next_of_wellFormed {s : State} (h : ∀ c ∈ s.pending, c.wellFormed = true) :
    ∃ t, step s = .next t ∧ ∀ c ∈ t.pending, c.wellFormed = true := by
  cases hp : s.pending with
  | nil => exact ⟨s, step_of_pending_nil hp, h⟩
  | cons c rest =>
    rw [hp] at h
    obtain ⟨hc, hrest⟩ := List.forall_mem_cons.1 h
    obtain ⟨t, ht, hq⟩ := exec_next_of_wellFormed { s with pending := rest } hc
    exact ⟨t, (step_of_pending_cons hp).trans ht, hq ▸ hrest⟩

theorem runs_of_wellFormed (n : Nat) {s : State} (h : ∀ c ∈ s.pending, c.wellFormed = true) : Runs n s := by
  induction n generalizing s with
  | zero => trivial
  | succ n ih =>
    obtain ⟨t, ht, hq⟩ := step_next_of_wellFormed h
    exact ⟨t, ht, ih hq⟩

/-- Settles O55: no command touches the queue behind it, so a queue of well-formed commands stays one, by induction on the number of steps. -/
theorem queueRunsToItsEnd : Obligations.QueueRunsToItsEnd := by
  unfold Obligations.QueueRunsToItsEnd
  exact ⟨fun c s t e => exec_leaves_pending e, fun n s h => runs_of_wellFormed n h⟩

end Sys2Proof.Machine
end

section
/-! SUPPORT. An I/O command arrives (15 R343, R352), and the statement on it. -/

namespace Sys2Proof.Machine

section
variable {s : State} {h : IoHdr} {nvm : Bool} {i : Instr}

/-- With no mask armed the staging buffers deliver what they hold (18 R422). -/
theorem State.staged_of_masks_nil (g : Nat) (hm : s.parity.masks = []) : s.staged g = (false, s) := by
  simp [State.staged, hm]

theorem ioIn_of_not_arrives (hs : s.queueUp h.id = false ∨ s.isOpen h.id = true) : ioIn h nvm i s = s := by
  rcases hs with hs | hs <;> simp [ioIn, hs]

theorem ioIn_of_arrives (hq : s.queueUp h.id = true) (ho : s.isOpen h.id = false) : ioIn h nvm i s = (s.entered i h nvm).settle := by
  simp [ioIn, State.entered, hq, ho]

theorem writeIn_of_not_arrives {a : W64} {n : W16} {d : Bytes} (hs : s.queueUp h.id = false ∨ s.isOpen h.id = true) :
    writeIn h a n d s = s := by
  rcases hs with hs | hs <;> simp [writeIn, hs]

/-- Where no mask is armed, a Write arrives as any other I/O command. -/
theorem writeIn_of_masks_nil {a : W64} {n : W16} {d : Bytes} (hq : s.queueUp h.id = true) (ho : s.isOpen h.id = false)
    (hm : s.parity.masks = []) : writeIn h a n d s = ioIn h true (.write h a n d) s := by
  simp [writeIn, hq, ho, State.staged_of_masks_nil _ hm]

/-- A Write whose data its port's buffers spoil completes at once (18 R438). -/
theorem writeIn_of_spoilt {a : W64} {n : W16} {d : Bytes} {c : HostCtrl} {t : State} (hq : s.queueUp h.id = true)
    (ho : s.isOpen h.id = false) (hc : s.ctrlFor h.id.ctrl = some c) (hp : s.staged (0xC8 + c.port) = (true, t)) :
    writeIn h a n d s = ((t.enter h.id (bit h.cdw3 0)).biteCmd 3 h.id).complete h.id stPoisoned := by
  simp [writeIn, hq, ho, hc, hp]

/-- The row of an I/O command but Write is `ioIn`, behind the check of its operation where its parameter block has one. -/
theorem exec_of_ioOf (hi : ioOf i = some (h, nvm)) (hw : i.wellFormed = true)
    (hwrite : ∀ a n d, i = .write h a n d → writeIn h a n d s = ioIn h true i s) : exec i s = .next (ioIn h nvm i s) := by
  cases i
  case write a n d =>
    cases hi
    exact congrArg _ (hwrite a n d rfl)
  -- rows that check the operation in their parameter block
  case modelLoadBegin | modelLoadData | modelLoadCommit | modelLoadAddScale | modelLoadAbandon | filterCreate | filterAddIds |
      filterRemoveIds | filterFillAll | filterCombine | filterDestroy =>
    cases hi
    exact if_pos hw
  case flush | read | writeZeroes | datasetManagement | modelUnload | listModels | openContext | closeContext | getContext |
      tokenBatch | refitExpert | embeddingJob | createIndex | destroyIndex | insert | delete | query =>
    cases hi
    rfl
  -- every other row is no I/O command
  all_goals exact nomatch hi

theorem exec_io_of_not_arrives (hi : ioOf i = some (h, nvm)) (hw : i.wellFormed = true)
    (hs : s.queueUp h.id = false ∨ s.isOpen h.id = true) : exec i s = .next s := by
  rw [exec_of_ioOf hi hw fun _ _ _ _ => (writeIn_of_not_arrives hs).trans (ioIn_of_not_arrives hs).symm, ioIn_of_not_arrives hs]

theorem exec_io_of_arrives (hi : ioOf i = some (h, nvm)) (hw : i.wellFormed = true) (hq : s.queueUp h.id = true)
    (ho : s.isOpen h.id = false) (hm : s.parity.masks = []) : exec i s = .next (s.entered i h nvm).settle := by
  rw [exec_of_ioOf hi hw, ioIn_of_arrives hq ho]
  rintro a n d rfl
  exact writeIn_of_masks_nil hq ho hm

end

/-! Entering a command leaves what may hold it back. -/

section
variable (s : State) (i : Instr) (h : IoHdr) (nvm : Bool)

theorem State.entered_sparReset : (s.entered i h nvm).sparReset = s.sparReset := by rfl

theorem State.entered_ioBlocked : (s.entered i h nvm).ioBlocked = s.ioBlocked := by rfl

end

/-! What settling does: where nothing else ends, it starts the commands that wait. -/

section
variable {s : State}

theorem settle_of_sparReset (hs : s.sparReset = true) : s.settle = s.kick := by
  simp [State.settle, hs]

theorem settle_of_endings_eq (hs : s.sparReset = false) (he : s.endings = s) : s.settle = (s.runIo.settleHost []).kick := by
  calc s.settle = (s.endings.runIo.settleHost []).kick := by simp [State.settle, State.endings, hs]
    _ = (s.runIo.settleHost []).kick := by rw [he]

theorem sparReset_of_not_ioBlocked (hb : s.ioBlocked = false) : s.sparReset = false := by
  simp only [State.ioBlocked, Bool.or_eq_false_iff] at hb
  obtain ⟨⟨hs, _⟩, _⟩ := hb
  exact hs

theorem startNext_of_ioBlocked (hb : s.ioBlocked = true) : s.startNext = s := by
  simp [State.startNext, hb]

theorem startAll_of_ioBlocked (hb : s.ioBlocked = true) (n : Nat) : s.startAll n = s := by
  induction n with
  | zero => rfl
  | succ n ih => rw [State.startAll, startNext_of_ioBlocked hb, ih]

theorem runIo_of_ioBlocked (hb : s.ioBlocked = true) : s.runIo = s := startAll_of_ioBlocked hb _

/-- A command that waits alone on an I/O queue may start, ordered or not (15 R352). -/
theorem nextIo_singleton {o : OpenCmd} (hh : o.held.isSome = true) (hq : o.id.sq ≠ 0#16) : nextIo [] [o] = some o := by
  simp [nextIo, hh, hq]

theorem State.sq_ne_zero_of_queueUp {id : CmdId} (hq : s.queueUp id = true) : id.sq ≠ 0#16 := by
  simp only [State.queueUp, Bool.and_eq_true, decide_eq_true_eq] at hq
  exact hq.left

/-- The only open command starts. -/
theorem runIo_entered {i : Instr} {h : IoHdr} {nvm : Bool} (ho : s.host.open_ = []) (hq : s.queueUp h.id = true)
    (hb : s.ioBlocked = false) : (s.entered i h nvm).runIo = startIo i (s.taken h nvm) := by
  have hstart : (s.entered i h nvm).startNext = startIo i (s.taken h nvm) := by
    rw [State.startNext, State.entered_ioBlocked, hb]
    simp [State.entered, State.taken, State.enter, ho, nextIo_singleton, State.sq_ne_zero_of_queueUp hq]
  have hlen : ((s.entered i h nvm).host.open_.filter fun o => o.held.isSome).length = 1 := by
    simp [State.entered, State.enter, ho]
  rw [State.runIo, hlen, State.startAll, State.startAll, hstart]

theorem isOpen_of_open_nil {id : CmdId} (ho : s.host.open_ = []) : s.isOpen id = false := by
  simp [State.isOpen, ho]

end

/-- Settles O21: what arrives is entered and the module settles; a hold leaves it waiting, and a command that waits alone starts. -/
theorem ioCommandsArrive : Obligations.IoCommandsArrive := by
  unfold Obligations.IoCommandsArrive
  refine ⟨fun i h nvm s hi hw hq ho hm => exec_io_of_arrives hi hw hq ho hm, fun i h nvm s hi hw ho hq hb hm he => ?_,
    fun i h nvm s hi hw hq ho hm hs => ?_, fun i h nvm s hi hw hq ho hm hs hhold he => ?_,
    fun h a n d s t c hq ho hc hp => congrArg _ (writeIn_of_spoilt hq ho hc hp),
    fun i h nvm s hi hw hs => exec_io_of_not_arrives hi hw hs⟩
  · have hs : s.sparReset = false := sparReset_of_not_ioBlocked hb
    rw [exec_io_of_arrives hi hw hq (isOpen_of_open_nil ho) hm, settle_of_endings_eq ((s.entered_sparReset ..).trans hs) he,
      runIo_entered ho hq hb]
  · rw [exec_io_of_arrives hi hw hq ho hm, settle_of_sparReset ((s.entered_sparReset ..).trans hs)]
  · have hb : s.ioBlocked = true := by
      rcases hhold with hhold | hhold <;> simp [State.ioBlocked, hhold]
    rw [exec_io_of_arrives hi hw hq ho hm, settle_of_endings_eq ((s.entered_sparReset ..).trans hs) he,
      runIo_of_ioBlocked ((s.entered_ioBlocked ..).trans hb)]

end Sys2Proof.Machine
end

section
/-! SUPPORT. Reading a cluster back after an update of it and after time goes on. -/

namespace Sys2Proof.Machine

variable {s : State} {c t : Nat}

/-- Two updates that agree on the cluster that is there are one update. -/
theorem State.modCluster_congr {f g : Cluster → Cluster} (h : f (s.clusterAt c) = g (s.clusterAt c)) :
    s.modCluster c f = s.modCluster c g := by
  unfold State.modCluster
  congr 1
  refine List.ext_getElem? fun j => ?_
  rw [getElem?_modifyAt, getElem?_modifyAt]
  split_ifs with hj
  · subst hj
    cases hk : s.clusters[c]? with
    | none => rfl
    | some k =>
      rw [show s.clusterAt c = k from getD_eq_of_some _ _ _ _ hk] at h
      exact congrArg some h
  · rfl

theorem State.clusterAt_modCluster {f : Cluster → Cluster} (hc : c < s.clusters.length) :
    (s.modCluster c f).clusterAt c = f (s.clusterAt c) := by
  have hk : s.clusters[c]? = some s.clusters[c] := List.getElem?_eq_getElem hc
  have hf : (modifyAt f s.clusters c)[c]? = some (f s.clusters[c]) := by
    rw [getElem?_modifyAt, if_pos rfl, hk, Option.map_some]
  rw [show s.clusterAt c = s.clusters[c] from getD_eq_of_some _ _ _ _ hk]
  exact getD_eq_of_some _ _ _ _ hf

/-- Time that goes on touches a cluster only through the counters of the pass that runs there (07 R170). -/
theorem State.clusterAt_advance (s : State) (c t : Nat) :
    (s.advance t).clusterAt c = s.clusterAt c ∨
      (s.clusterAt c).seq.run.isSome = true ∧ (s.advance t).clusterAt c = (s.clusterAt c).runFor (t - s.frame.time) := by
  simp only [State.clusterAt, State.advance, List.getD_eq_getElem?_getD]
  split_ifs with hdt
  · exact .inl rfl
  · rw [List.getElem?_map]
    cases s.clusters[c]? with
    | none => exact .inl rfl
    | some k =>
      simp only [Option.map_some, Option.getD_some]
      split_ifs with hk
      · exact .inr ⟨(Bool.and_eq_true_iff.mp hk).left, rfl⟩
      · exact .inl rfl

theorem State.clusterAt_advance_of_idle (hr : (s.clusterAt c).seq.run = none) : (s.advance t).clusterAt c = s.clusterAt c := by
  rcases s.clusterAt_advance c t with h | ⟨hsome, _⟩
  · exact h
  · simp [hr] at hsome

@[simp] theorem State.clusterAt_advance_run : ((s.advance t).clusterAt c).seq.run = (s.clusterAt c).seq.run := by
  rcases s.clusterAt_advance c t with h | ⟨_, h⟩ <;> rw [h]
  rfl

end Sys2Proof.Machine
end

section
/-! SUPPORT. Slots open and close, bands and windows begin (02 R42 to R44), and the statement on them. -/

namespace Sys2Proof.Machine

/-! The rows do their operations, whatever the state. -/

section
variable (s : State) (c : Fin 8) (k : Fin 16)

theorem exec_slotOpen : exec (.slotOpen c k) s = .next (slotBegins c.val k.val s) := rfl
theorem exec_slotClose : exec (.slotClose c k) s = .next (slotEnds c.val k.val s) := rfl
theorem exec_guardBand : exec (.guardBand c k) s = .next (guardStarts c.val k.val s) := rfl
theorem exec_closingWindow : exec (.closingWindow c k) s = .next (closingBegin c.val k.val s) := rfl

end

/-- Only a switch slot brings a target (11 R262). -/
theorem switchOpen_of_not_switch {s : State} {c : Nat} {o : OpenSlot} (ho : (s.clusterAt c).slot = some o) (hk : o.kind ≠ 1) :
    s.switchOpen c = s := by
  simp only [State.switchOpen, ho, if_neg hk]

/-! A slot of the running row, on a cluster that is awake and out of reset. -/

section
variable {s : State} {c k : Nat} {r : Row} {l : Slot}

/-- The slot opens for whoever owes less than it, later by the debt; only the owner of a work slot settles one (R44). -/
theorem openSlot_of_owed_lt {owed : Nat} (hrow : s.rowNow = some r) (hslot : r.slotOn c k = some l) (hrows : s.rowsRun = true)
    (hawake : (s.clusterAt c).asleep = false) (hreset : (s.clusterAt c).inReset = false) (hrun : (s.clusterAt c).seq.run = none)
    (howed : owed = if l.kind = 0 then (s.clusterAt c).owedBy l.ownerKey else 0) (hlt : owed < l.len * 1000) :
    openSlot c k s =
      (s.advance (s.frame.tickTime + l.start * 1000 + owed)).modCluster c fun q =>
        { (if l.kind = 0 then q.setOwed l.ownerKey 0 else q) with
          slot := some { idx := k, owner := l.ownerKey, kind := l.kind, openedAt := s.frame.tickTime + l.start * 1000 + owed,
                         closeAt := s.frame.tickTime + l.start * 1000 + l.len * 1000 } } := by
  have hshut : (!s.rowsRun || (s.clusterAt c).asleep || (s.clusterAt c).inReset) = false := by simp [hrows, hawake, hreset]
  simp only [openSlot, hrow, hslot, hshut, Bool.false_eq_true, if_false, ← howed, if_neg (Nat.not_le.mpr hlt), hrun]

/-- An owner that owes the whole work slot leaves it idle, and the debt shrinks by its length (R44). -/
theorem openSlot_of_len_le_owed (hrow : s.rowNow = some r) (hslot : r.slotOn c k = some l) (hrows : s.rowsRun = true)
    (hawake : (s.clusterAt c).asleep = false) (hreset : (s.clusterAt c).inReset = false) (hkind : l.kind = 0)
    (hle : l.len * 1000 ≤ (s.clusterAt c).owedBy l.ownerKey) :
    openSlot c k s = s.modCluster c fun q => q.setOwed l.ownerKey ((s.clusterAt c).owedBy l.ownerKey - l.len * 1000) := by
  have hshut : (!s.rowsRun || (s.clusterAt c).asleep || (s.clusterAt c).inReset) = false := by simp [hrows, hawake, hreset]
  simp only [openSlot, hrow, hslot, hshut, Bool.false_eq_true, if_false, if_pos hkind, if_pos hle]

/-- SLOT_OPEN of the slot that has just opened goes on to its switch. -/
theorem slotBegins_of_opened {o : OpenSlot} (ho : ((openSlot c k s).clusterAt c).slot = some o) (hi : o.idx = k) :
    slotBegins c k s = (openSlot c k s).switchOpen c := by
  simp [slotBegins, ho, hi]

theorem slotBegins_of_no_slot (ho : ((openSlot c k s).clusterAt c).slot = none) : slotBegins c k s = openSlot c k s := by
  simp [slotBegins, ho]

end

/-- An update that keeps an empty slot empty keeps it so whether or not the module has the cluster. -/
theorem State.slot_modCluster_of_none {s : State} {c : Nat} {f : Cluster → Cluster} (hs : (s.clusterAt c).slot = none)
    (hf : ∀ q, (f q).slot = q.slot) : ((s.modCluster c f).clusterAt c).slot = none := by
  by_cases hc : c < s.clusters.length
  · rw [State.clusterAt_modCluster hc, hf, hs]
  · have hid : s.modCluster c f = s := congrArg (fun l => { s with clusters := l }) (modifyAt_beyond f _ _ (Nat.le_of_not_lt hc))
    rw [hid, hs]

/-! The open slot closes. -/

section
variable {s : State} {c k : Nat} {o : OpenSlot}

theorem closeSlot_of_open (ho : (s.clusterAt c).slot = some o) (hi : o.idx = k) :
    closeSlot c k s = (s.advance o.closeAt).modCluster c fun q =>
      { q with slot := none, seq := { q.seq with run := q.seq.run.map fun r => r.slotCloses o } } := by
  simp only [closeSlot, ho, if_pos hi]

/-- On a cluster without a pass, nothing begins to overrun. -/
theorem closeSlot_of_idle (ho : (s.clusterAt c).slot = some o) (hi : o.idx = k) (hr : (s.clusterAt c).seq.run = none) :
    closeSlot c k s = (s.advance o.closeAt).modCluster c fun q => { q with slot := none } := by
  rw [closeSlot_of_open ho hi]
  apply State.modCluster_congr
  rw [State.clusterAt_advance_of_idle hr, hr, Option.map_none, ← hr]

/-- The run that a closing slot finds keeps its owner. -/
@[simp] theorem Running.slotCloses_owner (r : Running) (o : OpenSlot) : (r.slotCloses o).owner = r.owner := by
  unfold Running.slotCloses
  split
  · rfl
  · split <;> rfl

theorem slotEnds_of_idle (ho : (s.clusterAt c).slot = some o) (hi : o.idx = k) (hr : ((closeSlot c k s).clusterAt c).seq.run = none) :
    slotEnds c k s = closeSlot c k s := by
  simp [slotEnds, ho, hi, hr]

/-- A pass of the slot's owner that still runs gets SLOT_CLOSE (R44; 07 R180). -/
theorem slotEnds_of_owner_runs {r : Running} (ho : (s.clusterAt c).slot = some o) (hi : o.idx = k)
    (hr : ((closeSlot c k s).clusterAt c).seq.run = some r) (hown : r.owner = o.owner) :
    slotEnds c k s = (closeSlot c k s).raise c 6 := by
  simp [slotEnds, ho, hi, hr, hown]

/-- A cluster with an open slot is one of the module's: the cluster read beyond them has none. -/
theorem State.lt_clusters_length_of_slot (ho : (s.clusterAt c).slot = some o) : c < s.clusters.length := by
  by_contra hc
  have hempty : s.clusterAt c = {} := by simp [State.clusterAt, List.getD_eq_getElem?_getD, Nat.le_of_not_lt hc]
  rw [hempty] at ho
  exact nomatch ho

/-- The run that the close leaves is the one it finds, as `slotCloses` changes it. -/
theorem closeSlot_run (ho : (s.clusterAt c).slot = some o) (hi : o.idx = k) :
    ((closeSlot c k s).clusterAt c).seq.run = (s.clusterAt c).seq.run.map fun r => r.slotCloses o := by
  have hc : c < (s.advance o.closeAt).clusters.length := by simpa using State.lt_clusters_length_of_slot ho
  rw [closeSlot_of_open ho hi, State.clusterAt_modCluster hc, State.clusterAt_advance_run]

end

/-! A band or window begins. -/

section
variable {s : State} {c k t : Nat} {l : Slot}

theorem guardBegin_of_classA (hb : s.bandSlot c k 250 = some (l, t)) (hrows : s.rowsRun = true) (hcls : l.cls = 0) :
    guardBegin c k s = (s.advance (t - 250000)).modCluster c fun q => { q with guard := some (t, l.ownerKey) } := by
  simp [guardBegin, hb, hrows, hcls]

theorem guardStarts_of_classA (hb : s.bandSlot c k 250 = some (l, t)) (hrows : s.rowsRun = true) (hcls : l.cls = 0) :
    guardStarts c k s = (guardBegin c k s).raise c 7 := by
  simp [guardStarts, hb, hrows, hcls]

theorem closingBegin_of_classD (hb : s.bandSlot c k 200 = some (l, t)) (hrows : s.rowsRun = true) (hcls : l.cls = 3) :
    closingBegin c k s = (s.advance (t - 200000)).modCluster c fun q => { q with closing := some t } := by
  simp [closingBegin, hb, hrows, hcls]

end

/-- Settles O9: each clause is one case of the slot operations, read off with the debt and the run that it names. -/
theorem slotsAndBands : Obligations.SlotsAndBands := by
  unfold Obligations.SlotsAndBands
  refine ⟨?workOpens, ?otherOpens, ?staysIdle, ?closes, ?overruns, ?guard, ?closing,
    fun c k s => exec_slotOpen s c k, fun c k s => exec_slotClose s c k, fun c k s => exec_guardBand s c k,
    fun c k s => exec_closingWindow s c k⟩
  case workOpens =>
    intro s c k r l hrow hslot hrows hawake hreset hrun hkind hlt hc
    have hopen := openSlot_of_owed_lt hrow hslot hrows hawake hreset hrun (if_pos hkind).symm hlt
    simp only [if_pos hkind] at hopen
    have hthere := congrArg (fun u => (u.clusterAt c.val).slot) hopen
    rw [State.clusterAt_modCluster (by simpa using hc)] at hthere
    rw [exec_slotOpen, slotBegins_of_opened hthere rfl, switchOpen_of_not_switch hthere (by simp [hkind]), hopen]
  case otherOpens =>
    intro s c k r l hrow hslot hrows hawake hreset hrun hkind hlen hc
    have hopen := openSlot_of_owed_lt hrow hslot hrows hawake hreset hrun (if_neg hkind).symm (by omega)
    simp only [if_neg hkind, Nat.add_zero] at hopen
    have hthere := congrArg (fun u => (u.clusterAt c.val).slot) hopen
    rw [State.clusterAt_modCluster (by simpa using hc)] at hthere
    rw [exec_slotOpen, slotBegins_of_opened hthere rfl, hopen]
  case staysIdle =>
    intro s c k r l hrow hslot hrows hawake hreset hnone hkind hle
    have hidle := openSlot_of_len_le_owed hrow hslot hrows hawake hreset hkind hle
    have hstill : ((openSlot c.val k.val s).clusterAt c.val).slot = none :=
      hidle ▸ State.slot_modCluster_of_none hnone fun _ => rfl
    rw [exec_slotOpen, slotBegins_of_no_slot hstill, hidle]
  case closes =>
    intro s c k o ho hi hrun
    rw [exec_slotClose, slotEnds_of_idle ho hi (by rw [closeSlot_run ho hi, hrun, Option.map_none]), closeSlot_of_idle ho hi hrun]
  case overruns =>
    intro s c k o r ho hi hrun hown _
    have hleft : ((closeSlot c.val k.val s).clusterAt c.val).seq.run = some (r.slotCloses o) := by
      rw [closeSlot_run ho hi, hrun, Option.map_some]
    rw [exec_slotClose, slotEnds_of_owner_runs ho hi hleft ((r.slotCloses_owner o).trans hown), closeSlot_of_open ho hi]
  case guard =>
    intro s c k l t hb hrows hcls
    rw [exec_guardBand, guardStarts_of_classA hb hrows hcls, guardBegin_of_classA hb hrows hcls]
  case closing =>
    intro s c k l t hb hrows hcls
    rw [exec_closingWindow, closingBegin_of_classD hb hrows hcls]

end Sys2Proof.Machine
end

section
/-! SUPPORT. A tick (02 R34), and the statement on it. -/

namespace Sys2Proof.Machine

variable {s : State} {m tr : Int}

theorem exec_tick (move : TickIn) (s : State) : exec (.tick move) s = .next (tick move.move move.trim s) := rfl

/-- Counting an expected event is the timer's own. -/
@[simp] theorem State.countExpected_phase (s : State) : s.countExpected.phase = s.phase := by
  unfold State.countExpected
  split <;> rfl

@[simp] theorem State.ticked_phase (s : State) (m tr : Int) : (s.ticked m tr).phase = s.phase :=
  State.countExpected_phase _

/-- Without power the timer stands. -/
theorem tick_of_not_powered (hp : s.powered = false) : tick m tr s = s := by
  simp [tick, hp]

/-- With power the timer's step is taken first, and the rest of the module follows where firmware has brought it up. -/
theorem tick_of_powered (hp : s.powered = true) :
    tick m tr s = if s.phase = .up then (s.ticked m tr).tickUp s.frame.stepping else s.ticked m tr := by
  calc tick m tr s = if (s.ticked m tr).phase = .up then (s.ticked m tr).tickUp s.frame.stepping else s.ticked m tr := by
        simp only [tick, hp, Bool.not_true, Bool.false_eq_true, if_false]; rfl
    _ = _ := by rw [State.ticked_phase]

/-- Settles O8: the timer's step alone before firmware runs, then the steps of R34 in the order of `tickUp`. -/
theorem tickOrder : Obligations.TickOrder := by
  unfold Obligations.TickOrder
  refine ⟨fun s m tr hp hup => ?_, fun s m tr hp hup => ?_, fun s m tr hp => ?_, exec_tick⟩
  · rw [exec_tick, tick_of_powered hp, if_neg hup]
  · rw [exec_tick, tick_of_powered hp, if_pos hup, State.tickUp]
    simp only [State.driveSyncOut]
  · rw [exec_tick, tick_of_not_powered hp]

end Sys2Proof.Machine
end

section
/-! SUPPORT. Reference events (02 R46 to R49), and the statement on them. -/

namespace Sys2Proof.Machine

theorem exec_syncInEdge (s : State) (t : Nat) : exec (.syncInEdge t) s = .next (if s.powered then syncEdge t s else s) := rfl
theorem exec_syncAcquireTimeout (s : State) : exec .syncAcquireTimeout s = .next (acquireTimeout s) := rfl
theorem exec_syncLost (s : State) : exec .syncLost s = .next (syncLost s) := rfl

/-! Time that goes on leaves what the timer locks by. -/

section
variable (s : State) (t : Nat)

@[simp] theorem State.advance_syncState : (s.advance t).frame.syncState = s.frame.syncState := rfl
@[simp] theorem State.advance_lastEvent : (s.advance t).frame.lastEvent = s.frame.lastEvent := rfl
@[simp] theorem State.advance_goodEvents : (s.advance t).frame.goodEvents = s.frame.goodEvents := rfl
@[simp] theorem State.advance_periodNs : (s.advance t).periodNs = s.periodNs := rfl
@[simp] theorem State.advance_expected (div u : Nat) : (s.advance t).expected div u = s.expected div u := rfl

end

/-- How far an event at `t` falls from the expected one nearest to it (R47). -/
abbrev State.errorAt (s : State) (div t : Nat) : Int := (t : Int) - (s.expected div t : Int)

section
variable {s : State} {t : Nat} {i : Image}

theorem exec_syncInEdge_of_source (hp : s.powered = true) (hi : s.loft.image = some i) (hsrc : i.src = 1) :
    exec (.syncInEdge t) s = .next (refEvent i.inDiv t s) := by
  simp [exec_syncInEdge, syncEdge, hp, hi, hsrc]

theorem exec_syncInEdge_of_other_source (hp : s.powered = true) (hi : s.loft.image = some i) (hsrc : i.src ≠ 1) :
    exec (.syncInEdge t) s = .next (s.advance t) := by
  simp [exec_syncInEdge, syncEdge, hp, hi, hsrc]

end

/-! One equation for each state of the timer that a reference event finds. -/

section
variable {s : State} {div t l : Nat}

/-- R48: the first event is taken as a tick. -/
theorem refEvent_acquiring_first (hs : s.frame.syncState = 1) (hl : s.frame.lastEvent = none) :
    refEvent div t s =
      ({ s.advance t with frame := { (s.advance t).frame with nextTick := t, lastEvent := some t, phaseErr := 0, stepping := true } } : State).setFrmEvt 0 := by
  simp only [refEvent, State.advance_syncState, hs, if_true, State.advance_lastEvent, hl]

/-- R48: a later one confirms lock where it falls within 1 µs of its expected time. -/
theorem refEvent_acquiring_next (hs : s.frame.syncState = 1) (hl : s.frame.lastEvent = some l) :
    refEvent div t s =
      if (s.errorAt div t).natAbs ≤ 1000 then
        { (s.advance t).acceptEvent (s.expected div t) (s.errorAt div t) 2 with
          frame := { ((s.advance t).acceptEvent (s.expected div t) (s.errorAt div t) 2).frame with startRows := true, lastEvent := none } }
      else s.advance t := by
  refine (if_pos hs).trans ?_
  simp only [State.advance_lastEvent, hl]
  rfl

/-- R47: an event that the timer follows. -/
theorem refEvent_accepted (h : s.frame.syncState = 3 ∨ (s.frame.syncState = 2 ∧ 4 * (s.errorAt div t).natAbs ≤ s.periodNs)) :
    refEvent div t s =
      (s.advance t).acceptEvent (s.expected div t) (s.errorAt div t) (if (s.errorAt div t).natAbs ≤ 1000 then 2 else 3) := by
  have hs : s.frame.syncState ≠ 1 := by
    rcases h with h | ⟨h, _⟩ <;> simp [h]
  exact (if_neg hs).trans (if_pos h)

/-- R47: an event too far off for a locked timer is spurious. -/
theorem refEvent_spurious (hs : s.frame.syncState = 2) (hfar : s.periodNs < 4 * (s.errorAt div t).natAbs) :
    refEvent div t s = (s.advance t).setFrmEvt 1 := by
  have hno : ¬4 * (s.errorAt div t).natAbs ≤ s.periodNs := Nat.not_le.mpr hfar
  simp [refEvent, hs, hno]

/-- R49: while sync is lost, an event spaced as expected from the last one counts, and the eighth restores sync. -/
theorem refEvent_lost_spaced (hs : s.frame.syncState = 0 ∨ s.frame.syncState = 4) (hl : s.frame.lastEvent = some l)
    (hspaced : ((t : Int) - ((l + div * s.periodNs : Nat) : Int)).natAbs ≤ 1000) :
    refEvent div t s =
      if 8 ≤ s.frame.goodEvents + 1 then
        ({ (s.advance t).acceptEvent (s.expected div t) (s.errorAt div t) 3 with
           frame := { ((s.advance t).acceptEvent (s.expected div t) (s.errorAt div t) 3).frame with
             goodEvents := 0, lastEvent := none, atLimit := true } } : State).setFrmEvt 3
      else { s.advance t with frame := { (s.advance t).frame with goodEvents := s.frame.goodEvents + 1, lastEvent := some t } } := by
  obtain ⟨h1, h2, h3⟩ : s.frame.syncState ≠ 1 ∧ s.frame.syncState ≠ 2 ∧ s.frame.syncState ≠ 3 := by
    rcases hs with h | h <;> simp [h]
  simp only [refEvent, State.advance_syncState, h1, h2, h3, false_and, or_self, if_false, State.advance_lastEvent, hl,
    State.advance_periodNs, hspaced, decide_true, if_true, State.advance_goodEvents, State.advance_expected, State.errorAt]

end

/-- Settles O10: the states of the timer one by one, each by the equation of what a reference event does there. -/
theorem timerLock : Obligations.TimerLock := by
  unfold Obligations.TimerLock
  refine ⟨?first, ?locks, ?farOff, ?accepted, ?spurious, ?restores, ?counts, ?otherSource, ?timeout, ?lost,
    fun t s => exec_syncInEdge s t, exec_syncAcquireTimeout, exec_syncLost⟩
  case first =>
    intro s t i hp hi hsrc hs hl
    rw [exec_syncInEdge_of_source hp hi hsrc, refEvent_acquiring_first hs hl]
  case locks =>
    intro s t i l hp hi hsrc hs hl hnear
    rw [exec_syncInEdge_of_source hp hi hsrc, refEvent_acquiring_next hs hl, if_pos hnear]
  case farOff =>
    intro s t i l hp hi hsrc hs hl hfar
    rw [exec_syncInEdge_of_source hp hi hsrc, refEvent_acquiring_next hs hl, if_neg (Nat.not_le.mpr hfar)]
  case accepted =>
    intro s t i hp hi hsrc h
    rw [exec_syncInEdge_of_source hp hi hsrc, refEvent_accepted h]
  case spurious =>
    intro s t i hp hi hsrc hs hfar
    rw [exec_syncInEdge_of_source hp hi hsrc, refEvent_spurious hs hfar]
  case restores =>
    intro s t i l hp hi hsrc hs hl hspaced hseven
    rw [exec_syncInEdge_of_source hp hi hsrc, refEvent_lost_spaced hs hl hspaced, if_pos (by omega)]
  case counts =>
    intro s t i l hp hi hsrc hs hl hspaced hfew
    rw [exec_syncInEdge_of_source hp hi hsrc, refEvent_lost_spaced hs hl hspaced, if_neg (by omega)]
  case otherSource =>
    intro s t i hp hi hsrc
    exact exec_syncInEdge_of_other_source hp hi hsrc
  case timeout =>
    intro s i hs hi hacq
    have hdue : s.loft.image.any (fun j => decide (16 * j.eventFrames ≤ s.frame.acqFrames)) = true := by simp [hi, hacq]
    rw [exec_syncAcquireTimeout, acquireTimeout, if_pos ⟨hs, hdue⟩]
  case lost =>
    intro s h
    rw [exec_syncLost, syncLost, if_pos h]

end Sys2Proof.Machine
end

section
/-! SUPPORT. FRM_EVT and the record of its settings (02 R55), and the statement on them. -/

namespace Sys2Proof.Machine

theorem exec_frmEvtClr (v : W32) (s : State) : exec (.frmEvtClr v) s = .next (if s.firmwareUp then frmEvtClear v s else s) := rfl

/-- Setting a bit leaves every other one. -/
theorem getLsbD_setBit_true {w : Nat} (v : BitVec w) {n m : Nat} (hm : m < w) :
    (setBit v n true).getLsbD m = (decide (m = n) || v.getLsbD m) := by
  rw [setBit, if_pos rfl, BitVec.getLsbD_or, BitVec.getLsbD_ofNat, Nat.testBit_two_pow, decide_eq_true hm, Bool.true_and, Bool.or_comm,
    decide_eq_decide.mpr eq_comm]

/-- The frame timer, and the telemetry ring with its last number (15 R366): what answering a command leaves alone. -/
def State.timerAndRing (s : State) : Frame × Nat × List TelEntry := (s.frame, s.host.telSeq, s.host.telemetry)

theorem State.answer_timerAndRing (s : State) (id : CmdId) (t : Status) (dw0 : W32) :
    (s.answer id t dw0).timerAndRing = s.timerAndRing := by
  simp only [State.answer, State.logError]
  split <;> rfl

/-- An asynchronous event answers requests, and no more. -/
theorem State.raiseEvent_timerAndRing (s : State) (e mask : W32) : (s.raiseEvent e mask).timerAndRing = s.timerAndRing := by
  unfold State.raiseEvent
  exact foldl_keeps_of (g := State.timerAndRing) (fun x id hx => (x.answer_timerAndRing id stOk e).trans hx) _ _ rfl

/-- The entry that the ring takes next (15 R366). -/
def State.nextEntry (s : State) (block event unit detail : Nat) : TelEntry :=
  { seq := s.host.telSeq + 1, frame := s.groupFrame, block := BitVec.ofNat 16 block, event := BitVec.ofNat 16 event,
    unit := BitVec.ofNat 32 unit, detail := BitVec.ofNat 64 detail }

section
variable (s : State) (block event unit detail : Nat)

/-- The ring of 4,096 takes one entry at its end, and the timer goes on as it was. -/
theorem State.telemetry_timerAndRing :
    (s.telemetry block event unit detail).timerAndRing =
      (s.frame, s.host.telSeq + 1, (s.host.telemetry ++ [s.nextEntry block event unit detail]).drop
        ((s.host.telemetry ++ [s.nextEntry block event unit detail]).length - 4096)) := by
  rw [State.telemetry, State.raiseEvent_timerAndRing]
  simp only [State.timerAndRing, State.nextEntry]

theorem State.telemetry_frame : (s.telemetry block event unit detail).frame = s.frame :=
  congrArg Prod.fst (s.telemetry_timerAndRing block event unit detail)

theorem State.telemetry_telSeq : (s.telemetry block event unit detail).host.telSeq = s.host.telSeq + 1 :=
  congrArg (fun x => x.2.1) (s.telemetry_timerAndRing block event unit detail)

theorem State.telemetry_getLast? :
    (s.telemetry block event unit detail).host.telemetry.getLast? = some (s.nextEntry block event unit detail) := by
  have hring := congrArg (fun x => x.2.2) (s.telemetry_timerAndRing block event unit detail)
  simp only [State.timerAndRing] at hring
  rw [hring, List.getLast?_drop, if_neg (by simp), List.getLast?_concat]

end

theorem State.setFrmEvt_evt (s : State) (n : Nat) : (s.setFrmEvt n).frame.evt = setBit s.frame.evt n true :=
  congrArg Frame.evt (State.telemetry_frame _ 2 n 0 0)

/-- Settles O11: the bit is set beside the record of it in the ring, and a clear is the write's own mask. -/
theorem frameEvents : Obligations.FrameEvents := by
  unfold Obligations.FrameEvents
  refine ⟨fun s n m hn hm => ⟨?_, ?_, ?_⟩, fun s v hup => ?_, exec_frmEvtClr⟩
  · rw [State.setFrmEvt_evt, getLsbD_setBit_true _ hm]
  · exact State.telemetry_telSeq _ 2 n 0 0
  · exact State.telemetry_getLast? _ 2 n 0 0
  · rw [exec_frmEvtClr, if_pos hup, frmEvtClear, clearBits]

end Sys2Proof.Machine
end

section
/-! SUPPORT. The statement on the state after reset. -/

namespace Sys2Proof.Machine

/-- Every register of the list, read after reset. -/
theorem readReg_reset_resetColumn : resetColumn.all (fun (r : WinBlock × Nat × W32) => State.reset.readReg r.1 r.2.1 == r.2.2) = true := by
  decide +kernel

theorem reset_shape : State.reset.Shape := by decide

theorem reset_canonical : State.reset.Canonical := ⟨Sparse.wf_nil 0, Sparse.wf_nil false⟩

/-- Settles O58: the registers are read one by one, and the rest is what the reset state holds. -/
theorem resetValues : Obligations.ResetValues := by
  unfold Obligations.ResetValues
  exact ⟨readReg_reset_resetColumn, rfl, reset_shape, reset_canonical, rfl⟩

end Sys2Proof.Machine
end

section
/-! SUPPORT. An admin command arrives (15 R343; 21 R495), what Identify, logs, features, events, Abort and Keep Alive answer (15 R346, R354, R356), and the statement on them. -/

namespace Sys2Proof.Machine

section
variable {s : State} {i : Instr} {id : CmdId}

/-- The row of an admin command takes it to the core that serves it, whatever the state. -/
theorem exec_of_adminId (hi : adminId i = some id) : exec i s = .next (adminIn id i s) := by
  cases i
  case loftImageTransfer | loftImageApply | loftImageApplyActFrame | loftImageCancel | identify | getLogPage | getFeatures |
      setFeatures | asyncEventRequest | abort | keepAlive | firmwareImageDownload | firmwareCommitReplace |
      firmwareCommitActivate | firmwareCommitSlot | securitySend | securityReceive | registerAccessRead | namespaceCreate |
      namespaceDelete | formatNvm =>
    cases hi
    rfl
  -- every other row is no admin command, or checks its operands first
  all_goals exact nomatch hi

theorem adminIn_of_serves (h : s.serves i id) : adminIn id i s = adminOp i s := by
  obtain ⟨hup, hnew, hruns⟩ := h
  simp [adminIn, adminOn, hup, hnew, hruns]

theorem exec_of_serves (hi : adminId i = some id) (h : s.serves i id) : exec i s = .next (adminOp i s) := by
  rw [exec_of_adminId hi, adminIn_of_serves h]

end

theorem exec_keepAliveTimeout (n : W16) (s : State) : exec (.keepAliveTimeout n) s = .next (keepAliveExpired n s).settle := rfl

section
variable {s : State} {id : CmdId}

theorem identify_namespace {nsid : W32} {n : Namespace} (hn : s.nsFor nsid.toNat = some n) :
    identify id 0 nsid s = s.answer id stOk 0 (State.identNamespace n) := by
  simp [identify, hn]

/-! A log page that is listed is read from an offset within it, and another page is refused. -/

section
variable {lid : Byte} {lsi : W16} {ofs len : Nat}

theorem getLogPage_of_listed {p : Bytes} (hp : s.logPage id.ctrl lid lsi = some p) (hofs : ofs ≤ p.length) :
    getLogPage id lid lsi ofs len s = s.answer id stOk 0 (slice p ofs len) := by
  simp [getLogPage, hp, hofs]

theorem getLogPage_of_not_listed (hp : s.logPage id.ctrl lid lsi = none) :
    getLogPage id lid lsi ofs len s = s.answer id stInvalidField := by
  simp [getLogPage, hp]

end

/-! Power management (03 R57) and the event configuration (15 R346). -/

theorem getFeatures_events {c : HostCtrl} (hc : s.ctrlFor id.ctrl = some c) : getFeatures id 0x0B s = s.answer id stOk c.aec := by
  simp [getFeatures, hc]

/-- The power state is the image's, so it is never the host's to set. -/
theorem setFeatures_power (v : W32) :
    setFeatures id 0x02 v s = s.answer id (if s.loft.image = none then stNotLoaded else stSequence) := by
  simp [setFeatures, State.bare]

theorem setFeatures_events (v : W32) :
    setFeatures id 0x0B v s =
      if v &&& 0x061F = v then (s.modHostCtrl id.ctrl fun c => { c with aec := v }).answer id stOk else s.answer id stInvalidField :=
  rfl

/-! A request for events: the ninth, one that finds an event waiting, and one that waits. -/

section
variable {c : HostCtrl} (hc : s.ctrlFor id.ctrl = some c)
include hc

theorem asyncEvent_of_full (hfull : 8 ≤ c.aers.length) : asyncEvent id s = s.answer id stSequence := by
  simp [asyncEvent, hc, hfull]

theorem asyncEvent_of_event {e : W32} {r : List W32} (hroom : ¬8 ≤ c.aers.length) (he : c.events = e :: r) :
    asyncEvent id s = (s.modHostCtrl id.ctrl fun c => { c with events := r }).answer id stOk e := by
  simp only [asyncEvent, hc, if_neg hroom, he]

theorem asyncEvent_of_no_event (hroom : ¬8 ≤ c.aers.length) (he : c.events = []) :
    asyncEvent id s = s.modHostCtrl id.ctrl fun c => { c with aers := c.aers ++ [id] } := by
  simp only [asyncEvent, hc, if_neg hroom, he]

end

/-- The timer of a controller has run out (15 R354). -/
theorem keepAliveExpired_of_due {n : W16} {c : HostCtrl} (hc : s.ctrlFor n = some c)
    (hdue : c.lastKa + c.kato * 1000000 ≤ s.frame.time) : keepAliveExpired n s = s.dropController n := by
  simp [keepAliveExpired, hc, hdue]

end

/-- Settles O15: a served command's row is its operation on the core, and each operation answers by its equation; the rows complete because every one is `adminIn`. -/
theorem adminAnswers : Obligations.AdminAnswers := by
  unfold Obligations.AdminAnswers
  refine ⟨?identify, ?logPage, ?noLogPage, ?getEvents, ?setPower, ?setEvents, ?eventRequest, ?abort, ?keepAlive, ?timeout,
    fun _ _ _ _ => exec_of_adminId rfl, fun _ _ _ _ _ _ => exec_of_adminId rfl, fun _ _ _ => exec_of_adminId rfl,
    fun _ _ _ _ => exec_of_adminId rfl, fun _ _ => exec_of_adminId rfl, fun _ _ _ => exec_of_adminId rfl,
    fun _ _ => exec_of_adminId rfl, exec_keepAliveTimeout⟩
  case identify =>
    intro id nsid s n hs hn
    rw [exec_of_serves rfl hs, adminOp, identify_namespace hn]
  case logPage =>
    intro id lid lsi ofs len s p hs hp hofs
    rw [exec_of_serves rfl hs, adminOp, getLogPage_of_listed hp hofs]
  case noLogPage =>
    intro id lid lsi ofs len s hs hp
    rw [exec_of_serves rfl hs, adminOp, getLogPage_of_not_listed hp]
  case getEvents =>
    intro id s c hs hc
    rw [exec_of_serves rfl hs, adminOp, getFeatures_events hc]
  case setPower =>
    intro id v s hs
    rw [exec_of_serves rfl hs, adminOp, setFeatures_power]
  case setEvents =>
    intro id v s hs
    rw [exec_of_serves rfl hs, adminOp, setFeatures_events]
  case eventRequest =>
    intro id s c hs hc
    rw [exec_of_serves rfl hs, adminOp]
    split_ifs with hfull
    · rw [asyncEvent_of_full hc hfull]
    · cases he : c.events with
      | cons e r => rw [asyncEvent_of_event hc hfull he]
      | nil => rw [asyncEvent_of_no_event hc hfull he]
  case abort =>
    intro id v s hs
    rw [exec_of_serves rfl hs, adminOp, abortCmd]
  case keepAlive =>
    intro id s hs
    rw [exec_of_serves rfl hs, adminOp, keepAlive]
  case timeout =>
    intro n s c hc hdue
    rw [exec_keepAliveTimeout, keepAliveExpired_of_due hc hdue]

end Sys2Proof.Machine
end

section
/-! SUPPORT. Reloads, fills, the scale store and the end of a Spar reset (05 R118; 07 R173, R180; 08 R191; 20 R460, R461), and the statement on them. -/

namespace Sys2Proof.Machine

/-! The rows do their operations, whatever the state. -/

section
variable (s : State) (c : Fin 8) (what : ReloadIn)

theorem exec_reelReload : exec (.reelReload c what) s = .next (if s.sparReset then s else reloadEnd c.val what.uid what.bad s) := rfl
theorem exec_reelDone (f : Fill) : exec (.reelDone c f) s = .next (reelWrite c.val f s) := rfl
theorem exec_scaleStoreLoad : exec (.scaleStoreLoad c what) s = .next (loadScales c.val what.uid what.bad s) := rfl
theorem exec_sparResetDone : exec .sparResetDone s = .next (sparResetDone s).settle := rfl

end

section
variable {s : State} {c uid : Nat} {bad : List W64} {e : PassEntry}

/-! The end of a reload. -/

/-- A pass that waits for its reload has its read-only copies written again and may start (R173). -/
theorem reloadEnd_of_reloading (he : s.entry uid = some e) (hp : e.phase = .reloading c) :
    reloadEnd c uid bad s =
      ((((s.clusterAt c).copies.filter fun x => x.meets e.d true).foldl (fun s x => s.reloadCopy c bad x) s).modEntry uid
        fun e => { e with phase := .queued, onCluster := some c }).raise c 19 := by
  simp only [reloadEnd, he, if_pos hp]

theorem reloadEnd_of_not_reloading (he : s.entry uid = some e) (hp : e.phase ≠ .reloading c) : reloadEnd c uid bad s = s := by
  simp only [reloadEnd, he, if_neg hp]

/-! A write of the Reel. -/

/-- Neither a Spar reset nor sleep keeps the stores of a cluster that is up away from the Reel. -/
theorem State.clusterUp_reaches (hup : s.clusterUp c = true) : (s.sparReset || (s.clusterAt c).asleep) = false := by
  simp only [State.clusterUp, Bool.and_eq_true, Bool.not_eq_true'] at hup
  obtain ⟨⟨⟨_, hspar⟩, hawake⟩, _⟩ := hup
  rw [hspar, hawake, Bool.or_false]

/-- With no parity mask armed the Reel's staging delivers the write whole (18 R438). -/
theorem reelWrite_of_masks_nil (f : Fill) (hup : s.clusterUp c = true) (hm : s.parity.masks = []) :
    reelWrite c f s = reelFill c f false s := by
  simp only [reelWrite, hup, Bool.not_true, Bool.false_eq_true, if_false, State.staged_of_masks_nil _ hm]

/-- A write is refused for its quota, held by a pin, or made (R118; 09 R211). -/
theorem reelFill_of_reaches (f : Fill) (spoilt : Bool) (h : (s.sparReset || (s.clusterAt c).asleep) = false) :
    reelFill c f spoilt s =
      (let q := s.sourced f spoilt
       let r := q.2.makeRoom c q.1
       if r.1 = false then r.2
       else if r.2.fillHeld c q.1 then r.2.modCluster c fun k => { k with heldFills := k.heldFills ++ [q.1] }
       else r.2.applyFill c q.1) := by
  simp only [reelFill, h, Bool.false_eq_true, if_false, Bool.not_eq_true']

/-! The load of the scale store. -/

theorem loadScales_of_no_entry (he : s.entry uid = none) : loadScales c uid bad s = s := by
  simp only [loadScales, he]

/-- The bound table of a pass goes into a store that is free and holds another one (08 R191, R193). -/
theorem loadScales_of_other_table {b : Bytes} {o : Obj} (he : s.entry uid = some e) (hspar : s.sparReset = false)
    (hawake : (s.clusterAt c).asleep = false) (hreset : (s.clusterAt c).inReset = false) (hbound : e.binding ≠ 0)
    (hother : (s.clusterAt c).sct.valid = false ∨ (s.clusterAt c).sct.table ≠ e.binding) (hfree : s.storeFree c = true)
    (hon : e.d.onCluster c = true) (hb : s.boundTable e.binding = some b) (ho : s.objFor e.binding = some o) :
    loadScales c uid bad s =
      (let n := leNat b 6 2
       let fails := (s.markedIn e.binding (scaleTableLen b)).filter fun j => bad.any fun a => decide (rankOf a = s.rank) && decide ((ofsOf a - o.ofs) / 65536 = (ofsOf e.binding - o.ofs + 64 * j) / 65536)
       let s1 := (s.noteRead e.binding (scaleTableLen b)).refetchLines e.binding (s.markedIn e.binding (scaleTableLen b)) fails
       let s2 := s1.writeSpace c 1 0 ((s.clusterAt c).sctBase + 32) ((slice b 0x40 (32 * n)).zipIdx.map fun x => (x.1, fails.contains ((0x40 + x.2) / 64)))
       let s3 := s2.writeSpace c 1 0 ((s.clusterAt c).sctBase + 0x20000) ((slice b (0x40 + 32 * n) (leNat b 8 4)).zipIdx.map fun x => (x.1, fails.contains ((0x40 + 32 * n + x.2) / 64)))
       (s3.modCluster c fun k => { k with sct := { valid := true, loading := false, table := e.binding, slotCount := n, tableId := le 64 b 0x10, loadCnt := satInc k.sct.loadCnt } }).raise c 18) := by
  have hstale : ((s.clusterAt c).sct.valid && decide ((s.clusterAt c).sct.table = e.binding)) = false := by
    simpa only [Bool.and_eq_false_iff, decide_eq_false_iff_not] using hother
  have hgo : (s.sparReset || (s.clusterAt c).asleep || (s.clusterAt c).inReset || decide (e.binding = 0) ||
      ((s.clusterAt c).sct.valid && decide ((s.clusterAt c).sct.table = e.binding)) || !s.storeFree c || !e.d.onCluster c) = false := by
    simp only [hspar, hawake, hreset, decide_eq_false hbound, hstale, hfree, hon, Bool.not_true, Bool.or_false]
  simp only [loadScales, he, hgo, Bool.false_eq_true, if_false, hb, ho]

/-! The end of a Spar reset. -/

/-- A Spar reset ends with its handlers loaded, and the exit from the safe state that began with it goes on (R181, R461; 18 R434). -/
theorem sparResetDone_of_sparReset (h : s.sparReset = true) {t : State}
    (ht : t = ({ s with sparReset := false, frame := { s.frame with resume := true } } : State).loadHandlers) :
    sparResetDone s = if t.drogue.exiting then t.leaveSafe else t.settle := by
  simp only [sparResetDone, h, Bool.not_true, Bool.false_eq_true, if_false, ht]

theorem sparResetDone_of_no_sparReset (h : s.sparReset = false) : sparResetDone s = s := by
  simp only [sparResetDone, h, Bool.not_false, if_true]

end

/-- Settles O34: each row is one operation of the model, and each operation answers by its equation for the case it meets. -/
theorem reelIntoClusters : Obligations.ReelIntoClusters := by
  unfold Obligations.ReelIntoClusters
  refine ⟨?reloads, ?reloadsNothing, ?fills, ?loads, ?loadsNothing, ?resetEnds, ?noReset,
    fun c what s => exec_reelReload s c what, fun c f s => exec_reelDone s c f, fun c what s => exec_scaleStoreLoad s c what,
    exec_sparResetDone⟩
  case reloads =>
    intro c uid bad s e hspar he hp
    rw [exec_reelReload, hspar, if_neg Bool.false_ne_true, reloadEnd_of_reloading he hp]
  case reloadsNothing =>
    intro c uid bad s e he hp
    rw [exec_reelReload, reloadEnd_of_not_reloading he hp, ite_self]
  case fills =>
    intro c f s hup hm
    rw [exec_reelDone, reelWrite_of_masks_nil f hup hm, reelFill_of_reaches f false (State.clusterUp_reaches hup)]
  case loads =>
    intro c uid bad s e b o he hspar hawake hreset hbound hother hfree hon hb ho
    rw [exec_scaleStoreLoad, loadScales_of_other_table he hspar hawake hreset hbound hother hfree hon hb ho]
  case loadsNothing =>
    intro c uid bad s he
    rw [exec_scaleStoreLoad, loadScales_of_no_entry he]
  case resetEnds =>
    intro s t h ht
    rw [exec_sparResetDone, sparResetDone_of_sparReset h ht, apply_ite State.settle]
  case noReset =>
    intro s h
    rw [exec_sparResetDone, sparResetDone_of_no_sparReset h]

end Sys2Proof.Machine
end

section
/-! SUPPORT. Well-formed commands run and ill-formed ones stop (00_scope), and the statement on it. -/

namespace Sys2Proof.Machine

/-- Settles O54: what every command answers is known from `wellFormed` alone, and a well-formed one answers a state. -/
theorem onlyIllFormedCommandsStop : Obligations.OnlyIllFormedCommandsStop := by
  unfold Obligations.OnlyIllFormedCommandsStop
  refine ⟨fun c s h => ?_, fun c s h => exec_illFormed s h⟩
  obtain ⟨t, ht, _⟩ := exec_next_of_wellFormed s h
  exact ⟨t, ht⟩

end Sys2Proof.Machine
end

section
/-! SUPPORT. How a vector word issues (06 R134, R143; 07 R161, R164, R172, R181), and the statement on it. -/

namespace Sys2Proof.Machine

section
variable {i : Instr} {c : Fin 8} {w : W64} {op : Nat} {s : State}

/-- The row of a vector word checks the operation code of its word, and issues it. -/
theorem exec_of_vecWord (hi : vecWord i = some (c, w, op)) :
    exec i s = if bits w 63 58 = op then .next (fetched c 1 w (issueVector op c w) s) else .fault .illFormed := by
  cases i
  case vnop | vsetvl | vld | vst | vgather | vperm | vbcast | vcvt | vadd | vmul | vfma | vcmp | vsel | vmin | vmax | vmlog |
      vred =>
    cases hi
    rfl
  -- every other row is no vector word
  all_goals exact nomatch hi

theorem exec_of_vecWord_op (hi : vecWord i = some (c, w, op)) (hop : bits w 63 58 = op) :
    exec i s = .next (fetched c 1 w (issueVector op c w) s) := by
  rw [exec_of_vecWord hi, if_pos hop]

/-- What a vector word that issues comes to, by the result of its operation (R136, R143, R164). -/
def vecIssued (c : Nat) (w : W64) (s : State) : State :=
  match vecOp c (readVWord w) s with
  | .done t => t.nextWord c 1
  | .vaddr lane addr => vaddrFault c (bits w 63 58) lane addr (s.countVu c 0)
  | .poisonCtrl => poisonCtrl c s

theorem issueVector_eq (c : Nat) (hop : bits w 63 58 = op) : issueVector op c w s = issueWord c w (vecIssued c w) s := if_neg (not_not_intro hop)

/-- A vector word at the program counter that reads well is issued. -/
theorem exec_vecWord_of_ready (hi : vecWord i = some (c, w, op)) (hop : bits w 63 58 = op) (hr : s.ready c w) :
    exec i s = .next (vecIssued c w s) := by
  obtain ⟨hat, hhandler, hprogram⟩ := hr
  rw [exec_of_vecWord_op hi hop, fetched_good hhandler, issueVector_eq c hop, issueWord_good hat hprogram]

end

variable {c n : Nat} {w : W64} {f : State → State} {s : State}

theorem fetched_of_not_busy (hb : (s.clusterAt c).ic.busy = false) : fetched c n w f s = f s :=
  fetched_good fun h => nomatch h.symm.trans hb

theorem fetched_of_not_atWord (ha : s.atWord c w = false) : fetched c n w f s = f s := by
  rw [fetched, ha, Bool.and_false]
  rfl

/-- A handler's word that fails parity is SOURCE 04h as it is fetched (18 R426, R438). -/
theorem fetched_of_bad (ha : s.atWord c w = true) (hb : (s.clusterAt c).ic.busy = true)
    (hp : (s.parTrip (0xA8 + c) (handlerByte (s.clusterAt c).ic.pc) (8 * n)).1 = true) :
    fetched c n w f s =
      ((s.parTrip (0xA8 + c) (handlerByte (s.clusterAt c).ic.pc) (8 * n)).2.fault (mkFault 4 (0x300 + c))).settle := by
  rw [fetched, ha, hb, Bool.and_true, if_pos rfl]
  generalize s.parTrip (0xA8 + c) (handlerByte (s.clusterAt c).ic.pc) (8 * n) = r at hp ⊢
  obtain ⟨bad, t⟩ := r
  obtain rfl : bad = true := hp
  rfl

theorem issueWord_of_not_atWord (ha : s.atWord c w = false) : issueWord c w f s n = s := by
  rw [issueWord, ha]
  rfl

/-- A program's word that fails parity discards the pass (07 R172). -/
theorem issueWord_of_bad (ha : s.atWord c w = true) (hp : (s.progBad c n).1 = true) :
    issueWord c w f s n = discardPass c 6 0 1 (0x300 + c) (s.progBad c n).2 := by
  rw [issueWord, if_pos ha]
  generalize s.progBad c n = r at hp ⊢
  obtain ⟨bad, t⟩ := r
  obtain rfl : bad = true := hp
  rfl

/-- Settles O30: every row fetches its word and issues it, and each clause is one outcome of the fetch, of the issue or of the operation. -/
theorem vectorWords : Obligations.VectorWords := by
  unfold Obligations.VectorWords
  refine ⟨?completes, ?faults, ?poisoned, ?programBad, ?handlerBad, ?elsewhere, ?otherRow,
    ?_, ?_, ?_, ?_, ?_, ?_, ?_, ?_, ?_, ?_, ?_, ?_, ?_, ?_, ?_, ?_, ?_⟩
  case completes =>
    intro i c w op s t hi hop hr ht
    rw [exec_vecWord_of_ready hi hop hr, vecIssued, ht]
  case faults =>
    intro i c w op lane addr s hi hop hr ht
    rw [exec_vecWord_of_ready hi hop hr, vecIssued, ht, hop]
  case poisoned =>
    intro i c w op s hi hop hr ht
    rw [exec_vecWord_of_ready hi hop hr, vecIssued, ht]
  case programBad =>
    intro i c w op s hi ha hop hb hp
    rw [exec_of_vecWord_op hi hop, fetched_of_not_busy hb, issueVector_eq _ hop, issueWord_of_bad ha hp]
  case handlerBad =>
    intro i c w op s hi ha hop hb hp
    rw [exec_of_vecWord_op hi hop, fetched_of_bad ha hb hp]
  case elsewhere =>
    intro i c w op s hi ha hop
    rw [exec_of_vecWord_op hi hop, fetched_of_not_atWord ha, issueVector_eq _ hop, issueWord_of_not_atWord ha]
  case otherRow =>
    intro i c w op s hi hop
    rw [exec_of_vecWord hi, if_neg hop]
  -- the seventeen rows
  all_goals exact fun c w s hop => exec_of_vecWord_op rfl hop

end Sys2Proof.Machine
end

section
/-! SUPPORT. Reading sparse data back after a list of writes (06 R131). -/

namespace Sys2Proof.Machine

section
variable {α β : Type} [DecidableEq α] {d : α}

/-- A write leaves every other key alone, whether or not the list is in canonical form. -/
theorem Sparse.get_set_of_ne {j k : Nat} (hj : j ≠ k) (m : List (Nat × α)) (v : α) :
    Sparse.get d (Sparse.set d m k v) j = Sparse.get d m j := by
  induction m with
  | nil =>
    rw [Sparse.set]
    split_ifs
    · rfl
    · exact if_neg hj.symm
  | cons p r ih =>
    obtain ⟨i, w⟩ := p
    rw [Sparse.set]
    split_ifs with hlt hd hk hd
    · rfl
    · rw [Sparse.get, if_neg hj.symm]
    · rw [Sparse.get, if_neg (by omega)]
    · rw [Sparse.get, if_neg hj.symm, Sparse.get, if_neg (by omega)]
    · rw [Sparse.get, Sparse.get, ih]

/-- The values `val x` written at the keys `key x`, in the order of the list. -/
def Sparse.setAll (d : α) (key : β → Nat) (val : β → α) (l : List β) (m : List (Nat × α)) : List (Nat × α) :=
  l.foldl (fun m x => Sparse.set d m (key x) (val x)) m

variable {key : β → Nat} {val : β → α} {m : List (Nat × α)} {l : List β}

theorem Sparse.setAll_append (x : β) :
    Sparse.setAll d key val (l ++ [x]) m = Sparse.set d (Sparse.setAll d key val l m) (key x) (val x) := List.foldl_concat ..

theorem Sparse.wf_setAll (hm : Sparse.wf d m = true) : Sparse.wf d (Sparse.setAll d key val l m) = true := by
  induction l using List.reverseRecOn with
  | nil => exact hm
  | append_singleton l x ih =>
    rw [Sparse.setAll_append]
    exact Sparse.wf_set d _ _ _ ih

theorem Sparse.get_setAll_of_not_mem {j : Nat} (hj : ∀ x ∈ l, j ≠ key x) :
    Sparse.get d (Sparse.setAll d key val l m) j = Sparse.get d m j := by
  induction l using List.reverseRecOn with
  | nil => rfl
  | append_singleton l y ih =>
    rw [Sparse.setAll_append, Sparse.get_set_of_ne (hj y (by simp)), ih fun x hx => hj x (by simp [hx])]

/-- In canonical form a key holds what was written to it, where the writes to it agree. -/
theorem Sparse.get_setAll_of_mem (hm : Sparse.wf d m = true) {x : β} (hx : x ∈ l)
    (hsame : ∀ y ∈ l, key x = key y → val y = val x) : Sparse.get d (Sparse.setAll d key val l m) (key x) = val x := by
  induction l using List.reverseRecOn with
  | nil => exact nomatch hx
  | append_singleton l y ih =>
    rw [Sparse.setAll_append, Sparse.get_set d _ _ _ _ (Sparse.wf_setAll hm)]
    split_ifs with hk
    · exact hsame y (by simp) hk
    · have hxl : x ∈ l := by
        rcases List.mem_append.1 hx with h | h
        · exact h
        · exact absurd (congrArg key (List.mem_singleton.1 h)) hk
      exact ih hxl fun z hz => hsame z (by simp [hz])

end
end Sys2Proof.Machine
end

section
/-! SUPPORT. The registers of a cluster's vector unit: what reading them depends on, result lanes, and the next word (06 R131 to R133; 07 R161, R181). -/

namespace Sys2Proof.Machine

/-- What a vector word of a cluster reads and writes: V with its marks, M, S, VL, and where its program and its handler stand. -/
structure VecRegs where
  v     : List (Nat × W32)
  vMark : Marks
  m     : List (BitVec 512)
  mMark : List (BitVec 512)
  s     : List SReg
  vl    : Nat
  ic    : Ic
  pc    : Nat

def Cluster.vecRegs (k : Cluster) : VecRegs :=
  { v := k.vu.v, vMark := k.vu.vMark, m := k.vu.m, mMark := k.vu.mMark, s := k.vu.s, vl := k.vu.vl, ic := k.ic, pc := k.seq.pc }

/-- Result lanes written to V[d]. -/
def VecRegs.putLanes (r : VecRegs) (d : Nat) (l : List LaneOut) : VecRegs :=
  { r with
    v := Sparse.setAll 0 (fun o => d * 512 + o.i) LaneOut.v l r.v
    vMark := Sparse.setAll false (fun o => d * 512 + o.i) LaneOut.mark l r.vMark }

theorem State.modCluster_keeps {β : Type} {p : Cluster → β} {f : Cluster → Cluster} (h : ∀ k, p (f k) = p k) (s : State) (c : Nat) :
    p ((s.modCluster c f).clusterAt c) = p (s.clusterAt c) := by
  by_cases hc : c < s.clusters.length
  · rw [State.clusterAt_modCluster hc, h]
  · rw [State.clusterAt, State.modCluster, modifyAt_beyond _ _ _ (Nat.not_lt.1 hc), State.clusterAt]

/-- What the operands of cluster `c` are read from: its registers and the bytes of bad parity. -/
def State.operands (s : State) (c : Nat) : VecRegs × Marks := ((s.clusterAt c).vecRegs, s.parity.bad)

section
variable {s t : State} {c : Nat}

theorem State.countBad_operands (g n : Nat) : (s.countBad c g n).operands c = s.operands c := by
  rw [State.countBad]
  split_ifs with hn
  · rfl
  · rw [State.countParity, if_neg hn]
    exact Prod.ext (State.modCluster_keeps (p := Cluster.vecRegs) (fun _ => by rfl) s c) rfl

theorem State.countReads_operands (regs masks l : List Nat) : (s.countReads c regs masks l).operands c = s.operands c :=
  State.countBad_operands _ _

theorem State.countReads_length (regs masks l : List Nat) : (s.countReads c regs masks l).clusters.length = s.clusters.length :=
  congrArg Prod.fst (s.countReads_blocks c regs masks l)

section
variable (h : t.operands c = s.operands c)
include h

theorem State.vLane_congr (r i : Nat) : t.vLane c r i = s.vLane c r i := by
  obtain ⟨hregs, hbad⟩ := Prod.ext_iff.1 h
  have hv : (t.clusterAt c).vu.v = (s.clusterAt c).vu.v := congrArg VecRegs.v hregs
  have hmark : (t.clusterAt c).vu.vMark = (s.clusterAt c).vu.vMark := congrArg VecRegs.vMark hregs
  have hpar : t.parity.bad = s.parity.bad := hbad
  simp only [State.vLane, Parity.isBad, hv, hmark, hpar]

theorem State.mBit_congr (m i : Nat) : t.mBit c m i = s.mBit c m i := by
  obtain ⟨hregs, hbad⟩ := Prod.ext_iff.1 h
  have hm : (t.clusterAt c).vu.m = (s.clusterAt c).vu.m := congrArg VecRegs.m hregs
  have hmark : (t.clusterAt c).vu.mMark = (s.clusterAt c).vu.mMark := congrArg VecRegs.mMark hregs
  have hpar : t.parity.bad = s.parity.bad := hbad
  simp only [State.mBit, Parity.isBad, hm, hmark, hpar]

theorem State.lanes_congr (pm : Nat) : t.lanes c pm = s.lanes c pm := by
  have hvl : (t.clusterAt c).vu.vl = (s.clusterAt c).vu.vl := congrArg VecRegs.vl (Prod.ext_iff.1 h).1
  simp only [State.lanes, State.present, State.mBit_congr h, hvl]

end

theorem State.mem_lanes {pm i : Nat} : i ∈ s.lanes c pm ↔ i < 512 ∧ (s.present c pm i).1 = true := by
  simp [State.lanes, upTo]

theorem State.parLanes_clusters (d : Nat) (l : List LaneOut) : (s.parLanes c d l).clusters = s.clusters := by
  rw [State.parLanes]
  split_ifs <;> rfl

theorem State.putV_vecRegs (hc : c < s.clusters.length) (d : Nat) (l : List LaneOut) :
    ((s.putV c d l).clusterAt c).vecRegs = (s.clusterAt c).vecRegs.putLanes d l := by
  rw [State.putV, State.modCluster_keeps (p := Cluster.vecRegs) (fun _ => by rfl), State.clusterAt, State.parLanes_clusters,
    ← State.clusterAt, State.clusterAt_modCluster hc]
  rfl

theorem State.countVu_vecRegs (n cycles : Nat) : ((s.countVu c n cycles).clusterAt c).vecRegs = (s.clusterAt c).vecRegs :=
  State.modCluster_keeps (p := Cluster.vecRegs) (fun _ => by rfl) s c

theorem State.countPerm_vecRegs (n : Nat) :
    ((s.modCluster c fun k => { k with vu := { k.vu with permCnt := satAdd k.vu.permCnt n } }).clusterAt c).vecRegs = (s.clusterAt c).vecRegs :=
  State.modCluster_keeps (p := Cluster.vecRegs) (fun _ => by rfl) s c

theorem State.nextWord_vu (n : Nat) : ((s.nextWord c n).clusterAt c).vu = (s.clusterAt c).vu :=
  State.modCluster_keeps (p := Cluster.vu) (fun k => by split_ifs <;> rfl) s c

theorem State.nextWord_pc (hc : c < s.clusters.length) (hb : (s.clusterAt c).ic.busy = false) (n : Nat) :
    ((s.nextWord c n).clusterAt c).seq.pc = (s.clusterAt c).seq.pc + n := by
  rw [State.nextWord, State.goto, State.clusterAt_modCluster hc]
  simp [hb, Cluster.noteRun]

theorem State.nextWord_ic_pc (hc : c < s.clusters.length) (hb : (s.clusterAt c).ic.busy = true) (n : Nat) :
    ((s.nextWord c n).clusterAt c).ic.pc = (s.clusterAt c).ic.pc + n := by
  rw [State.nextWord, State.goto, State.clusterAt_modCluster hc]
  simp only [hb, if_true]
  split_ifs
  · rfl
  · omega

end
end Sys2Proof.Machine
end

section
/-! SUPPORT. The rows whose result goes lane by lane to V[D] (06 R133, R136, R145), and the statement on them. -/

namespace Sys2Proof.Machine

section
variable {s t : State} {c : Nat}

/-- From `s` to `t` the present lanes of V[D] take the values `val`, and the other registers stay. -/
def TakesLanes (c : Nat) (w : VWord) (val : Nat → W32) (s t : State) : Prop :=
  ∃ l : List LaneOut, l.map LaneOut.i = s.lanes c w.pm ∧ (∀ o ∈ l, o.v = val o.i) ∧
    (t.clusterAt c).vecRegs = (s.clusterAt c).vecRegs.putLanes w.d l

/-- A lane-by-lane operation, after reads that are only counted. -/
theorem laneOp_takesLanes {u : State} {w : VWord} {val : Nat → W32} {f : State → Nat → LaneOut} (hc : c < u.clusters.length)
    (hu : u.operands c = s.operands c) (hval : ∀ i, (f u i).v = val i) (regs : List Nat) :
    TakesLanes c w val s (laneOp c w regs f u) := by
  refine ⟨(u.lanes c w.pm).map fun i => { f u i with i := i, mark := (f u i).mark || (u.present c w.pm i).2 }, ?_, ?_, ?_⟩
  · rw [List.map_map, ← State.lanes_congr hu]
    exact List.map_id _
  · intro o ho
    obtain ⟨i, _, rfl⟩ := List.mem_map.1 ho
    exact hval i
  · have hreads : ((u.countReads c regs [w.pm] (u.lanes c w.pm)).clusterAt c).vecRegs = (s.clusterAt c).vecRegs :=
      congrArg Prod.fst ((State.countReads_operands regs [w.pm] (u.lanes c w.pm)).trans hu)
    rw [laneOp, State.countVu_vecRegs, State.putV_vecRegs (by rwa [State.countReads_length]), hreads]

theorem TakesLanes.of_vecRegs {u : State} {w : VWord} {val : Nat → W32} (h : TakesLanes c w val s u)
    (ht : (t.clusterAt c).vecRegs = (u.clusterAt c).vecRegs) : TakesLanes c w val s t := by
  obtain ⟨l, hl, hval, hregs⟩ := h
  exact ⟨l, hl, hval, ht.trans hregs⟩

theorem vArith_takesLanes {w : VWord} {val : Nat → W32} {regs : List Nat} {f : List Val → Val} (hc : c < s.clusters.length)
    (hval : ∀ i, BitVec.ofNat 32 (putResult (readSpec w.fd).code (s.clusterAt c).ovfIeee (f (regs.map fun r =>
      decodeElem (readSpec w.fa).code ((s.vLane c r i).1.toNat % 2 ^ fmtWidth (readSpec w.fa).code)))).1 = val i) :
    TakesLanes c w val s (vArith c w regs f s) := by
  unfold vArith
  refine laneOp_takesLanes hc (Eq.refl _) (fun i => ?_) regs
  rw [← hval i]
  simp only [List.map_map]
  rfl

theorem vBcast_takesLanes {w : VWord} (hc : c < s.clusters.length) (hop : w.op = 0x06) :
    TakesLanes c w (laneValue c w s) s (vBcast c w s) := by
  unfold vBcast
  refine laneOp_takesLanes hc (Eq.refl _) (fun i => ?_) []
  simp only [laneValue, hop]

theorem vSel_takesLanes {w : VWord} (hc : c < s.clusters.length) (hop : w.op = 0x0C) :
    TakesLanes c w (laneValue c w s) s (vSel c w s) := by
  unfold vSel
  have hu := fun l l' => (State.countReads_operands [w.b] [w.k] l').trans
    (State.countReads_operands (s := s) (c := c) [w.a] [w.k] l)
  refine laneOp_takesLanes (by simpa only [State.countReads_length]) (hu _ _) (fun i => ?_) []
  simp only [State.mBit_congr (hu _ _), State.vLane_congr (hu _ _), laneValue, hop]
  split_ifs <;> rfl

theorem vPerm_takesLanes {w : VWord} (hc : c < s.clusters.length) (hop : w.op = 0x05) :
    TakesLanes c w (laneValue c w s) s (vPerm c w s) := by
  unfold vPerm
  have hu := fun l => State.countReads_operands (s := s) (c := c) [w.a] [] l
  dsimp only
  refine TakesLanes.of_vecRegs ?_ (State.countPerm_vecRegs _)
  refine laneOp_takesLanes (by rwa [State.countReads_length]) (hu _) (fun i => ?_) [w.b]
  simp only [State.vLane_congr (hu _), laneValue, hop]
  split_ifs <;> rfl

/-- Each of these rows completes, and its result lanes are those of R136. -/
theorem vecOp_laneRow {w : VWord} (hc : c < s.clusters.length) (hrow : laneRow w.op = true) :
    ∃ t, vecOp c w s = .done t ∧ TakesLanes c w (laneValue c w s) s t := by
  have hops : w.op = 0x05 ∨ w.op = 0x06 ∨ w.op = 0x08 ∨ w.op = 0x09 ∨ w.op = 0x0A ∨ w.op = 0x0C ∨ w.op = 0x0D ∨ w.op = 0x0E := by
    simp only [laneRow, Bool.or_eq_true, Bool.and_eq_true, decide_eq_true_eq] at hrow
    omega
  rcases hops with h | h | h | h | h | h | h | h
  · exact ⟨vPerm c w s, by simp only [vecOp, h], vPerm_takesLanes hc h⟩
  · exact ⟨vBcast c w s, by simp only [vecOp, h], vBcast_takesLanes hc h⟩
  · exact ⟨vAdd c w s, by simp only [vecOp, h], vArith_takesLanes hc fun i => by simp only [laneValue, h]; rfl⟩
  · exact ⟨vMul c w s, by simp only [vecOp, h], vArith_takesLanes hc fun i => by simp only [laneValue, h]; rfl⟩
  · exact ⟨vFma c w s, by simp only [vecOp, h], vArith_takesLanes hc fun i => by simp only [laneValue, h]; rfl⟩
  · exact ⟨vSel c w s, by simp only [vecOp, h], vSel_takesLanes hc h⟩
  · exact ⟨vMin c w s, by simp only [vecOp, h], vArith_takesLanes hc fun i => by simp only [laneValue, h]; rfl⟩
  · exact ⟨vMax c w s, by simp only [vecOp, h], vArith_takesLanes hc fun i => by simp only [laneValue, h]; rfl⟩

section
variable {w : VWord} {val : Nat → W32} (h : TakesLanes c w val s t)
include h

theorem TakesLanes.wf (hwf : Sparse.wf 0 (s.clusterAt c).vu.v = true) : Sparse.wf 0 (t.clusterAt c).vu.v = true := by
  obtain ⟨l, _, _, hregs⟩ := h
  rw [show (t.clusterAt c).vu.v = _ from congrArg VecRegs.v hregs]
  exact Sparse.wf_setAll hwf

theorem TakesLanes.get_of_present (hwf : Sparse.wf 0 (s.clusterAt c).vu.v = true) {j : Nat} (hj : j < 512)
    (hp : (s.present c w.pm j).1 = true) : Sparse.get 0 (t.clusterAt c).vu.v (w.d * 512 + j) = val j := by
  obtain ⟨l, hl, hval, hregs⟩ := h
  obtain ⟨o, ho, rfl⟩ := List.mem_map.1 (hl ▸ State.mem_lanes.2 ⟨hj, hp⟩ : j ∈ l.map LaneOut.i)
  have hsame : ∀ y ∈ l, w.d * 512 + o.i = w.d * 512 + y.i → y.v = o.v := fun y hy hk => by
    rw [hval y hy, hval o ho, Nat.add_left_cancel hk]
  rw [show (t.clusterAt c).vu.v = _ from congrArg VecRegs.v hregs, ← hval o ho]
  exact Sparse.get_setAll_of_mem (key := fun o => w.d * 512 + o.i) hwf ho hsame

theorem TakesLanes.get_of_other {r j : Nat} (hj : j < 512) (ho : r ≠ w.d ∨ (s.present c w.pm j).1 = false) :
    Sparse.get 0 (t.clusterAt c).vu.v (r * 512 + j) = Sparse.get 0 (s.clusterAt c).vu.v (r * 512 + j) ∧
      Marks.has (t.clusterAt c).vu.vMark (r * 512 + j) = Marks.has (s.clusterAt c).vu.vMark (r * 512 + j) := by
  obtain ⟨l, hl, _, hregs⟩ := h
  have hkey : ∀ o ∈ l, r * 512 + j ≠ w.d * 512 + o.i := fun o hol hk => by
    obtain ⟨hi, hp⟩ := State.mem_lanes.1 (hl ▸ List.mem_map_of_mem hol : o.i ∈ s.lanes c w.pm)
    obtain ⟨rfl, rfl⟩ : r = w.d ∧ j = o.i := by omega
    rcases ho with hr | habsent
    · exact hr rfl
    · exact absurd (hp.symm.trans habsent) (by decide)
  rw [show (t.clusterAt c).vu.v = _ from congrArg VecRegs.v hregs,
    show (t.clusterAt c).vu.vMark = _ from congrArg VecRegs.vMark hregs]
  exact ⟨Sparse.get_setAll_of_not_mem hkey, Sparse.get_setAll_of_not_mem hkey⟩

end

/-- What holds of O31: the clause on present lanes needs the contents of V in canonical form, which the word keeps, and the others hold in every state. -/
theorem exec_laneRow {i : Instr} {c : Fin 8} {w : W64} {op : Nat} (hi : vecWord i = some (c, w, op)) (hop : bits w 63 58 = op)
    (hrow : laneRow op = true) (hr : s.ready c w) (hs : s.Shape) : ∃ t, exec i s = .next t ∧
      (Sparse.wf 0 (s.clusterAt c).vu.v = true → Sparse.wf 0 (t.clusterAt c).vu.v = true ∧
        ∀ j, j < 512 → (s.present c (readVWord w).pm j).1 = true → Sparse.get 0 (t.clusterAt c).vu.v ((readVWord w).d * 512 + j) =
          laneValue c (readVWord w) s j) ∧
      (∀ r j, j < 512 → (r ≠ (readVWord w).d ∨ (s.present c (readVWord w).pm j).1 = false) →
        Sparse.get 0 (t.clusterAt c).vu.v (r * 512 + j) = Sparse.get 0 (s.clusterAt c).vu.v (r * 512 + j) ∧
          Marks.has (t.clusterAt c).vu.vMark (r * 512 + j) = Marks.has (s.clusterAt c).vu.vMark (r * 512 + j)) ∧
      (t.clusterAt c).vu.vl = (s.clusterAt c).vu.vl ∧ (t.clusterAt c).vu.m = (s.clusterAt c).vu.m ∧
      (t.clusterAt c).vu.s = (s.clusterAt c).vu.s ∧
      ((s.clusterAt c).ic.busy = false → (t.clusterAt c).seq.pc = (s.clusterAt c).seq.pc + 1) ∧
      ((s.clusterAt c).ic.busy = true → (t.clusterAt c).ic.pc = (s.clusterAt c).ic.pc + 1) := by
  have hc : c < s.clusters.length := lt_of_lt_of_eq c.isLt hs.1.symm
  obtain ⟨t, ht, hlanes⟩ := vecOp_laneRow (w := readVWord w) hc (hop.symm ▸ hrow : laneRow (bits w 63 58) = true)
  have hct : c < t.clusters.length := lt_of_lt_of_eq hc (congrArg Prod.fst (vecOp_blocks ht)).symm
  obtain ⟨l, _, _, hregs⟩ := id hlanes
  have hic : (t.clusterAt c).ic = (s.clusterAt c).ic := congrArg VecRegs.ic hregs
  have hpc : (t.clusterAt c).seq.pc = (s.clusterAt c).seq.pc := congrArg VecRegs.pc hregs
  refine ⟨t.nextWord c 1, by rw [exec_vecWord_of_ready hi hop hr, vecIssued, ht], ?_⟩
  rw [State.nextWord_vu]
  refine ⟨fun hwf => ⟨hlanes.wf hwf, fun j hj hp => hlanes.get_of_present hwf hj hp⟩, fun r j hj ho => hlanes.get_of_other hj ho,
    congrArg VecRegs.vl hregs, congrArg VecRegs.m hregs, congrArg VecRegs.s hregs, fun hb => ?_, fun hb => ?_⟩
  · rw [State.nextWord_pc hct (hic ▸ hb), hpc]
  · rw [State.nextWord_ic_pc hct (hic ▸ hb), hic]

end

/-- A VBCAST of S0 to V0. -/
def vbcastWord : W64 := 0x1800000000000000

/-- Cluster 0 runs a handler whose first word is a VBCAST, and lists lanes 5 and 3 of V0 in falling order. -/
def fallingLanes : State :=
  { phase := .up
    clusters := { vu := { v := [(5, 1), (3, 1)], vl := 4 }, ic := { busy := true }, hstore := [vbcastWord] } :: List.replicate 7 {} }

theorem fallingLanes_ready : fallingLanes.ready 0 vbcastWord := by decide

theorem vbcast_fallingLanes_lane3 :
    Sparse.get 0 ((vecIssued (0 : Fin 8) vbcastWord fallingLanes).clusterAt (0 : Fin 8)).vu.v ((readVWord vbcastWord).d * 512 + 3) = 1 := by decide +kernel

theorem laneValue_fallingLanes : laneValue (0 : Fin 8) (readVWord vbcastWord) fallingLanes 3 = 0 := by decide +kernel

/-- Refutes O31: the statement does not ask that V be held in canonical form. A zero is written by removing the lane's entry, and with lanes 5 and 3 listed in falling order the write to lane 3 stops before lane 5 and leaves the entry behind, so lane 3 keeps 1 where the result is 0. -/
theorem not_laneResults : ¬ Obligations.LaneResults := by
  unfold Obligations.LaneResults
  intro h
  obtain ⟨t, ht, hpresent, _⟩ :=
    h (.vbcast 0 vbcastWord) 0 vbcastWord 0x06 fallingLanes rfl (by decide) (by decide) fallingLanes_ready (by decide)
  obtain rfl := Host.Outcome.next.inj ((exec_vecWord_of_ready rfl (by decide) fallingLanes_ready).symm.trans ht)
  have hlane := hpresent 3 (by decide) (by decide)
  exact absurd (vbcast_fallingLanes_lane3.symm.trans (hlane.trans laneValue_fallingLanes)) (by decide)

end Sys2Proof.Machine
end

section
/-! SUPPORT. What integer arithmetic leaves in an integer format (04 R89, R100; 06 R140), and the statement on it. -/

namespace Sys2Proof.Machine

theorem signedNat_zero (neg : Bool) : signedNat neg 0 = 0 := by cases neg <;> rfl

theorem signedNat_natAbs (i : Int) : signedNat (decide (i < 0)) i.natAbs = i := by
  by_cases h : i < 0
  · simp [signedNat, h, abs_of_neg h]
  · simp [signedNat, h, Int.not_lt.1 h]

theorem signedNat_mul (p q : Bool) (m n : Nat) : signedNat (p != q) (m * n) = signedNat p m * signedNat q n := by
  cases p <;> cases q <;> simp [signedNat]

/-- The number is the integer `n`, whatever the sign of its zero. -/
def Val.IsInt (x : Val) (n : Int) : Prop := ∃ neg m, x = .fin neg m 0 ∧ signedNat neg m = n

section
variable {x y : Val} {a b : Int}

theorem Val.isInt_ofInt (n : Int) : (Val.ofInt n).IsInt n := ⟨_, _, rfl, signedNat_natAbs n⟩

theorem Val.IsInt.add (hx : x.IsInt a) (hy : y.IsInt b) : (x.add y).IsInt (a + b) := by
  obtain ⟨p, m, rfl, rfl⟩ := hx
  obtain ⟨q, n, rfl, rfl⟩ := hy
  by_cases h : signedNat p m + signedNat q n = 0
  · exact ⟨p && q, 0, by simp [Val.add, h], by rw [h, signedNat_zero]⟩
  · exact ⟨_, _, by simp [Val.add, h], signedNat_natAbs _⟩

theorem Val.IsInt.mul (hx : x.IsInt a) (hy : y.IsInt b) : (x.mul y).IsInt (a * b) := by
  obtain ⟨p, m, rfl, rfl⟩ := hx
  obtain ⟨q, n, rfl, rfl⟩ := hy
  exact ⟨p != q, m * n, rfl, signedNat_mul p q m n⟩

theorem Val.IsInt.toRange (hx : x.IsInt a) (lo hi : Int) :
    x.toRange lo hi = ((clampInt lo hi a).1, ((clampInt lo hi a).2, false)) := by
  obtain ⟨p, m, rfl, rfl⟩ := hx
  simp [Val.toRange, Val.toIntRound, roundShift]

end

section
variable {fd : Nat} {lo hi : Int}

/-- An integer format's code lies above the floating ones, and `intRange` gives its limits. -/
theorem intRange_of_intLimits (h : intLimits fd = some (lo, hi)) : 8 ≤ fd ∧ lo ≤ hi ∧ intRange fd false = (lo, hi) := by
  unfold intLimits at h
  split at h
  case h_7 => cases h
  all_goals
    cases h
    decide

/-- Each format holds every integer between its limits: two's complement of its width, and UINT8 without a sign. -/
theorem decodeElem_encInt (h : intLimits fd = some (lo, hi)) {n : Int} (hlo : lo ≤ n) (hhi : n ≤ hi) :
    decodeElem fd (encInt (fmtWidth fd) n) = .ofInt n := by
  unfold intLimits at h
  split at h
  case h_7 => cases h
  all_goals
    cases h
    refine congrArg Val.ofInt ?_
    simp only [fmtWidth, encInt]
    omega

theorem clampInt_eq (hle : lo ≤ hi) (n : Int) :
    clampInt lo hi n = (if n < lo then lo else if hi < n then hi else n, decide (n < lo ∨ hi < n)) := by
  rw [clampInt, Bool.decide_or]
  congr 1
  split_ifs <;> omega

/-- An integer is clamped to the range of FD, and INT_SAT says whether that changed it. -/
theorem putResult_of_isInt (h : intLimits fd = some (lo, hi)) (ieee : Bool) {x : Val} {n : Int} (hx : x.IsInt n) :
    putResult fd ieee x = (encInt (fmtWidth fd) (clampInt lo hi n).1, { intSat := (clampInt lo hi n).2 }) := by
  obtain ⟨hcode, _, hrange⟩ := intRange_of_intLimits h
  simp only [putResult, if_neg (show fd ≠ 0 by omega), if_neg (show ¬fd < 8 by omega), hrange, hx.toRange]

theorem putResult_eq_of_isInt (h : intLimits fd = some (lo, hi)) (ieee : Bool) {x : Val} {n : Int} (hx : x.IsInt n) :
    putResult fd ieee x = putResult fd ieee (.ofInt n) := by
  rw [putResult_of_isInt h ieee hx, putResult_of_isInt h ieee (Val.isInt_ofInt n)]

theorem decodeElem_encInt_clampInt (h : intLimits fd = some (lo, hi)) (n : Int) :
    decodeElem fd (encInt (fmtWidth fd) (clampInt lo hi n).1) = .ofInt (clampInt lo hi n).1 := by
  obtain ⟨_, hle, _⟩ := intRange_of_intLimits h
  exact decodeElem_encInt h (le_max_left lo _) (max_le hle (min_le_left hi n))

end

/-- Settles O59: sums and products of integers are integers exactly, and an integer put into FD is the one clamped to FD's range, which FD holds. -/
theorem integerResults : Obligations.IntegerResults := by
  unfold Obligations.IntegerResults
  refine ⟨fun fd ieee lo hi n h => ?clamped, fun fd ieee lo hi a b c h => ⟨?sum, ?product, ?productSum⟩⟩
  case clamped =>
    obtain ⟨_, hle, _⟩ := intRange_of_intLimits h
    rw [putResult_of_isInt h ieee (Val.isInt_ofInt n), decodeElem_encInt_clampInt h, clampInt_eq hle]
    exact ⟨rfl, rfl⟩
  case sum => exact putResult_eq_of_isInt h ieee ((Val.isInt_ofInt a).add (Val.isInt_ofInt b))
  case product => exact putResult_eq_of_isInt h ieee ((Val.isInt_ofInt a).mul (Val.isInt_ofInt b))
  case productSum => exact putResult_eq_of_isInt h ieee (((Val.isInt_ofInt a).mul (Val.isInt_ofInt b)).add (Val.isInt_ofInt c))

end Sys2Proof.Machine
end

section
/-! SUPPORT. Submission, program load and start of a pass (07 R160, R161, R165 to R167, R170), and the statement on them. -/

namespace Sys2Proof.Machine

/-! The rows do their operations, whatever the state. -/

section
variable (s : State) (c : Fin 8) (uid t : Nat)

theorem exec_passSubmit {desc : Bytes} (prog : List W64) (src : PassSrc) (hlen : desc.length = 128) :
    exec (.passSubmit desc prog src) s = .next (submitPass desc prog src s).settle := if_pos hlen

theorem exec_programLoad : exec (.programLoad c uid) s = .next (loadProgram c.val uid s).settle := rfl
theorem exec_passStart : exec (.passStart c uid t) s = .next (passStarts c.val uid t s) := rfl

end

/-- A write to a store with parity leaves whatever does not read the parity (18 R423). -/
theorem State.parWrite_keeps {β : Type} {p : State → β} (h : ∀ t q, p { t with parity := q } = p t) (s : State) (g base n : Nat) :
    p (s.parWrite g base n) = p s := by
  rw [State.parWrite]
  split_ifs <;> exact h s _

section
variable (s : State) (g base n c : Nat)

@[simp] theorem State.parWrite_frame : (s.parWrite g base n).frame = s.frame := State.parWrite_keeps (fun _ _ => rfl) s g base n
@[simp] theorem State.parWrite_sched : (s.parWrite g base n).sched = s.sched := State.parWrite_keeps (fun _ _ => rfl) s g base n
@[simp] theorem State.parWrite_host : (s.parWrite g base n).host = s.host := State.parWrite_keeps (fun _ _ => rfl) s g base n
@[simp] theorem State.parWrite_media : (s.parWrite g base n).media = s.media := State.parWrite_keeps (fun _ _ => rfl) s g base n
@[simp] theorem State.parWrite_loft : (s.parWrite g base n).loft = s.loft := State.parWrite_keeps (fun _ _ => rfl) s g base n
@[simp] theorem State.clusterAt_parWrite : (s.parWrite g base n).clusterAt c = s.clusterAt c :=
  State.parWrite_keeps (p := fun t => t.clusterAt c) (fun _ _ => rfl) s g base n

end

/-! Submission. -/

/-- A submission number is used up, and the queue entry that has it is written (R166; 18 R438). -/
def State.numbered (s : State) : State :=
  ({ s with sched := { s.sched with nextUid := s.sched.nextUid + 1 } } : State).parWrite 0xB0 (parEntry s.sched.nextUid) 64

/-- The pass that a submission makes of a descriptor, with the next submission number and the table it is bound to (R166; 08 R189). -/
def State.newPass (s : State) (b : Bytes) (prog : List W64) (src : PassSrc) : PassEntry :=
  { uid := s.sched.nextUid, desc := b, prog := prog.take (readDesc b).progLen, src := src, binding := s.bindingOf src (readDesc b).cls }

section
variable {s : State} {desc b : Bytes} {prog : List W64} {src : PassSrc}

/-- The checks of a descriptor read neither the queue nor its parity. -/
theorem State.numbered_descFails (firmware : Bool) (i : Option Image) : s.numbered.descFails b firmware i = s.descFails b firmware i :=
  State.parWrite_keeps (p := fun t => t.descFails b firmware i) (fun _ _ => rfl) _ _ _ _

@[simp] theorem State.numbered_sched : s.numbered.sched = { s.sched with nextUid := s.sched.nextUid + 1 } := State.parWrite_sched ..

@[simp] theorem State.numbered_loft : s.numbered.loft = s.loft := State.parWrite_loft ..

theorem State.numbered_t0Fits (d : PassDesc) : s.numbered.t0Fits d = s.t0Fits d := by
  rw [State.t0Fits, State.numbered_loft, State.t0Fits]

theorem submitPass_of_shut (h : s.dispatching = false ∨ 16384 ≤ s.passCount) : submitPass desc prog src s = s := by
  have hshut : (!s.dispatching || decide (16384 ≤ s.passCount)) = true := by
    simpa only [Bool.or_eq_true, Bool.not_eq_true', decide_eq_true_eq] using h
  simp only [submitPass, hshut, if_true]

/-- Where passes can be submitted, one that brings no places to allocate is numbered and checked (R160, R166; 09 R214). -/
theorem submitPass_of_open (hb : b = s.dueDesc desc src) (hopen : s.dispatching = true) (hroom : s.passCount < 16384)
    (hstaged : src.staged = false) :
    submitPass desc prog src s =
      (lowest (s.descFails b src.firmware s.loft.image)).elim
        (if s.t0Fits (readDesc b) then
          { s.numbered with sched := { s.sched with nextUid := s.sched.nextUid + 1, entries := s.sched.entries ++ [s.newPass b prog src] } }
         else s.numbered.dropPass (s.newPass b prog src))
        (s.numbered.refusePass (s.newPass b prog src) psRefusedDesc) := by
  subst hb
  have hgo : (!s.dispatching || decide (16384 ≤ s.passCount)) = false := by simp [hopen, hroom]
  have hnumbered : ({ s with sched := { s.sched with nextUid := s.sched.nextUid + 1 } } : State).parWrite 0xB0 (parEntry s.sched.nextUid) 64 =
      s.numbered := rfl
  simp only [submitPass, hgo, hstaged, Bool.false_eq_true, if_false, Bool.not_true, hnumbered, State.numbered_loft,
    State.numbered_descFails, State.numbered_t0Fits, State.numbered_sched]
  cases lowest (s.descFails (s.dueDesc desc src) src.firmware s.loft.image) with
  | none => rfl
  | some o => rfl

end

/-! Program load. -/

section
variable {s s1 : State} {c uid : Nat} {e : PassEntry} (he : s.entry uid = some e) (hopen : s.dispatching = true)
  (hawake : (s.clusterAt c).asleep = false) (hreset : (s.clusterAt c).inReset = false) (hfrozen : s.power.frozen = false)
  (hqueued : e.phase = .queued) (hon : e.d.onCluster c = true) (hshape : e.d.vecOnly = true ∨ (s.clusterAt c).fusion = e.d.fusion)
include hopen hawake hreset hfrozen hqueued hon hshape

/-- Nothing keeps the sequencer from loading the program of a queued pass that may run there (R161). -/
theorem programLoad_open :
    (!s.dispatching || (s.clusterAt c).asleep || (s.clusterAt c).inReset || s.power.frozen || decide (e.phase ≠ .queued) ||
      !e.d.onCluster c || (!e.d.vecOnly && decide ((s.clusterAt c).fusion ≠ e.d.fusion))) = false := by
  have hfits : (!e.d.vecOnly && decide ((s.clusterAt c).fusion ≠ e.d.fusion)) = false := by
    simpa only [Bool.and_eq_false_iff, Bool.not_eq_false', decide_eq_false_iff_not, not_not] using hshape
  simp only [hopen, hawake, hreset, hfrozen, hqueued, hon, hfits, Bool.not_true, ne_eq, not_true_eq_false, decide_false, Bool.or_false]

include he

/-- A program with a word that fails a check refuses its pass (R165). -/
theorem loadProgram_of_bad_word {i : Nat} (hs1 : s1 = (s.raise c 4).noteRead e.d.progAddr (8 * e.d.progLen))
    (hbad : checkWords e.d (s.clusterAt c).fusion (s1.boundTable e.binding) (s1.programOf e) 0 = some i) :
    loadProgram c uid s = s1.refusePass e psRefusedProg i := by
  subst hs1
  have hgo := programLoad_open hopen hawake hreset hfrozen hqueued hon hshape
  simp only [loadProgram, he, hgo, Bool.false_eq_true, if_false, hbad]

/-- A program whose words pass goes into the bank not in use, and its table is wanted where the scale store is free (R161; 08 R191). -/
theorem loadProgram_of_good_words {prog : List W64} {s2 : State} (hs1 : s1 = (s.raise c 4).noteRead e.d.progAddr (8 * e.d.progLen))
    (hprog : prog = s1.programOf e) (hgood : checkWords e.d (s.clusterAt c).fusion (s1.boundTable e.binding) prog 0 = none)
    (hs2 : s2 = ((s1.modCluster c fun k => { k with seq := if k.seq.bank then { k.seq with prog0 := prog, load0 := some uid } else { k.seq with prog1 := prog, load1 := some uid } }).parWrite (0xA0 + c) (if (s.clusterAt c).seq.bank then 0 else 32768) 8).parWrite (0xA0 + c) ((if (s.clusterAt c).seq.bank then 0 else 32768) + 8) (8 * prog.length - 8)) :
    loadProgram c uid s = if s2.storeFree c then s2.modCluster c fun k => k.wantTable e.binding else s2 := by
  subst hs1 hprog hs2
  have hgo := programLoad_open hopen hawake hreset hfrozen hqueued hon hshape
  simp only [loadProgram, he, hgo, Bool.false_eq_true, if_false, hgood]

end

/-! Start. -/

/-- A cluster as a pass that starts there finds it: the vector unit fresh, the program of bank `b` at its first word (06 R132; R170). -/
def Cluster.startsRun (k : Cluster) (run : Running) (b : Bool) (level : BitVec 3) (model : W64) (passId : Nat) : Cluster :=
  { k with vu := k.vu.fresh, idleFrames := 0, level := level, model := if model = 0 then k.model else model, seq := { k.seq with run := some run, bank := b, pc := 0, cyc := 0, cycFrac := 0, passId := BitVec.ofNat 32 passId } }

/-- The run of a pass that starts at time `t` (R170). -/
def State.newRun (s : State) (e : PassEntry) (t : Nat) : Running :=
  { uid := e.uid, startTime := t, startFrame := s.groupFrame, startUs := (t - s.frame.tickTime) / 1000, owner := e.d.ownerKey, ev := e.kept }

/-- The pass is on its cluster, the parity of the vector unit's registers is good, and its footprint is charged once (06 R132; R170; 09 R214). -/
def State.passPlaced (s : State) (c : Nat) (e : PassEntry) (b : Bool) (t : Nat) : State :=
  let s1 := s.modCluster c fun k => k.startsRun (s.newRun e t) b s.power.target (s.passModel e) e.d.passId
  let s2 : State := { s1 with parity := { s1.parity with bad := Sparse.clearRange s1.parity.bad ((0x88 + c) * 2 ^ 32) ((0x88 + c) * 2 ^ 32 + 66176) } }
  if e.pinned.isSome then s2 else s2.chargeT0 e.d.tenant e.d.footprint

/-- The pass runs: its queue entry is pinned to the cluster and written, and the copies of its ranges with it (R170; 09 R206; 18 R438). -/
def State.passStarted (s : State) (c : Nat) (e : PassEntry) (b : Bool) (t : Nat) : State :=
  (((s.passPlaced c e b t).modEntry e.uid fun x => { x with phase := .running c, pinned := some c }).pinCopies c).parWrite 0xB0 (parEntry e.uid) 64

section
variable (s : State) (c : Nat) (e : PassEntry) (b : Bool) (t : Nat)

/-- What is of neither the clusters nor the parity nor the charges stays as it is. -/
theorem State.passPlaced_keeps {β : Type} {p : State → β}
    (h : ∀ t l q r, p { t with clusters := l, parity := q, reel := r } = p t) : p (s.passPlaced c e b t) = p s := by
  rw [State.passPlaced]
  split_ifs <;> exact h s _ _ _

@[simp] theorem State.passPlaced_frame : (s.passPlaced c e b t).frame = s.frame := s.passPlaced_keeps c e b t fun _ _ _ _ => rfl
@[simp] theorem State.passPlaced_sched : (s.passPlaced c e b t).sched = s.sched := s.passPlaced_keeps c e b t fun _ _ _ _ => rfl
@[simp] theorem State.passPlaced_host : (s.passPlaced c e b t).host = s.host := s.passPlaced_keeps c e b t fun _ _ _ _ => rfl
@[simp] theorem State.passPlaced_media : (s.passPlaced c e b t).media = s.media := s.passPlaced_keeps c e b t fun _ _ _ _ => rfl

theorem State.clusterAt_passPlaced (hc : c < s.clusters.length) :
    (s.passPlaced c e b t).clusterAt c = (s.clusterAt c).startsRun (s.newRun e t) b s.power.target (s.passModel e) e.d.passId := by
  rw [State.passPlaced]
  split_ifs <;> exact State.clusterAt_modCluster hc

@[simp] theorem State.passStarted_frame : (s.passStarted c e b t).frame = s.frame :=
  (State.parWrite_frame ..).trans (s.passPlaced_frame c e b t)

@[simp] theorem State.passStarted_host : (s.passStarted c e b t).host = s.host :=
  (State.parWrite_host ..).trans (s.passPlaced_host c e b t)

@[simp] theorem State.passStarted_media : (s.passStarted c e b t).media = s.media :=
  (State.parWrite_media ..).trans (s.passPlaced_media c e b t)

theorem State.passStarted_entries : (s.passStarted c e b t).sched.entries =
    s.sched.entries.map fun x => if x.uid = e.uid then { x with phase := .running c, pinned := some c } else x := by
  rw [← s.passPlaced_sched c e b t, State.passStarted, State.parWrite_sched]
  rfl

/-- Pinning copies leaves what runs on the cluster. -/
theorem State.passStarted_keeps {β : Type} {p : Cluster → β} (h : ∀ k l, p { k with copies := l } = p k) :
    p ((s.passStarted c e b t).clusterAt c) = p ((s.passPlaced c e b t).clusterAt c) := by
  rw [State.passStarted, State.clusterAt_parWrite, State.pinCopies]
  exact State.modCluster_keeps (fun k => h k _) _ c

theorem State.passStarted_seq (hc : c < s.clusters.length) : ((s.passStarted c e b t).clusterAt c).seq =
    { (s.clusterAt c).seq with run := some (s.newRun e t), bank := b, pc := 0, cyc := 0, cycFrac := 0, passId := BitVec.ofNat 32 e.d.passId } := by
  rw [s.passStarted_keeps c e b t (p := Cluster.seq) fun _ _ => rfl, s.clusterAt_passPlaced c e b t hc]
  rfl

theorem State.passStarted_vu (hc : c < s.clusters.length) : ((s.passStarted c e b t).clusterAt c).vu = (s.clusterAt c).vu.fresh := by
  rw [s.passStarted_keeps c e b t (p := Cluster.vu) fun _ _ => rfl, s.clusterAt_passPlaced c e b t hc]
  rfl

end

section
variable {s : State} {c t : Nat} {e : PassEntry} {b : Bool} (hfirst : s.firstEligible c (max t s.frame.time) = some e)
include hfirst

/-- The first eligible pass with its program in a bank starts, where passes may start (R167, R170). -/
theorem startPass_of_first (hbank : (s.clusterAt c).seq.bankOf e.uid = some b) (hmay : s.mayStart c = true) :
    startPass c e.uid t s = (s.advance (max t s.frame.time)).passStarted c e b (max t s.frame.time) := by
  simp only [startPass, hfirst, hbank, hmay, Bool.not_true, ne_eq, not_true_eq_false, decide_false, Bool.or_false, Bool.false_eq_true,
    if_false]
  rfl

/-- A queue entry whose parity is good lets its pass start (18 R438). -/
theorem passStarts_of_good_entry {uid : Nat} (hgood : s.parity.isBad 0xB0 (parEntry uid) 64 = false) :
    passStarts c uid t s = startPass c uid t s := by
  have hread : (s.parTrip 0xB0 (parEntry uid) 64).1 = false := by simp [State.parTrip, hgood]
  simp only [passStarts, hfirst, hread, Bool.and_false, Bool.false_eq_true, if_false]

end

theorem passStarts_of_none_eligible {s : State} {c uid t : Nat} (hnone : s.firstEligible c (max t s.frame.time) = none) :
    passStarts c uid t s = s := by
  simp only [passStarts, hnone]

/-- Settles O28: a submission by what its checks find, a load by its first bad word, and a start read off the state that it leaves. -/
theorem passQueue : Obligations.PassQueue := by
  unfold Obligations.PassQueue
  refine ⟨?enters, ?refused, ?shut, ?loads, ?starts, ?startsNothing, fun desc prog src s hlen => exec_passSubmit s prog src hlen,
    fun c uid s => exec_programLoad s c uid, fun c uid t s => exec_passStart s c uid t⟩
  case enters =>
    intro desc b prog src s hlen hb hopen hroom hstaged hfails
    rw [exec_passSubmit s prog src hlen, submitPass_of_open hb hopen hroom hstaged, hfails]
    rfl
  case refused =>
    intro desc b prog src s o l hlen hb hopen hroom hstaged hfails
    rw [exec_passSubmit s prog src hlen, submitPass_of_open hb hopen hroom hstaged, hfails]
    rfl
  case shut =>
    intro desc prog src s hlen hshut
    rw [exec_passSubmit s prog src hlen, submitPass_of_shut hshut]
  case loads =>
    intro c uid s e he hopen hawake hreset hfrozen hqueued hon hshape
    rw [exec_programLoad]
    extract_lets s1 prog
    cases hcheck : checkWords e.d (s.clusterAt c).fusion (s1.boundTable e.binding) prog 0 with
    | some i => rw [loadProgram_of_bad_word he hopen hawake hreset hfrozen hqueued hon hshape rfl hcheck]
    | none => rw [loadProgram_of_good_words he hopen hawake hreset hfrozen hqueued hon hshape rfl rfl hcheck rfl]
  case starts =>
    rintro c uid t s e b ⟨hclusters, _⟩ hfirst rfl hbank hmay hgood
    have hc : c.val < (s.advance (max t s.frame.time)).clusters.length := by
      rw [State.advance_clusters_length, hclusters]
      exact c.isLt
    have hseq := State.passStarted_seq _ _ e b (max t s.frame.time) hc
    have hvu := State.passStarted_vu _ _ e b (max t s.frame.time) hc
    refine ⟨(s.advance (max t s.frame.time)).passStarted c e b (max t s.frame.time), ?_, ?_, ?_, ?_, ?_,
      ⟨(s.advance (max t s.frame.time)).newRun e (max t s.frame.time), ?_, rfl, rfl, rfl, rfl, rfl⟩, ?_, ?_, ?_⟩
    · rw [exec_passStart, passStarts_of_good_entry hfirst hgood, startPass_of_first hfirst hbank hmay]
    · rw [State.passStarted_frame]
      rfl
    · rw [hvu]
      rfl
    · rw [hseq]
    · rw [hseq]
    · rw [hseq]
    · rw [State.passStarted_entries, State.advance_sched]
    · rw [State.passStarted_host, State.advance_host]
    · rw [State.passStarted_media, State.advance_media]
  case startsNothing =>
    intro c uid t s hnone
    rw [exec_passStart, passStarts_of_none_eligible hnone]

end Sys2Proof.Machine
end

section
/-! SUPPORT. Commit, the LATE mark, the watchdog and a drained run (07 R162, R168, R170, R171, R174, R178 to R180), and the statement on them. -/

namespace Sys2Proof.Machine

/-! The rows do their operations, whatever the state. -/

section
variable (s : State) (c u : Fin 8) (t : Nat)

theorem exec_runDone : exec (.runDone c u) s = .next (runDrains c.val u.val s).settle := rfl
theorem exec_passCommit (cycles : Nat) : exec (.passCommit c cycles t) s = .next (commitPass c.val cycles t s).settle := rfl
theorem exec_late : exec (.late c) s = .next (passLate c.val s) := rfl
theorem exec_wdog : exec (.wdog c t) s = .next (watchdogEnds c.val t s) := rfl

end

/-! Commit. -/

section
variable {s : State} {c cycles t : Nat} {r : Running}

/-- A pass whose program has ended and whose runs have drained commits in the order of R171. -/
theorem commitPass_of_drained {s0 s1 : State} {r1 : Running} {e : PassEntry} (hrun : (s.clusterAt c).seq.run = some r)
    (he : s.runEntry c = some e) (hgo : s.stopped c = false) (hended : r.ended = true) (hdrained : r.runs = [])
    (hs0 : s0 = (s.advance t).settleOverrun c)
    (hs1 : s1 = (if e.d.maxUs * 1750 < cycles then s0.modCluster c Cluster.markLate else s0).modCluster c fun k => k.swapHalves e.d)
    (hrun1 : (s1.clusterAt c).seq.run = some r1) :
    commitPass c cycles t s =
      (let s2 := s1.modCluster c fun k => { k with seq := { k.seq with commitCnt := satInc k.seq.commitCnt } }
       let s3 := s2.releaseSpawns r1.spawns
       (((s3.writeRecord e.d (r1.record e psCommitted cycles (s3.missedBy e.d))).handOn c e r1.ev.poison).dropEntry e.uid).vacate c e cycles) := by
  subst hs0 hs1
  simp only [commitPass, hrun, he, hgo, hended, hdrained, Bool.not_true, List.isEmpty_nil, Bool.or_false, Bool.false_eq_true, if_false,
    hrun1]

theorem commitPass_of_unfinished (hrun : (s.clusterAt c).seq.run = some r) (hbusy : r.ended = false ∨ r.runs ≠ []) :
    commitPass c cycles t s = s := by
  have hwait : (s.stopped c || !r.ended || !r.runs.isEmpty) = true := by
    rcases hbusy with h | h <;> simp [h]
  cases he : s.runEntry c with
  | none => simp only [commitPass, hrun, he]
  | some e => simp only [commitPass, hrun, he, hwait, if_true]

end

/-- LATE is noted against a running pass that nothing stops, whose counter has passed MAX_US × 1,750 (R170). -/
theorem passLate_of_running {s : State} {c : Nat} {e : PassEntry} (he : s.runEntry c = some e) (hgo : s.stopped c = false) :
    passLate c s = s.modCluster c fun k =>
      { k.markLate with seq := { k.markLate.seq with cyc := max k.markLate.seq.cyc (e.d.maxUs * 1750 + 1) } } := by
  simp only [passLate, he, hgo, Bool.false_eq_true, if_false]

/-! The watchdog. -/

section
variable {s s1 : State} {c t : Nat} {r : Running} {e : PassEntry}

/-- The watchdog captures its fault, settles and marks the run, and ends it with poisoned outputs (R174). -/
theorem watchdogPass_of_running (hrun : (s.clusterAt c).seq.run.isSome = true) (he : s.runEntry c = some e)
    (hs1 : s1 = (((s.raise c 1).modCluster c fun k => k.captureSeq 4 0).settleOverrun c).modCluster c Cluster.markLate)
    (hrun1 : (s1.clusterAt c).seq.run = some r) :
    watchdogPass c s =
      ((s1.modCluster c fun k => ({ k with seq := { k.seq with cyc := 437500 } } : Cluster).countStopped r).endPoisoned c e r psWatchdog 437500).modCluster c fun k =>
        { k with seq := { k.seq with wdogCnt := satInc k.seq.wdogCnt } } := by
  subst hs1
  obtain ⟨r0, hrun0⟩ := Option.isSome_iff_exists.mp hrun
  simp only [watchdogPass, hrun0, he, hrun1]

/-- The watchdog's report follows the end of the pass, and brings the cluster reset (R174; 18 R426). -/
theorem watchdogEnds_of_running (hrun : (s.clusterAt c).seq.run.isSome = true) (hgo : s.stopped c = false) :
    watchdogEnds c t s = ((watchdogPass c (s.advance t)).fault (mkFault 4 (0x300 + c))).settle := by
  have hends : ((s.clusterAt c).seq.run.isNone || s.stopped c) = false := by
    rw [hgo, Bool.or_false, ← Option.not_isSome, hrun, Bool.not_true]
  simp only [watchdogEnds, hends, Bool.false_eq_true, if_false]

end

/-! A drained run. -/

/-- A run of unit `u` with output stage `dest` leaves the pass's runs as it drains; DEST 3 keeps the chains (R162, R163). -/
def Running.runDrained (q : Running) (u dest : Nat) : Running :=
  { q with runs := q.runs.eraseP fun y => decide (y.unit = u), chained := setBit q.chained u (decide (dest = 3)), touched := setBit q.touched u true }

/-- Unit `u` goes on with the run accepted meanwhile, whose first weight set it holds already, or it goes idle (R162; 05 R114, R119). -/
def Cluster.unitGoesOn (k : Cluster) (u : Nat) : Cluster :=
  match (match k.seq.run with | some q => q.runs.find? fun (y : MRun) => decide (y.unit = u) | none => none) with
  | none => k.mapUnit u fun t => { t with state := 0, loadLeft := 0 }
  | some y => (k.mapUnit u fun t => { (readRun y.rec_).loadSet t 0 with state := 2, loadLeft := 0 }).noteRun fun q =>
      { q with runs := q.runs.map fun (z : MRun) => if z.unit = u then { z with from_ := k.seq.cyc } else z }

/-- Weights that are not read-only, or carry no mark, do not stop a run (R173). -/
theorem no_marked_weight {s : State} {c : Nat} {e : PassEntry} {r : Run}
    (hgood : e.d.wtRo = false ∨ s.roPoison c (s.clusterAt c).fusion r = none) :
    (if e.d.wtRo then s.roPoison c (s.clusterAt c).fusion r else none) = none := by
  rcases hgood with h | h <;> simp [h]

section
variable {s : State} {c u : Nat} {q : Running} {e : PassEntry} {x : MRun} (hrun : (s.clusterAt c).seq.run = some q)
include hrun

theorem runDrains_of_no_run (h : s.stopped c = true ∨ q.runs.find? (fun x => decide (x.unit = u)) = none) : runDrains c u s = s := by
  cases he : s.runEntry c with
  | none => simp only [runDrains, hrun, he]
  | some e =>
    cases hgo : s.stopped c with
    | true => simp only [runDrains, hrun, he, hgo, if_true]
    | false =>
      have hnone : q.runs.find? (fun x => decide (x.unit = u)) = none := h.resolve_left (by simp [hgo])
      simp only [runDrains, hrun, he, hgo, Bool.false_eq_true, if_false, hnone]

variable (he : s.runEntry c = some e) (hgo : s.stopped c = false) (hx : q.runs.find? (fun x => decide (x.unit = u)) = some x)
include he hgo hx

/-- A run that read a marked read-only weight is a WT_POISON of the tile that read it (R173; 05 R125). -/
theorem runDrains_of_marked_weight {t : Nat} (hro : e.d.wtRo = true) (hmark : s.roPoison c (s.clusterAt c).fusion (readRun x.rec_) = some t) :
    runDrains c u s = weightPoison c t (s.countStore c (s.clusterAt c).fusion (readRun x.rec_)) := by
  simp only [runDrains, hrun, he, hgo, Bool.false_eq_true, if_false, hx, hro, if_true, hmark]

variable (hgood : e.d.wtRo = false ∨ s.roPoison c (s.clusterAt c).fusion (readRun x.rec_) = none)
include hgood

/-- A run that read a marked scale invalidates the scale store and is a WT_POISON of its unit's first tile (R173; 08 R193). -/
theorem runDrains_of_marked_scale (hscale : s.sctPoison c (readRun x.rec_) = true) :
    runDrains c u s = weightPoison c (tileOf (s.clusterAt c).fusion u 0)
      ((s.parRead (0x90 + c) (s.clusterAt c).sctBase 262144).2.modCluster c fun k => { k with sct := { k.sct with valid := false } }) := by
  have hweights := no_marked_weight hgood
  simp only [runDrains, hrun, he, hgo, Bool.false_eq_true, if_false, hx, hweights, hscale]

/-- A run whose weights and scales are good drains, its unit goes on, and the unit's source is raised (R162, R180). -/
theorem runDrains_of_good (hscale : s.sctPoison c (readRun x.rec_) = false) :
    runDrains c u s =
      ((((s.drainRun c (readRun x.rec_) x.len (bit q.chained u)).modCluster c fun k =>
        k.noteRun fun q => q.runDrained u (readRun x.rec_).dest).modCluster c fun k => k.unitGoesOn u).raise c (9 + u)) := by
  have hweights := no_marked_weight hgood
  simp only [runDrains, hrun, he, hgo, Bool.false_eq_true, if_false, hx, hweights, hscale]
  rfl

end

/-- Settles O29: each row's operation, by the state of the pass that it finds on the cluster. -/
theorem passEnd : Obligations.PassEnd := by
  unfold Obligations.PassEnd
  refine ⟨?commits, ?waits, ?late, ?watchdog, ?drains, ?markedWeight, ?markedScale, ?noRun, fun c u s => exec_runDone s c u,
    fun c cycles t s => exec_passCommit s c t cycles, fun c s => exec_late s c, fun c t s => exec_wdog s c t⟩
  case commits =>
    intro c cycles t s s0 s1 r r1 e hrun he hgo hended hdrained hs0 hs1 hrun1
    rw [exec_passCommit, commitPass_of_drained hrun he hgo hended hdrained hs0 hs1 hrun1]
  case waits =>
    intro c cycles t s r hrun hbusy
    rw [exec_passCommit, commitPass_of_unfinished hrun hbusy]
  case late =>
    intro c s e he hgo
    rw [exec_late, passLate_of_running he hgo]
  case watchdog =>
    intro c t s s1 r e hrun hgo he hs1 hrun1
    have hthere : ((s.advance t).clusterAt c).seq.run.isSome = true := by rw [State.clusterAt_advance_run, hrun]
    rw [exec_wdog, watchdogEnds_of_running hrun hgo, watchdogPass_of_running hthere he hs1 hrun1]
  case drains =>
    intro c u s q e x hrun he hgo hx hgood hscale
    rw [exec_runDone, runDrains_of_good hrun he hgo hx hgood hscale]
    rfl
  case markedWeight =>
    intro c u s q e x t hrun he hgo hx hro hmark
    rw [exec_runDone, runDrains_of_marked_weight hrun he hgo hx hro hmark]
  case markedScale =>
    intro c u s q e x hrun he hgo hx hgood hscale
    rw [exec_runDone, runDrains_of_marked_scale hrun he hgo hx hgood hscale]
  case noRun =>
    intro c u s q hrun h
    rw [exec_runDone, runDrains_of_no_run hrun h]

end Sys2Proof.Machine
end

section
/-! SUPPORT. What the sequencer words do (07 R162 to R164, R177, R181), and the statement on them. -/

namespace Sys2Proof.Machine

/-- The operation of a sequencer word of one row (R162). -/
def seqOp (op c : Nat) (v : VWord) (s : State) : State :=
  match op with
  | 0x21 => seqMwait c v s
  | 0x23 => seqSadd c v s
  | 0x24 => seqSld c v s
  | 0x25 => seqBr c v s
  | 0x26 => seqSpawn c v s
  | _ => seqSignal c v s

section
variable {i : Instr} {c : Fin 8} {w : W64} {op : Nat} {s : State}

/-- The row of a sequencer word checks the operation code of its word, and issues it. -/
theorem exec_of_seqWord (hi : seqWord i = some (c, w, op)) :
    exec i s = if bits w 63 58 = op then .next (fetched c 1 w (issueSeq op c w (seqOp op c)) s) else .fault .illFormed := by
  cases i
  case mwait | sadd | sld | br | spawn | signal =>
    cases hi
    rfl
  -- every other row is no sequencer word of this shape
  all_goals exact nomatch hi

theorem exec_of_seqWord_op (hi : seqWord i = some (c, w, op)) (hop : bits w 63 58 = op) :
    exec i s = .next (fetched c 1 w (issueSeq op c w (seqOp op c)) s) := by
  rw [exec_of_seqWord hi, if_pos hop]

/-- A sequencer word at the program counter that reads well has its effect (R161, R181). -/
theorem fetched_issueSeq_of_ready {f : VWord → State → State} (hop : bits w 63 58 = op) (hr : s.ready c w) :
    fetched c 1 w (issueSeq op c w f) s = f (readVWord w) s := by
  obtain ⟨hat, hhandler, hprogram⟩ := hr
  rw [fetched_good hhandler, issueSeq, if_neg (not_not_intro hop), issueWord_good hat hprogram]

theorem exec_seqWord_of_ready (hi : seqWord i = some (c, w, op)) (hop : bits w 63 58 = op) (hr : s.ready c w) :
    exec i s = .next (seqOp op c (readVWord w) s) := by
  rw [exec_of_seqWord_op hi hop, fetched_issueSeq_of_ready hop hr]

theorem exec_sli (hop : bits w 63 58 = 0x22) : exec (.sli c w) s = .next (fetched c 1 w (issueSli c w) s) := if_pos hop

theorem exec_mrun {r : RunRec} (hop : bits r.w0 63 58 = 0x20) : exec (.mrun c r) s = .next (fetched c 4 r.w0 (seqMrun c r) s) := if_pos hop

theorem exec_hret : exec (.hret c) s = .next (fetched c 1 hretWord (leaveHandler c) s) := rfl

theorem exec_endProgram :
    exec (.endProgram c) s = .next (fetched c 1 0xFC00000000000000 (issueEnd c 0xFC00000000000000) s) := rfl

end

/-! Each operation, by what it finds. -/

section
variable {s : State} {c : Nat} {v : VWord}

theorem seqMwait_of_idle {q : Running} (hrun : (s.clusterAt c).seq.run = some q) (hidle : (q.runs.any fun x => v.imm.testBit x.unit) = false) :
    seqMwait c v s = s.nextWord c 1 := by
  simp only [seqMwait, hrun, hidle, Bool.false_eq_true, if_false]

theorem seqSld_of_in_range (hclean : (s.sReg c v.a).poison = false)
    (hrange : s.bytesOk c ((s.sReg c v.a).val.toNat + 4 * v.imm) 4 false = true) :
    seqSld c v s =
      (let e := s.winElem c ((s.sReg c v.a).val.toNat + 4 * v.imm) 0 32
       ((s.readWindow c ((s.sReg c v.a).val.toNat + 4 * v.imm)).putS c v.d ⟨BitVec.ofNat 32 e.1, e.2, true⟩).nextWord c 1) := by
  simp only [seqSld, hclean, Bool.false_eq_true, if_false, hrange, if_true]

theorem seqSld_of_poison (h : (s.sReg c v.a).poison = true) : seqSld c v s = poisonCtrl c s := by
  simp only [seqSld, h, if_true]

theorem seqBr_of_clean (ha : (s.sReg c v.a).poison = false) (hb : (s.sReg c v.b).poison = false) :
    seqBr c v s = if brTaken v.sub (s.sReg c v.a).val (s.sReg c v.b).val then s.goto c v.imm else s.nextWord c 1 := by
  simp only [seqBr, ha, hb, Bool.or_false, Bool.false_eq_true, if_false]

theorem seqBr_of_poison (h : (s.sReg c v.a).poison = true ∨ (s.sReg c v.b).poison = true) : seqBr c v s = poisonCtrl c s := by
  simp only [seqBr, Bool.or_eq_true_iff.mpr h, if_true]

theorem seqSpawn_of_poison (h : (s.sReg c v.a).poison = true ∨ (s.sReg c (v.a + 1)).poison = true) :
    seqSpawn c v s = poisonCtrl c s := by
  simp only [seqSpawn, Bool.or_eq_true_iff.mpr h, if_true]

section
variable {e : PassEntry} {d : W64} (hlo : (s.sReg c v.a).poison = false) (hhi : (s.sReg c (v.a + 1)).poison = false)
  (he : s.runEntry c = some e) (hd : d = BitVec.ofNat 64 ((s.sReg c (v.a + 1)).val.toNat * 2 ^ 32 + (s.sReg c v.a).val.toNat))
include hlo hhi he hd

/-- A spawn that is refused writes its status and marks the pass (R177). -/
theorem seqSpawn_of_refused (hst : (s.spawnStatus c e (decide (v.sub % 2 = 1)) d).1 ≠ 0) :
    seqSpawn c v s =
      (((s.putS c v.d ⟨BitVec.ofNat 32 (s.spawnStatus c e (decide (v.sub % 2 = 1)) d).1, false, true⟩).nextWord c 1).modCluster c fun k =>
        k.noteRun fun q => { q with ev := { q.ev with spawnRefused := true } }).raise c 17 := by
  subst hd
  simp only [seqSpawn, hlo, hhi, he, Bool.or_false, Bool.false_eq_true, if_false, hst]

/-- A spawn that is accepted is held with the run, under the next submission number (R177, R178). -/
theorem seqSpawn_of_accepted (hst : (s.spawnStatus c e (decide (v.sub % 2 = 1)) d).1 = 0) :
    seqSpawn c v s =
      (let t := (s.putS c v.d ⟨0, false, true⟩).nextWord c 1
       ({ t with sched := { t.sched with nextUid := t.sched.nextUid + 1 } } : State).modCluster c fun k => k.noteRun fun q =>
         { q with spawns := q.spawns ++ [{ uid := t.sched.nextUid, desc := (s.spawnStatus c e (decide (v.sub % 2 = 1)) d).2, prog := [], src := { e.src with emits := none, bridle := [], staged := false }, phase := .held, binding := e.binding }] }) := by
  subst hd
  simp only [seqSpawn, hlo, hhi, he, Bool.or_false, Bool.false_eq_true, if_false, hst, if_true]
  rfl

end

/-- MRUN enters its run where its record is whole and its unit has room for one more (R162). -/
theorem seqMrun_of_room {r : RunRec} {q : Running} (hop : bits r.w0 63 58 = 0x20) (hrun : (s.clusterAt c).seq.run = some q)
    (h1 : (s.clusterAt c).wordAhead 1 = some r.w1) (h2 : (s.clusterAt c).wordAhead 2 = some r.w2)
    (h3 : (s.clusterAt c).wordAhead 3 = some r.w3) (hroom : (q.runs.filter fun x => decide (x.unit = (readRun r).unit)).length < 2) :
    seqMrun c r s =
      issueWord c r.w0 (fun s => (s.modCluster c fun k =>
        (k.takeRun (readRun r) (decide ((q.runs.filter fun x => decide (x.unit = (readRun r).unit)).length = 0))).noteRun fun q =>
          { q with runs := q.runs ++ [{ unit := (readRun r).unit, rec_ := r, len := s.runLen c (readRun r), from_ := k.seq.cyc }] }).nextWord c 4) s 4 := by
  simp only [seqMrun, hrun, hop, h1, h2, h3, hroom, and_self, if_true]

/-- The sequencer issues a word where nothing stops it and the word comes next (R161). -/
theorem State.atWord_iff {w : W64} :
    s.atWord c w = true ↔ s.issuing c = true ∧ (s.clusterAt c).wordAhead 0 = some w := by
  simp [State.atWord]

theorem State.stopped_of_issuing (h : s.issuing c = true) : s.stopped c = false := by
  simp only [State.issuing, Bool.and_eq_true, Bool.not_eq_true'] at h
  exact h.left

/-- A word of a handler stands within its 16 words of the handler store (R181). -/
theorem Cluster.handler_word {k : Cluster} {w : W64} (hbusy : k.ic.busy = true) (h : k.wordAhead 0 = some w) :
    k.ic.pc < 16 * k.ic.source.toNat + 16 ∧ k.hstore[k.ic.pc]? = some w := by
  simp only [Cluster.wordAhead, hbusy, if_true, Nat.add_zero] at h
  split_ifs at h with hpc
  exact ⟨hpc, h⟩

theorem Cluster.wordAhead_of_program {k : Cluster} (hbusy : k.ic.busy = false) : k.wordAhead 0 = k.progWord k.seq.pc := by
  simp only [Cluster.wordAhead, hbusy, Bool.false_eq_true, if_false, Nat.add_zero]

/-- HRET at its place in a running handler ends the handler (R181). -/
theorem leaveHandler_of_atWord (hat : s.atWord c hretWord = true) (hbusy : (s.clusterAt c).ic.busy = true) :
    leaveHandler c s = s.modCluster c fun k => { k with ic := { k.ic with busy := false } } := by
  obtain ⟨hissuing, hword⟩ := State.atWord_iff.mp hat
  obtain ⟨hpc, hthere⟩ := Cluster.handler_word hbusy hword
  have hgo : (s.stopped c || !(s.clusterAt c).ic.busy || decide ((s.clusterAt c).hstore[(s.clusterAt c).ic.pc]? ≠ some hretWord) ||
      decide (16 * (s.clusterAt c).ic.source.toNat + 16 ≤ (s.clusterAt c).ic.pc)) = false := by
    simp [State.stopped_of_issuing hissuing, hbusy, hthere, hpc]
  simp only [leaveHandler, hgo, Bool.false_eq_true, if_false]

/-- END of a program, at the program counter and read well, ends the program (R161, R162). -/
theorem seqEnd_of_ready {w : W64} (hop : bits w 63 58 = 0x3F) (hr : s.ready c w) (hbusy : (s.clusterAt c).ic.busy = false) :
    seqEnd c s = (s.nextWord c 1).modCluster c fun k => k.noteRun fun r => { r with ended := true } := by
  obtain ⟨hat, -, hprogram⟩ := hr
  have hword : (s.clusterAt c).progWord (s.clusterAt c).seq.pc = some w :=
    (Cluster.wordAhead_of_program hbusy).symm.trans (State.atWord_iff.mp hat).right
  simp only [seqEnd, hbusy, Bool.false_eq_true, if_false, hword, hop, if_true]
  exact issueWord_good hat hprogram

end

/-- Settles O32: every row fetches its word and issues it, and each clause is one case of the operation. -/
theorem sequencerWords : Obligations.SequencerWords := by
  unfold Obligations.SequencerWords
  refine ⟨?rows, ?mwait, ?sli, ?sadd, ?sld, ?br, ?poisoned, ?spawnRefused, ?spawnHeld, ?signal, ?mrun, ?hret, ?endProgram,
    fun c r s hop => exec_mrun hop, ?_, fun c w s hop => exec_sli hop, ?_, ?_, ?_, ?_, ?_, fun c s => exec_hret, fun c s => exec_endProgram⟩
  case rows =>
    intro i c w op s hi hop hr
    exact exec_seqWord_of_ready hi hop hr
  case mwait =>
    intro c w s q hop hr hrun hidle
    exact (exec_seqWord_of_ready rfl hop hr).trans (congrArg _ (seqMwait_of_idle hrun hidle))
  case sli =>
    intro c w s hop hr
    exact (exec_sli hop).trans (congrArg _ (fetched_issueSeq_of_ready hop hr))
  case sadd =>
    intro c w s hop hr
    exact exec_seqWord_of_ready rfl hop hr
  case sld =>
    intro c w s hop hr hclean hrange
    exact (exec_seqWord_of_ready rfl hop hr).trans (congrArg _ (seqSld_of_in_range hclean hrange))
  case br =>
    intro c w s hop hr ha hb
    exact (exec_seqWord_of_ready rfl hop hr).trans (congrArg _ (seqBr_of_clean ha hb))
  case poisoned =>
    intro c w s hpoison hr
    refine ⟨fun hop => ?_, fun hop => ?_, fun hop => ?_⟩
    · have h : (s.sReg c (bits w 36 32)).poison = true ∨ (s.sReg c (bits w 31 27)).poison = true := by simpa [hop] using hpoison
      exact (exec_seqWord_of_ready rfl hop hr).trans (congrArg _ (seqBr_of_poison h))
    · have h : (s.sReg c (bits w 36 32)).poison = true := by simpa [hop] using hpoison
      exact (exec_seqWord_of_ready rfl hop hr).trans (congrArg _ (seqSld_of_poison h))
    · have h : (s.sReg c (bits w 36 32)).poison = true ∨ (s.sReg c (bits w 36 32 + 1)).poison = true := by simpa [hop] using hpoison
      exact (exec_seqWord_of_ready rfl hop hr).trans (congrArg _ (seqSpawn_of_poison h))
  case spawnRefused =>
    intro c w s e d hop hr hlo hhi he hd hst
    exact (exec_seqWord_of_ready rfl hop hr).trans (congrArg _ (seqSpawn_of_refused hlo hhi he hd hst))
  case spawnHeld =>
    intro c w s e d hop hr hlo hhi he hd hst
    exact (exec_seqWord_of_ready rfl hop hr).trans (congrArg _ (seqSpawn_of_accepted hlo hhi he hd hst))
  case signal =>
    intro c w s hop hr
    exact exec_seqWord_of_ready rfl hop hr
  case mrun =>
    intro c r s q hop hr hrun h1 h2 h3 hroom
    obtain ⟨hat, hhandler, hprogram⟩ := hr
    rw [exec_mrun hop, fetched_good hhandler, seqMrun_of_room hop hrun h1 h2 h3 hroom, issueWord_good hat hprogram]
  case hret =>
    intro c s hr hbusy
    obtain ⟨hat, hhandler, -⟩ := hr
    rw [exec_hret, fetched_good hhandler, leaveHandler_of_atWord hat hbusy]
  case endProgram =>
    intro c s hr hbusy
    have hop : bits (0xFC00000000000000 : W64) 63 58 = 0x3F := by decide
    exact exec_endProgram.trans (congrArg _ ((fetched_issueSeq_of_ready hop hr).trans (seqEnd_of_ready hop hr hbusy)))
  -- the six rows of one word
  all_goals exact fun c w s hop => exec_of_seqWord_op rfl hop

end Sys2Proof.Machine
end

section
/-! SUPPORT. What a Cianber I/O command does that nothing refuses, and its row (15 R352, R357). -/

namespace Sys2Proof.Machine

/-- What each Cianber command does for a tenant once nothing refuses it (R357). -/
def cianberOp : Instr → CmdId → Nat → State → State
  | .modelLoadBegin _ b, id, t => loadBegin id t b
  | .modelLoadData _ b, id, t => loadData id t b
  | .modelLoadCommit _ b, id, t => loadCommit id t b
  | .modelLoadAddScale _ b, id, t => loadAddScale id t b
  | .modelLoadAbandon _ b, id, t => loadAbandon id t b
  | .modelUnload _ b, id, t => modelUnload id t b
  | .listModels _ b, id, t => listModels id t b
  | .openContext _ b, id, t => openContext id t b
  | .closeContext _ b, id, t => closeContext id t b
  | .getContext _ b, id, t => getContext id t b
  | .tokenBatch _ b p, id, t => tokenBatch id t b p
  | .refitExpert _ b, id, t => refitExpert id t b
  | .embeddingJob _ b n, id, t => embeddingJob id t b n
  | .createIndex _ b, id, t => createIndex id t b
  | .destroyIndex _ b, id, t => destroyIndex id t b
  | .insert _ b, id, t => insertCmd id t b
  | .delete _ b, id, t => deleteCmd id t b
  | .query _ b p, id, t => queryCmd id t b p
  | .filterCreate _ b, id, t | .filterAddIds _ b, id, t | .filterRemoveIds _ b, id, t | .filterFillAll _ b, id, t
  | .filterCombine _ b, id, t | .filterDestroy _ b, id, t => setFilter id t b
  | _, _, _ => id

/-- A Cianber command that nothing refuses does its operation. -/
theorem startIo_of_cianber {i : Instr} {h : IoHdr} {s : State} (hi : ioOf i = some (h, false))
    (hr : s.cianberRefusal h (searchCmd i) (ioBlock i).length = none) : startIo i s = cianberOp i h.id h.tenant.toNat s := by
  unfold ioOf at hi
  split at hi <;> cases hi
  all_goals
    simp only [searchCmd, ioBlock] at hr
    simp only [startIo, hr, cianberOp]

/-- The row of a Cianber command without an operation code in its block, whatever the state. -/
theorem exec_cianber {i : Instr} {h : IoHdr} {s : State} (hi : ioOf i = some (h, false)) (hw : i.wellFormed = true) :
    exec i s = .next (ioIn h false i s) :=
  exec_of_ioOf hi hw fun _ _ _ hwrite => by subst hwrite; exact nomatch hi

end Sys2Proof.Machine
end

section
/-! SUPPORT. Contexts, token batches, refits and embedding jobs (08 R197 to R200; 10 R245, R247, R248, R250; 12 R290; 15 R361), and the statement on them. -/

namespace Sys2Proof.Machine

theorem not_and_not_of_imp {p : Prop} {q : Bool} (h : p → q = true) : ¬(p ∧ (!q) = true) := by
  simpa using h

/-! The rows of events do their operations, whatever the state. -/

section
variable (s : State)

theorem exec_buddyAckTimeout (x : W32) : exec (.buddyAckTimeout x) s = .next (buddyTimeout x s).settle := rfl
theorem exec_contextCloseDone (x : W32) : exec (.contextCloseDone x) s = .next (closeDone x s).settle := rfl
theorem exec_refitCommit (j : Nat) : exec (.refitCommit j) s = .next (refitCommit j s).settle := rfl
theorem exec_refitShadowTimeout (j : Nat) : exec (.refitShadowTimeout j) s = .next (refitShadowTimeout j s).settle := rfl

end

section
variable {s : State} {id : CmdId} {tenant i : Nat} {b : Bytes}

/-! Contexts (10 R245, R247, R250). -/

section
variable (hfields : fieldsOk b [(0, 4)] = true) (hctx : s.ctxOf (le 32 b 0) tenant = some i)
include hfields hctx

theorem getContext_of_ctx : getContext id tenant b s = s.complete id stOk 0 0 (s.ctxEntry i) := by
  simp [getContext, hfields, hctx]

theorem closeContext_of_closing (hclosing : (s.ctxAt i).state = 3) : closeContext id tenant b s = s.complete id stSequence := by
  simp [closeContext, hfields, hctx, hclosing]

/-- An open context closes: what waits is dropped, and its batches end (R250). -/
theorem closeContext_of_open (hstate : (s.ctxAt i).state ≠ 3) (hopen : (s.ctxAt i).opening = none) :
    closeContext id tenant b s =
      (let t := (((s.ctxPasses (le 32 b 0)).filter PassEntry.waits).foldl State.dropPass s).modCtx i fun c => { c with state := 3, closer := some id, closedTokens := match (s.ctxAt i).batches with | [] => 0 | x :: _ => x.emitted }
       (s.ctxAt i).batches.foldl (fun t x => t.finishBatch i x stAbortRequested) { t with bridle := { t.bridle with unanswered := t.bridle.unanswered.filter fun d => !decide (d.ctx = le 32 b 0) } }) := by
  have hgoes : ¬((s.ctxAt i).state = 3 ∨ (s.ctxAt i).opening.isSome = true) := by simp [hstate, hopen]
  simp only [closeContext, hfields, hctx, Bool.not_true, Bool.false_eq_true, if_false]
  exact if_neg hgoes

end

theorem closeDone_of_gone {x : W32} (hctx : s.ctxIndex x = some i) (hclosing : (s.ctxAt i).state = 3) (hgone : s.ctxPasses x = []) :
    closeDone x s = (s.freeCtx i true).completeOpt (s.ctxAt i).closer stOk (BitVec.ofNat 32 (s.ctxAt i).closedTokens) := by
  simp [closeDone, hctx, hclosing, hgone]

/-- No buddy has acknowledged in time: the open ends unprotected (R247). -/
theorem buddyTimeout_of_due {x : W32} (hctx : s.ctxIndex x = some i) (hopening : (s.ctxAt i).opening.isSome = true)
    (hdue : (s.ctxAt i).openTicks ≤ s.frame.num.toNat) :
    buddyTimeout x s = (s.modCtx i fun c => { c with buddy := 0xFFFF, journaled := 0, sentTo := 0, entrySent := false }).finishOpen i := by
  simp only [buddyTimeout, hctx, hopening, hdue, and_self, if_true]

/-! Opening a context (10 R247). -/

theorem openContext_of_no_models (hmodels : s.library.models = []) : openContext id tenant b s = s.complete id stInvalidField := by
  have hnone : s.modelFor (le 64 b 0) = none := by simp [State.modelFor, hmodels]
  simp only [openContext, hnone, ite_self]

/-- Allocating in T1 leaves the tick as it is. -/
theorem State.allocT1_frame (k : ObjKind) (fmt : Byte) (n : Nat) : (s.allocT1 tenant k fmt n).2.frame = s.frame := rfl

/-- Allocating in T1 and filling a context's entry leave the group as it is. -/
theorem State.allocT1_modCtx_grouped (k : ObjKind) (fmt : Byte) (n : Nat) (f : Context → Context) :
    ((s.allocT1 tenant k fmt n).2.modCtx i f).grouped = s.grouped := rfl

/-- What OPEN_CONTEXT asks before contract and quota: its block, a loaded model of the tenant, a length within the limits and a free entry. -/
structure OpenStands (s : State) (tenant : Nat) (b : Bytes) (m : Model) (i : Nat) : Prop where
  fields : fieldsOk b [(0, 8), (8, 4), (0x0C, 1), (0x0E, 2)] = true
  cls : leNat b 0x0C 1 ≤ 2
  contract : leNat b 0x0C 1 = 0 ∨ leNat b 0x0E 2 = 0
  model : s.modelFor (le 64 b 0) = some m
  loaded : m.state = 2
  owned : m.tenant = tenant
  atLeast : 1 ≤ leNat b 8 4
  atMost : leNat b 8 4 ≤ 1048576
  entry : s.freeEntry = some i

theorem OpenStands.block_ok {m : Model} (h : OpenStands s tenant b m i) :
    (!fieldsOk b [(0, 8), (8, 4), (0x0C, 1), (0x0E, 2)] || decide (2 < leNat b 0x0C 1) ||
      decide (leNat b 0x0C 1 ≠ 0 ∧ leNat b 0x0E 2 ≠ 0)) = false := by
  simpa [h.fields, h.cls] using h.contract.resolve_left

theorem OpenStands.limits_ok {m : Model} (h : OpenStands s tenant b m i) :
    ¬(m.state ≠ 2 ∨ m.tenant ≠ tenant ∨ leNat b 8 4 = 0 ∨ 1048576 < leNat b 8 4) := by
  obtain ⟨-, -, -, -, hloaded, howned, hmin, hmax, -⟩ := h
  omega

/-- With contract and quota allowing it, the entry is filled, and the open waits for a buddy in a group (R247). -/
theorem openContext_of_room {m : Model} (h : OpenStands s tenant b m i)
    (hcontract : leNat b 0x0C 1 = 0 → contractOpens s (leNat b 0x0E 2) tenant = true)
    (hquota : s.fits tenant 1 (1 + units m.extentLen) = true) :
    openContext id tenant b s =
      (let r := s.allocT1 tenant .work 0 8192
       let t := r.2.modCtx i fun c => { gen := c.gen, state := 1, tenant := tenant, model := m.id, maxTokens := leNat b 8 4, cls := leNat b 0x0C 1, contract := if leNat b 0x0C 1 = 0 then leNat b 0x0E 2 else 0, extentList := r.1, openFrame := r.2.groupFrame.toNat, opening := some id, openTicks := s.frame.num.toNat + 16 }
       if s.grouped then t.askBuddy i else t.finishOpen i) := by
  have hallowed := not_and_not_of_imp hcontract
  unfold contractOpens at hallowed
  simp only [openContext, h.block_ok, h.model, if_neg h.limits_ok, h.entry, hquota, State.allocT1_frame, State.allocT1_modCtx_grouped,
    Bool.not_true, Bool.false_eq_true, if_false]
  exact if_neg hallowed

/-! Token batches (10 R248, R253; 15 R363). -/

/-- What TOKEN_BATCH asks before the rules on the batch: its block with `n` tokens and the rewind `w`, and context `i` of the tenant with its model. -/
structure BatchStands (s : State) (tenant : Nat) (b : Bytes) (n : Nat) (w : Option Nat) (i : Nat) (m : Model) : Prop where
  fields : fieldsOk b [(0, 0x28), (0x40, b.length - 0x40)] = true
  count : leNat b 4 4 = n
  atLeast : 1 ≤ n
  atMost : n ≤ 65536
  generates : leNat b 8 2 ≤ 4096
  rewind : w = if leNat b 0x0A 2 = 1 then some (leNat b 0x0C 4) else none
  flags : leNat b 0x0A 2 = 1 ∨ (leNat b 0x0A 2 = 0 ∧ leNat b 0x0C 4 = 0)
  length : b.length = 0x40 + 4 * n
  deadline : leNat b 0x10 8 < 2 ^ 48
  ctx : s.ctxOf (le 32 b 0) tenant = some i
  cls : (s.ctxAt i).cls = 1 ↔ leNat b 0x10 8 ≠ 0
  model : s.modelFor (s.ctxAt i).model = some m

section
variable {p : Plan} {n : Nat} {w : Option Nat} {m : Model} (h : BatchStands s tenant b n w i m)
include h

theorem BatchStands.block_ok :
    (!fieldsOk b [(0, 0x28), (0x40, b.length - 0x40)] || !between 1 n 65536 || decide (4096 < leNat b 8 2) ||
      decide (1 < leNat b 0x0A 2) || decide (b.length ≠ 0x40 + 4 * n) || decide (2 ^ 48 ≤ leNat b 0x10 8) ||
      decide (leNat b 0x0A 2 = 0 ∧ leNat b 0x0C 4 ≠ 0)) = false := by
  obtain ⟨hfields, -, hmin, hmax, hgen, -, hflags, hlen, hdl, -, -, -⟩ := h
  simp only [hfields, between, Bool.or_eq_false_iff, Bool.not_eq_false', Bool.and_eq_true, Bool.not_true, decide_eq_false_iff_not,
    decide_eq_true_eq, true_and]
  omega

theorem BatchStands.deadline_ok : ¬((s.ctxAt i).cls = 1 ∧ leNat b 0x10 8 = 0 ∨ (s.ctxAt i).cls ≠ 1 ∧ leNat b 0x10 8 ≠ 0) := by
  rintro (⟨hB, hnone⟩ | ⟨hnotB, hsome⟩)
  · exact h.cls.mp hB hnone
  · exact hnotB (h.cls.mpr hsome)

/-- A rule on the batch refuses it; the quota, which is counted too, is another case (R248). -/
theorem tokenBatch_of_refused {t : Status} (hrefused : s.batchRefusal (s.ctxAt i) m w (n + leNat b 8 2) = some t) (hquota : t ≠ stQuota) :
    tokenBatch id tenant b p s = s.complete id t := by
  obtain rfl := h.rewind
  simp only [tokenBatch, h.count, h.block_ok, Bool.false_eq_true, if_false, h.ctx, if_neg h.deadline_ok, h.model, hrefused, if_neg hquota]

/-- No rule refuses the batch and its contract, if it has one, admits it: it is queued, and the first starts (R248, R260). -/
theorem tokenBatch_of_admitted (htaken : s.batchRefusal (s.ctxAt i) m w (n + leNat b 8 2) = none)
    (hadmits : (s.ctxAt i).cls = 0 → s.admits (s.ctxAt i).contract tenant p m.fusion = true) :
    tokenBatch id tenant b p s =
      (let toks := (upTo n).map fun k => le 32 b (0x40 + 4 * k)
       let x : Batch := { id := id, inputs := toks, generate := leNat b 8 2, seed := le 64 b 0x18, temperature := le 32 b 0x20, topP := le 32 b 0x24, deadline := leNat b 0x10 8, left := toks, rewind := w }
       let c := s.ctxAt i
       let t := (s.admitRequest id c.cls c.contract tenant (leNat b 0x10 8) p).modCtx i fun c => { c with batches := c.batches ++ [x] }
       if c.batches.isEmpty then t.startBatch i else t) := by
  obtain rfl := h.rewind
  simp only [tokenBatch, h.count, h.block_ok, Bool.false_eq_true, if_false, h.ctx, if_neg h.deadline_ok, h.model, htaken,
    if_neg (not_and_not_of_imp hadmits)]

end

/-! Refits (08 R197 to R200; 15 R361). -/

/-- What REFIT_EXPERT asks before its quotas: its block, a source that is open, expert `x` of a loaded model of the tenant at home here, no other refit of it, and a cluster that keeps OVF_IEEE clear. -/
structure RefitStands (s : State) (tenant : Nat) (b : Bytes) (m : Model) (x : Expert) : Prop where
  fields : fieldsOk b [(0, 10), (0x0C, 7), (0x14, 0x20), (0x38, 9), (0x44, 12), (0x80, b.length - 0x80)] = true
  cls : (leNat b 0x12 1 = 1 ∧ 1 ≤ leNat b 0x18 8 ∧ leNat b 0x18 8 < 2 ^ 48) ∨ (leNat b 0x12 1 = 2 ∧ leNat b 0x18 8 = 0)
  source : leNat b 0x40 1 = 0 ∨ (leNat b 0x40 1 = 1 ∧ (s.source b 1 0 (leNat b 0x44 4) (leNat b 0x48 8) 0 tenant).isSome = true)
  sourceOpen : s.sourceClosed (leNat b 0x40 1) (leNat b 0x44 4) = false
  model : s.modelFor (le 64 b 0) = some m
  loaded : m.state = 2
  owned : m.tenant = tenant
  layer : leNat b 8 2 < m.layers
  expert : leNat b 0x0C 4 < m.experts
  refits : m.refitOk = true
  scale : le 64 b 0x38 = 0 ∨ m.added.contains (le 64 b 0x38) = true
  there : m.expertAt (leNat b 8 2) (leNat b 0x0C 4) = some x
  home : x.home = s.rank
  alone : (s.library.refits.any fun j => decide (j.model = m.id) && decide (j.layer = leNat b 8 2) && decide (j.expert = leNat b 0x0C 4) && decide (j.phase ≠ .retiring)) = false
  cluster : ((s.fitsFusion m).all fun c => (s.clusterAt c).ovfIeee) = false

/-- The quotas of a refit (R197, R198), and the flash for its new version. -/
structure RefitRoom (s : State) (tenant : Nat) (b : Bytes) (m : Model) (x : Expert) : Prop where
  jobs : (s.library.refits.filter fun j => decide (j.phase ≠ .retiring)).length < 16
  steps : 1 ≤ leNat b 0x10 2 ∧ leNat b 0x10 2 ≤ 64
  tokens : 1 ≤ leNat b 0x14 4 ∧ leNat b 0x14 4 ≤ 16384
  work : s.fits tenant 1 (units (refitWork x.params (leNat b 0x14 4) m.hidden x.vBf16)) = true
  stored : s.fits tenant 2 (units x.bytes + units (refitStateLen x.params x.vBf16)) = true
  groups : pieceCount (objLen x.bytes) + pieceCount (objLen (refitStateLen x.params x.vBf16)) ≤ s.freeGroups

theorem refitBlock_ok (hfields : fieldsOk b [(0, 10), (0x0C, 7), (0x14, 0x20), (0x38, 9), (0x44, 12), (0x80, b.length - 0x80)] = true)
    (hcls : leNat b 0x12 1 ≤ 2) (hdl : leNat b 0x18 8 < 2 ^ 48) (hsrc : leNat b 0x40 1 ≤ 1) :
    (!fieldsOk b [(0, 10), (0x0C, 7), (0x14, 0x20), (0x38, 9), (0x44, 12), (0x80, b.length - 0x80)] ||
      decide (2 < leNat b 0x12 1) || decide (2 ^ 48 ≤ leNat b 0x18 8) || decide (1 < leNat b 0x40 1)) = false := by
  simp only [hfields, Bool.or_eq_false_iff, Bool.not_true, decide_eq_false_iff_not, true_and]
  omega

/-- A refit is no work of class A (R361). -/
theorem refitExpert_of_classA (hfields : fieldsOk b [(0, 10), (0x0C, 7), (0x14, 0x20), (0x38, 9), (0x44, 12), (0x80, b.length - 0x80)] = true)
    (hcls : leNat b 0x12 1 = 0) (hdl : leNat b 0x18 8 < 2 ^ 48) (hsrc : leNat b 0x40 1 ≤ 1) :
    refitExpert id tenant b s = s.complete id stContract := by
  simp only [refitExpert, refitBlock_ok hfields (by omega) hdl hsrc, if_pos hcls, Bool.false_eq_true, if_false]

section
variable {m : Model} {x : Expert}

theorem RefitStands.block_ok (h : RefitStands s tenant b m x) :
    (!fieldsOk b [(0, 10), (0x0C, 7), (0x14, 0x20), (0x38, 9), (0x44, 12), (0x80, b.length - 0x80)] ||
      decide (2 < leNat b 0x12 1) || decide (2 ^ 48 ≤ leNat b 0x18 8) || decide (1 < leNat b 0x40 1)) = false := by
  have hcls := h.cls
  exact refitBlock_ok h.fields (by omega) (by omega) (by rcases h.source with h0 | ⟨h1, -⟩ <;> omega)

theorem RefitStands.target_ok (h : RefitStands s tenant b m x) :
    ¬(m.state ≠ 2 ∨ m.tenant ≠ tenant ∨ m.layers ≤ leNat b 8 2 ∨ m.experts ≤ leNat b 0x0C 4 ∨ (!m.refitOk) = true ∨
      (le 64 b 0x38 ≠ 0 ∧ (!m.added.contains (le 64 b 0x38)) = true) ∨
      (leNat b 0x40 1 = 1 ∧ (s.source b 1 0 (leNat b 0x44 4) (leNat b 0x48 8) 0 tenant).isNone = true)) := by
  have hsource : ¬(leNat b 0x40 1 = 1 ∧ (s.source b 1 0 (leNat b 0x44 4) (leNat b 0x48 8) 0 tenant).isNone = true) := by
    rintro ⟨h1, hnone⟩
    obtain h0 | ⟨-, hsome⟩ := h.source
    · omega
    · simp [Option.isNone_iff_eq_none.mp hnone] at hsome
  simp only [h.loaded, h.owned, h.refits, Nat.not_le.mpr h.layer, Nat.not_le.mpr h.expert, not_and_not_of_imp h.scale.resolve_left, hsource,
    ne_eq, not_true, Bool.not_true, Bool.false_eq_true, or_false, not_false_eq_true]

theorem RefitRoom.quotas_ok (h : RefitRoom s tenant b m x) :
    ¬(16 ≤ (s.library.refits.filter fun j => decide (j.phase ≠ .retiring)).length ∨ (!between 1 (leNat b 0x10 2) 64) = true ∨
      (!between 1 (leNat b 0x14 4) 16384) = true ∨ (!s.fits tenant 1 (units (refitWork x.params (leNat b 0x14 4) m.hidden x.vBf16))) = true ∨
      (!s.fits tenant 2 (units x.bytes + units (refitStateLen x.params x.vBf16))) = true) := by
  simp only [Nat.not_le.mpr h.jobs, between, h.steps, h.tokens, h.work, h.stored, decide_true, Bool.and_self, Bool.not_true,
    Bool.false_eq_true, or_false, not_false_eq_true]

/-- A refit that stands and has room allocates its working set and its new version and is admitted as a job (R197, R199). -/
theorem refitExpert_of_room (h : RefitStands s tenant b m x) (hroom : RefitRoom s tenant b m x) :
    refitExpert id tenant b s =
      (let w := s.allocT1 tenant .work 0 (refitWork x.params (leNat b 0x14 4) m.hidden x.vBf16)
       let n := w.2.allocT2 tenant .weight x.wFmt x.bytes
       let r := n.2.allocT2 tenant .refitState 0 (refitStateLen x.params x.vBf16)
       let t := r.2
       let j : Refit := { job := t.library.nextJob, id := id, model := m.id, tenant := tenant, layer := leNat b 8 2, expert := leNat b 0x0C 4, steps := leNat b 0x10 2, perStep := leNat b 0x14 4, cls := leNat b 0x12 1, hyper := (upTo 5).map fun k => le 32 b (0x20 + 4 * k), newScale := le 64 b 0x38, phase := .streaming, work := w.1, newWeights := n.1, newState := r.1, started := t.frame.num.toNat, poisoned := t.sourceLostData (leNat b 0x40 1) (leNat b 0x44 4) (leNat b 0x48 8) (4 * leNat b 0x10 2 * leNat b 0x14 4 * m.hidden) }
       ({ t with library := { t.library with refits := t.library.refits ++ [j], nextJob := t.library.nextJob + 1 } }).admitRequest id (leNat b 0x12 1) 0 tenant (leNat b 0x18 8) { workCus := 0, stages := 0, fusion := 0, pieces := [] }) := by
  have hcls := h.cls
  have hnotA : leNat b 0x12 1 ≠ 0 := by omega
  have hdeadline : ¬(leNat b 0x12 1 = 1 ∧ leNat b 0x18 8 = 0 ∨ leNat b 0x12 1 = 2 ∧ leNat b 0x18 8 ≠ 0) := by omega
  simp only [refitExpert, h.block_ok, if_neg hnotA, if_neg hdeadline, h.model, if_neg h.target_ok, h.sourceOpen, h.there, ne_eq, h.home,
    not_true, h.alone, h.cluster, if_neg (Nat.not_lt.mpr hroom.groups), Bool.false_eq_true, if_false]
  exact if_neg hroom.quotas_ok

end

section
variable {j : Nat} {r : Refit} (hjob : s.library.refits.find? (fun r => decide (r.job = j)) = some r)
include hjob

theorem refitCommit_of_flag {q : Nat} (hphase : r.phase = .flag) (hflag : r.flagSeq = some q) :
    refitCommit j s = if s.durable q then s.modRefit j fun r => { r with phase := .committed } else s := by
  simp only [refitCommit, hjob, hphase, hflag]

theorem refitShadowTimeout_of_early (hearly : s.frame.num.toNat < r.started + 64) : refitShadowTimeout j s = s := by
  simp only [refitShadowTimeout, hjob, Nat.not_le.mpr hearly, and_false, if_false]

/-- The shadow is late: its copy is given up, and the home goes on to its commit without one (R200). -/
theorem refitShadowTimeout_of_late (hphase : r.phase = .shadow) (hlate : r.started + 64 ≤ s.frame.num.toNat) :
    refitShadowTimeout j s =
      (let l := (s.group.copies.filter fun (c : CopyOut) => decide (c.for_ = CopyFor.refit j)).map fun (c : CopyOut) => c.copyId
       let t := (s.reel.moves.filter fun (m : Move) => m.copyId.any l.contains).foldl (fun (s : State) m => s.abortMove m true) s
       let t := { t with group := { t.group with copies := t.group.copies.filter fun (c : CopyOut) => !decide (c.for_ = CopyFor.refit j) } }
       match t.modelFor r.model with
       | none => t
       | some m =>
         let p := t.newPlace 1 m.id (BitVec.ofNat 32 (r.layer * 65536 + r.expert)) 0 1
         let t := match t.placeOf p with | none => t | some q => (t.storePlace { q with shadow1 := 0xFFFF }).report [{ q with shadow1 := 0xFFFF }]
         let k := r.layer * m.experts + r.expert
         (t.modModel m.id fun m => { m with table := m.table.map fun (y : Nat × Expert) => if y.1 = k then (k, { y.2 with shadow := 0xFFFF, weightsShadow := 0 }) else y }).settleRefits) := by
  rw [refitShadowTimeout, hjob]
  exact if_pos ⟨hphase, hlate⟩

end

/-! Embedding jobs (12 R289, R290; 15 R361). -/

/-- The block of EMBEDDING_JOB, but for class and deadline. -/
structure EmbedBlock (b : Bytes) : Prop where
  fields : fieldsOk b [(0, 0x15), (0x16, 4), (0x20, 9), (0x2C, 0x14), (0x40, b.length - 0x40)] = true
  job : le 16 b 0x12 ≠ 0
  chunk : 16 ≤ leNat b 0x16 2 ∧ leNat b 0x16 2 ≤ 8192
  overlap : 2 * leNat b 0x18 2 ≤ leNat b 0x16 2
  source : leNat b 0x28 1 ≤ 1

/-- What EMBEDDING_JOB asks of the module: shard `x`, a source with the bytes `data`, a loaded model of the tenant with the shard's dimension, a job identifier and a place that are free. -/
structure EmbedStands (s : State) (tenant : Nat) (b : Bytes) (outDim len : Nat) (x : Shard) (m : Model) (data : Bytes) : Prop where
  cls : (leNat b 0x14 1 = 1 ∧ 1 ≤ leNat b 0x20 8 ∧ leNat b 0x20 8 < 2 ^ 48) ∨ (leNat b 0x14 1 = 2 ∧ leNat b 0x20 8 = 0)
  check : s.shardCheck (le 64 b 8) (le 16 b 0x10) tenant = none
  shard : s.shardFor (le 64 b 8) (le 16 b 0x10) = some x
  model : s.modelFor (le 64 b 0) = some m
  length : len = if leNat b 0x28 1 = 0 then b.length - 0x40 else leNat b 0x38 8 * (match s.nsFor (leNat b 0x2C 4) with | some n => n.blockLen | none => 4096)
  sourceOpen : s.sourceClosed (leNat b 0x28 1) (leNat b 0x2C 4) = false
  source : s.source b (leNat b 0x28 1) 0x40 (leNat b 0x2C 4) (leNat b 0x30 8) len tenant = some data
  loaded : m.state = 2
  owned : m.tenant = tenant
  dim : outDim = x.dim
  room : (s.search.jobs.filter fun j => decide (j.state = 1)).length < 64
  fresh : (s.search.jobs.any fun j => decide (j.state = 1) && decide (j.jobId = le 16 b 0x12)) = false

theorem EmbedBlock.block_ok (h : EmbedBlock b) (hcls : leNat b 0x14 1 ≤ 2) (hdl : leNat b 0x20 8 < 2 ^ 48) :
    (!fieldsOk b [(0, 0x15), (0x16, 4), (0x20, 9), (0x2C, 0x14), (0x40, b.length - 0x40)] || decide (2 < leNat b 0x14 1) ||
      decide (le 16 b 0x12 = 0) || !between 16 (leNat b 0x16 2) 8192 || decide (leNat b 0x16 2 < 2 * leNat b 0x18 2) ||
      decide (1 < leNat b 0x28 1) || decide (2 ^ 48 ≤ leNat b 0x20 8)) = false := by
  simp only [h.fields, h.job, between, h.chunk, Nat.not_lt.mpr hcls, Nat.not_lt.mpr h.overlap, Nat.not_lt.mpr h.source, Nat.not_le.mpr hdl,
    decide_true, decide_false, Bool.and_self, Bool.not_true, Bool.or_self]

/-- An embedding job is no work of class A (R361). -/
theorem embeddingJob_of_classA {outDim : Nat} (h : EmbedBlock b) (hcls : leNat b 0x14 1 = 0) (hdl : leNat b 0x20 8 < 2 ^ 48) :
    embeddingJob id tenant b outDim s = s.complete id stContract := by
  simp only [embeddingJob, h.block_ok (by omega) hdl, if_pos hcls, Bool.false_eq_true, if_false]

section
variable {outDim len : Nat} {x : Shard} {m : Model} {data : Bytes}

theorem EmbedStands.target_ok (h : EmbedStands s tenant b outDim len x m data) :
    ¬(m.state ≠ 2 ∨ m.tenant ≠ tenant ∨ outDim ≠ x.dim) := by
  simp only [h.loaded, h.owned, h.dim, ne_eq, not_true, or_self, not_false_eq_true]

theorem EmbedStands.jobs_ok (h : EmbedStands s tenant b outDim len x m data) :
    ¬(64 ≤ (s.search.jobs.filter fun j => decide (j.state = 1)).length ∨
      (s.search.jobs.any fun j => decide (j.state = 1) && decide (j.jobId = le 16 b 0x12)) = true) := by
  simp only [Nat.not_le.mpr h.room, h.fresh, Bool.false_eq_true, or_self, not_false_eq_true]

/-- A job that stands enters the tenant's jobs, of which the oldest that has ended makes room, and is admitted (R290, R367). -/
theorem embeddingJob_of_stands (hblock : EmbedBlock b) (h : EmbedStands s tenant b outDim len x m data) :
    embeddingJob id tenant b outDim s =
      (let bad := if leNat b 0x28 1 = 0 then [] else jobBad s (leNat b 0x2C 4) (leNat b 0x30 8) len
       let j : EmbedJob := { jobId := le 16 b 0x12, id := id, tenant := tenant, model := m.id, index := x.index, shard := x.shard, cls := leNat b 0x14 1, chunk := leNat b 0x16 2, overlap := leNat b 0x18 2, src := data, state := 1, bad := bad }
       let kept := s.search.jobs.filter fun y => !decide (y.jobId = le 16 b 0x12)
       let oldest := if 64 ≤ (kept.filter fun y => decide (y.tenant = tenant)).length then (kept.find? fun y => decide (y.tenant = tenant) && decide (y.state ≠ 1)).map (·.jobId) else none
       (s.modSearch fun g => { g with jobs := (kept.filter fun y => decide (some y.jobId ≠ oldest)) ++ [j] }).admitRequest id (leNat b 0x14 1) 0 tenant (leNat b 0x20 8) { workCus := 0, stages := 0, fusion := 0, pieces := [] }) := by
  have hcls := h.cls
  have hnotA : leNat b 0x14 1 ≠ 0 := by omega
  have hdeadline : ¬(leNat b 0x14 1 = 1 ∧ leNat b 0x20 8 = 0 ∨ leNat b 0x14 1 = 2 ∧ leNat b 0x20 8 ≠ 0) := by omega
  have hsource := h.source
  -- the block length of the source's namespace, if there is one
  cases hns : s.nsFor (leNat b 0x2C 4)
  all_goals
    simp only [h.length, hns] at hsource
    simp only [embeddingJob, hblock.block_ok (by omega) (by omega), if_neg hnotA, if_neg hdeadline, h.check, h.shard, h.model, h.sourceOpen,
      hns, hsource, if_neg h.target_ok, if_neg h.jobs_ok, Bool.false_eq_true, if_false, h.length, jobBad]

end

end

/-- Settles O25: each clause is one case of its operation, which a Cianber command that nothing refuses carries out. -/
theorem contextsAndBatches : Obligations.ContextsAndBatches := by
  unfold Obligations.ContextsAndBatches
  refine ⟨?getContext, ?close, ?closing, ?closeDone, ?batchRefused, ?noModels, ?buddyLate, ?commit, ?shadowEarly, ?refitClassA, ?jobClassA,
    ?opens, ?batch, ?refit, ?shadowLate, ?job, fun h pb s => exec_cianber rfl rfl, fun x s => exec_buddyAckTimeout s x,
    fun h pb s => exec_cianber rfl rfl, fun x s => exec_contextCloseDone s x, fun h pb s => exec_cianber rfl rfl,
    fun h pb p s => exec_cianber rfl rfl, fun h pb s => exec_cianber rfl rfl, fun j s => exec_refitCommit s j,
    fun j s => exec_refitShadowTimeout s j, fun h pb n s => exec_cianber rfl rfl⟩
  case getContext =>
    intro h b s i hr hfields hctx
    exact (startIo_of_cianber rfl hr).trans (getContext_of_ctx hfields hctx)
  case close =>
    intro h b s i hr hfields hctx hstate hopen
    exact (startIo_of_cianber rfl hr).trans (closeContext_of_open hfields hctx hstate hopen)
  case closing =>
    intro h b s i hr hfields hctx hclosing
    exact (startIo_of_cianber rfl hr).trans (closeContext_of_closing hfields hctx hclosing)
  case closeDone =>
    intro x s i hctx hclosing hgone
    rw [exec_contextCloseDone, closeDone_of_gone hctx hclosing hgone]
  case batchRefused =>
    intro h b p s i m t hr hfields hmin hmax hgen hflags hnoRewind hlen hdl hctx hcls hmodel hrefused hquota
    have hstands : BatchStands s h.tenant.toNat b (leNat b 4 4) none i m :=
      { fields := hfields, count := rfl, atLeast := hmin, atMost := hmax, generates := hgen, rewind := by simp [hflags],
        flags := Or.inr ⟨hflags, hnoRewind⟩, length := hlen, deadline := by omega, ctx := hctx, cls := by simp [hcls, hdl], model := hmodel }
    exact (startIo_of_cianber rfl hr).trans (tokenBatch_of_refused hstands hrefused hquota)
  case noModels =>
    intro h b s hr hmodels
    refine (startIo_of_cianber rfl hr).trans ?_
    rw [cianberOp, openContext_of_no_models hmodels]
  case buddyLate =>
    intro x s i hctx hopening hdue
    rw [exec_buddyAckTimeout, buddyTimeout_of_due hctx hopening hdue]
  case commit =>
    intro j s r q hjob hphase hflag
    rw [exec_refitCommit, refitCommit_of_flag hjob hphase hflag]
  case shadowEarly =>
    intro j s r hjob hearly
    rw [exec_refitShadowTimeout, refitShadowTimeout_of_early hjob hearly]
  case refitClassA =>
    intro h b s hr hfields hcls hdl hsrc
    exact (startIo_of_cianber rfl hr).trans (refitExpert_of_classA hfields hcls hdl hsrc)
  case jobClassA =>
    intro h b n s hr hfields hcls hjob hmin hmax hlap hsrc hdl
    exact (startIo_of_cianber rfl hr).trans (embeddingJob_of_classA ⟨hfields, hjob, ⟨hmin, hmax⟩, by omega, hsrc⟩ hcls hdl)
  case opens =>
    intro h b s m i hr hfields hcls hcid hmodel hloaded howned hmin hmax hentry hcontract hquota
    refine (startIo_of_cianber rfl hr).trans ?_
    rw [cianberOp, openContext_of_room ⟨hfields, hcls, hcid, hmodel, hloaded, howned, hmin, hmax, hentry⟩ hcontract hquota]
  case batch =>
    intro h b p s i m n w hr hfields hcount hgen hrewind hflags hlen hdl hctx hcls hmodel htaken hadmits
    obtain ⟨hn, hmin, hmax⟩ := hcount
    exact (startIo_of_cianber rfl hr).trans
      (tokenBatch_of_admitted ⟨hfields, hn, hmin, hmax, hgen, hrewind, hflags, hlen, hdl, hctx, hcls, hmodel⟩ htaken hadmits)
  case refit =>
    intro h b s m x l e cls hr hfields hnames hcls hsource hopen hmodel hm hscale hthere hhome halone hcluster hjobs hcounts hT1 hT2 hgroups
    obtain ⟨rfl, rfl, rfl⟩ := hnames
    obtain ⟨hloaded, howned, hlayer, hexpert, hrefits⟩ := hm
    obtain ⟨hstep, hsteps, htoken, htokens⟩ := hcounts
    exact (startIo_of_cianber rfl hr).trans (refitExpert_of_room
      ⟨hfields, hcls, hsource, hopen, hmodel, hloaded, howned, hlayer, hexpert, hrefits, hscale, hthere, hhome, halone, hcluster⟩
      ⟨hjobs, ⟨hstep, hsteps⟩, ⟨htoken, htokens⟩, hT1, hT2, hgroups⟩)
  case shadowLate =>
    intro j s r hjob hphase hlate
    exact (exec_refitShadowTimeout s j).trans (congrArg (fun t : State => Host.Outcome.next t.settle) (refitShadowTimeout_of_late hjob hphase hlate))
  case job =>
    intro h b data n s x m cls src len hr hfields hnames hcls hjob hchunk hcheck hshard hmodel hlen hopen hsource hm hroom hfresh
    obtain ⟨rfl, rfl, hsrc⟩ := hnames
    obtain ⟨hmin, hmax, hlap⟩ := hchunk
    obtain ⟨hloaded, howned, hdim⟩ := hm
    exact (startIo_of_cianber rfl hr).trans (embeddingJob_of_stands ⟨hfields, hjob, ⟨hmin, hmax⟩, hlap, hsrc⟩
      ⟨hcls, hcheck, hshard, hmodel, hlen, hopen, hsource, hloaded, howned, hdim, hroom, hfresh⟩)

end Sys2Proof.Machine
end

section
/-! SUPPORT. A fetch of a piece with a flash read that fails (09 R218, R224; 13 R310), and the statement on moves, refetches and KV repairs. -/

namespace Sys2Proof.Machine

/-- The first stripe of the piece that a move brings to T1, as the map holds it in slot group 2 (14 R312, R313). -/
def upStripe : StripeRec := { rec0 with stripe := 16 }

/-- The piece of `moveS` with its first stripe in flash, and no stripe of it left to read. -/
def upReadS : State := { moveS with media := { ctrls := List.replicate 8 { ready := true }, map := [(16, upStripe.word)], records := [upStripe] } }

/-- What the fetch of the piece brings: no step of the ladder decoded unit 0 (13 R310). -/
def failedRead : FetchIn := { bad := [], steps := [(0, 5)], data := [], marks := [] }

/-- The end of the fetch makes the move ready and marks the unit, whose second line bore no mark before, and counts no uncorrectable
read: `fetchEnds` takes the units that failed from the ladder, and goes on from the state before it. -/
theorem fetchIn_failedRead {t : State}
    (ht : t = fetchIn mv0.addr mv0.piece failedRead.bad failedRead.steps failedRead.data failedRead.marks upReadS) :
    t.reel.moves.map (·.ready) = [true] ∧ t.markedObj (mv0.addr + 64) 64 = true ∧ t.media.health.uncorrected = 0 := by
  subst ht
  decide +kernel

/-- Refutes O36: its first clause goes on from the state that the ladder leaves, and so counts the uncorrectable read of `failedRead`
(13 R310), which FETCH_DONE does not. -/
theorem not_reelMoves : ¬ Obligations.ReelMoves := by
  unfold Obligations.ReelMoves
  rintro ⟨hfetched, -⟩
  have hobj : upReadS.objFor mv0.addr = some wObj := by decide +kernel
  have hclause := hfetched mv0.addr mv0.piece failedRead.bad failedRead.steps failedRead.data failedRead.marks upReadS wObj mv0
    rfl rfl rfl rfl rfl hobj (List.mem_singleton_self mv0) rfl rfl rfl rfl rfl
  obtain ⟨-, -, huncounted⟩ := fetchIn_failedRead (Host.Outcome.next.inj hclause).symm
  exact absurd huncounted (by decide +kernel)

end Sys2Proof.Machine
end

section
/-! SUPPORT. Messages of the Bridle: what arrives, drop notices, dispatches sent again (10 R239 to R244), and the statement on them. -/

namespace Sys2Proof.Machine

section
variable {s : State}

/-! The rows do their operations, whatever the state. -/

theorem exec_bridleMessage (m : MessageIn) (t : Nat) : exec (.bridleMessage m t) s = .next (messageIn m.net.val m.msg t s) := rfl

theorem exec_dropNotice (b : Bytes) : exec (.dropNotice b) s = .next (if s.bridle.inReset then s else s.brdNoticed b) := rfl

theorem exec_dispatchTimeout (ctx pos : W32) (layer : W16) (slot : Byte) :
    exec (.dispatchTimeout ctx pos layer slot) s = .next (s.brdTimeout ctx pos layer slot) := rfl

/-! What a module that takes messages does with one (R241). -/

/-- A module stopped from taking messages: no image, the safe state, a Spar reset, not up, or in Hold (02 R52; 18 R432). -/
theorem messages_stopped_iff :
    (s.bare || s.safe || s.sparReset || s.inHold || decide (s.phase ≠ .up)) = true ↔ s.dispatching = false ∨ s.inHold = true := by
  unfold State.dispatching
  cases s.bare <;> cases s.safe <;> cases s.sparReset <;> cases s.inHold <;> simp

section
variable {net : Nat} {b : Bytes} {t : Nat}

theorem messageIn_of_stopped (h : s.dispatching = false ∨ s.inHold = true) : messageIn net b t s = s :=
  if_pos (messages_stopped_iff.mpr h)

/-- A message taken, with nothing spoilt in the Bridle's staging. -/
theorem messageIn_of_taken (hup : s.dispatching = true) (hhold : s.inHold = false) (hm : s.parity.masks = []) :
    messageIn net b t s = (s.brdTake net b t false).settle := by
  have hgoes : ¬(s.dispatching = false ∨ s.inHold = true) := by simp [hup, hhold]
  simp only [messageIn, if_neg (mt messages_stopped_iff.mp hgoes), State.staged_of_masks_nil _ hm]

/-- The clock moving on to `t` leaves the group's frame, the time of the last tick, the module's rank and the members as they are. -/
theorem State.advance_bridle_reads (t : Nat) : (s.advance t).groupFrame = s.groupFrame ∧ (s.advance t).frame.tickTime = s.frame.tickTime ∧
    (s.advance t).rank = s.rank ∧ (s.advance t).memberRank = s.memberRank :=
  ⟨rfl, rfl, rfl, rfl⟩

section
variable (hreset : s.bridle.inReset = false)
include hreset

/-- A message that keeps R239 and R240 for this module is counted, as late too where it is, and its records are placed in order (R241). -/
theorem brdTake_of_kept (hok : brdOk b = true) (hrank : leNat b 0x0A 2 = s.rank) (hmember : s.memberRank (leNat b 8 2) = true)
    (hlens : (s.advance t).brdLens b = true) :
    s.brdTake net b t false =
      (let s1 := s.advance t
       (upTo (leNat b 6 2)).foldl (fun (s : State) i => s.placeRec (leNat b 8 2) (le 64 b 0x18) (readBRec b i) (leNat b 0x10 6))
        { s1 with bridle := { s1.bridle with rx := s1.bridle.rx + 1, lateCnt := if leNat b 0x10 6 < s.groupFrame.toNat ∨ s.frame.tickTime + 250000 < t then satInc s1.bridle.lateCnt else s1.bridle.lateCnt } }) := by
  obtain ⟨hframe, htick, hrank', hmember'⟩ := s.advance_bridle_reads t
  simp only [State.brdTake, State.advance_bridle, hreset, hok, hrank', hmember', hrank, hmember, hlens, hframe, htick, decide_true,
    Bool.and_self, Bool.false_and, Bool.or_eq_true, decide_eq_true_eq, Bool.false_eq_true, if_true, if_false]

/-- A message that breaks R239 or R240 is counted, and its sender gets a drop notice (R242). -/
theorem brdTake_of_broken (hbad : brdOk b = false) :
    s.brdTake net b t false =
      (let u := s.advance t
       let v : State := { u with bridle := { u.bridle with badCnt := satInc u.bridle.badCnt } }
       if s.memberRank (leNat b 8 2) = true ∧ leNat b 8 2 ≠ s.rank then
         let w := v.send net (leNat b 8 2) (brdNotice s.rank (leNat b 8 2) (leNat b 0x10 6) (le 64 b 0x18) (leNat b 0x20 4))
         { w with bridle := { w.bridle with tx := w.bridle.tx + 1 } }
       else v) := by
  simp only [State.brdTake, State.advance_bridle, hreset, hbad, Bool.false_and, Bool.false_eq_true, if_false]
  rfl

end

end

/-- A drop notice for this module marks the message it names (R242). -/
theorem brdNoticed_of_ok {b : Bytes} (hlen : b.length = 64) (hmagic : leNat b 0 4 = 0x4C445242) (hversion : leNat b 4 1 = 1)
    (h5 : zeros b 5 1 = true) (hcount : leNat b 6 2 = 0) (htotal : leNat b 0x0C 4 = 64) (hmap : leNat b 0x24 4 = 0)
    (h28 : zeros b 0x28 24 = true) (h16 : zeros b 0x16 2 = true) (hrank : leNat b 0x0A 2 = s.rank) :
    s.brdNoticed b = { s with bridle := { s.bridle with sentMsgs := s.bridle.sentMsgs.map fun m => if m.toRank = leNat b 8 2 ∧ m.seq = leNat b 0x20 4 then { m with resend := true } else m } } := by
  simp only [State.brdNoticed, hlen, hmagic, hversion, h5, hcount, htotal, hmap, h28, h16, hrank, decide_true, Bool.and_self, if_true]

end

/-- Settles O37: a message is taken or not, keeps R239 and R240 or not, and each case is one equation of what the Bridle does. -/
theorem bridleMessages : Obligations.BridleMessages := by
  unfold Obligations.BridleMessages
  refine ⟨?kept, ?broken, ?stopped, ?notice, fun ctx pos layer slot s => exec_dispatchTimeout ctx pos layer slot,
    fun m t s => exec_bridleMessage m t, fun b s => exec_dropNotice b⟩
  case kept =>
    rintro net b t s _ hup hhold hreset hm rfl hok hrank hmember hlens
    rw [exec_bridleMessage, messageIn_of_taken hup hhold hm, brdTake_of_kept hreset hok hrank hmember hlens]
  case broken =>
    intro net b t s hup hhold hreset hm hbad
    rw [exec_bridleMessage, messageIn_of_taken hup hhold hm, brdTake_of_broken hreset hbad]
  case stopped =>
    intro net b t s hstopped
    rw [exec_bridleMessage, messageIn_of_stopped hstopped]
  case notice =>
    intro b s hreset hlen hmagic hversion h5 hcount htotal hmap h28 h16 hrank
    rw [exec_dropNotice, hreset, if_neg Bool.false_ne_true, brdNoticed_of_ok hlen hmagic hversion h5 hcount htotal hmap h28 h16 hrank]

end Sys2Proof.Machine
end

section
/-! SUPPORT. Loading, unloading and listing models (10 R231 to R234; 15 R361, R362), and the statement on them. -/

namespace Sys2Proof.Machine

section
variable {s : State} {id : CmdId} {tenant : Nat} {b : Bytes} {m : Model}

/-- The row of a load left without DATA does its operation, whatever the state. -/
theorem exec_modelLoadTimeout (k : W64) : exec (.modelLoadTimeout k) s = .next (loadTimeout k s).settle := rfl

theorem loadTimeout_of_due {k : W64} (hmodel : s.modelFor k = some m) (hloading : m.state = 1) (hidle : m.waiter = none)
    (hdue : m.lastData + 4096 ≤ s.frame.num.toNat) : loadTimeout k s = s.releaseModel m := by
  simp only [loadTimeout, hmodel, hloading, hidle, hdue, Option.isNone_none, and_self, if_true]

/-! BEGIN (R231, R233, R362). -/

/-- A key in use is an invalid field (R233), and a bad block is answered with the same. -/
theorem loadBegin_of_used (hmodel : s.modelFor (le 64 b 8) = some m) : loadBegin id tenant b s = s.complete id stInvalidField := by
  simp only [loadBegin, hmodel, Option.isSome_some, if_true, ite_self]

/-- What BEGIN asks: its block with an entry that R231 and R233 accept, a free key, and a cluster and a quota for the model, in the image in force and in a pending one. -/
structure BeginStands (s : State) (tenant : Nat) (b : Bytes) : Prop where
  op : byteAt b 0 = 1
  length : b.length = 0x90
  fields : fieldsOk b [(0, 1), (8, 8), (0x10, 128)] = true
  entry : entryOk (le 64 b 8) b 0x10 = true
  free : s.modelFor (le 64 b 8) = none
  bits : (readModel b 0x10).weightBits ≤ 1600000000000000
  cluster : s.fitsFusion (readModel b 0x10) ≠ []
  pendingCluster : s.pendingFits (readModel b 0x10).fusion = true
  pendingTenant : (s.loft.pending.any fun p => (p.image.tenant? tenant).isNone) = false

/-- The model of BEGIN's entry comes under load (R233). -/
theorem loadBegin_of_stands (h : BeginStands s tenant b) :
    loadBegin id tenant b s =
      (let m := { readModel b 0x10 with tenant := tenant, state := 1, lastData := s.frame.num.toNat }
       ({ s with library := { s.library with models := s.library.models ++ [m] } }).complete id stOk 0 0 m.entry) := by
  obtain ⟨hop, hlen, hfields, hentry, hfree, hbits, hcluster, hpending, htenant⟩ := h
  simp only [loadBegin, hop, hlen, hfields, hentry, hfree, Nat.not_lt.mpr hbits, List.isEmpty_eq_false_iff.mpr hcluster, hpending, htenant,
    ne_eq, not_true, decide_false, Bool.not_true, Bool.or_self, Option.isSome_none, Bool.false_eq_true, if_false]

/-! DATA (R361, R362). -/

/-- No model is there to give data or a scale table to. -/
theorem modelFor_of_no_models (hmodels : s.library.models = []) (k : W64) : s.modelFor k = none := by
  simp [State.modelFor, hmodels]

theorem loadData_of_no_models (hmodels : s.library.models = []) : loadData id tenant b s = s.complete id stInvalidField := by
  simp only [loadData, modelFor_of_no_models hmodels, ite_self]

theorem loadAddScale_of_no_models (hmodels : s.library.models = []) : loadAddScale id tenant b s = s.complete id stInvalidField := by
  simp only [loadAddScale, modelFor_of_no_models hmodels, ite_self]

/-- The block of DATA: `n` bytes of source `src` for object `obj`. -/
structure DataBlock (b : Bytes) (obj n src : Nat) : Prop where
  object : leNat b 0x10 2 = obj
  count : leNat b 0x20 4 = n
  source : leNat b 0x24 1 = src
  fields : fieldsOk b [(0, 1), (8, 8), (0x10, 0x15), (0x28, 4), (0x30, 8), (0x40, b.length - 0x40)] = true
  atLeast : 1 ≤ n
  atMost : n ≤ 1048576
  objects : obj ≤ 6
  sources : src ≤ 1
  length : b.length = 0x40 + if src = 0 then n else 0

theorem DataBlock.ok {obj n src : Nat} (h : DataBlock b obj n src) :
    (!fieldsOk b [(0, 1), (8, 8), (0x10, 0x15), (0x28, 4), (0x30, 8), (0x40, b.length - 0x40)] || decide (1048576 < n) || decide (n = 0) ||
      decide (6 < obj) || decide (src = 1 ∧ b.length ≠ 0x40) || decide (src = 0 ∧ b.length ≠ 0x40 + n)) = false := by
  obtain ⟨-, -, -, hfields, hmin, hmax, hobj, hsrc, hlen⟩ := h
  simp only [hfields, Bool.or_eq_false_iff, Bool.not_true, decide_eq_false_iff_not, true_and]
  split at hlen <;> omega

/-- The object that DATA names: object `obj` of layer `l` and expert `e` of a model of the tenant under load, within the model's limits, up to byte `n`. -/
structure DataTarget (s : State) (tenant : Nat) (b : Bytes) (m : Model) (obj l e n : Nat) : Prop where
  model : s.modelFor (le 64 b 8) = some m
  loading : m.state = 1
  owned : m.tenant = tenant
  idle : m.waiter = none
  layer : l < m.layers
  expert : e < m.experts
  perExpert : obj = 1 ∨ obj = 6 ∨ (l = 0 ∧ e = 0)
  refits : obj = 5 ∨ obj = 6 → m.refitOk = true
  table : obj = 2 → n ≤ m.layers * m.experts * 64

theorem DataTarget.ok {obj l e n : Nat} (h : DataTarget s tenant b m obj l e n) :
    ¬(m.state ≠ 1 ∨ m.tenant ≠ tenant ∨ m.waiter.isSome = true ∨ m.layers ≤ l ∨ m.experts ≤ e ∨
      (¬(obj = 1 ∨ obj = 6) ∧ (l ≠ 0 ∨ e ≠ 0)) ∨ ((obj = 5 ∨ obj = 6) ∧ (!m.refitOk) = true) ∨
      (obj = 2 ∧ m.layers * m.experts * 64 < n)) := by
  obtain ⟨-, hloading, howned, hidle, hlayer, hexpert, hper, hrefits, htable⟩ := h
  have hperExpert : ¬(¬(obj = 1 ∨ obj = 6) ∧ (l ≠ 0 ∨ e ≠ 0)) := by omega
  have hends : ¬(obj = 2 ∧ m.layers * m.experts * 64 < n) := fun h => Nat.not_lt.mpr (htable h.1) h.2
  simp only [hloading, howned, hidle, Nat.not_le.mpr hlayer, Nat.not_le.mpr hexpert, hperExpert, not_and_not_of_imp hrefits, hends,
    ne_eq, not_true, Option.isSome_none, Bool.false_eq_true, or_self, not_false_eq_true]

/-- The source of DATA and the room for the object it makes or makes longer. -/
structure DataRoom (s : State) (tenant : Nat) (b : Bytes) (m : Model) (obj l e ofs n src : Nat) (data : Bytes) : Prop where
  sourceOpen : s.sourceClosed src (leNat b 0x28 4) = false
  source : s.source b src 0x40 (leNat b 0x28 4) (leNat b 0x30 8) n tenant = some data
  sourceWhole : s.sourceLostData src (leNat b 0x28 4) (leNat b 0x30 8) n = false
  quota : s.fits tenant 2 ((objLen (loadLen m obj l e (ofs + n)) - (match m.loadObj obj l e with | none => 0 | some o => objLen o.len)) / 65536) = true
  groups : pieceCount (objLen (loadLen m obj l e (ofs + n))) ≤ s.freeGroups

/-- DATA makes the object or makes it longer, writes the bytes and notes the range and the frame; of the expert table it takes parameters and formats (R362). -/
theorem loadData_of_room {data : Bytes} {obj l e ofs n src : Nat} (hblock : DataBlock b obj n src)
    (hl : leNat b 0x12 2 = l) (he : leNat b 0x14 4 = e) (hofs : leNat b 0x18 8 = ofs)
    (h : DataTarget s tenant b m obj l e (ofs + n)) (hroom : DataRoom s tenant b m obj l e ofs n src data) :
    loadData id tenant b s =
      (let old := m.loadObj obj l e
       let len := loadLen m obj l e (ofs + n)
       let r := s.growObj tenant (loadKind obj) (if obj = 1 then (match m.expertAt l e with | some x => x.wFmt | none => 0) else 0) old len
       let t := r.2.writeObj (r.1 + BitVec.ofNat 64 ofs) data
       let o : LoadObj := { object := obj, layer := l, expert := e, addr := r.1, len := len, written := (match old with | none => [] | some o => o.written) ++ [(ofs, n)] }
       let t := t.modModel (le 64 b 8) fun m => { m with objs := (m.objs.filter fun x => !x.is obj l e) ++ [o], lastData := t.frame.num.toNat }
       let t := if obj ≠ 2 then t else t.modModel (le 64 b 8) fun m =>
         { m with table := (upTo (len / 64)).map fun k => (k, ({ home := t.rank, params := leNat (t.readObj r.1 len) (64 * k + 0x20) 8, wFmt := byteAt (t.readObj r.1 len) (64 * k + 0x28) } : Expert)) }
       t.complete id stOk) := by
  obtain ⟨hopen, hsource, hwhole, hquota, hgroups⟩ := hroom
  unfold loadLen at hquota hgroups
  unfold loadData
  simp only [hblock.object, hblock.count, hblock.source, hl, he, hofs, hblock.ok, h.model, if_neg h.ok, hopen, hsource, hwhole,
    Bool.false_eq_true, if_false]
  exact (if_neg (ne_true_of_eq_false (congrArg not hquota))).trans (if_neg (Nat.not_lt.mpr hgroups))

/-! COMMIT and ABANDON of a model under load (R233, R362). -/

section
variable (hfields : fieldsOk b [(0, 1), (8, 8)] = true) (hmodel : s.modelFor (le 64 b 8) = some m) (hloading : m.state = 1)
  (howned : m.tenant = tenant) (hidle : m.waiter = none)
include hfields hmodel hloading howned hidle

theorem loadAbandon_of_own : loadAbandon id tenant b s = (s.releaseModel m).complete id stOk := by
  simp only [loadAbandon, hfields, hmodel, hloading, howned, hidle, ne_eq, not_true, Bool.not_true, Option.isSome_none, Bool.false_eq_true,
    or_self, if_false]

/-- COMMIT gives back a model that is not whole or whose scale tables are bad, and one that flash has no room for; any other waits for its writes (R233). -/
theorem loadCommit_of_own :
    loadCommit id tenant b s =
      if !m.whole s.m2bf16 || !s.loadTablesOk m then (s.releaseModel m).complete id stInvalidField
      else if (s.storeObjs (m.objs.map (·.addr))).1 = false then (s.releaseModel m).complete id stCapacity
      else (s.storeObjs (m.objs.map (·.addr))).2.modModel m.id fun m => { m with waiter := some id } := by
  simp only [loadCommit, hfields, hmodel, hloading, howned, hidle, ne_eq, not_true, Bool.not_true, Option.isSome_none, Bool.false_eq_true,
    or_self, if_false, Bool.not_eq_true']

end

/-! What is done with loaded models: ADD_SCALE, Unload and List (R234, R361, R362). -/

/-- A valid table with room for it is stored, and the command waits for its write (R362). -/
theorem loadAddScale_of_room (hfields : fieldsOk b [(0, 1), (8, 8), (0x40, b.length - 0x40)] = true)
    (hmodel : s.modelFor (le 64 b 8) = some m) (hloaded : m.state = 2) (howned : m.tenant = tenant)
    (htable : scaleTableOk (b.drop 0x40) = true) (hlen : scaleTableLen (b.drop 0x40) = (b.drop 0x40).length)
    (hquota : s.fits tenant 2 (units (b.drop 0x40).length) = true) (hgroups : pieceCount (objLen (b.drop 0x40).length) ≤ s.freeGroups) :
    loadAddScale id tenant b s =
      (let r := s.allocT2 tenant .scale 0 (b.drop 0x40).length
       let q := (r.2.writeObj r.1 (b.drop 0x40)).storeObj r.1
       if q.1 = false then s.complete id stCapacity else
         let t := q.2.modModel m.id fun m => { m with added := m.added ++ [r.1] }
         { t with library := { t.library with waits := t.library.waits ++ [{ id := id, addrs := [r.1], dw0 := 0, data := toLe r.1.toNat 8 }] } }) := by
  simp only [loadAddScale, hfields, hmodel, hloaded, howned, htable, hlen, hquota, Nat.not_lt.mpr hgroups, ne_eq, not_true, Bool.not_true,
    Bool.false_eq_true, or_self, if_false, Bool.not_eq_true']

section
variable (hfields : fieldsOk b [(0, 8)] = true) (hmodel : s.modelFor (le 64 b 0) = some m) (hloaded : m.state = 2)
  (howned : m.tenant = tenant)
include hfields hmodel hloaded howned

/-- What Unload does with a loaded model of the tenant turns on who uses it (R234). -/
theorem modelUnload_of_loaded :
    modelUnload id tenant b s =
      if (s.library.contexts.any fun e => decide (e.2.state ≠ 0) && decide (e.2.model = m.id)) ||
          s.library.refits.any fun j => decide (j.model = m.id) && decide (j.phase ≠ .retiring) then s.complete id stSequence
      else s.modModel m.id fun m => { m with state := 3, waiter := some id } := by
  simp only [modelUnload, hfields, hmodel, hloaded, howned, ne_eq, not_true, Bool.not_true, Bool.false_eq_true, or_self, if_false]

theorem modelUnload_of_unused (hcontexts : s.library.contexts = []) (hrefits : s.library.refits = []) :
    modelUnload id tenant b s = s.modModel m.id fun m => { m with state := 3, waiter := some id } := by
  simp [modelUnload_of_loaded hfields hmodel hloaded howned, hcontexts, hrefits]

theorem modelUnload_of_context
    (hcontext : (s.library.contexts.any fun e => decide (e.2.state ≠ 0) && decide (e.2.model = m.id)) = true) :
    modelUnload id tenant b s = s.complete id stSequence := by
  rw [modelUnload_of_loaded hfields hmodel hloaded howned, hcontext, Bool.true_or, if_pos rfl]

end

theorem listModels_of_fields (hfields : fieldsOk b [(0, 8)] = true) :
    listModels id tenant b s =
      (let l := sortBy (fun (a c : Model) => decide (a.id < c.id)) (s.library.models.filter fun m => decide (m.tenant = tenant) && decide (le 64 b 0 ≤ m.id))
       s.complete id stOk (BitVec.ofNat 32 (min l.length (match s.resLenOf id with | none => l.length | some n => n / 128))) 0 (l.foldl (fun d m => d ++ m.entry) [])) := by
  rw [listModels, hfields]
  rfl

end

/-- Settles O24: each clause is one case of its operation, which a Cianber command that nothing refuses carries out. -/
theorem modelCommands : Obligations.ModelCommands := by
  unfold Obligations.ModelCommands
  refine ⟨?used, ?abandon, ?commit, ?noModels, ?unload, ?unloadUsed, ?list, ?timeout, ?begins, ?data, ?addScale,
    fun h pb s hop => exec_cianber rfl hop, fun h pb s hop => exec_cianber rfl hop, fun h pb s hop => exec_cianber rfl hop,
    fun h pb s hop => exec_cianber rfl hop, fun h pb s hop => exec_cianber rfl hop, fun k s => exec_modelLoadTimeout k,
    fun h pb s => exec_cianber rfl rfl, fun h pb s => exec_cianber rfl rfl⟩
  case used =>
    intro h b s m hr hmodel
    exact (startIo_of_cianber rfl hr).trans (loadBegin_of_used hmodel)
  case abandon =>
    intro h b s m hr hfields hmodel hloading howned hidle
    exact (startIo_of_cianber rfl hr).trans (loadAbandon_of_own hfields hmodel hloading howned hidle)
  case commit =>
    intro h b s m hr hfields hmodel hloading howned hidle
    exact (startIo_of_cianber rfl hr).trans (loadCommit_of_own hfields hmodel hloading howned hidle)
  case noModels =>
    intro h b s hr hmodels
    exact ⟨(startIo_of_cianber rfl hr).trans (loadData_of_no_models hmodels),
      (startIo_of_cianber rfl hr).trans (loadAddScale_of_no_models hmodels)⟩
  case unload =>
    intro h b s m hr hfields hmodel hloaded howned hcontexts hrefits
    exact (startIo_of_cianber rfl hr).trans (modelUnload_of_unused hfields hmodel hloaded howned hcontexts hrefits)
  case unloadUsed =>
    intro h b s m hr hfields hmodel hloaded howned hcontext
    exact (startIo_of_cianber rfl hr).trans (modelUnload_of_context hfields hmodel hloaded howned hcontext)
  case list =>
    intro h b s hr hfields
    exact (startIo_of_cianber rfl hr).trans (listModels_of_fields hfields)
  case timeout =>
    intro k s m hmodel hloading hidle hdue
    rw [exec_modelLoadTimeout, loadTimeout_of_due hmodel hloading hidle hdue]
  case begins =>
    intro h b s hr hop hlen hfields hentry hfree hbits hcluster hpending htenant
    exact (startIo_of_cianber rfl hr).trans
      (loadBegin_of_stands ⟨hop, hlen, hfields, hentry, hfree, hbits, hcluster, hpending, htenant⟩)
  case data =>
    intro h b data s m obj l e ofs n src hr hnames hfields hlimits hlen hmodel hm hopen hplace hper hrefits htable hsource hwhole hquota hgroups
    obtain ⟨hobj, hl, he, hofs, hn, hsrc⟩ := hnames
    obtain ⟨hmin, hmax, hobjects, hsources⟩ := hlimits
    obtain ⟨hloading, howned, hidle⟩ := hm
    obtain ⟨hlayer, hexpert⟩ := hplace
    exact (startIo_of_cianber rfl hr).trans (loadData_of_room
      ⟨hobj, hn, hsrc, hfields, hmin, hmax, hobjects, hsources, hlen⟩ hl he hofs
      ⟨hmodel, hloading, howned, hidle, hlayer, hexpert, hper, hrefits, htable⟩ ⟨hopen, hsource, hwhole, hquota, hgroups⟩)
  case addScale =>
    intro h b s m hr hfields hmodel hloaded howned htable hlen hquota hgroups
    exact (startIo_of_cianber rfl hr).trans (loadAddScale_of_room hfields hmodel hloaded howned htable hlen hquota hgroups)

end Sys2Proof.Machine
end

section
/-! SUPPORT. The bits in which two sketches differ, byte by byte and all in a row (12 R268), and the statement on the sketch distance. -/

namespace Sys2Proof.Machine

theorem sumBy_eq_sum_map {α : Type} (f : α → Nat) (l : List α) : sumBy f l = (l.map f).sum := by
  rw [sumBy, List.sum_eq_foldl, List.foldl_map]

theorem sumBy_congr {α : Type} {f g : α → Nat} {l : List α} (h : ∀ a ∈ l, f a = g a) : sumBy f l = sumBy g l := by
  rw [sumBy_eq_sum_map, sumBy_eq_sum_map, List.map_congr_left h]

/-- A sum over `n` rows of `m` places, with place `j` of row `i` at `m * i + j`. -/
theorem sumBy_upTo_mul (f : Nat → Nat) (m n : Nat) :
    sumBy f (upTo (m * n)) = sumBy (fun i => sumBy (fun j => f (m * i + j)) (upTo m)) (upTo n) := by
  simp only [sumBy_eq_sum_map, upTo]
  induction n with
  | zero => rfl
  | succ n ih => simp [Nat.mul_succ, List.range_add, List.range_succ, ih, Function.comp_def]

theorem sumBy_b2n {α : Type} (p : α → Bool) (l : List α) : sumBy (fun a => b2n (p a)) l = l.countP p := by
  rw [sumBy_eq_sum_map]
  induction l with
  | nil => rfl
  | cons a l ih => rw [List.map_cons, List.sum_cons, ih, List.countP_cons, b2n, Nat.add_comm]

theorem popcount_xor {w : Nat} (u v : BitVec w) : popcount (u ^^^ v) = sumBy (fun i => b2n (bit u i != bit v i)) (upTo w) := by
  simp [popcount, bit]

/-- Place `j` of byte `i` (R268). -/
theorem sketchBit_of_byte (x : Bytes) (i : Nat) {j : Nat} (hj : j < 8) : sketchBit x (8 * i + j) = bit (byteAt x i) j := by
  have hdiv : (8 * i + j) / 8 = i := by omega
  have hmod : (8 * i + j) % 8 = j := by omega
  rw [sketchBit, hdiv, hmod]

/-- Two signs have product 1 where their bits agree, and -1 where they differ. -/
theorem sign_mul_sign (p q : Bool) :
    (if p then (1 : Int) else -1) * (if q then 1 else -1) = 1 - 2 * (b2n (p != q) : Int) := by
  cases p <;> cases q <;> rfl

/-- The inner product of two sign vectors is their length less twice the number of places in which they differ. -/
theorem sum_sign_mul_sign {α : Type} (p q : α → Bool) (l : List α) :
    (l.map fun a => (if p a then (1 : Int) else -1) * (if q a then 1 else -1)).sum =
      l.length - 2 * (sumBy (fun a => b2n (p a != q a)) l : Int) := by
  simp only [sign_mul_sign, sumBy_eq_sum_map]
  induction l with
  | nil => rfl
  | cons a l ih =>
    simp only [List.map_cons, List.sum_cons, List.length_cons, ih]
    omega

/-- The XOR's bits, byte by byte, are the differing bits of the 1,024 in a row. -/
theorem sketchDist_eq_differing_bits (x y : Bytes) :
    sketchDist x y = sumBy (fun b => b2n (sketchBit x b != sketchBit y b)) (upTo 1024) := by
  rw [sketchDist, sumBy_upTo_mul _ 8 128]
  refine sumBy_congr fun i _ => ?_
  rw [bytePop, popcount_xor]
  refine sumBy_congr fun j hj => ?_
  have hj8 : j < 8 := List.mem_range.mp hj
  rw [sketchBit_of_byte x i hj8, sketchBit_of_byte y i hj8]

theorem sketchDist_le (x y : Bytes) : sketchDist x y ≤ 1024 := by
  rw [sketchDist_eq_differing_bits, sumBy_b2n]
  exact List.countP_le_length.trans_eq List.length_range

/-- Settles O60: the distance counts the differing bits byte by byte, and each of them takes 2 from the 1,024 that equal sketches have. -/
theorem sketchDistance : Obligations.SketchDistance := by
  unfold Obligations.SketchDistance
  intro x y _ _
  refine ⟨sketchDist_eq_differing_bits x y, sketchDist_le x y, ?_⟩
  rw [sum_sign_mul_sign, ← sketchDist_eq_differing_bits, upTo, List.length_range]
  rfl

end Sys2Proof.Machine
end

section
/-! SUPPORT. The canonical form of the parity stores (18 R423), and what branches, matches and folds do to it. -/

/-! The lemmas of this section and of those below are elaborated one after another: it keeps the compile of the whole text within the check's memory. -/

set_option Elab.async false

namespace Sys2Proof.Machine

/-- The armed flip masks and the stored parity errors are in canonical form. -/
def Parity.canon (p : Parity) : Bool := Sparse.wf (0 : W32) p.masks && Sparse.wf false p.bad

/-- The state's parity stores are in canonical form. -/
def State.canon (s : State) : Bool := s.parity.canon

theorem Parity.canon_iff (p : Parity) : p.canon = true ↔ Sparse.wf (0 : W32) p.masks = true ∧ Sparse.wf false p.bad = true :=
  Bool.and_eq_true_iff

theorem State.canonical_iff (s : State) : s.Canonical ↔ s.canon = true := (Parity.canon_iff _).symm

@[simp ↓] theorem State.parity_canon (s : State) : s.parity.canon = s.canon := rfl

/-- An update is canonical as the parity that it holds. -/
@[simp ↓] theorem State.canon_mk (pending phase frame loft clusters sched sparReset reel library bridle search media host tether group drogue parity gondola sec power dbg draws) :
    (State.mk pending phase frame loft clusters sched sparReset reel library bridle search media host tether group drogue parity gondola sec power dbg draws).canon = parity.canon := by rfl

/-- Counts and the record of the last error are no part of the two stores. -/
@[simp ↓] theorem Parity.canon_mk (p : Parity) (flipCnt lastValid lastGroup poisonCnt) :
    (Parity.mk p.masks p.bad flipCnt lastValid lastGroup poisonCnt).canon = p.canon := by rfl

/-- Parity errors that go or come, in canonical form. -/
@[simp] theorem Parity.canon_bad {p : Parity} {bad : Marks} {flipCnt lastValid lastGroup poisonCnt} (hp : p.canon = true)
    (hb : Sparse.wf false bad = true) : (Parity.mk p.masks bad flipCnt lastValid lastGroup poisonCnt).canon = true :=
  (Parity.canon_iff _).2 ⟨((Parity.canon_iff p).1 hp).1, hb⟩

section
variable {β : Type} (c : Prop) [Decidable c]

@[simp ↓] theorem ite_canon (s t : State) : (if c then s else t).canon = if c then s.canon else t.canon := apply_ite _ _ _ _
@[simp ↓] theorem ite_snd_canon (s t : β × State) : (if c then s else t).2.canon = if c then s.2.canon else t.2.canon := by split <;> rfl
@[simp ↓] theorem ite_fst_canon (s t : State × β) : (if c then s else t).1.canon = if c then s.1.canon else t.1.canon := by split <;> rfl

theorem ite_keeps_canon {b : Bool} {s t : State} (hs : c → s.canon = b) (ht : ¬c → t.canon = b) : (if c then s else t).canon = b := by
  split
  · exact hs ‹_›
  · exact ht ‹_›

end

/-- A pair's state keeps the canonical form under the name that a match gives it. -/
theorem canon_of_eq {β : Type} {p : β × State} {b : β} {t : State} {q : Bool} (h : p = (b, t)) (hp : p.2.canon = q) :
    t.canon = q := by
  subst h; exact hp

section
variable {α β γ : Type}

@[simp ↓] theorem foldl_keeps_canon {f : State → α → State} (h : ∀ s a, s.canon = true → (f s a).canon = true) (l : List α) (s : State)
    (hs : s.canon = true) : (l.foldl f s).canon = true :=
  foldl_keeps_of (g := State.canon) h l s hs

@[simp ↓] theorem foldl_snd_keeps_canon {f : β × State → α → β × State} (h : ∀ x a, x.2.canon = true → (f x a).2.canon = true) (l : List α)
    (x : β × State) (hx : x.2.canon = true) : (l.foldl f x).2.canon = true :=
  foldl_keeps_of (g := fun x => x.2.canon) h l x hx

@[simp ↓] theorem foldl_fst_keeps_canon {f : State × β → α → State × β} (h : ∀ x a, x.1.canon = true → (f x a).1.canon = true) (l : List α)
    (x : State × β) (hx : x.1.canon = true) : (l.foldl f x).1.canon = true :=
  foldl_keeps_of (g := fun x => x.1.canon) h l x hx

@[simp ↓] theorem foldl_canon {f : State → α → State} (h : ∀ s a, (f s a).canon = s.canon) (l : List α) (s : State) :
    (l.foldl f s).canon = s.canon :=
  foldl_keeps_of (g := State.canon) (fun t a ht => (h t a).trans ht) l s rfl

@[simp ↓] theorem foldl_snd_canon {f : β × State → α → β × State} (h : ∀ x a, (f x a).2.canon = x.2.canon) (l : List α)
    (x : β × State) : (l.foldl f x).2.canon = x.2.canon :=
  foldl_keeps_of (g := fun x => x.2.canon) (fun y a hy => (h y a).trans hy) l x rfl

@[simp ↓] theorem foldl_fst_canon {f : State × β → α → State × β} (h : ∀ x a, (f x a).1.canon = x.1.canon) (l : List α)
    (x : State × β) : (l.foldl f x).1.canon = x.1.canon :=
  foldl_keeps_of (g := fun x => x.1.canon) (fun y a hy => (h y a).trans hy) l x rfl

theorem foldl_snd_snd_canon {f : β × γ × State → α → β × γ × State} (h : ∀ x a, (f x a).2.2.canon = x.2.2.canon) (l : List α)
    (x : β × γ × State) : (l.foldl f x).2.2.canon = x.2.2.canon :=
  foldl_keeps_of (g := fun x => x.2.2.canon) (fun y a hy => (h y a).trans hy) l x rfl

end

end Sys2Proof.Machine
end

section
/-! SUPPORT. Each function of the model keeps the canonical form of the parity stores, in the order of the model. -/

set_option Elab.async false

namespace Sys2Proof.Machine

section
variable (s : State)

/-! The operations every command shares: parts of the state by number, completions (15 R358, R369), the telemetry ring (15 R366), asynchronous events, free values. -/

@[simp ↓] theorem State.advance_canon (t : Nat) : (s.advance t).canon = s.canon := by
  simp only [State.advance]
  (repeat' split) <;> simp

@[simp ↓] theorem State.modCluster_canon (c : Nat) (f : Cluster → Cluster) : (s.modCluster c f).canon = s.canon := by simp [State.modCluster]
@[simp ↓] theorem State.modTile_canon (t : Nat) (f : Tile → Tile) : (s.modTile t f).canon = s.canon := by simp [State.modTile]
@[simp ↓] theorem State.modCtrl_canon (n : Nat) (f : Ctrl → Ctrl) : (s.modCtrl n f).canon = s.canon := by simp [State.modCtrl]
@[simp ↓] theorem State.modPort_canon (p : Nat) (f : Port → Port) : (s.modPort p f).canon = s.canon := by simp [State.modPort]
@[simp ↓] theorem State.modLane_canon (l : Nat) (f : Lane → Lane) : (s.modLane l f).canon = s.canon := by simp [State.modLane]
@[simp ↓] theorem State.modCore_canon (k : Nat) (f : Core → Core) : (s.modCore k f).canon = s.canon := by simp [State.modCore]
@[simp ↓] theorem State.modDie_canon (d : Nat) (f : Die → Die) : (s.modDie d f).canon = s.canon := by rfl
@[simp ↓] theorem State.drawn_canon : s.drawn.canon = s.canon := by rfl
@[simp ↓] theorem State.logError_canon (id : CmdId) (t : Status) : (s.logError id t).canon = s.canon := by simp [State.logError]
@[simp ↓] theorem State.answer_canon (id : CmdId) (t : Status) (dw0 : W32) (data : Bytes) (dw1 : W32) :
    (s.answer id t dw0 data dw1).canon = s.canon := by
  simp [State.answer]

@[simp ↓] theorem State.enter_canon (id : CmdId) (ordered : Bool) (held : Option Instr) (resLen : Option Nat) (tenant nsid : Nat) :
    (s.enter id ordered held resLen tenant nsid).canon = s.canon := by
  rfl

@[simp ↓] theorem State.leave_canon (id : CmdId) : (s.leave id).canon = s.canon := by rfl
@[simp ↓] theorem State.complete_canon (id : CmdId) (t : Status) (dw0 dw1 : W32) (data : Bytes) :
    (s.complete id t dw0 dw1 data).canon = s.canon := by
  simp [State.complete]

@[simp ↓] theorem State.completeOpt_canon (id : Option CmdId) (t : Status) (dw0 dw1 : W32) (data : Bytes) :
    (s.completeOpt id t dw0 dw1 data).canon = s.canon := by
  unfold State.completeOpt
  split <;> simp

@[simp ↓] theorem State.raiseEvent_canon (e mask : W32) : (s.raiseEvent e mask).canon = s.canon := by simp [State.raiseEvent]
@[simp ↓] theorem State.telemetry_canon (block event unit detail : Nat) :
    (s.telemetry block event unit detail).canon = s.canon := by simp [State.telemetry]

@[simp ↓] theorem State.setFrmEvt_canon (n : Nat) : (s.setFrmEvt n).canon = s.canon := by simp [State.setFrmEvt]
@[simp ↓] theorem State.send_canon (net toRank : Nat) (m : Bytes) : (s.send net toRank m).canon = s.canon := by rfl

/-! Counting, classing and capturing a fault report (18 R425 to R430). What a report makes the module do stands in Drogue. -/

@[simp ↓] theorem State.record_canon (c : FaultClass) (f : FaultIn) : (s.record c f).canon = s.canon := by rfl
@[simp ↓] theorem State.corrected_canon : s.corrected.canon = s.canon := by rfl
@[simp ↓] theorem State.biteCmd_canon (e : Nat) (id : CmdId) : (s.biteCmd e id).canon = s.canon := by rfl
@[simp ↓] theorem State.biteAt_canon (e : Nat) (a : W64) : (s.biteAt e a).canon = s.canon := by rfl
/-- Writes of a write's parity bits, one by one, keep the list of bad ones canonical. -/
@[simp] theorem foldl_put_wf {α : Type} (k : α → Nat) (b : α → Bool) (l : List α) {m : Marks} (hm : Sparse.wf false m = true) :
    Sparse.wf false (l.foldl (fun m x => Marks.put m (k x) (b x)) m) = true :=
  foldl_keeps_of (g := Sparse.wf false) (fun _ x h => Sparse.wf_set false _ (k x) (b x) h) l m hm

@[simp] theorem Parity.write_canon {p : Parity} (g : Nat) (l : List Nat) (hp : p.canon = true) : (p.write g l).canon = true := by
  obtain ⟨hm, hb⟩ := p.canon_iff.1 hp
  simp only [Parity.write]
  split
  · exact Parity.canon_bad hp (foldl_put_wf _ _ _ hb)
  · exact (Parity.canon_iff _).2 ⟨Sparse.wf_set 0 _ _ _ hm, foldl_put_wf _ _ _ hb⟩

@[simp ↓] theorem State.parWrite_canon (g base n : Nat) (hs : s.canon = true) : (s.parWrite g base n).canon = true := by
  have hb := (s.parity.canon_iff.1 hs).2
  unfold State.parWrite
  split <;> simp [hs, hb]
@[simp ↓] theorem State.parRead_canon (g base n : Nat) (hs : s.canon = true) : (s.parRead g base n).2.canon = true := by simp [hs, State.parRead]
@[simp ↓] theorem State.countParity_canon (g n : Nat) (hs : s.canon = true) : (s.countParity g n).canon = true := by simp [hs, State.countParity]
@[simp ↓] theorem State.parTrip_canon (g base n : Nat) (hs : s.canon = true) : (s.parTrip g base n).2.canon = true := by simp [hs, State.parTrip]
@[simp ↓] theorem State.parDisarm_canon (p : Nat → Bool) (hs : s.canon = true) : (s.parDisarm p).canon = true := by
  obtain ⟨hm, hb⟩ := s.parity.canon_iff.1 hs
  exact (Parity.canon_iff _).2 ⟨Sparse.wf_filter 0 _ _ hm, hb⟩

/-! The frame timer and the frame table (02). What the other blocks do at a tick stands in Tick. -/

@[simp ↓] theorem State.frameOverrun_canon (cl : BitVec 8) (freeze late : Bool) :
    (s.frameOverrun cl freeze late).canon = s.canon := by simp [State.frameOverrun]

@[simp ↓] theorem State.chargeOverrun_canon (c t : Nat) : (s.chargeOverrun c t).canon = s.canon := by
  unfold State.chargeOverrun
  (repeat' split) <;> simp

@[simp ↓] theorem openSlot_canon (c k : Nat) : (openSlot c k s).canon = s.canon := by
  unfold openSlot
  split
  · rfl
  · split
    · rfl
    · refine ite_keeps_canon _ (fun _ => rfl) fun _ => ite_keeps_canon _ (fun _ => State.modCluster_canon ..) fun _ => ?_
      dsimp only
      split
      · exact (State.modCluster_canon ..).trans (State.advance_canon ..)
      · have h : ∀ f t, ((s.advance t).modCluster c f).canon = s.canon := fun f t => (State.modCluster_canon ..).trans (State.advance_canon ..)
        refine ite_keeps_canon _ (fun _ => h ..) fun _ => ite_keeps_canon _ (fun _ => ?_) fun _ => ?_
        · exact (State.frameOverrun_canon ..).trans ((State.modCluster_canon ..).trans (h ..))
        · exact (State.modCluster_canon ..).trans (h ..)

@[simp ↓] theorem closeSlot_canon (c k : Nat) : (closeSlot c k s).canon = s.canon := by
  unfold closeSlot
  split <;> simp

@[simp ↓] theorem guardBegin_canon (c k : Nat) : (guardBegin c k s).canon = s.canon := by
  unfold guardBegin
  split <;> simp

@[simp ↓] theorem closingBegin_canon (c k : Nat) : (closingBegin c k s).canon = s.canon := by
  unfold closingBegin
  split <;> simp

@[simp ↓] theorem State.acceptEvent_canon (e : Nat) (err : Int) (st : BitVec 3) : (s.acceptEvent e err st).canon = s.canon := by rfl
@[simp ↓] theorem refEvent_canon (div t : Nat) : (refEvent div t s).canon = s.canon := by
  have h := s.advance_canon t
  unfold refEvent
  dsimp only
  generalize s.advance t = q at h
  refine ite_keeps_canon _ (fun _ => ?_) fun _ => ite_keeps_canon _ (fun _ => (State.acceptEvent_canon ..).trans h) fun _ =>
    ite_keeps_canon _ (fun _ => (State.setFrmEvt_canon ..).trans h) fun _ =>
    ite_keeps_canon _ (fun _ => (State.setFrmEvt_canon ..).trans h) fun _ => h
  split
  · exact (State.setFrmEvt_canon ..).trans h
  · exact ite_keeps_canon _ (fun _ => h) fun _ => h

@[simp ↓] theorem syncEdge_canon (t : Nat) : (syncEdge t s).canon = s.canon := by
  unfold syncEdge
  split <;> simp

@[simp ↓] theorem acquireTimeout_canon : (acquireTimeout s).canon = s.canon := by simp [acquireTimeout]
@[simp ↓] theorem syncLost_canon : (syncLost s).canon = s.canon := by simp [syncLost]
@[simp ↓] theorem State.countExpected_canon : s.countExpected.canon = s.canon := by simp [State.countExpected]
@[simp ↓] theorem frmEvtClear_canon (v : W32) : (frmEvtClear v s).canon = s.canon := by rfl

/-! Objects of the Loft address space: addresses, contents, allocation, charges and quotas (09 R204 to R208, R211; 03 R70, R78; 14 R312). -/

@[simp ↓] theorem State.modObj_canon (ofs : Nat) (f : Obj → Obj) : (s.modObj ofs f).canon = s.canon := by rfl
@[simp ↓] theorem State.writeObj_canon (a : W64) (b : Bytes) : (s.writeObj a b).canon = s.canon := by
  unfold State.writeObj
  split <;> simp

@[simp ↓] theorem State.markObj_canon (a : W64) (n : Nat) : (s.markObj a n).canon = s.canon := by
  unfold State.markObj
  split <;> simp

@[simp ↓] theorem State.useGroups_canon (l : List Nat) : (s.useGroups l).canon = s.canon := by rfl
@[simp ↓] theorem State.freeGroupList_canon (l : List Nat) : (s.freeGroupList l).canon = s.canon := by rfl
@[simp ↓] theorem State.allocT1_canon (tenant : Nat) (k : ObjKind) (fmt : Byte) (n : Nat) : (s.allocT1 tenant k fmt n).2.canon = s.canon := by rfl
@[simp ↓] theorem State.allocT2_canon (tenant : Nat) (k : ObjKind) (fmt : Byte) (n : Nat) : (s.allocT2 tenant k fmt n).2.canon = s.canon := by rfl
@[simp ↓] theorem State.freeObj_canon (a : W64) : (s.freeObj a).canon = s.canon := by
  unfold State.freeObj
  split <;> simp

@[simp ↓] theorem State.freeObjs_canon (l : List W64) : (s.freeObjs l).canon = s.canon := by simp [State.freeObjs]
@[simp ↓] theorem State.trimObj_canon (a : W64) : (s.trimObj a).canon = s.canon := by
  unfold State.trimObj
  split <;> simp

@[simp ↓] theorem State.quotaRefused_canon (t : Nat) : (s.quotaRefused t).canon = s.canon := by rfl
@[simp ↓] theorem State.noteFar_canon (t : Nat) (a : W64) (i u : Nat) : (s.noteFar t a i u).canon = s.canon := by rfl
@[simp ↓] theorem State.noteRead_canon (a : W64) (n : Nat) : (s.noteRead a n).canon = s.canon := by
  unfold State.noteRead
  (repeat' split) <;> simp

/-! Requests of classes A to C and their completion (11 R256, R266, R267; 15 R358, R359). -/

@[simp ↓] theorem State.modContract_canon (id : Nat) (f : CtEntry → CtEntry) : (s.modContract id f).canon = s.canon := by rfl
@[simp ↓] theorem State.closeRequest_canon (id : CmdId) : (s.closeRequest id).canon = s.canon := by
  unfold State.closeRequest
  split <;> simp

@[simp ↓] theorem State.finishRequest_canon (id : CmdId) (t : Status) (dw0 : W32) (data : Bytes) (flags : W32) :
    (s.finishRequest id t dw0 data flags).canon = s.canon := by
  simp [State.finishRequest]

@[simp ↓] theorem State.noteCause_canon (bit_ : Nat) (p : Request → Bool) : (s.noteCause bit_ p).canon = s.canon := by rfl
@[simp ↓] theorem State.noteExtraRun_canon (id : Option CmdId) : (s.noteExtraRun id).canon = s.canon := by rfl
@[simp ↓] theorem State.notePoisonedPass_canon (id : Option CmdId) : (s.notePoisonedPass id).canon = s.canon := by rfl

/-! The media: stripe records, the map, program jobs, die parity, the journal, erases, garbage collection, failed dies (13 R294, R302 to R308; 14 R312 to R339). -/

@[simp ↓] theorem State.modBlk_canon (d b : Nat) (f : Blk → Blk) : (s.modBlk d b f).canon = s.canon := by rfl
@[simp ↓] theorem State.modChan_canon (c : Nat) (f : Channel → Channel) : (s.modChan c f).canon = s.canon := by rfl
@[simp ↓] theorem State.setLevels_canon (d b : Nat) (l : List Byte) : (s.setLevels d b l).canon = s.canon := by rfl
@[simp ↓] theorem State.takeSeq_canon : s.takeSeq.2.canon = s.canon := by rfl
@[simp ↓] theorem State.addJob_canon (w : Wordline) (p : Pass) (after : List Nat) (half : Option Bool) :
    (s.addJob w p after half).canon = s.canon := by
  rfl

@[simp ↓] theorem State.journalAll_canon (l : List JBody) (after : List Nat) (half : Option Bool) :
    (s.journalAll l after half).2.canon = s.canon := by
  simp [State.journalAll]

@[simp ↓] theorem State.journal_canon (b : JBody) : (s.journal b).2.canon = s.canon := by rfl
@[simp ↓] theorem State.commitParts_canon (parts : List JBody) : (s.commitParts parts).2.canon = s.canon := by simp [State.commitParts]
@[simp ↓] theorem State.journalMap_canon (l : List Nat) : (s.journalMap l).canon = s.canon := by simp [State.journalMap]
@[simp ↓] theorem State.setMap_canon (t : Nat) (w : W64) : (s.setMap t w).canon = s.canon := by rfl
@[simp ↓] theorem State.writeStripeAt_canon (at_ : Option (Nat × Nat)) (stream : Nat) (grouped : Bool) (t : Nat) (u0 u1 : Option Container) :
    (s.writeStripeAt at_ stream grouped t u0 u1).2.canon = s.canon := by
  unfold State.writeStripeAt
  extract_lets n q old s1
  split
  · rfl
  · extract_lets r s2 next m s3
    have h2 : s2.canon = s.canon :=
      ite_keeps_canon _ (fun _ => (State.modBlk_canon ..).trans (State.journal_canon ..)) fun _ => rfl
    exact (foldl_canon (fun s w => s.addJob_canon ..) _ _).trans h2

@[simp ↓] theorem State.writeStripe_canon (stream : Nat) (grouped : Bool) (t : Nat) (u0 u1 : Option Container) :
    (s.writeStripe stream grouped t u0 u1).2.canon = s.canon := by
  simp [State.writeStripe]

@[simp ↓] theorem State.writePart_canon (stream : Nat) (grouped : Bool) (for_ : WriteFor) (l : List (Nat × Option Container × Option Container)) :
    (s.writePart stream grouped for_ l).2.canon = s.canon := by
  simp [State.writePart]

@[simp ↓] theorem State.applyRec_canon (r : StripeRec) : (s.applyRec r).canon = s.canon := by rfl
@[simp ↓] theorem State.stepPart_canon (p : WritePart) : (s.stepPart p).2.canon = s.canon := by
  unfold State.stepPart
  split <;> simp

@[simp ↓] theorem State.stepParts_canon : s.stepParts.2.canon = s.canon := by simp [State.stepParts]
@[simp ↓] theorem State.settleParity_canon : s.settleParity.canon = s.canon := by rfl
@[simp ↓] theorem State.beginJob_canon (j : ProgJob) : (s.beginJob j).canon = s.canon := by
  simp only [State.beginJob]
  (repeat' split) <;> simp

@[simp ↓] theorem State.kick_canon : s.kick.canon = s.canon := by simp [State.kick]
@[simp ↓] theorem State.joinGroup_canon (w : Wordline) : (s.joinGroup w).canon = s.canon := by
  simp only [State.joinGroup]
  (repeat' split) <;> simp

@[simp ↓] theorem State.closeGroups_canon (all : Bool) : (s.closeGroups all).canon = s.canon := by simp [State.closeGroups]
@[simp ↓] theorem State.releaseGroups_canon : s.releaseGroups.canon = s.canon := by rfl
@[simp ↓] theorem State.retire_canon (d b cause : Nat) : (s.retire d b cause).canon = s.canon := by simp [State.retire]
@[simp ↓] theorem State.rewriteRec_canon (r : StripeRec) : (s.rewriteRec r).canon = s.canon := by
  unfold State.rewriteRec
  split <;> simp

@[simp ↓] theorem State.dropGcs_canon (hit : StripeRec → Bool) : (s.dropGcs hit).canon = s.canon := by
  unfold State.dropGcs
  rfl

@[simp ↓] theorem State.evacuate_canon (d b : Nat) : (s.evacuate d b).canon = s.canon := by simp [State.evacuate]
@[simp ↓] theorem State.passEnds_canon (j : ProgJob) (fail : Bool) : (s.passEnds j fail).canon = s.canon := by
  unfold State.passEnds
  split <;> simp

@[simp ↓] theorem State.eraseStart_canon (d b : Nat) : (s.eraseStart d b).canon = s.canon := by rfl
@[simp ↓] theorem State.startErases_canon : s.startErases.canon = s.canon := by
  unfold State.startErases
  refine ite_keeps_canon _ (fun _ => rfl) fun _ => (foldl_canon (fun s e => s.eraseStart_canon ..) _ _).trans ?_
  exact (foldl_canon State.beginJob_canon _ _).trans (State.journalAll_canon ..)

@[simp ↓] theorem State.eraseEnds_canon (d : Nat) (fail : Bool) : (s.eraseEnds d fail).canon = s.canon := by
  unfold State.eraseEnds
  split <;> simp

@[simp ↓] theorem State.noteLost_canon (l : Nat) : (s.noteLost l).canon = s.canon := by
  simp only [State.noteLost]
  (repeat' split) <;> simp

@[simp ↓] theorem State.markLost_canon (l : Nat) : (s.markLost l).canon = s.canon := by
  unfold State.markLost
  (repeat' split) <;> simp

@[simp ↓] theorem State.refresh_canon (d b : Nat) : (s.refresh d b).canon = s.canon := by simp [State.refresh]
@[simp ↓] theorem State.modHealth_canon (f : Health → Health) : (s.modHealth f).canon = s.canon := by rfl
@[simp ↓] theorem State.ladder_canon (d b step : Nat) : (s.ladder d b step).canon = s.canon := by simp [State.ladder]
@[simp ↓] theorem State.gcBegin_canon (d : Nat) (bad : List Nat) : (s.gcBegin d bad).canon = s.canon := by
  unfold State.gcBegin
  split
  · rfl
  · refine (ite_canon ..).trans (ite_eq_iff'.2 ⟨fun _ => ?_, fun _ => rfl⟩)
    refine (State.canon_mk ..).trans (foldl_snd_snd_canon (fun a y => ?_) _ _)
    split
    · simp
    · rfl

@[simp ↓] theorem State.gcWriteFlag_canon (g : Gc) : (s.gcWriteFlag g).canon = s.canon := by simp [State.gcWriteFlag]
@[simp ↓] theorem State.gcFinish_canon (g : Gc) : (s.gcFinish g).canon = s.canon := by
  unfold State.gcFinish
  refine foldl_canon (fun s _ => ?_) _ _
  (repeat' split) <;> simp

@[simp ↓] theorem State.settleGc_canon : s.settleGc.canon = s.canon := by
  unfold State.settleGc
  refine foldl_canon (fun s _ => ?_) _ _
  (repeat' split) <;> simp

@[simp ↓] theorem State.flushRest_canon : s.flushRest.canon = s.canon := by
  unfold State.flushRest
  split <;> simp

@[simp ↓] theorem State.settleMedia_canon : s.settleMedia.2.canon = s.canon := by simp [State.settleMedia]
@[simp ↓] theorem State.failDie_canon (d : Nat) : (s.failDie d).canon = s.canon := by
  unfold State.failDie
  refine (State.journalMap_canon ..).trans ((foldl_canon (fun s r => ?_) _ _).trans ?_)
  · dsimp only
    split <;> simp
  · simp

@[simp ↓] theorem State.clearGroupMap_canon (g : Nat) : (s.clearGroupMap g).canon = s.canon := by simp [State.clearGroupMap]
@[simp ↓] theorem State.flushMedia_canon (clean : Bool) : (s.flushMedia clean).canon = s.canon := by
  unfold State.flushMedia
  refine (State.flushRest_canon _).trans (foldl_canon (fun s x => ?_) _ _)
  dsimp only
  (repeat' split) <;> simp

@[simp ↓] theorem State.stopMedia_canon (cut : Bool) : (s.stopMedia cut).canon = s.canon := by
  unfold State.stopMedia
  simp only [State.canon_mk]
  refine (foldl_canon (fun s r => ?_) _ _).trans ((foldl_canon (fun s e => ?_) _ _).trans ?_)
  · split <;> simp
  · split <;> simp
  · simp

/-! The die service port and the channels' wait states (13 R295 to R303). -/

@[simp ↓] theorem State.modDsp_canon (n : Nat) (f : Dsp → Dsp) : (s.modDsp n f).canon = s.canon := by simp [State.modDsp]
@[simp ↓] theorem State.dspFault_canon (n : Nat) (e : BitVec 3) : (s.dspFault n e).canon = s.canon := by simp [State.dspFault]
@[simp ↓] theorem dspKey_canon (n : Nat) (v : W32) (t : Nat) : (dspKey n v t s).canon = s.canon := by simp [dspKey]
@[simp ↓] theorem dspCmd_canon (n : Nat) (v : W32) (t : Nat) : (dspCmd n v t s).canon = s.canon := by simp [dspCmd]
@[simp ↓] theorem dspAddr_canon (n : Nat) (v : W32) (t : Nat) : (dspAddr n v t s).canon = s.canon := by simp [dspAddr]
@[simp ↓] theorem dspLaunch_canon (n cmd : Nat) (addrs : List W32) (data : W32) :
    (dspLaunch n cmd addrs data s).canon = s.canon := by simp [dspLaunch]

@[simp ↓] theorem dspData_canon (n : Nat) (v : W32) (t : Nat) : (dspData n v t s).canon = s.canon := by simp [dspData]
@[simp ↓] theorem dspFirmware_canon (n cmd : Nat) (addrs : List W32) (data : W32) :
    (dspFirmware n cmd addrs data s).canon = s.canon := by simp [dspFirmware]

@[simp ↓] theorem dspDoor_canon (n cmd : Nat) (door : DspDoor) : (dspDoor n cmd door s).canon = s.canon := by
  unfold dspDoor
  split <;> simp

@[simp ↓] theorem State.fillBuf_canon (n len : Nat) (hs : s.canon = true) : (s.fillBuf n len).canon = true := by simp [hs, State.fillBuf]
@[simp ↓] theorem dspDone_canon (n : Nat) (page : Bytes) (step : Nat) (hs : s.canon = true) : (dspDone n page step s).canon = true := by
  simp only [dspDone]
  (repeat' split) <;> simp [hs]

@[simp ↓] theorem dspTimeout_canon (n : Nat) : (dspTimeout n s).canon = s.canon := by simp [dspTimeout]
@[simp ↓] theorem State.dspAbandon_canon (n : Nat) : (s.dspAbandon n).canon = s.canon := by simp [State.dspAbandon]
@[simp ↓] theorem waitWrite_canon (ch : Nat) (second : Bool) (v : W32) : (waitWrite ch second v s).canon = s.canon := by rfl
@[simp ↓] theorem State.trainCtrl_canon (n : Nat) (rates : List (BitVec 3)) : (s.trainCtrl n rates).canon = s.canon := by simp [State.trainCtrl]

/-! A change of the module's rank: the addresses of its own objects change with it (09 R204; 03 R77). -/

@[simp ↓] theorem State.readdress_canon (n : Nat) : (s.readdress n).canon = s.canon := by simp [State.readdress]

/-! Models by identifier, the context table, KV extents, emitting a token, rewinding (10 R231, R235, R245 to R253). What commands do with contexts stands in ContextCmds. -/

@[simp ↓] theorem State.modModel_canon (id : W64) (f : Model → Model) : (s.modModel id f).canon = s.canon := by rfl
@[simp ↓] theorem State.writeTable_canon (id : W64) : (s.writeTable id).canon = s.canon := by
  unfold State.writeTable
  split <;> simp

@[simp ↓] theorem State.modCtx_canon (i : Nat) (f : Context → Context) : (s.modCtx i f).canon = s.canon := by rfl
@[simp ↓] theorem State.writeKv_canon (m : Model) (ext : W64) (t draw : Nat) : (s.writeKv m ext t draw).canon = s.canon := by simp [State.writeKv]
@[simp ↓] theorem State.finishBatch_canon (i : Nat) (b : Batch) (t : Status) (flags : W32) :
    (s.finishBatch i b t flags).canon = s.canon := by simp [State.finishBatch]

@[simp ↓] theorem State.rewindCtx_canon (i l : Nat) : (s.rewindCtx i l).canon = s.canon := by
  simp only [State.rewindCtx]
  (repeat' split) <;> simp

@[simp ↓] theorem State.addExtent_canon (i : Nat) : (s.addExtent i).canon = s.canon := by
  simp only [State.addExtent]
  (repeat' split) <;> simp

@[simp ↓] theorem State.addExtents_canon (i n : Nat) : (s.addExtents i n).canon = s.canon := by
  induction n generalizing s with
  | zero => rfl
  | succ n ih => simp [State.addExtents, ih]

@[simp ↓] theorem State.startHead_canon (i : Nat) : (s.startHead i).canon = s.canon := by
  unfold State.startHead
  (repeat' split) <;> simp

@[simp ↓] theorem State.startBatch_canon (i : Nat) : (s.startBatch i).canon = s.canon := by simp [State.startBatch]
@[simp ↓] theorem State.settleBatch_canon (i : Nat) : (s.settleBatch i).canon = s.canon := by
  simp only [State.settleBatch]
  (repeat' split) <;> simp

@[simp ↓] theorem State.damageCtx_canon (i : Nat) : (s.damageCtx i).canon = s.canon := by simp [State.damageCtx]
@[simp ↓] theorem State.modHead_canon (i : Nat) (f : Batch → Batch) : (s.modHead i f).canon = s.canon := by rfl
@[simp ↓] theorem State.appendToken_canon (i : Nat) (tok : W32) : (s.appendToken i tok).canon = s.canon := by
  simp only [State.appendToken]
  (repeat' split) <;> simp

@[simp ↓] theorem State.holdToken_canon (i : Nat) (tok : W32) : (s.holdToken i tok).canon = s.canon := by
  simp only [State.holdToken]
  (repeat' split) <;> simp

@[simp ↓] theorem State.emitToken_canon (h tok : W32) (marked : Bool) : (s.emitToken h tok marked).canon = s.canon := by
  simp only [State.emitToken]
  (repeat' split) <;> simp

@[simp ↓] theorem State.releaseHeld_canon (i n : Nat) : (s.releaseHeld i n).canon = s.canon := by
  induction n generalizing s with
  | zero => rfl
  | succ n ih =>
    unfold State.releaseHeld
    (repeat' split) <;> simp [ih]

@[simp ↓] theorem State.releaseTokens_canon (i : Nat) : (s.releaseTokens i).canon = s.canon := by
  unfold State.releaseTokens
  split <;> simp

@[simp ↓] theorem State.failBatch_canon (h : W32) (t : Status) (flags : W32) : (s.failBatch h t flags).canon = s.canon := by
  unfold State.failBatch
  (repeat' split) <;> simp

/-! Sequencer interrupts: pending and enable bits, entering and ending a handler (07 R180 to R184). -/

@[simp ↓] theorem State.raise_canon (c n : Nat) : (s.raise c n).canon = s.canon := by simp [State.raise]
@[simp ↓] theorem State.raiseAll_canon (n : Nat) : (s.raiseAll n).canon = s.canon := by simp [State.raiseAll]
@[simp ↓] theorem enterHandler_canon (c : Nat) : (enterHandler c s).canon = s.canon := by
  simp only [enterHandler]
  (repeat' split) <;> simp

@[simp ↓] theorem leaveHandler_canon (c : Nat) : (leaveHandler c s).canon = s.canon := by simp [leaveHandler]
@[simp ↓] theorem State.loadHandlers_canon (hs : s.canon = true) : s.loadHandlers.canon = true := by
  simp only [State.loadHandlers]
  exact foldl_keeps_canon (fun s c h => by simp [h]) _ _ hs
@[simp ↓] theorem icPendSet_canon (c : Nat) (hi : Bool) (v : W32) : (icPendSet c hi v s).canon = s.canon := by simp [icPendSet]
@[simp ↓] theorem icPendClr_canon (c : Nat) (hi : Bool) (v : W32) : (icPendClr c hi v s).canon = s.canon := by simp [icPendClr]
@[simp ↓] theorem icEnSet_canon (c : Nat) (hi : Bool) (v : W32) : (icEnSet c hi v s).canon = s.canon := by simp [icEnSet]
@[simp ↓] theorem icEnClr_canon (c : Nat) (hi : Bool) (v : W32) : (icEnClr c hi v s).canon = s.canon := by simp [icEnClr]

/-! Status flags of tiles and vector units and the counts that go with them (05 R130; 06 R154, R155; 07 R179). -/

@[simp ↓] theorem mtFlagsClear_canon (t : Nat) (v : W32) : (mtFlagsClear t v s).canon = s.canon := by simp [mtFlagsClear]
@[simp ↓] theorem vuFlagsClear_canon (c : Nat) (v : W32) : (vuFlagsClear c v s).canon = s.canon := by simp [vuFlagsClear]

/-! The stores of a cluster and the matrix runs: operand fetch, accumulation, poison, output stage (05 R106 to R124; 08 R190, R194). -/

@[simp ↓] theorem State.putBits_canon (c sp tile base : Nat) (l : List (Byte × Byte)) :
    (s.putBits c sp tile base l).canon = s.canon := by simp [State.putBits]

@[simp ↓] theorem State.writeBits_canon (c sp tile base : Nat) (l : List (Byte × Byte)) (hs : s.canon = true) :
    (s.writeBits c sp tile base l).canon = true := by simp [hs, State.writeBits]

@[simp ↓] theorem State.writeSpace_canon (c sp tile base : Nat) (l : List (Byte × Bool)) (hs : s.canon = true) : (s.writeSpace c sp tile base l).canon = true := by
  simp [hs, State.writeSpace]

@[simp ↓] theorem State.drainRows_canon (c f : Nat) (r : Run) (l : List OutElem) (hs : s.canon = true) :
    (s.drainRows c f r l).canon = true := by
  simp only [State.drainRows]
  refine foldl_keeps_canon (fun s m h => ?_) _ _ hs
  simp [h]

@[simp ↓] theorem State.drainPanels_canon (c f : Nat) (r : Run) (l : List OutElem) (hs : s.canon = true) : (s.drainPanels c f r l).canon = true := by
  simp only [State.drainPanels]
  refine foldl_keeps_canon (fun s q h => ?_) _ _ hs
  split
  · refine foldl_keeps_canon (fun s m h => ?_) _ _ (by simp [h])
    exact foldl_keeps_canon (fun s g h => by simp [h]) _ _ h
  · simp [h]

@[simp ↓] theorem State.storeEntries_canon (c : Nat) (l : List Entry) (hs : s.canon = true) : (s.storeEntries c l).canon = true := by
  unfold State.storeEntries
  exact foldl_keeps_canon (fun s t h => ite_keeps_canon _ (fun _ => h) fun _ => State.parWrite_canon _ _ _ _ h) _ _
    ((foldl_canon (fun s e => s.modCluster_canon ..) _ _).trans hs)

@[simp ↓] theorem State.countAcc_canon (c : Nat) (half : Tile → Bool) (l : List Entry) (hs : s.canon = true) :
    (s.countAcc c half l).canon = true := by
  unfold State.countAcc
  refine foldl_keeps_canon (fun s t h => ite_keeps_canon _ (fun _ => h) fun _ => ?_) _ _ hs
  exact State.countParity_canon _ _ _ ((State.modCluster_canon ..).trans h)

@[simp ↓] theorem State.countStore_canon (c f : Nat) (r : Run) (hs : s.canon = true) : (s.countStore c f r).canon = true := by simp +contextual [hs, State.countStore]
@[simp ↓] theorem State.drainRun_canon (c : Nat) (r : Run) (len : Nat) (chained : Bool) (hs : s.canon = true) :
    (s.drainRun c r len chained).canon = true := by
  have hc := s.countStore_canon c (s.clusterAt c).fusion r hs
  have hi : ∀ l, (if chained then (s.countStore c (s.clusterAt c).fusion r).countAcc c (fun t => !t.committed) l else if r.init
      then (s.countStore c (s.clusterAt c).fusion r).countAcc c (fun t => t.committed) l else s.countStore c (s.clusterAt c).fusion r).canon = true := by
    intro l
    (repeat' split) <;> simp [hc]
  have hf : ∀ (o : List OutElem) (t : State), t.canon = true →
      (o.foldl (fun s e => s.modCluster c fun k => k.raiseMt e.tile e.raised) t).canon = true :=
    fun o t ht => foldl_keeps_canon (fun s e h => by simp [h]) o t ht
  simp only [State.drainRun]
  split
  · exact foldl_keeps_canon (fun s e h => by simp [h]) _ _ ((State.modCluster_canon ..).trans (State.storeEntries_canon _ _ _ (hi _)))
  · split
    · exact State.drainPanels_canon _ _ _ _ _ (hf _ _ (State.countAcc_canon _ _ _ _ ((State.modCluster_canon ..).trans (State.storeEntries_canon _ _ _ (hi _)))))
    · exact State.drainRows_canon _ _ _ _ _ (hf _ _ (State.countAcc_canon _ _ _ _ ((State.modCluster_canon ..).trans (State.storeEntries_canon _ _ _ (hi _)))))

/-! The vector unit: registers, lanes, masks, arithmetic, loads and stores, permutes, conversions, reductions, poison (06 R131 to R152). -/

@[simp ↓] theorem State.putS_canon (c n : Nat) (r : SReg) (hs : s.canon = true) : (s.putS c n r).canon = true := by simp [hs, State.putS]
@[simp ↓] theorem State.parLanes_canon (c r : Nat) (l : List LaneOut) (hs : s.canon = true) : (s.parLanes c r l).canon = true := by
  obtain ⟨hm, hb⟩ := s.parity.canon_iff.1 hs
  have hl : Sparse.wf false (l.foldl (fun b x => (upTo 4).foldl (fun b j => Marks.put b ((0x88 + c) * 2 ^ 32 + vByte r x.i + j)
      (decide (4 * x.i + j < 32) && bit (Sparse.get (0 : W32) s.parity.masks (0x88 + c)) (4 * x.i + j))) b) s.parity.bad) = true :=
    foldl_keeps_of (g := Sparse.wf false) (fun m x h => foldl_put_wf _ _ _ h) l _ hb
  simp only [State.parLanes]
  split
  · exact hs
  · split
    · exact Parity.canon_bad hs hl
    · exact (Parity.canon_iff _).2 ⟨Sparse.wf_set 0 _ _ _ hm, hl⟩
@[simp ↓] theorem State.putV_canon (c r : Nat) (l : List LaneOut) (hs : s.canon = true) : (s.putV c r l).canon = true := by simp [hs, State.putV]
@[simp ↓] theorem State.putM_canon (c r : Nat) (l : List LaneOut) (hs : s.canon = true) : (s.putM c r l).canon = true := by simp [hs, State.putM]
@[simp ↓] theorem State.countVu_canon (c n cycles : Nat) : (s.countVu c n cycles).canon = s.canon := by simp [State.countVu]
@[simp ↓] theorem State.countBad_canon (c g n : Nat) (hs : s.canon = true) : (s.countBad c g n).canon = true := by simp [hs, State.countBad]
@[simp ↓] theorem State.countReads_canon (c : Nat) (regs masks l : List Nat) (hs : s.canon = true) :
    (s.countReads c regs masks l).canon = true := by simp [hs, State.countReads]

@[simp ↓] theorem State.countWindow_canon (c : Nat) (els : List (Nat × Nat)) (hs : s.canon = true) : (s.countWindow c els).canon = true := by simp [hs, State.countWindow]
theorem vLoad_canon {c : Nat} {w : VWord} {s t : State} (h : vLoad c w s = .done t) (hs : s.canon = true) : t.canon = true := by
  unfold vLoad at h
  dsimp only at h
  split at h
  · cases h
  · split at h
    · cases h
    · obtain rfl := VOut.done.inj h
      exact (State.countVu_canon ..).trans (State.putV_canon _ _ _ _ (State.countWindow_canon _ _ _ (State.countReads_canon _ _ _ _ _ hs)))

@[simp ↓] theorem State.storeElems_canon (c base w : Nat) (els : List (Nat × Nat × Bool)) (hs : s.canon = true) : (s.storeElems c base w els).canon = true := by
  unfold State.storeElems
  refine foldl_keeps_canon (fun s sp h => ?_) _ _ (foldl_keeps_canon (fun s x h => ?_) _ _ hs)
  · dsimp only
    split <;> simp [h]
  · split <;> simp [h]

theorem vStore_canon {c : Nat} {w : VWord} {s t : State} (h : vStore c w s = .done t) (hs : s.canon = true) : t.canon = true := by
  unfold vStore at h
  dsimp only at h
  split at h
  · cases h
  · split at h
    · cases h
    · obtain rfl := VOut.done.inj h
      simp [hs]

theorem vGather_canon {c : Nat} {w : VWord} {s t : State} (h : vGather c w s = .done t) (hs : s.canon = true) : t.canon = true := by
  unfold vGather at h
  dsimp only at h
  split at h
  · cases h
  · split at h
    · cases h
    · obtain rfl := VOut.done.inj h
      exact (State.countVu_canon ..).trans ((State.drawn_canon _).trans (State.putV_canon _ _ _ _
        (State.countWindow_canon _ _ _ (State.countReads_canon _ _ _ _ _ hs))))

@[simp ↓] theorem laneOp_canon (c : Nat) (w : VWord) (regs : List Nat) (f : State → Nat → LaneOut) (hs : s.canon = true) :
    (laneOp c w regs f s).canon = true := by simp [hs, laneOp]

@[simp ↓] theorem vPerm_canon (c : Nat) (w : VWord) (hs : s.canon = true) : (vPerm c w s).canon = true := by simp [hs, vPerm]
@[simp ↓] theorem vBcast_canon (c : Nat) (w : VWord) (hs : s.canon = true) : (vBcast c w s).canon = true := by simp [hs, vBcast]
@[simp ↓] theorem vCvt_canon (c : Nat) (w : VWord) (hs : s.canon = true) : (vCvt c w s).canon = true := by simp [hs, vCvt]
@[simp ↓] theorem vArith_canon (c : Nat) (w : VWord) (regs : List Nat) (f : List Val → Val) (hs : s.canon = true) :
    (vArith c w regs f s).canon = true := by simp [hs, vArith]

@[simp ↓] theorem vAdd_canon (c : Nat) (w : VWord) (hs : s.canon = true) : (vAdd c w s).canon = true := by simp [hs, vAdd]
@[simp ↓] theorem vMul_canon (c : Nat) (w : VWord) (hs : s.canon = true) : (vMul c w s).canon = true := by simp [hs, vMul]
@[simp ↓] theorem vFma_canon (c : Nat) (w : VWord) (hs : s.canon = true) : (vFma c w s).canon = true := by simp [hs, vFma]
@[simp ↓] theorem vMin_canon (c : Nat) (w : VWord) (hs : s.canon = true) : (vMin c w s).canon = true := by simp [hs, vMin]
@[simp ↓] theorem vMax_canon (c : Nat) (w : VWord) (hs : s.canon = true) : (vMax c w s).canon = true := by simp [hs, vMax]
@[simp ↓] theorem maskOp_canon (c : Nat) (w : VWord) (regs masks : List Nat) (f : State → Nat → Bool × Bool) (hs : s.canon = true) :
    (maskOp c w regs masks f s).canon = true := by
  simp [hs, maskOp]

@[simp ↓] theorem vCmp_canon (c : Nat) (w : VWord) (hs : s.canon = true) : (vCmp c w s).canon = true := by simp [hs, vCmp]
@[simp ↓] theorem vSel_canon (c : Nat) (w : VWord) (hs : s.canon = true) : (vSel c w s).canon = true := by
  unfold vSel
  exact laneOp_canon _ _ _ _ _ (by simp [hs])
@[simp ↓] theorem vMlog_canon (c : Nat) (w : VWord) (hs : s.canon = true) : (vMlog c w s).canon = true := by simp [hs, vMlog]
theorem vSetVl_canon {c : Nat} {w : VWord} {s t : State} (h : vSetVl c w s = .done t) : t.canon = s.canon := by
  unfold vSetVl at h
  dsimp only at h
  split at h
  · cases h
  · obtain rfl := VOut.done.inj h
    simp

@[simp ↓] theorem vRed_canon (c : Nat) (w : VWord) (hs : s.canon = true) : (vRed c w s).canon = true := by
  have hr := s.countReads_canon c [w.a] [w.pm] (s.lanes c w.pm) hs
  simp only [vRed, State.countVu_canon, State.modCluster_canon]
  split <;> simp [hr]
theorem vecOp_canon {c : Nat} {w : VWord} {s t : State} (h : vecOp c w s = .done t) (hs : s.canon = true) : t.canon = true := by
  unfold vecOp at h
  split at h
  case h_2 => exact (vSetVl_canon h).trans hs
  case h_3 => exact vLoad_canon h hs
  case h_4 => exact vStore_canon h hs
  case h_5 => exact vGather_canon h hs
  all_goals
    obtain rfl := VOut.done.inj h
    simp [hs]

/-! The Bridle: routing records, dispatches and returns, messages, drop notices, redirects (10 R236 to R244). -/

@[simp ↓] theorem State.routeOut_canon (c : Nat) (model : W64) (ctx pos : W32) (layer : W16) (fmt : Byte) (rt : Bytes) (rtMarked : Bool) (data : Bytes) (marks : List Nat) :
    (s.routeOut c model ctx pos layer fmt rt rtMarked data marks).canon = s.canon := by
  unfold State.routeOut
  (repeat' split) <;> simp

@[simp ↓] theorem State.replyLater_canon (r : Reply) : (s.replyLater r).canon = s.canon := by rfl
@[simp ↓] theorem State.brdSend_canon (rank : Nat) (model : W64) (l : List BRec) : (s.brdSend rank model l).canon = s.canon := by rfl
@[simp ↓] theorem State.stageRec_canon (a : Arrived) (hs : s.canon = true) : (s.stageRec a).canon = true := by simp [hs, State.stageRec]
@[simp ↓] theorem State.placeDispatch_canon (rank : Nat) (model : W64) (r : BRec) (gf : Nat) (hs : s.canon = true) :
    (s.placeDispatch rank model r gf).canon = true := by
  unfold State.placeDispatch
  split <;> simp [hs]

@[simp ↓] theorem State.takeReturn_canon (rank : Nat) (model : W64) (r : BRec) (hs : s.canon = true) : (s.takeReturn rank model r).canon = true := by
  unfold State.takeReturn
  (repeat' split) <;> simp [hs]

@[simp ↓] theorem State.replyOut_canon (r : Reply) (hs : s.canon = true) : (s.replyOut r).canon = true := by simp [hs, State.replyOut]
@[simp ↓] theorem State.redirect_canon (d : Dispatch) (rank shown : Nat) : (s.redirect d rank shown).canon = s.canon := by rfl
@[simp ↓] theorem State.dropToken_canon (d : Dispatch) : (s.dropToken d).canon = s.canon := by simp [State.dropToken]
@[simp ↓] theorem State.takeRefusal_canon (rank : Nat) (model : W64) (r : BRec) : (s.takeRefusal rank model r).canon = s.canon := by
  simp only [State.takeRefusal]
  (repeat' split) <;> simp

@[simp ↓] theorem State.placeRec_canon (rank : Nat) (model : W64) (r : BRec) (gf : Nat) (hs : s.canon = true) : (s.placeRec rank model r gf).canon = true := by
  unfold State.placeRec
  split <;> simp [hs]

@[simp ↓] theorem State.brdTake_canon (net : Nat) (b : Bytes) (t : Nat) (bad : Bool) (hs : s.canon = true) : (s.brdTake net b t bad).canon = true := by
  unfold State.brdTake
  simp +contextual [hs]

@[simp ↓] theorem State.brdNoticed_canon (b : Bytes) : (s.brdNoticed b).canon = s.canon := by simp [State.brdNoticed]
@[simp ↓] theorem State.lostOn_canon (rank net since : Nat) : (s.lostOn rank net since).canon = s.canon := by rfl
@[simp ↓] theorem State.brdTimeout_canon (ctx pos : W32) (layer : W16) (slot : Byte) : (s.brdTimeout ctx pos layer slot).canon = s.canon := by rfl
@[simp ↓] theorem State.markOneFrame_canon : s.markOneFrame.canon = s.canon := by rfl
@[simp ↓] theorem State.brdExchange_canon (hs : s.canon = true) : s.brdExchange.canon = true := by
  unfold State.brdExchange
  split
  · exact hs
  · dsimp only
    refine (State.markOneFrame_canon _).trans (foldl_keeps_canon (fun s k h => ?_) _ _ ?_)
    · (repeat' split)
      · exact foldl_keeps_canon (fun s r h => by simp [h]) _ _ h
      · simp [h]
    · rw [foldl_canon (fun s m => by simp), State.canon_mk, State.parity_canon, foldl_canon, foldl_canon (fun s d => by simp), foldl_canon]
      · exact hs
      · intro s d
        (repeat' split) <;> simp
      · intro s r
        split <;> simp

/-! The Reel: heat, moves between tiers, the fetch plan, the horizon, remote reads, refetches, KV repair (09 R209 to R213, R218 to R226; 10 R252; 14 R339). -/

@[simp ↓] theorem State.modReel_canon (f : Reel → Reel) : (s.modReel f).canon = s.canon := by rfl
@[simp ↓] theorem State.modPiece_canon (ofs i : Nat) (f : Piece → Piece) : (s.modPiece ofs i f).canon = s.canon := by rfl
@[simp ↓] theorem State.addMove_canon (a : W64) (i : Nat) (k : MoveKind) (tenant charge : Nat) (ready : Bool) (left : List Nat) (copyId : Option Nat) :
    (s.addMove a i k tenant charge ready left copyId).canon = s.canon := by
  rfl

@[simp ↓] theorem State.startUp_canon (o : Obj) (i : Nat) : (s.startUp o i).canon = s.canon := by
  unfold State.startUp
  split <;> simp

/-- The definition is unfolded as a function, so that no check of the proof computes with the address of a free piece. -/
@[simp ↓] theorem State.startRemote_canon (a : W64) (i : Nat) : (s.startRemote a i).canon = s.canon := by
  have key : ∀ f, f = State.startRemote → (f s a i).canon = s.canon := by
    intro f hf
    delta State.startRemote at hf
    subst hf
    dsimp only
    split
    · rfl
    · rw [ite_canon, State.addMove_canon, ite_self]
  exact key _ rfl

@[simp ↓] theorem State.clearMarks_canon (o : Obj) (i : Nat) : (s.clearMarks o i).canon = s.canon := by rfl
@[simp ↓] theorem State.refuseDown_canon (o : Obj) (i : Nat) : (s.refuseDown o i).canon = s.canon := by rfl
@[simp ↓] theorem State.startDown_canon (o : Obj) (i : Nat) : (s.startDown o i).canon = s.canon := by
  unfold State.startDown
  split
  · rfl
  · refine ite_keeps_canon _ (fun _ => rfl) fun _ => ite_keeps_canon _ (fun _ => ite_keeps_canon _
      (fun _ => (State.clearMarks_canon ..).trans (State.modPiece_canon ..)) fun _ => rfl) fun _ =>
      ite_keeps_canon _ (fun _ => State.refuseDown_canon ..) fun _ => ite_keeps_canon _ (fun _ => rfl) fun _ => ?_
    split
    · exact State.addMove_canon ..
    · split
      · rfl
      · exact ite_keeps_canon _ (fun _ => (State.addMove_canon ..).trans ((State.modPiece_canon ..).trans
          ((State.useGroups_canon ..).trans (State.writePart_canon ..)))) fun _ => rfl

@[simp ↓] theorem State.cachePiece_canon (m : Move) : (s.cachePiece m).canon = s.canon := by simp [State.cachePiece]
@[simp ↓] theorem State.dropCached_canon (a : W64) (i : Nat) : (s.dropCached a i).canon = s.canon := by rfl
@[simp ↓] theorem State.abortMove_canon (m : Move) (count : Bool) : (s.abortMove m count).canon = s.canon := by
  unfold State.abortMove
  dsimp only
  split
  · split
    · rfl
    · split
      · rfl
      · split
        · rfl
        · exact ite_keeps_canon _ (fun _ => rfl) fun _ => (State.modPiece_canon ..).trans ((State.freeGroupList_canon ..).trans (State.clearGroupMap_canon ..))
  · split
    · exact State.clearMarks_canon ..
    · rfl
  · rfl
  · rfl

@[simp ↓] theorem State.commitMove_canon (m : Move) : (s.commitMove m).canon = s.canon := by
  unfold State.commitMove
  extract_lets held s1
  refine ite_keeps_canon _ (fun _ => ?_) fun _ => ite_keeps_canon _ (fun _ => State.cachePiece_canon ..) fun _ => ?_
  · split
    · exact (State.refuseDown_canon ..).trans (State.abortMove_canon ..)
    · rfl
  · split
    · rfl
    · split
      · rfl
      · split
        · exact State.modPiece_canon ..
        · rfl
        · rfl
        · refine ite_keeps_canon _ (fun _ => State.modPiece_canon ..) fun _ => ?_
          split
          · exact State.modPiece_canon ..
          · exact (State.freeGroupList_canon ..).trans ((State.clearGroupMap_canon ..).trans (State.modPiece_canon ..))
        · exact State.modPiece_canon ..

@[simp ↓] theorem State.touchWrite_canon (a : W64) (n : Nat) : (s.touchWrite a n).canon = s.canon := by
  unfold State.touchWrite
  split <;> simp

@[simp ↓] theorem State.heatTick_canon : s.heatTick.canon = s.canon := by rfl
@[simp ↓] theorem State.sink_canon (x : W64 × Nat) : (s.sink x).canon = s.canon := by
  unfold State.sink
  split <;> simp

@[simp ↓] theorem State.relieve_canon (t : Nat) : (s.relieve t).canon = s.canon := by
  unfold State.relieve
  split <;> simp

@[simp ↓] theorem State.pressure_canon : s.pressure.canon = s.canon := by simp [State.pressure]
@[simp ↓] theorem State.promote_canon : s.promote.canon = s.canon := by simp [State.promote]
@[simp ↓] theorem State.coldMoves_canon : s.coldMoves.canon = s.canon := by simp [State.coldMoves]
@[simp ↓] theorem State.enterFetch_canon (f : Fetch) : (s.enterFetch f).canon = s.canon := by rfl
@[simp ↓] theorem State.noteWait_canon (o : Obj) (i lo n : Nat) : (s.noteWait o i lo n).canon = s.canon := by simp [State.noteWait]
@[simp ↓] theorem State.planFetch_canon (prio deadline tenant until_ : Nat) (id : Option CmdId) (x : W64 × Nat) :
    (s.planFetch prio deadline tenant until_ id x).canon = s.canon := by
  unfold State.planFetch
  split
  · split
    · rfl
    · refine foldl_canon (fun s i => ?_) _ _
      dsimp only
      (repeat' split) <;> simp
  · simp

@[simp ↓] theorem State.issueFetch_canon (f : Fetch) : (s.issueFetch f).canon = s.canon := by
  unfold State.issueFetch
  split <;> simp

@[simp ↓] theorem State.readStripes_canon : s.readStripes.canon = s.canon := by rfl
@[simp ↓] theorem State.planTick_canon : s.planTick.canon = s.canon := by simp [State.planTick]
@[simp ↓] theorem State.horizonTick_canon : s.horizonTick.canon = s.canon := by
  unfold State.horizonTick
  refine foldl_canon (fun s r => ite_keeps_canon _ (fun _ => rfl) fun _ => ?_) _ _
  extract_lets h miss s1
  have h1 : s1.canon = s.canon := ite_keeps_canon _ (fun _ => State.modReel_canon ..) fun _ => rfl
  exact h1

@[simp ↓] theorem State.dropRemote_canon (x : RemoteRead) : (s.dropRemote x).canon = s.canon := by rfl
@[simp ↓] theorem State.remoteTick_canon : s.remoteTick.canon = s.canon := by
  unfold State.remoteTick
  refine foldl_canon (fun s x => ?_) _ _
  dsimp only
  (repeat' split) <;> simp

@[simp ↓] theorem State.stopMarked_canon : s.stopMarked.canon = s.canon := by
  unfold State.stopMarked
  refine foldl_canon (fun s _ => ?_) _ _
  (repeat' split) <;> simp

@[simp ↓] theorem State.reelTick_canon : s.reelTick.canon = s.canon := by simp [State.reelTick]
@[simp ↓] theorem fetchEnds_canon (a : W64) (i : Nat) (bad : List Nat) (steps : List (Nat × Fin 6)) (data : Bytes) (marks : List Nat) :
    (fetchEnds a i bad steps data marks s).canon = s.canon := by
  unfold fetchEnds
  (repeat' split) <;> simp

@[simp ↓] theorem State.removeDie_canon (d : Nat) : (s.removeDie d).canon = s.canon := by simp [State.removeDie]
@[simp ↓] theorem moveTimeout_canon (mv : Nat) : (moveTimeout mv s).canon = s.canon := by
  unfold moveTimeout
  split <;> simp

/-- As for storePieces, a write part stands for any function that leaves the queue. -/
@[simp ↓] theorem refetchUnit_canon (a : W64) (t1Ok t2Ok t3Ok : Bool) : (refetchUnit a t1Ok t2Ok t3Ok s).canon = s.canon := by
  unfold refetchUnit
  have hw := @State.writePart_canon
  revert hw
  generalize State.writePart = w
  revert w
  refine id fun w hw => ?_
  dsimp only
  (repeat' split) <;> simp [hw]

@[simp ↓] theorem kvRepair_canon (h : W32) (u : Nat) : (kvRepair h u s).canon = s.canon := by
  simp only [kvRepair]
  (repeat' split) <;> simp

@[simp ↓] theorem State.reelParts_canon (l : List WritePart) : (s.reelParts l).canon = s.canon := by
  unfold State.reelParts
  refine foldl_canon (fun s _ => ?_) _ _
  (repeat' split) <;> simp

/-! Passes: submission and its check, program load, eligibility, start, commit, discard and re-run, reload, watchdog, spawn, completion records, cluster and Spar resets (07 R156 to R179; 05 R118, R125, R126, R128; 06 R153; 08 R191 to R193). -/

@[simp ↓] theorem State.writeRecord_canon (d : PassDesc) (r : Record) : (s.writeRecord d r).canon = s.canon := by simp [State.writeRecord]
@[simp ↓] theorem State.modEntry_canon (uid : Nat) (f : PassEntry → PassEntry) : (s.modEntry uid f).canon = s.canon := by rfl
@[simp ↓] theorem State.refetched_canon (o : Obj) (rel : Nat) : (s.refetched o rel).canon = s.canon := by rfl
@[simp ↓] theorem State.refetchLines_canon (a : W64) (lines bad : List Nat) : (s.refetchLines a lines bad).canon = s.canon := by
  unfold State.refetchLines
  split <;> simp

@[simp ↓] theorem State.markLines_canon (a : W64) (n : Nat) (l : List Nat) : (s.markLines a n l).canon = s.canon := by simp [State.markLines]
@[simp ↓] theorem State.sourced_canon (f : Fill) (spoilt : Bool) : (s.sourced f spoilt).2.canon = s.canon := by
  unfold State.sourced
  split <;> simp

@[simp ↓] theorem State.chargeT0_canon (t n : Nat) : (s.chargeT0 t n).canon = s.canon := by rfl
@[simp ↓] theorem State.releaseT0_canon (t n : Nat) : (s.releaseT0 t n).canon = s.canon := by rfl
@[simp ↓] theorem State.applyFill_canon (c : Nat) (f : Fill) (hs : s.canon = true) : (s.applyFill c f).canon = true := by simp [hs, State.applyFill]
@[simp ↓] theorem State.pinCopies_canon (c : Nat) : (s.pinCopies c).canon = s.canon := by simp [State.pinCopies]
@[simp ↓] theorem State.releaseFills_canon (c : Nat) (hs : s.canon = true) : (s.releaseFills c).canon = true := by simp +contextual [hs, State.releaseFills]
@[simp ↓] theorem State.dropEntry_canon (uid : Nat) (hs : s.canon = true) : (s.dropEntry uid).canon = true := by
  unfold State.dropEntry
  (repeat' split) <;> simp [hs]

@[simp ↓] theorem State.failRequest_canon (p : PassSrc) (st : Status) (dw0 dw1 : W32) : (s.failRequest p st dw0 dw1).canon = s.canon := by
  unfold State.failRequest
  (repeat' split) <;> simp

@[simp ↓] theorem State.refuseRequest_canon (e : PassEntry) (status detail : Nat) :
    (s.refuseRequest e status detail).canon = s.canon := by simp [State.refuseRequest]

@[simp ↓] theorem State.refusePass_canon (e : PassEntry) (status detail : Nat) (hs : s.canon = true) :
    (s.refusePass e status detail).canon = true := by simp [hs, State.refusePass]

@[simp ↓] theorem State.dropPass_canon (e : PassEntry) (hs : s.canon = true) : (s.dropPass e).canon = true := by simp [hs, State.dropPass]
@[simp ↓] theorem State.placeAt_canon (tenant : Nat) (program : Bool) (a : W64) (n : Nat) :
    (s.placeAt tenant program a n).2.canon = s.canon := by
  unfold State.placeAt
  extract_lets ofs len c g ps o
  split
  · rfl
  · split
    · rfl
    · exact State.useGroups_canon ..

/-- What a write part does stands for any function that leaves the queue, so that no check of the proof computes a stripe. -/
@[simp ↓] theorem State.storePieces_canon (a : W64) : (s.storePieces a).canon = s.canon := by
  unfold State.storePieces
  have hw := @State.writePart_canon
  revert hw
  generalize State.writePart = w
  revert w
  refine id fun w hw => ?_
  split
  · rfl
  · refine foldl_canon (fun s x => ?_) _ _
    split <;> simp [hw]

@[simp ↓] theorem State.stagePass_canon (d : PassDesc) (prog : List W64) : (s.stagePass d prog).2.canon = s.canon := by
  simp only [State.stagePass]
  (repeat' split) <;> simp

@[simp ↓] theorem submitPass_canon (b : Bytes) (prog : List W64) (src : PassSrc) (hs : s.canon = true) : (submitPass b prog src s).canon = true := by
  unfold submitPass
  extract_lets b d q s1 e c s2 s3
  have h1 : s1.canon = true := (ite_snd_canon ..).trans (by rw [State.stagePass_canon, hs, ite_self])
  have h3 : s3.canon = true := State.parWrite_canon _ _ _ _ h1
  refine ite_keeps_canon _ (fun _ => hs) fun _ => ite_keeps_canon _ (fun _ => (State.failRequest_canon ..).trans h1) fun _ => ?_
  split
  · exact State.refusePass_canon _ _ _ _ h3
  · exact ite_keeps_canon _ (fun _ => h3) fun _ => State.dropPass_canon _ _ h3

@[simp ↓] theorem State.recheck_canon (e : PassEntry) (hs : s.canon = true) : (s.recheck e).2.canon = true := by
  unfold State.recheck
  split <;> simp [hs]

@[simp ↓] theorem State.recheckSpawns_canon (c : Nat) (hs : s.canon = true) : (s.recheckSpawns c).canon = true := by
  unfold State.recheckSpawns
  split
  · exact hs
  · refine foldl_keeps_canon (fun s e h => ?_) _ _ hs
    have hp := s.recheck_canon e h
    split <;> simp [canon_of_eq ‹_› hp]

@[simp ↓] theorem State.recheckPasses_canon (hs : s.canon = true) : s.recheckPasses.canon = true := by
  unfold State.recheckPasses
  refine foldl_keeps_canon (fun s c h => s.recheckSpawns_canon c h) _ _ (foldl_keeps_canon (fun s e h => ?_) _ _ hs)
  split <;> simp [h]

@[simp ↓] theorem loadProgram_canon (c uid : Nat) (hs : s.canon = true) : (loadProgram c uid s).canon = true := by
  unfold loadProgram
  extract_lets k base
  split
  · exact hs
  · refine ite_keeps_canon _ (fun _ => hs) fun _ => ?_
    extract_lets s1 prog s2 s3
    have h1 : s1.canon = true := (State.noteRead_canon ..).trans ((State.raise_canon ..).trans hs)
    split
    · exact State.refusePass_canon _ _ _ _ h1
    · have h3 : s3.canon = true := State.parWrite_canon _ _ _ _ (State.parWrite_canon _ _ _ _ ((State.modCluster_canon ..).trans h1))
      exact ite_keeps_canon _ (fun _ => (State.modCluster_canon ..).trans h3) fun _ => h3

@[simp ↓] theorem startPass_canon (c uid t0 : Nat) (hs : s.canon = true) : (startPass c uid t0 s).canon = true := by
  unfold startPass
  dsimp only
  split
  · exact hs
  · split
    · exact hs
    · split
      · exact hs
      · refine State.parWrite_canon _ _ _ _ ?_
        have hb := Parity.canon_bad (flipCnt := s.parity.flipCnt) (lastValid := s.parity.lastValid) (lastGroup := s.parity.lastGroup)
          (poisonCnt := s.parity.poisonCnt) hs (Sparse.wf_clearRange false s.parity.bad ((0x88 + c) * 2 ^ 32) ((0x88 + c) * 2 ^ 32 + 66176)
            (s.parity.canon_iff.1 hs).2)
        split <;> exact hb

@[simp ↓] theorem State.settleOverrun_canon (c : Nat) : (s.settleOverrun c).canon = s.canon := by simp [State.settleOverrun]
@[simp ↓] theorem State.lateCheck_canon (c : Nat) (e : PassEntry) : (s.lateCheck c e).canon = s.canon := by simp [State.lateCheck]
@[simp ↓] theorem State.vacate_canon (c : Nat) (e : PassEntry) (cycles : Nat) (hs : s.canon = true) : (s.vacate c e cycles).canon = true := by simp [hs, State.vacate]
@[simp ↓] theorem State.handOn_canon (c : Nat) (e : PassEntry) (marked : Bool) (hs : s.canon = true) : (s.handOn c e marked).canon = true := by
  unfold State.handOn
  refine foldl_keeps_canon (fun s o h => ?_) _ _ ?_
  · cases o <;> simp [h]
  · split <;> simp [hs]

@[simp ↓] theorem State.releaseSpawns_canon (l : List PassEntry) (hs : s.canon = true) : (s.releaseSpawns l).canon = true := by simp +contextual [hs, State.releaseSpawns]
@[simp ↓] theorem commitPass_canon (c cycles t : Nat) (hs : s.canon = true) : (commitPass c cycles t s).canon = true := by
  have hm : ((s.advance t).settleOverrun c).canon = true := by simp [hs]
  simp only [commitPass]
  split
  · split
    · exact hs
    · split
      · refine (State.modCluster_canon ..).trans (ite_keeps_canon _ (fun _ => ?_) fun _ => hm)
        exact (State.modCluster_canon ..).trans hm
      · refine State.vacate_canon _ _ _ _ (State.dropEntry_canon _ _ (State.handOn_canon _ _ _ _ ?_))
        refine (State.writeRecord_canon ..).trans (State.releaseSpawns_canon _ _ ?_)
        simp [hs]
  · exact hs

@[simp ↓] theorem State.poisonOutputs_canon (c : Nat) (d : PassDesc) (hs : s.canon = true) : (s.poisonOutputs c d).canon = true := by simp +contextual [hs, State.poisonOutputs]
@[simp ↓] theorem State.endPoisoned_canon (c : Nat) (e : PassEntry) (r : Running) (status cycles : Nat) (hs : s.canon = true) :
    (s.endPoisoned c e r status cycles).canon = true := by
  refine State.vacate_canon _ _ _ _ (State.dropEntry_canon _ _ ?_)
  refine (State.notePoisonedPass_canon ..).trans (State.handOn_canon _ _ _ _ ?_)
  simp [hs]

@[simp ↓] theorem discardPass_canon (c cause unit src master : Nat) (report : Bool) (hs : s.canon = true) :
    (discardPass c cause unit src master s report).canon = true := by
  simp only [discardPass]
  (repeat' split) <;> simp [hs]

@[simp ↓] theorem weightPoison_canon (c tile : Nat) (hs : s.canon = true) : (weightPoison c tile s).canon = true := by
  simp only [weightPoison]
  (repeat' split) <;> simp [hs]

@[simp ↓] theorem State.reloadCopy_canon (c : Nat) (bad : List W64) (x : T0Copy) (hs : s.canon = true) : (s.reloadCopy c bad x).canon = true := by
  unfold State.reloadCopy
  split <;> simp [hs]

@[simp ↓] theorem reloadEnd_canon (c uid : Nat) (bad : List W64) (hs : s.canon = true) : (reloadEnd c uid bad s).canon = true := by
  unfold reloadEnd
  split <;> simp +contextual [hs]

@[simp ↓] theorem watchdogPass_canon (c : Nat) (hs : s.canon = true) : (watchdogPass c s).canon = true := by
  simp only [watchdogPass]
  (repeat' split) <;> simp [hs]

@[simp ↓] theorem clusterReset_canon (c : Nat) (hs : s.canon = true) : (clusterReset c s).canon = true := by simp [hs, clusterReset]
@[simp ↓] theorem State.failWithheld_canon (c : Nat) (hs : s.canon = true) : (s.failWithheld c).canon = true := by simp +contextual [hs, State.failWithheld]
@[simp ↓] theorem tileFault_canon (tile : Nat) (hs : s.canon = true) : (tileFault tile s).2.canon = true := by simp [hs, tileFault]
@[simp ↓] theorem vectorFault_canon (c : Nat) (hs : s.canon = true) : (vectorFault c s).canon = true := by simp [hs, vectorFault]
@[simp ↓] theorem vaddrFault_canon (c op lane addr : Nat) (hs : s.canon = true) : (vaddrFault c op lane addr s).canon = true := by simp [hs, vaddrFault]
@[simp ↓] theorem poisonCtrl_canon (c : Nat) (hs : s.canon = true) : (poisonCtrl c s).canon = true := by simp [hs, poisonCtrl]
@[simp ↓] theorem State.progBad_canon (c n : Nat) (hs : s.canon = true) : (s.progBad c n).2.canon = true := by simp [hs, State.progBad]
@[simp ↓] theorem State.goto_canon (c i : Nat) : (s.goto c i).canon = s.canon := by simp [State.goto]
@[simp ↓] theorem State.nextWord_canon (c n : Nat) : (s.nextWord c n).canon = s.canon := by simp [State.nextWord]
@[simp ↓] theorem issueWord_canon (c : Nat) (w : W64) (f : State → State) (n : Nat) (hf : ∀ s, s.canon = true → (f s).canon = true)
    (hs : s.canon = true) : (issueWord c w f s n).canon = true := by
  unfold issueWord
  split
  · have hp := s.progBad_canon c n hs
    split
    · simp [canon_of_eq ‹_› hp]
    · exact hf _ (canon_of_eq ‹_› hp)
  · exact hs

@[simp ↓] theorem issueVector_canon (op c : Nat) (w : W64) (hs : s.canon = true) : (issueVector op c w s).canon = true := by
  unfold issueVector
  split
  · exact hs
  · refine issueWord_canon _ _ _ _ _ (fun s h => ?_) hs
    dsimp only
    split
    · simp [vecOp_canon ‹_› h]
    · simp [h]
    · simp [h]

@[simp ↓] theorem issueSeq_canon (op c : Nat) (w : W64) (f : VWord → State → State) (hf : ∀ v s, s.canon = true → (f v s).canon = true)
    (hs : s.canon = true) : (issueSeq op c w f s).canon = true := by
  unfold issueSeq
  split
  · exact hs
  · exact issueWord_canon _ _ _ _ _ (fun s h => hf _ s h) hs

@[simp ↓] theorem seqMrun_canon (c : Nat) (r : RunRec) (hs : s.canon = true) : (seqMrun c r s).canon = true := by
  simp only [seqMrun]
  (repeat' split) <;> simp [hs]

@[simp ↓] theorem seqMwait_canon (c : Nat) (w : VWord) : (seqMwait c w s).canon = s.canon := by
  unfold seqMwait
  split <;> simp

@[simp ↓] theorem seqSli_canon (c d : Nat) (v : W32) (hs : s.canon = true) : (seqSli c d v s).canon = true := by simp [hs, seqSli]
@[simp ↓] theorem seqSadd_canon (c : Nat) (w : VWord) (hs : s.canon = true) : (seqSadd c w s).canon = true := by simp [hs, seqSadd]
@[simp ↓] theorem State.readWindow_canon (c a : Nat) (hs : s.canon = true) : (s.readWindow c a).canon = true := by
  unfold State.readWindow
  split <;> simp [hs]

@[simp ↓] theorem seqSld_canon (c : Nat) (w : VWord) (hs : s.canon = true) : (seqSld c w s).canon = true := by simp [hs, seqSld]
@[simp ↓] theorem seqBr_canon (c : Nat) (w : VWord) (hs : s.canon = true) : (seqBr c w s).canon = true := by simp [hs, seqBr]
@[simp ↓] theorem seqSpawn_canon (c : Nat) (w : VWord) (hs : s.canon = true) : (seqSpawn c w s).canon = true := by
  unfold seqSpawn
  split <;> simp [hs]

@[simp ↓] theorem seqSignal_canon (c : Nat) (w : VWord) : (seqSignal c w s).canon = s.canon := by simp [seqSignal]
@[simp ↓] theorem seqEnd_canon (c : Nat) (hs : s.canon = true) : (seqEnd c s).canon = true := by
  simp only [seqEnd]
  (repeat' split) <;> simp [hs]

@[simp ↓] theorem runDrains_canon (c u : Nat) (hs : s.canon = true) : (runDrains c u s).canon = true := by
  simp only [runDrains]
  (repeat' split) <;> simp [hs]

@[simp ↓] theorem State.makeRoom_canon (c : Nat) (f : Fill) : (s.makeRoom c f).2.canon = s.canon := by
  unfold State.makeRoom
  split <;> simp

@[simp ↓] theorem reelFill_canon (c : Nat) (f : Fill) (spoilt : Bool) (hs : s.canon = true) : (reelFill c f spoilt s).canon = true := by simp [hs, reelFill]
@[simp ↓] theorem loadScales_canon (c uid : Nat) (bad : List W64) (hs : s.canon = true) : (loadScales c uid bad s).canon = true := by
  unfold loadScales
  (repeat' split) <;> simp [hs]

@[simp ↓] theorem State.endAllPasses_canon : s.endAllPasses.canon = s.canon := by
  unfold State.endAllPasses
  refine (State.canon_mk ..).trans ((foldl_canon (fun s e => ?_) _ _).trans (foldl_canon (fun s c => ?_) _ _))
  · dsimp only
    split <;> simp
  · split <;> simp

@[simp ↓] theorem sparResetBegin_canon (hs : s.canon = true) : (sparResetBegin s).canon = true := by
  have h := (s.endAllPasses.parDisarm_canon parOfSpar) (s.endAllPasses_canon.trans hs)
  exact Parity.canon_bad h (Sparse.wf_filter false _ _ ((Parity.canon_iff _).1 h).2)

/-! Service classes: admitting a request, the class A fetch budget, planned switches, contract registers (11 R255 to R267). -/

@[simp ↓] theorem State.countRefused_canon (cid : Nat) : (s.countRefused cid).canon = s.canon := by rfl
@[simp ↓] theorem State.reserve_canon (gf a b : Nat) : (s.reserve gf a b).canon = s.canon := by rfl
@[simp ↓] theorem State.reserveVolume_canon (gf h : Nat) (v : Nat × Nat) : (s.reserveVolume gf h v).1.canon = s.canon := by
  unfold State.reserveVolume
  exact foldl_fst_canon (fun x k => (ite_fst_canon ..).trans (by rw [State.reserve_canon, ite_self])) _ _

@[simp ↓] theorem State.admitRequest_canon (id : CmdId) (cls cid tenant deadlineB : Nat) (p : Plan) :
    (s.admitRequest id cls cid tenant deadlineB p).canon = s.canon := by
  simp [State.admitRequest]

@[simp ↓] theorem State.windowTick_canon : s.windowTick.canon = s.canon := by rfl
@[simp ↓] theorem State.planPasses_canon : s.planPasses.canon = s.canon := by simp [State.planPasses]
@[simp ↓] theorem State.switchTick_canon : s.switchTick.canon = s.canon := by
  unfold State.switchTick
  split
  · rfl
  · refine foldl_canon (fun s l => ?_) _ _
    dsimp only
    (repeat' split) <;> simp

@[simp ↓] theorem State.switchOpen_canon (c : Nat) : (s.switchOpen c).canon = s.canon := by
  unfold State.switchOpen
  split <;> simp

/-! The Tether: lanes and their training, ports, queue pairs, time-stamps (16). Host connections that a port loses stand in Hosts. -/

@[simp ↓] theorem signalDetect_canon (lane : Nat) : (signalDetect lane s).canon = s.canon := by simp [signalDetect]
@[simp ↓] theorem trainingFrame_canon (lane : Nat) (ctl sts : W32) (crcCtl crcSts : W16) (q : LaneSelf) :
    (trainingFrame lane ctl sts crcCtl crcSts q s).canon = s.canon := by
  simp [trainingFrame]

@[simp ↓] theorem State.portEvent_canon (p n : Nat) : (s.portEvent p n).canon = s.canon := by simp [State.portEvent]
@[simp ↓] theorem trainingTimeout_canon (lane : Nat) : (trainingTimeout lane s).canon = s.canon := by simp [trainingTimeout]
@[simp ↓] theorem modeSwitch_canon (p : Nat) : (modeSwitch p s).canon = s.canon := by simp [modeSwitch]
@[simp ↓] theorem State.losePeers_canon (n : Nat) : (s.losePeers n).canon = s.canon := by
  unfold State.losePeers
  split
  · rfl
  · refine foldl_canon (fun s q => ?_) _ _
    split <;> simp

@[simp ↓] theorem State.moveQps_canon (n : Nat) (home : Bool) : (s.moveQps n home).canon = s.canon := by rfl
@[simp ↓] theorem State.openQps_canon (rank : Nat) : (s.openQps rank).canon = s.canon := by
  unfold State.openQps
  refine foldl_canon (fun s _ => ?_) _ _
  (repeat' split) <;> simp

@[simp ↓] theorem State.closePeer_canon (rank : Nat) : (s.closePeer rank).canon = s.canon := by rfl
@[simp ↓] theorem State.openPeer_canon (rank : Nat) : (s.openPeer rank).canon = s.canon := by simp [State.openPeer]
@[simp ↓] theorem State.tryUp_canon (p : Nat) : (s.tryUp p).canon = s.canon := by simp [State.tryUp]
@[simp ↓] theorem alignmentMarker_canon (lane : Nat) (am : BitVec 257) (pairs bitErr corr uncorr : Nat) :
    (alignmentMarker lane am pairs bitErr corr uncorr s).canon = s.canon := by
  simp [alignmentMarker]

@[simp ↓] theorem State.linkDown_canon (p : Nat) : (s.linkDown p).canon = s.canon := by simp [State.linkDown]
@[simp ↓] theorem portRetrain_canon (p : Nat) : (portRetrain p s).canon = s.canon := by simp [portRetrain]
@[simp ↓] theorem fecDegrade_canon (lane : Nat) : (fecDegrade lane s).canon = s.canon := by simp [fecDegrade]
@[simp ↓] theorem addressAcquired_canon (p : Nat) : (addressAcquired p s).canon = s.canon := by simp [addressAcquired]
@[simp ↓] theorem State.modQp_canon (n : Nat) (f : QueuePair → QueuePair) : (s.modQp n f).canon = s.canon := by rfl
@[simp ↓] theorem congestion_canon (qp : Nat) : (congestion qp s).canon = s.canon := by rfl
@[simp ↓] theorem rateRaise_canon (qp : Nat) : (rateRaise qp s).canon = s.canon := by rfl
@[simp ↓] theorem ackRetry_canon (qp : Nat) : (ackRetry qp s).canon = s.canon := by
  unfold ackRetry
  (repeat' split) <;> simp

@[simp ↓] theorem ptpStamp_canon (p : Nat) (egress : Bool) (seq : W16) (t : Nat) :
    (ptpStamp p egress seq t s).canon = s.canon := by simp [ptpStamp]

@[simp ↓] theorem tetEvtClear_canon (p : Nat) (v : W32) : (tetEvtClear p v s).canon = s.canon := by simp [tetEvtClear]
@[simp ↓] theorem State.activatePorts_canon (i : Image) : (s.activatePorts i).1.canon = s.canon := by
  unfold State.activatePorts
  refine foldl_fst_canon (fun a p => ?_) _ _
  split <;> simp

@[simp ↓] theorem State.homeQps_canon : s.homeQps.canon = s.canon := by simp [State.homeQps]
@[simp ↓] theorem State.portReset_canon (p : Nat) : (s.portReset p).canon = s.canon := by simp [State.portReset]

/-! Novzeow messages: header, lengths, reserved bytes, and the bodies this module sends (17 R390 to R393). -/

@[simp ↓] theorem State.nv_canon (net type dst : Nat) (body : Bytes) : (s.nv net type dst body).canon = s.canon := by rfl
@[simp ↓] theorem State.nvTo_canon (type dst : Nat) (body : Bytes) : (s.nvTo type dst body).canon = s.canon := by rfl
@[simp ↓] theorem State.nvAll_canon (type : Nat) (body : Bytes) : (s.nvAll type body).canon = s.canon := by simp [State.nvAll]

/-! The placement directory, copies of objects, mirrors, journals, and what a promoted copy becomes (17 R400 to R406, R409 to R412). -/

@[simp ↓] theorem State.dropPlace_canon (p : Place) : (s.dropPlace p).canon = s.canon := by rfl
@[simp ↓] theorem State.storePlace_canon (p : Place) : (s.storePlace p).canon = s.canon := by rfl
@[simp ↓] theorem State.dirSet_canon (p : Place) : (s.dirSet p).canon = s.canon := by rfl
@[simp ↓] theorem State.relocate_canon (r : Reloc) : (s.relocate r).canon = s.canon := by simp [State.relocate]
@[simp ↓] theorem State.adopt_canon (p : Place) : (s.adopt p).canon = s.canon := by
  simp only [State.adopt]
  (repeat' split) <;> simp

@[simp ↓] theorem State.report_canon (l : List Place) : (s.report l).canon = s.canon := by simp [State.report]
@[simp ↓] theorem State.sendCopy_canon (kind pkind tenant : Nat) (key1 : W64) (key2 version : W32) (r : Nat) (for_ : CopyFor) (id : Option CmdId) (l : List CopyPart) :
    (s.sendCopy kind pkind tenant key1 key2 version r for_ id l).canon = s.canon := by
  simp [State.sendCopy]

@[simp ↓] theorem State.modNs_canon (nsid : Nat) (f : Namespace → Namespace) : (s.modNs nsid f).canon = s.canon := by rfl
@[simp ↓] theorem State.modShard_canon (i : W64) (k : W16) (f : Shard → Shard) : (s.modShard i k f).canon = s.canon := by rfl
@[simp ↓] theorem State.storeObj_canon (a : W64) : (s.storeObj a).2.canon = s.canon := by
  unfold State.storeObj
  split
  · rfl
  · refine foldl_snd_canon (fun r x => ?_) _ _
    split <;> simp

@[simp ↓] theorem State.storeObjs_canon (l : List W64) : (s.storeObjs l).2.canon = s.canon := by simp [State.storeObjs]
@[simp ↓] theorem State.copyT3_canon (a : W64) (o : Obj) (state : W64) (pkind tenant : Nat) (key1 : W64) (key2 version : W32) (r : Nat) (for_ : CopyFor) :
    (s.copyT3 a o state pkind tenant key1 key2 version r for_).canon = s.canon := by
  simp [State.copyT3]

@[simp ↓] theorem State.startCopy_canon (p : Place) (r : Nat) : (s.startCopy p r).canon = s.canon := by
  unfold State.startCopy
  (repeat' split) <;> simp

@[simp ↓] theorem State.modHeld_canon (p : Place) (f : HeldCopy → HeldCopy) : (s.modHeld p f).canon = s.canon := by rfl
@[simp ↓] theorem State.dropHeld_canon (p : Place) : (s.dropHeld p).canon = s.canon := by rfl
@[simp ↓] theorem State.freeHeld_canon (p : Place) : (s.freeHeld p).canon = s.canon := by
  unfold State.freeHeld
  split <;> simp

@[simp ↓] theorem State.sendJournal_canon (i : Nat) : (s.sendJournal i).canon = s.canon := by
  unfold State.sendJournal
  extract_lets c
  split
  · rfl
  · split
    · rfl
    · extract_lets
      rw [State.modCtx_canon, foldl_canon fun s b => State.nvTo_canon .., ite_canon, State.biteAt_canon, ite_self]

@[simp ↓] theorem State.finishOpen_canon (i : Nat) : (s.finishOpen i).canon = s.canon := by
  simp only [State.finishOpen]
  (repeat' split) <;> simp

@[simp ↓] theorem State.askBuddy_canon (i : Nat) : (s.askBuddy i).canon = s.canon := by simp [State.askBuddy]
@[simp ↓] theorem State.freeCtx_canon (i : Nat) (tell : Bool) : (s.freeCtx i tell).canon = s.canon := by simp [State.freeCtx]
@[simp ↓] theorem State.endCtx_canon (i : Nat) (tell : Bool) : (s.endCtx i tell).canon = s.canon := by simp [State.endCtx]
@[simp ↓] theorem State.resumeCtx_canon (j : JournalHeld) : (s.resumeCtx j).canon = s.canon := by
  unfold State.resumeCtx
  extract_lets g s1 key lost lib s2
  have h2 : s2.canon = s.canon := by
    simp only [s2]
    split
    · rfl
    · exact ite_keeps_canon _ (fun _ => rfl) fun _ => rfl
  have hl : (lost s2).canon = s.canon := (State.report_canon ..).trans h2
  clear_value s2
  split
  · refine ite_keeps_canon _ (fun _ => (State.report_canon ..).trans ?_) fun _ => hl
    exact (foldl_canon (fun s t => foldl_canon (fun s l => State.writeObj_canon ..) _ _) _ _).trans ((State.addExtents_canon ..).trans h2)
  · exact hl

@[simp ↓] theorem State.journalAckTo_canon (home : Nat) (handle : W32) (durable status : Nat) :
    (s.journalAckTo home handle durable status).canon = s.canon := by
  rfl

@[simp ↓] theorem State.takeJournal_canon (b : Bytes) : (s.takeJournal b).canon = s.canon := by simp [State.takeJournal]
@[simp ↓] theorem State.takeJournalAck_canon (b : Bytes) : (s.takeJournalAck b).canon = s.canon := by
  unfold State.takeJournalAck
  split <;> simp

@[simp ↓] theorem State.applyExpert_canon (p : Place) : (s.applyExpert p).canon = s.canon := by simp [State.applyExpert]
@[simp ↓] theorem State.promoteNs_canon (p : Place) : (s.promoteNs p).canon = s.canon := by
  unfold State.promoteNs
  split <;> simp

@[simp ↓] theorem State.demoteNs_canon (p : Place) : (s.demoteNs p).canon = s.canon := by
  unfold State.demoteNs
  split <;> simp

@[simp ↓] theorem State.freeHome_canon (p : Place) : (s.freeHome p).canon = s.canon := by
  unfold State.freeHome
  (repeat' split) <;> simp

@[simp ↓] theorem State.applyMirror_canon (p : Place) : (s.applyMirror p).canon = s.canon := by simp [State.applyMirror]
@[simp ↓] theorem State.promoteShard_canon (p : Place) : (s.promoteShard p).canon = s.canon := by
  unfold State.promoteShard
  split <;> simp

@[simp ↓] theorem State.applyShard_canon (p : Place) : (s.applyShard p).canon = s.canon := by
  unfold State.applyShard
  (repeat' split) <;> simp

@[simp ↓] theorem State.drainCtx_canon (i : Nat) : (s.drainCtx i).canon = s.canon := by
  unfold State.drainCtx
  split <;> simp

@[simp ↓] theorem State.applyContext_canon (p : Place) : (s.applyContext p).canon = s.canon := by
  unfold State.applyContext
  (repeat' split) <;> simp

@[simp ↓] theorem State.applyPlace_canon (p : Place) : (s.applyPlace p).canon = s.canon := by
  unfold State.applyPlace
  extract_lets known s0 s1 fresh q s2 s3 s4
  have h4 : s4.canon = s.canon := by
    simp [s4, s3, s2, s1]
  clear_value s4
  (repeat' split) <;> simp [h4]

@[simp ↓] theorem State.copyDone_canon (c : CopyOut) : (s.copyDone c).canon = s.canon := by
  have hp : ∀ (p q : Place) r, (((match p.kind with | 1 => (s.storePlace q).applyExpert p | 2 => (s.storePlace q).applyMirror p | 3 => (s.storePlace q).applyShard p | _ => s.storePlace q) : State).report r).canon = s.canon := by
    intro p q r
    refine (State.report_canon ..).trans ?_
    split
    · exact (State.applyExpert_canon ..).trans (State.storePlace_canon ..)
    · exact (State.applyMirror_canon ..).trans (State.storePlace_canon ..)
    · exact (State.applyShard_canon ..).trans (State.storePlace_canon ..)
    · exact State.storePlace_canon ..
  unfold State.copyDone
  split
  · exact ite_keeps_canon _ (fun _ => rfl) fun _ => hp ..
  · exact ite_keeps_canon _ (fun _ => rfl) fun _ => hp ..
  · rfl

@[simp ↓] theorem State.landed_canon (n : Nat) : (s.landed n).canon = s.canon := by rfl
@[simp ↓] theorem State.takeCopyAck_canon (b : Bytes) : (s.takeCopyAck b).canon = s.canon := by
  unfold State.takeCopyAck
  extract_lets mine
  split
  · rfl
  · exact ite_keeps_canon _ (fun _ => ite_keeps_canon _ (fun _ => rfl) fun _ => (State.copyDone_canon ..).trans (State.landed_canon ..)) fun _ =>
      ite_keeps_canon _ (fun _ => (foldl_canon (fun s m => s.abortMove_canon ..) _ _)) fun _ => rfl

@[simp ↓] theorem State.storeHeld_canon (p : Place) (h : HeldCopy) : (s.storeHeld p h).canon = s.canon := by simp [State.storeHeld]
@[simp ↓] theorem State.settleHeld_canon : s.settleHeld.canon = s.canon := by
  unfold State.settleHeld
  refine foldl_canon (fun s h => ?_) _ _
  split
  · rfl
  · dsimp only
    split
    · simp
    · split
      · rfl
      · split <;> simp

@[simp ↓] theorem State.takeCopy_canon (b : Bytes) : (s.takeCopy b).canon = s.canon := by
  unfold State.takeCopy
  extract_lets src kind tenant ofs n data pkind p ack placed bad old start s1 hh at_ last h2 h3 s4 s5 s6
  have hack : ∀ t st, (ack t st).canon = t.canon := fun t st => State.nvTo_canon ..
  have h1 : s1.canon = s.canon := by
    cases ho : old <;> simp [s1, ho]
  have h6 : s6.canon = s.canon := by
    simp [s6, s4, h1]
  clear_value s1 s6 ack
  refine ite_keeps_canon _ (fun _ => by simp [hack]) fun _ => ite_keeps_canon _ (fun _ => by simp [hack]) fun _ => ite_keeps_canon _ (fun _ => by simp [hack]) fun _ => ?_
  exact ite_keeps_canon _ (fun _ => by simp [hack, h6]) fun _ => ite_keeps_canon _ (fun _ => by simp [h6]) fun _ => h6

@[simp ↓] theorem mirrorTimeout_canon (copyId : W64) : (mirrorTimeout copyId s).canon = s.canon := by
  unfold mirrorTimeout
  split
  · rfl
  · refine ite_keeps_canon _ (fun _ => ?_) fun _ => rfl
    extract_lets g s1 s2 p
    have h2 : s2.canon = s.canon := by
      simp only [s2]
      split
      · exact State.modNs_canon ..
      · exact State.modShard_canon ..
      · rfl
    split
    · exact h2
    · exact (State.report_canon ..).trans ((State.storePlace_canon ..).trans h2)

/-! Membership, failure declarations, levels, takeover, drain, and what a group does at each tick (17 R392 to R420). -/

@[simp ↓] theorem State.modGroup_canon (f : Group → Group) : (s.modGroup f).canon = s.canon := by rfl
@[simp ↓] theorem State.modMember_canon (r : Nat) (f : Member → Member) : (s.modMember r f).canon = s.canon := by rfl
@[simp ↓] theorem State.suspect_canon (r cause : Nat) : (s.suspect r cause).canon = s.canon := by simp [State.suspect]
@[simp ↓] theorem State.assign_canon (p : Place) : (s.assign p).canon = s.canon := by
  unfold State.assign
  (repeat' split) <;> simp

@[simp ↓] theorem State.assignAll_canon (p : Place → Bool) : (s.assignAll p).canon = s.canon := by simp [State.assignAll]
@[simp ↓] theorem State.flushPlaces_canon : s.flushPlaces.canon = s.canon := by simp [State.flushPlaces]
@[simp ↓] theorem State.takePlaceAck_canon (b : Bytes) : (s.takePlaceAck b).canon = s.canon := by simp [State.takePlaceAck]
@[simp ↓] theorem State.takePlace_canon (b : Bytes) : (s.takePlace b).canon = s.canon := by simp [State.takePlace]
@[simp ↓] theorem State.reconcile_canon (e : Nat) : (s.reconcile e).canon = s.canon := by
  unfold State.reconcile
  dsimp only
  rw [State.nvTo_canon, State.modGroup_canon, ite_canon, State.nvTo_canon, ite_self, foldl_canon, foldl_canon, foldl_canon]
  · simp
  · intro s h
    (repeat' split) <;> simp
  · simp
  · simp

@[simp ↓] theorem State.placesTick_canon : s.placesTick.canon = s.canon := by
  simp only [State.placesTick]
  (repeat' split) <;> simp

@[simp ↓] theorem State.groupActivate_canon (i : Image) (old : Option Image) : (s.groupActivate i old).canon = s.canon := by
  unfold State.groupActivate
  split <;> simp

@[simp ↓] theorem State.sendJoin_canon : s.sendJoin.canon = s.canon := by
  unfold State.sendJoin
  exact (State.modGroup_canon ..).trans (State.nv_canon ..)

@[simp ↓] theorem State.followMembers_canon (l : List Nat) : (s.followMembers l).canon = s.canon := by simp [State.followMembers]
@[simp ↓] theorem State.stepIn_canon (a : Admission) (t : Nat) : (s.stepIn a t).canon = s.canon := by simp [State.stepIn]
@[simp ↓] theorem beaconIn_canon (net : Nat) (b : Bytes) (t : Nat) : (beaconIn net b t s).canon = s.canon := by
  have h1 := s.advance_canon t
  unfold beaconIn
  generalize s.advance t = s1 at h1
  extract_lets s0 uid src waiting n first member dep s2 f s3 s4 s5 s6
  have hw : waiting.canon = s.canon := (State.modGroup_canon ..).trans h1
  have h3 : s3.canon = s.canon := h1
  have h4 : s4.canon = s.canon := ite_keeps_canon _ (fun _ => (State.followMembers_canon ..).trans h3) fun _ => h3
  have h5 : s5.canon = s.canon := ite_keeps_canon _ (fun _ => (State.modGroup_canon ..).trans h4) fun _ => h4
  have h6 : s6.canon = s.canon := ite_keeps_canon _ (fun _ => (refEvent_canon ..).trans h5) fun _ => h5
  clear_value waiting s6
  refine ite_keeps_canon _ (fun _ => h1) fun _ => ite_keeps_canon _ (fun _ => h1) fun _ => ite_keeps_canon _ (fun _ => ?_) fun _ =>
    ite_keeps_canon _ (fun _ => h1) fun _ => ?_
  · exact ite_keeps_canon _ (fun _ => ite_keeps_canon _ (fun _ => (State.modGroup_canon ..).trans h1) fun _ => h1) fun _ =>
      ite_keeps_canon _ (fun _ => (State.sendJoin_canon _).trans hw) fun _ => (State.modGroup_canon ..).trans hw
  · split
    · exact ite_keeps_canon _ (fun _ => (State.stepIn_canon ..).trans h6) fun _ => h6
    · exact ite_keeps_canon _ (fun _ => (State.sendJoin_canon _).trans h6) fun _ => h6

@[simp ↓] theorem joinIn_canon (net : Nat) (b : Bytes) : (joinIn net b s).canon = s.canon := by
  simp only [joinIn]
  (repeat' split) <;> simp

@[simp ↓] theorem joinRetry_canon : (joinRetry s).canon = s.canon := by
  unfold joinRetry
  split <;> simp

@[simp ↓] theorem admitIn_canon (b : Bytes) : (admitIn b s).canon = s.canon := by simp [admitIn]
@[simp ↓] theorem rejectIn_canon (b : Bytes) : (rejectIn b s).canon = s.canon := by simp [rejectIn]
@[simp ↓] theorem readyIn_canon (b : Bytes) : (readyIn b s).canon = s.canon := by simp [readyIn]
@[simp ↓] theorem readyTimeout_canon (r : Nat) : (readyTimeout r s).canon = s.canon := by simp [readyTimeout]
@[simp ↓] theorem admissionDeadline_canon (r : Nat) : (admissionDeadline r s).canon = s.canon := by simp [admissionDeadline]
@[simp ↓] theorem noBeacon_canon : (noBeacon s).canon = s.canon := by simp [noBeacon]
@[simp ↓] theorem statusIn_canon (b : Bytes) : (statusIn b s).canon = s.canon := by simp [statusIn]
@[simp ↓] theorem statusTimeout_canon (r : Nat) : (statusTimeout r s).canon = s.canon := by simp [statusTimeout]
@[simp ↓] theorem failIn_canon (b : Bytes) : (failIn b s).canon = s.canon := by simp [failIn]
@[simp ↓] theorem State.failOver_canon (r : Nat) (p : Place) : (s.failOver r p).canon = s.canon := by
  unfold State.failOver
  (repeat' split) <;> simp

@[simp ↓] theorem State.declare_canon (r cause : Nat) : (s.declare r cause).canon = s.canon := by simp [State.declare]
@[simp ↓] theorem State.linksTick_canon : s.linksTick.canon = s.canon := by simp [State.linksTick]
@[simp ↓] theorem State.levelTick_canon : s.levelTick.canon = s.canon := by simp [State.levelTick]
@[simp ↓] theorem State.levelWithdraw_canon : s.levelWithdraw.canon = s.canon := by simp [State.levelWithdraw]
@[simp ↓] theorem State.levelManage_canon : s.levelManage.canon = s.canon := by simp [State.levelManage]
@[simp ↓] theorem levelIn_canon (b : Bytes) : (levelIn b s).canon = s.canon := by simp [levelIn]
@[simp ↓] theorem State.runningTick_canon : s.runningTick.canon = s.canon := by simp [State.runningTick]
@[simp ↓] theorem State.admitOne_canon (j : JoinReq) : (s.admitOne j).canon = s.canon := by
  unfold State.admitOne
  exact (State.nv_canon ..).trans (State.modGroup_canon ..)

@[simp ↓] theorem State.sendSnapshot_canon (r : Nat) (l : List Place) : (s.sendSnapshot r l).canon = s.canon := by simp [State.sendSnapshot]
@[simp ↓] theorem State.snapshotTick_canon : s.snapshotTick.canon = s.canon := by simp [State.snapshotTick]
@[simp ↓] theorem State.batchTick_canon : s.batchTick.canon = s.canon := by simp [State.batchTick]
@[simp ↓] theorem State.deputyTick_canon : s.deputyTick.canon = s.canon := by simp [State.deputyTick]
@[simp ↓] theorem State.drainTick_canon : s.drainTick.canon = s.canon := by
  unfold State.drainTick
  split
  · rfl
  · refine (foldl_canon (fun s p => ?_) _ _).trans (State.modMember_canon ..)
    (repeat' split) <;> simp

@[simp ↓] theorem State.drainingTick_canon : s.drainingTick.canon = s.canon := by simp [State.drainingTick]
@[simp ↓] theorem State.takeoverTick_canon : s.takeoverTick.canon = s.canon := by simp [State.takeoverTick]
@[simp ↓] theorem State.takeMembers_canon : s.takeMembers.canon = s.canon := by rfl
@[simp ↓] theorem State.actingManager_canon (voted : Bool) : (s.actingManager voted).canon = s.canon := by simp [State.actingManager]
@[simp ↓] theorem State.managerTick_canon : s.managerTick.canon = s.canon := by simp [State.managerTick]
@[simp ↓] theorem State.groupTick_canon : s.groupTick.canon = s.canon := by simp [State.groupTick]
@[simp ↓] theorem takeoverIn_canon (b : Bytes) : (takeoverIn b s).canon = s.canon := by simp [takeoverIn]
@[simp ↓] theorem voteIn_canon (b : Bytes) : (voteIn b s).canon = s.canon := by simp [voteIn]
@[simp ↓] theorem takeoverTimeout_canon : (takeoverTimeout s).canon = s.canon := by simp [takeoverTimeout]
@[simp ↓] theorem locateIn_canon (net : Nat) (b : Bytes) : (locateIn net b s).canon = s.canon := by
  simp only [locateIn]
  (repeat' split) <;> simp

@[simp ↓] theorem State.drainAnswer_canon (net rank result : Nat) : (s.drainAnswer net rank result).canon = s.canon := by rfl
@[simp ↓] theorem drainIn_canon (net : Nat) (b : Bytes) : (drainIn net b s).canon = s.canon := by simp [drainIn]
@[simp ↓] theorem drainDone_canon (r : Nat) : (drainDone r s).canon = s.canon := by
  unfold drainDone
  split <;> simp

@[simp ↓] theorem discoverIn_canon (net : Nat) (b : Bytes) : (discoverIn net b s).canon = s.canon := by simp [discoverIn]
@[simp ↓] theorem helloIn_canon (net : Nat) (b : Bytes) : (helloIn net b s).canon = s.canon := by simp [helloIn]
@[simp ↓] theorem placementRetry_canon : (placementRetry s).canon = s.canon := by simp [placementRetry]
@[simp ↓] theorem buddyTimeout_canon (h : W32) : (buddyTimeout h s).canon = s.canon := by
  unfold buddyTimeout
  split <;> simp

/-! What the compute commands do: model loads, contexts, token batches, refits (08 R196 to R201; 10 R231 to R234, R247, R248, R250; 15 R360 to R363). -/

@[simp ↓] theorem State.releaseModel_canon (m : Model) : (s.releaseModel m).canon = s.canon := by simp [State.releaseModel]
@[simp ↓] theorem State.growObj_canon (tenant : Nat) (k : ObjKind) (fmt : Byte) (old : Option LoadObj) (n : Nat) :
    (s.growObj tenant k fmt old n).2.canon = s.canon := by
  unfold State.growObj
  split <;> simp

@[simp ↓] theorem loadBegin_canon (id : CmdId) (tenant : Nat) (b : Bytes) : (loadBegin id tenant b s).canon = s.canon := by simp [loadBegin]
@[simp ↓] theorem loadData_canon (id : CmdId) (tenant : Nat) (b : Bytes) : (loadData id tenant b s).canon = s.canon := by
  unfold loadData
  extract_lets
  refine ite_keeps_canon _ (fun _ => by simp) fun _ => ?_
  split
  · simp
  · refine ite_keeps_canon _ (fun _ => by simp) fun _ => ite_keeps_canon _ (fun _ => by simp) fun _ => ?_
    split
    · simp
    · refine ite_keeps_canon _ (fun _ => by simp) fun _ => ?_
      extract_lets old had len more fmt r s1 o s2 t s3
      have h3 : s3.canon = s.canon := by
        simp [s3, s2, s1, r]
      exact ite_keeps_canon _ (fun _ => by simp) fun _ => ite_keeps_canon _ (fun _ => by simp) fun _ => by simp [h3]

@[simp ↓] theorem loadCommit_canon (id : CmdId) (tenant : Nat) (b : Bytes) : (loadCommit id tenant b s).canon = s.canon := by
  unfold loadCommit
  (repeat' split) <;> simp

@[simp ↓] theorem State.loadEnds_canon (m : Model) : (s.loadEnds m).canon = s.canon := by simp [State.loadEnds]
@[simp ↓] theorem loadAddScale_canon (id : CmdId) (tenant : Nat) (b : Bytes) : (loadAddScale id tenant b s).canon = s.canon := by
  unfold loadAddScale
  (repeat' split) <;> simp

@[simp ↓] theorem loadAbandon_canon (id : CmdId) (tenant : Nat) (b : Bytes) : (loadAbandon id tenant b s).canon = s.canon := by
  unfold loadAbandon
  (repeat' split) <;> simp

@[simp ↓] theorem loadTimeout_canon (key : W64) : (loadTimeout key s).canon = s.canon := by
  unfold loadTimeout
  split <;> simp

@[simp ↓] theorem modelUnload_canon (id : CmdId) (tenant : Nat) (b : Bytes) : (modelUnload id tenant b s).canon = s.canon := by
  unfold modelUnload
  (repeat' split) <;> simp

@[simp ↓] theorem State.unloadTick_canon : s.unloadTick.canon = s.canon := by simp [State.unloadTick]
@[simp ↓] theorem listModels_canon (id : CmdId) (tenant : Nat) (b : Bytes) : (listModels id tenant b s).canon = s.canon := by simp [listModels]
@[simp ↓] theorem State.settleLoads_canon : s.settleLoads.canon = s.canon := by simp [State.settleLoads]
@[simp ↓] theorem openContext_canon (id : CmdId) (tenant : Nat) (b : Bytes) : (openContext id tenant b s).canon = s.canon := by
  have hc := fun t => s.complete_canon id t 0 0 []
  unfold openContext
  refine ite_keeps_canon _ (fun _ => hc _) fun _ => ?_
  split
  · exact hc _
  · refine ite_keeps_canon _ (fun _ => hc _) fun _ => ?_
    split
    · exact hc _
    · refine ite_keeps_canon _ (fun _ => hc _) fun _ => ite_keeps_canon _ (fun _ => State.complete_canon ..) fun _ =>
        ite_keeps_canon _ (fun _ => State.askBuddy_canon ..) fun _ => State.finishOpen_canon ..

@[simp ↓] theorem closeContext_canon (id : CmdId) (tenant : Nat) (b : Bytes) (hs : s.canon = true) : (closeContext id tenant b s).canon = true := by
  unfold closeContext
  (repeat' split) <;> simp +contextual [hs]

@[simp ↓] theorem closeDone_canon (h : W32) : (closeDone h s).canon = s.canon := by
  unfold closeDone
  split <;> simp

@[simp ↓] theorem getContext_canon (id : CmdId) (tenant : Nat) (b : Bytes) : (getContext id tenant b s).canon = s.canon := by
  unfold getContext
  (repeat' split) <;> simp

@[simp ↓] theorem tokenBatch_canon (id : CmdId) (tenant : Nat) (b : Bytes) (plan : Plan) : (tokenBatch id tenant b plan s).canon = s.canon := by
  have hc := fun t => s.complete_canon id t 0 0 []
  unfold tokenBatch
  refine ite_keeps_canon _ (fun _ => hc _) fun _ => ?_
  split
  · exact hc _
  · refine ite_keeps_canon _ (fun _ => hc _) fun _ => ?_
    split
    · exact hc _
    · split
      · exact (State.complete_canon ..).trans (ite_keeps_canon _ (fun _ => State.quotaRefused_canon ..) fun _ => rfl)
      · have ha := (s.admitRequest_canon id)
        refine ite_keeps_canon _ (fun _ => (State.complete_canon ..).trans (State.countRefused_canon ..)) fun _ =>
          ite_keeps_canon _ (fun _ => (State.startBatch_canon ..).trans ((State.modCtx_canon ..).trans (ha ..))) fun _ => (State.modCtx_canon ..).trans (ha ..)

@[simp ↓] theorem refitExpert_canon (id : CmdId) (tenant : Nat) (b : Bytes) : (refitExpert id tenant b s).canon = s.canon := by
  unfold refitExpert
  extract_lets
  refine ite_keeps_canon _ (fun _ => by simp) fun _ => ite_keeps_canon _ (fun _ => by simp) fun _ => ite_keeps_canon _ (fun _ => by simp) fun _ => ?_
  split
  · simp
  · refine ite_keeps_canon _ (fun _ => by simp) fun _ => ite_keeps_canon _ (fun _ => by simp) fun _ => ?_
    split
    · simp
    · refine ite_keeps_canon _ (fun _ => by simp) fun _ => ite_keeps_canon _ (fun _ => by simp) fun _ => ite_keeps_canon _ (fun _ => by simp) fun _ => ?_
      extract_lets work st w n r s1 j lib s2
      have h1 : s1.canon = s.canon := by
        simp [s1, r, n, w]
      exact ite_keeps_canon _ (fun _ => by simp) fun _ => ite_keeps_canon _ (fun _ => by simp) fun _ => by simp [s2, h1]

@[simp ↓] theorem State.modRefit_canon (job : Nat) (f : Refit → Refit) : (s.modRefit job f).canon = s.canon := by rfl
@[simp ↓] theorem State.dropRefit_canon (job : Nat) : (s.dropRefit job).canon = s.canon := by rfl
@[simp ↓] theorem State.releaseScale_canon (j : Refit) : (s.releaseScale j).canon = s.canon := by simp [State.releaseScale]
@[simp ↓] theorem State.refitFails_canon (j : Refit) : (s.refitFails j).canon = s.canon := by simp [State.refitFails]
@[simp ↓] theorem State.refitWrites_canon (j : Refit) : (s.refitWrites j).canon = s.canon := by
  unfold State.refitWrites
  (repeat' split) <;> simp

@[simp ↓] theorem State.streamState_canon (j : Refit) : (s.streamState j).canon = s.canon := by
  unfold State.streamState
  split <;> simp

@[simp ↓] theorem State.refitTick_canon : s.refitTick.canon = s.canon := by
  unfold State.refitTick
  refine foldl_canon (fun s _ => ?_) _ _
  (repeat' split) <;> simp

@[simp ↓] theorem State.settleRefits_canon : s.settleRefits.canon = s.canon := by
  unfold State.settleRefits
  refine foldl_canon (fun s j => ?_) _ _
  dsimp only
  (repeat' split) <;> simp

@[simp ↓] theorem refitCommit_canon (job : Nat) : (refitCommit job s).canon = s.canon := by
  unfold refitCommit
  (repeat' split) <;> simp

@[simp ↓] theorem refitShadowTimeout_canon (job : Nat) : (refitShadowTimeout job s).canon = s.canon := by
  simp only [refitShadowTimeout]
  (repeat' split) <;> simp

/-! The search commands: shards, inserts, deletes, filters, queries, group queries, repair, embedding jobs (12 R270 to R292; 15 R364, R365; 17 R405, R416). -/

@[simp ↓] theorem State.modSearch_canon (f : Search → Search) : (s.modSearch f).canon = s.canon := by rfl
@[simp ↓] theorem createIndex_canon (id : CmdId) (tenant : Nat) (b : Bytes) : (createIndex id tenant b s).canon = s.canon := by simp [createIndex]
@[simp ↓] theorem State.indexCommit_canon (x : Shard) : (s.indexCommit x).2.canon = s.canon := State.commitParts_canon ..
@[simp ↓] theorem State.shadowCommit_canon (i : W64) (k : W16) (id : Option CmdId) (seq : Nat) (nodes : List Nat) :
    (s.shadowCommit i k id seq nodes).canon = s.canon := by
  unfold State.shadowCommit
  split <;> simp

@[simp ↓] theorem destroyIndex_canon (id : CmdId) (tenant : Nat) (b : Bytes) : (destroyIndex id tenant b s).canon = s.canon := by
  unfold destroyIndex
  (repeat' split) <;> simp

@[simp ↓] theorem State.settleShards_canon : s.settleShards.canon = s.canon := by
  unfold State.settleShards
  refine foldl_canon (fun s _ => ?_) _ _
  (repeat' split) <;> simp

@[simp ↓] theorem State.indexWrite_canon (a : W64) (b : Bytes) : (s.indexWrite a b).canon = s.canon := by simp [State.indexWrite]
@[simp ↓] theorem State.putShard_canon (x y : Shard) (l : List Nat) : (s.putShard x y l).canon = s.canon := by simp [State.putShard]
@[simp ↓] theorem State.countWalk_canon (a b : QShard) : (s.countWalk a b).canon = s.canon := by rfl
@[simp ↓] theorem State.insertVecs_canon (x : Shard) (id : Option CmdId) (l : List (W64 × Bytes)) :
    (s.insertVecs x id l).canon = s.canon := by simp [State.insertVecs]

@[simp ↓] theorem insertCmd_canon (id : CmdId) (tenant : Nat) (b : Bytes) : (insertCmd id tenant b s).canon = s.canon := by
  have hc := fun t => s.complete_canon id t 0 0 []
  unfold insertCmd
  refine ite_keeps_canon _ (fun _ => hc _) fun _ => ?_
  split
  · exact hc _
  · exact hc _
  · exact ite_keeps_canon _ (fun _ => hc _) fun _ => ite_keeps_canon _ (fun _ => hc _) fun _ => State.insertVecs_canon ..

@[simp ↓] theorem State.putFilter_canon (f : Filter) (bits : Marks) : (s.putFilter f bits).canon = s.canon := by simp [State.putFilter]
@[simp ↓] theorem State.clearNodeBits_canon (i : W64) (k : W16) (l : List Nat) :
    (s.clearNodeBits i k l).canon = s.canon := by simp [State.clearNodeBits]

@[simp ↓] theorem State.publishTick_canon : s.publishTick.canon = s.canon := by
  unfold State.publishTick
  refine foldl_canon (fun s _ => ?_) _ _
  (repeat' split) <;> simp

@[simp ↓] theorem State.settleInserts_canon : s.settleInserts.canon = s.canon := by simp [State.settleInserts]
@[simp ↓] theorem State.settleDeletes_canon : s.settleDeletes.canon = s.canon := by simp [State.settleDeletes]
@[simp ↓] theorem deleteCmd_canon (id : CmdId) (tenant : Nat) (b : Bytes) : (deleteCmd id tenant b s).canon = s.canon := by
  unfold deleteCmd
  split <;> simp

@[simp ↓] theorem indexRepair_canon : (indexRepair s).canon = s.canon := by
  simp only [indexRepair]
  (repeat' split) <;> simp

@[simp ↓] theorem State.changeFilter_canon (id : CmdId) (x : Shard) (idx : Nat) (bits : Marks) (all : Bool) (dw0 : W32) :
    (s.changeFilter id x idx bits all dw0).canon = s.canon := by
  simp [State.changeFilter]

@[simp ↓] theorem setFilter_canon (id : CmdId) (tenant : Nat) (b : Bytes) : (setFilter id tenant b s).canon = s.canon := by
  have hc := fun t => s.complete_canon id t 0 0 []
  have hf := s.changeFilter_canon id
  unfold setFilter
  extract_lets op h n
  clear_value op h n
  refine ite_keeps_canon _ (fun _ => hc _) fun _ => ?_
  split
  · exact hc _
  · exact hc _
  · refine ite_keeps_canon _ (fun _ => ?_) fun _ => ?_
    · refine ite_keeps_canon _ (fun _ => hc _) fun _ => ?_
      split
      · exact hc _
      · exact ite_keeps_canon _ (fun _ => State.complete_canon ..) fun _ => ite_keeps_canon _ (fun _ => hc _) fun _ => State.changeFilter_canon ..
    · split
      · exact hc _
      · dsimp only
        split
        · exact ite_keeps_canon _ (fun _ => hc _) fun _ => hf ..
        · exact ite_keeps_canon _ (fun _ => hc _) fun _ => hf ..
        · exact hf ..
        · split
          · exact hf ..
          · exact hc _
        · exact State.modSearch_canon ..
        · exact hc _

@[simp ↓] theorem State.filterTick_canon : s.filterTick.canon = s.canon := by
  unfold State.filterTick
  refine foldl_canon (fun s _ => ?_) _ _
  (repeat' split) <;> simp

@[simp ↓] theorem State.settleFilters_canon : s.settleFilters.canon = s.canon := by
  unfold State.settleFilters
  refine foldl_canon (fun s _ => ?_) _ _
  (repeat' split) <;> simp

@[simp ↓] theorem State.beginQuery_canon (id : CmdId) (tenant : Nat) (p : QueryParams) (l : List (Shard × Option Nat × Bool)) (gid : Option W64) (ans : Option Nat) (asked : List (Nat × Nat)) (dl : Nat) :
    (s.beginQuery id tenant p l gid ans asked dl).canon = s.canon := by
  rfl

@[simp ↓] theorem queryCmd_canon (id : CmdId) (tenant : Nat) (b : Bytes) (plan : Plan) : (queryCmd id tenant b plan s).canon = s.canon := by
  unfold queryCmd
  extract_lets p held mine dir asked bad found own s1 dl qid s2 pb pad s3
  have h3 : s3.canon = s.canon := by
    simp [s3, s2, s1]
  refine ite_keeps_canon _ (fun _ => by simp) fun _ => ite_keeps_canon _ (fun _ => by simp) fun _ => ite_keeps_canon _ (fun _ => by simp) fun _ => ?_
  split
  · simp
  · refine ite_keeps_canon _ (fun _ => by simp) fun _ => ?_
    split
    · simp
    · exact ite_keeps_canon _ (fun _ => by simp) fun _ => ite_keeps_canon _ (fun _ => by simp) fun _ => ite_keeps_canon _ (fun _ => by simp) fun _ => by simp [h3]

@[simp ↓] theorem State.modQuery_canon (id : CmdId) (f : Query → Query) : (s.modQuery id f).canon = s.canon := by rfl
@[simp ↓] theorem State.startTraversal_canon (q : Query) (k : QShard) (ctx : Nat) : (s.startTraversal q k ctx).canon = s.canon := by
  unfold State.startTraversal
  split <;> simp

@[simp ↓] theorem nodeRead_canon (ctx : Nat) (marked : Bool) : (nodeRead ctx marked s).canon = s.canon := by
  unfold nodeRead
  (repeat' split) <;> simp

@[simp ↓] theorem State.rerank_canon (q : Query) (k : QShard) : (s.rerank q k).canon = s.canon := by
  simp only [State.rerank]
  (repeat' split) <;> simp

@[simp ↓] theorem State.finishQuery_canon (q : Query) : (s.finishQuery q).canon = s.canon := by
  unfold State.finishQuery
  (repeat' split) <;> simp

@[simp ↓] theorem State.queryTick_canon : s.queryTick.canon = s.canon := by
  unfold State.queryTick
  refine (foldl_canon (fun s q => by simp) _ _).trans ((foldl_canon (fun s q => ?_) _ _).trans (foldl_canon (fun s q => ?_) _ _))
  · refine foldl_canon (fun s k => ?_) _ _
    (repeat' split) <;> simp
  · simp

@[simp ↓] theorem queryIn_canon (b : Bytes) : (queryIn b s).canon = s.canon := by
  unfold queryIn
  refine ite_keeps_canon _ (fun _ => rfl) fun _ => ite_keeps_canon _ (fun _ => State.nvTo_canon ..) fun _ =>
    ite_keeps_canon _ (fun _ => State.nvTo_canon ..) fun _ => ite_keeps_canon _ (fun _ => State.nvTo_canon ..) fun _ => ?_
  split
  · exact State.nvTo_canon ..
  · exact State.beginQuery_canon ..

@[simp ↓] theorem answerIn_canon (b : Bytes) : (answerIn b s).canon = s.canon := by
  unfold answerIn
  (repeat' split) <;> simp

@[simp ↓] theorem groupQueryTimeout_canon (qid : W64) : (groupQueryTimeout qid s).canon = s.canon := by
  unfold groupQueryTimeout
  split <;> simp

@[simp ↓] theorem embeddingJob_canon (id : CmdId) (tenant : Nat) (b : Bytes) (outDim : Nat) :
    (embeddingJob id tenant b outDim s).canon = s.canon := by
  have hc := fun t => s.complete_canon id t 0 0 []
  unfold embeddingJob
  refine ite_keeps_canon _ (fun _ => hc _) fun _ => ite_keeps_canon _ (fun _ => hc _) fun _ => ite_keeps_canon _ (fun _ => hc _) fun _ => ?_
  split
  · exact hc _
  · refine ite_keeps_canon _ (fun _ => hc _) fun _ => ?_
    split
    · exact hc _
    · exact ite_keeps_canon _ (fun _ => hc _) fun _ => ite_keeps_canon _ (fun _ => hc _) fun _ => State.admitRequest_canon ..
  · exact hc _

@[simp ↓] theorem State.modJob_canon (id : W16) (f : EmbedJob → EmbedJob) : (s.modJob id f).canon = s.canon := by rfl
@[simp ↓] theorem State.endJob_canon (j : EmbedJob) (t : Status) : (s.endJob j t).canon = s.canon := by simp [State.endJob]
@[simp ↓] theorem State.jobTick_canon (j : EmbedJob) : (s.jobTick j).canon = s.canon := by
  unfold State.jobTick
  refine ite_keeps_canon _ (fun _ => rfl) fun _ => ite_keeps_canon _ (fun _ => s.endJob_canon ..) fun _ => ite_keeps_canon _ (fun _ => rfl) fun _ =>
    ite_keeps_canon _ (fun _ => s.endJob_canon ..) fun _ => ite_keeps_canon _ (fun _ => State.endJob_canon ..) fun _ =>
    ite_keeps_canon _ (fun _ => State.modJob_canon ..) fun _ => ?_
  split
  · exact s.endJob_canon ..
  · have hi : ∀ (c : Prop) [Decidable c] x l, (if c then s else s.drawn.insertVecs x none l).canon = s.canon :=
      fun c _ x l => ite_keeps_canon c (fun _ => rfl) fun _ => State.insertVecs_canon ..
    refine ite_keeps_canon _ (fun _ => (State.endJob_canon ..).trans ((State.modJob_canon ..).trans ?_)) fun _ => (State.modJob_canon ..).trans ?_
    · exact hi ..
    · exact hi ..

@[simp ↓] theorem State.searchTick_canon : s.searchTick.canon = s.canon := by simp [State.searchTick]
@[simp ↓] theorem State.settleSearch_canon : s.settleSearch.canon = s.canon := by simp [State.settleSearch]

/-! I/O commands: their order, the NVM command set, queue resets, namespaces (15 R347 to R359; 14 R342; 17 R404; 19 R452, R453). -/

@[simp ↓] theorem State.modHostCtrl_canon (n : W16) (f : HostCtrl → HostCtrl) : (s.modHostCtrl n f).canon = s.canon := by rfl
@[simp ↓] theorem State.changeRange_canon (id : CmdId) (n : Namespace) (ofs len : Nat) (d : Option Bytes) :
    (s.changeRange id n ofs len d).2.canon = s.canon := by
  unfold State.changeRange
  split
  · rfl
  · refine foldl_snd_canon (fun r i => ?_) _ _
    (repeat' split) <;> simp

@[simp ↓] theorem State.hostChange_canon (h : IoHdr) (n : Namespace) (l : List (Nat × Nat)) (d : Option Bytes) :
    (s.hostChange h n l d).canon = s.canon := by
  simp [State.hostChange]

@[simp ↓] theorem nvmWrite_canon (h : IoHdr) (slba : W64) (nlb : W16) (data : Bytes) : (nvmWrite h slba nlb data s).canon = s.canon := by
  unfold nvmWrite
  (repeat' split) <;> simp

@[simp ↓] theorem nvmWriteZeroes_canon (h : IoHdr) (slba : W64) (nlb : W16) : (nvmWriteZeroes h slba nlb s).canon = s.canon := by
  unfold nvmWriteZeroes
  (repeat' split) <;> simp

@[simp ↓] theorem nvmDsm_canon (h : IoHdr) (attrs : W32) (ranges : List (W64 × W32)) : (nvmDsm h attrs ranges s).canon = s.canon := by
  unfold nvmDsm
  split <;> simp

@[simp ↓] theorem nvmFlush_canon (h : IoHdr) : (nvmFlush h s).canon = s.canon := by
  unfold nvmFlush
  split <;> simp

@[simp ↓] theorem State.finishRead_canon (r : HostRead) : (s.finishRead r).canon = s.canon := by
  simp only [State.finishRead]
  (repeat' split) <;> simp

@[simp ↓] theorem nvmRead_canon (h : IoHdr) (slba : W64) (nlb : W16) : (nvmRead h slba nlb s).canon = s.canon := by
  unfold nvmRead
  (repeat' split) <;> simp

@[simp ↓] theorem State.slotRead_canon (l : Nat) (bad : Bool) : (s.slotRead l bad).canon = s.canon := by simp [State.slotRead]
@[simp ↓] theorem startIo_canon (i : Instr) (hs : s.canon = true) : (startIo i s).canon = true := by
  simp only [startIo]
  (repeat' split) <;> simp [hs]

@[simp ↓] theorem State.startNext_canon (hs : s.canon = true) : s.startNext.canon = true := by
  unfold State.startNext
  (repeat' split) <;> simp [hs]

@[simp ↓] theorem State.startAll_canon (n : Nat) (hs : s.canon = true) : (State.startAll n s).canon = true := by
  induction n generalizing s with
  | zero => exact hs
  | succ n ih => simp [hs, State.startAll, ih]

@[simp ↓] theorem State.runIo_canon (hs : s.canon = true) : s.runIo.canon = true := by simp [hs, State.runIo]
@[simp ↓] theorem State.trimLost_canon : s.trimLost.canon = s.canon := by rfl
@[simp ↓] theorem State.mirrorPart_canon (p : WritePart) : (s.mirrorPart p).canon = s.canon := by
  simp only [State.mirrorPart]
  (repeat' split) <;> simp

@[simp ↓] theorem State.settleHost_canon (ended : List WritePart) : (s.settleHost ended).canon = s.canon := by simp [State.settleHost]
@[simp ↓] theorem State.dropNs_canon (n : Namespace) : (s.dropNs n).canon = s.canon := by simp [State.dropNs]
@[simp ↓] theorem State.settleNamespaces_canon : s.settleNamespaces.canon = s.canon := by
  unfold State.settleNamespaces
  refine foldl_canon (fun s n => ite_keeps_canon _ (fun _ => rfl) fun _ => ?_) _ _
  split
  · exact ite_keeps_canon _ (fun _ => State.complete_canon ..) fun _ => rfl
  · refine ite_keeps_canon _ (fun _ => rfl) fun _ => ?_
    extract_lets s1
    have h1 : s1.canon = s.canon := (State.modNs_canon ..).trans (foldl_canon State.clearGroupMap_canon _ _)
    exact ite_keeps_canon _ (fun _ => h1) fun _ => (State.complete_canon ..).trans h1
  · exact ite_keeps_canon _ (fun _ => rfl) fun _ => (State.complete_canon ..).trans (State.dropNs_canon ..)
  · rfl

@[simp ↓] theorem State.settle_canon (hs : s.canon = true) : s.settle.canon = true := by simp [hs, State.settle]
@[simp ↓] theorem State.rename_canon (a b : CmdId) : (State.rename a b s).canon = s.canon := by rfl
@[simp ↓] theorem State.dropParts_canon (id : CmdId) : (s.dropParts id).canon = s.canon := by rfl
@[simp ↓] theorem State.stopBatch_canon (id : CmdId) : (s.stopBatch id).canon = s.canon := by
  unfold State.stopBatch
  refine foldl_canon (fun s _ => ?_) _ _
  (repeat' split) <;> simp

@[simp ↓] theorem State.stopTick_canon : s.stopTick.canon = s.canon := by simp [State.stopTick]
@[simp ↓] theorem State.dropQuery_canon (id : CmdId) : (s.dropQuery id).canon = s.canon := by
  unfold State.dropQuery
  split <;> simp

@[simp ↓] theorem State.loseCmd_canon (post : Bool) (o : OpenCmd) : (s.loseCmd post o).canon = s.canon := by simp [State.loseCmd]
@[simp ↓] theorem State.queueReset_canon (p : CmdId → Bool) (post : Bool) (hs : s.canon = true) : (s.queueReset p post).canon = true := by simp [hs, State.queueReset]
@[simp ↓] theorem State.closeQp_canon (ctrl sq : W16) : (s.closeQp ctrl sq).canon = s.canon := by rfl
@[simp ↓] theorem State.loseQueue_canon (ctrl sq : W16) (post : Bool) (hs : s.canon = true) : (s.loseQueue ctrl sq post).canon = true := by simp [hs, State.loseQueue]
@[simp ↓] theorem State.resetController_canon (ctrl : W16) (hs : s.canon = true) : (s.resetController ctrl).canon = true := by simp [hs, State.resetController]
@[simp ↓] theorem State.dropController_canon (ctrl : W16) (hs : s.canon = true) : (s.dropController ctrl).canon = true := by simp [hs, State.dropController]
@[simp ↓] theorem State.portLost_canon (p : Nat) (hs : s.canon = true) : (s.portLost p).canon = true := by simp +contextual [hs, State.portLost]

/-! Associations and admin commands: Connect, properties, Identify, logs, features, asynchronous events, namespaces (15 R343 to R349, R356, R366, R367; 14 R340 to R342; 20 R470, R471). -/

@[simp ↓] theorem State.eventTo_canon (ctrl : W16) (e mask : W32) : (s.eventTo ctrl e mask).canon = s.canon := by
  unfold State.eventTo
  split <;> simp

@[simp ↓] theorem State.warnEvents_canon : s.warnEvents.canon = s.canon := by simp [State.warnEvents]
@[simp ↓] theorem getLogPage_canon (id : CmdId) (lid : Byte) (lsi : W16) (ofs len : Nat) : (getLogPage id lid lsi ofs len s).canon = s.canon := by
  unfold getLogPage
  split <;> simp

@[simp ↓] theorem identify_canon (id : CmdId) (cns : Byte) (nsid : W32) : (identify id cns nsid s).canon = s.canon := by
  unfold identify
  (repeat' split) <;> simp

@[simp ↓] theorem getFeatures_canon (id : CmdId) (fid : Byte) : (getFeatures id fid s).canon = s.canon := by
  unfold getFeatures
  (repeat' split) <;> simp

@[simp ↓] theorem setFeatures_canon (id : CmdId) (fid : Byte) (v : W32) : (setFeatures id fid v s).canon = s.canon := by
  unfold setFeatures
  (repeat' split) <;> simp

@[simp ↓] theorem asyncEvent_canon (id : CmdId) : (asyncEvent id s).canon = s.canon := by
  unfold asyncEvent
  (repeat' split) <;> simp

@[simp ↓] theorem abortCmd_canon (id : CmdId) : (abortCmd id s).canon = s.canon := by rfl
@[simp ↓] theorem keepAlive_canon (id : CmdId) : (keepAlive id s).canon = s.canon := by rfl
@[simp ↓] theorem keepAliveExpired_canon (ctrl : W16) (hs : s.canon = true) : (keepAliveExpired ctrl s).canon = true := by
  unfold keepAliveExpired
  split <;> simp [hs]

@[simp ↓] theorem State.openHostQp_canon (port : Nat) (ctrl sq : W16) : (s.openHostQp port ctrl sq).canon = s.canon := by rfl
@[simp ↓] theorem connectCmd_canon (id : CmdId) (port : Nat) (sqsize : W16) (kato : W32) : (connectCmd id port sqsize kato s).canon = s.canon := by
  have ha := fun t => s.answer_canon id t 0 [] 0
  unfold connectCmd
  refine ite_keeps_canon _ (fun _ => rfl) fun _ => ite_keeps_canon _ (fun _ => ha _) fun _ => ite_keeps_canon _ (fun _ => ?_) fun _ => ?_
  · refine ite_keeps_canon _ (fun _ => ha _) fun _ => ?_
    split
    · exact ha _
    · exact ite_keeps_canon _ (fun _ => ha _) fun _ => (State.answer_canon ..).trans (State.openHostQp_canon ..)
  · split
    · exact ha _
    · exact ite_keeps_canon _ (fun _ => ha _) fun _ => ite_keeps_canon _ (fun _ => ha _) fun _ =>
        (State.answer_canon ..).trans (State.openHostQp_canon ..)

@[simp ↓] theorem propertyGet_canon (id : CmdId) (ofs : W32) : (propertyGet id ofs s).canon = s.canon := by
  unfold propertyGet
  (repeat' split) <;> simp

@[simp ↓] theorem setCc_canon (id : CmdId) (v : W32) (hs : s.canon = true) : (setCc id v s).canon = true := by
  unfold setCc
  split <;> simp [hs]

@[simp ↓] theorem disconnectCmd_canon (id : CmdId) (hs : s.canon = true) : (disconnectCmd id s).canon = true := by
  unfold disconnectCmd
  split <;> simp [hs]

@[simp ↓] theorem connectionLost_canon (ctrl sq : W16) (hs : s.canon = true) : (connectionLost ctrl sq s).canon = true := by
  unfold connectionLost
  split <;> simp [hs]

@[simp ↓] theorem createNamespace_canon (id : CmdId) (nsze : W64) (lbaf : Nat) (b : Bytes) (hs : s.canon = true) :
    (createNamespace id nsze lbaf b s).canon = true := by
  unfold createNamespace
  split <;> simp [hs]

@[simp ↓] theorem deleteNamespace_canon (id : CmdId) (nsid : Nat) (hs : s.canon = true) : (deleteNamespace id nsid s).canon = true := by
  unfold deleteNamespace
  (repeat' split) <;> simp [hs]

@[simp ↓] theorem State.formatOne_canon (id : CmdId) (lbaf : Nat) (erase : Bool) (n : Namespace) :
    (s.formatOne id lbaf erase n).canon = s.canon := by
  unfold State.formatOne
  split <;> simp

@[simp ↓] theorem formatNvm_canon (id : CmdId) (nsid : W32) (lbaf ses : Nat) (hs : s.canon = true) : (formatNvm id nsid lbaf ses s).canon = true := by
  unfold formatNvm
  split <;> simp [hs]

/-! Loading, checking, activating and discarding a Loft image (03 R56 to R61, R75 to R81). -/

@[simp ↓] theorem State.modLoft_canon (f : Loft → Loft) : (s.modLoft f).canon = s.canon := by rfl
@[simp ↓] theorem imageTransfer_canon (id : CmdId) (numd ofst : W32) (data : Bytes) :
    (imageTransfer id numd ofst data s).canon = s.canon := by
  unfold imageTransfer
  exact ite_keeps_canon _ (fun _ => State.answer_canon ..) fun _ => ite_keeps_canon _ (fun _ => State.answer_canon ..) fun _ =>
    (State.answer_canon ..).trans (State.modLoft_canon ..)

@[simp ↓] theorem State.discardPending_canon : s.discardPending.canon = s.canon := by
  unfold State.discardPending
  split <;> simp

@[simp ↓] theorem imageCancel_canon (id : CmdId) : (imageCancel id s).canon = s.canon := by
  unfold imageCancel
  split <;> simp

@[simp ↓] theorem imageApply_canon (id : CmdId) (rsv : Bool) (mode act : Nat) :
    (imageApply id rsv mode act s).canon = s.canon := by simp [imageApply]

@[simp ↓] theorem checkDone_canon : (checkDone s).canon = s.canon := by
  simp only [checkDone]
  (repeat' split) <;> simp

@[simp ↓] theorem State.evictT0_canon (i : Image) : (s.evictT0 i).canon = s.canon := by simp [State.evictT0]
@[simp ↓] theorem State.activate_canon (p : Pending) (hs : s.canon = true) : (s.activate p).canon = true := by
  simp only [State.activate, State.completeOpt_canon, State.telemetry_canon, State.groupActivate_canon]
  refine foldl_keeps_canon (fun s k h => by simp [h]) _ _ ?_
  refine (State.activatePorts_canon ..).trans (State.parWrite_canon _ _ _ _ ?_)
  refine (State.evictT0_canon ..).trans (State.recheckPasses_canon _ ?_)
  simp [hs]
@[simp ↓] theorem State.activateDue_canon (hs : s.canon = true) : s.activateDue.canon = true := by
  unfold State.activateDue
  split <;> simp [hs]

/-! What the Drogue does on a fault: local-fatal actions, the safe state, its exit, heartbeats (18 R425 to R437; 01 R29). -/

@[simp ↓] theorem State.modDrogue_canon (f : Drogue → Drogue) : (s.modDrogue f).canon = s.canon := by rfl
@[simp ↓] theorem State.endFreeze_canon : s.endFreeze.canon = s.canon := by simp [State.endFreeze]
@[simp ↓] theorem beginSparReset_canon (hs : s.canon = true) : (beginSparReset s).canon = true := by simp [hs, beginSparReset]
@[simp ↓] theorem State.abortAdmin_canon (k : Nat) : (s.abortAdmin k).canon = s.canon := by simp [State.abortAdmin]
@[simp ↓] theorem State.act_canon (a : LocalAct) (hs : s.canon = true) : (s.act a).canon = true := by
  unfold State.act
  (repeat' split) <;> simp [hs]

@[simp ↓] theorem State.restartQuiet_canon : s.restartQuiet.canon = s.canon := by rfl
@[simp ↓] theorem State.interruptCmd_canon (o : OpenCmd) : (s.interruptCmd o).canon = s.canon := by
  simp only [State.interruptCmd]
  (repeat' split) <;> simp

@[simp ↓] theorem State.stopForSafe_canon : s.stopForSafe.canon = s.canon := by simp [State.stopForSafe]
@[simp ↓] theorem State.enterSafe_canon (src : Byte) : (s.enterSafe src).canon = s.canon := by simp [State.enterSafe]
@[simp ↓] theorem State.moduleFatal_canon (f : FaultIn) : (s.moduleFatal f).canon = s.canon := by simp [State.moduleFatal]
@[simp ↓] theorem State.countLocal_canon (f : FaultIn) : (s.countLocal f).2.canon = s.canon := by simp [State.countLocal]
@[simp ↓] theorem State.localFatal_canon (f : FaultIn) (hs : s.canon = true) : (s.localFatal f).canon = true := by simp [hs, State.localFatal]
@[simp ↓] theorem State.report_keeps_canon (f : FaultIn) (hs : s.canon = true) : (s.report_ f).canon = true := by
  unfold State.report_
  split <;> simp [hs]

@[simp ↓] theorem quietEnds_canon (hs : s.canon = true) : (quietEnds s).canon = true := by
  unfold quietEnds
  split <;> simp [hs]

@[simp ↓] theorem State.leaveSafe_canon (hs : s.canon = true) : s.leaveSafe.canon = true := by
  simp only [State.leaveSafe]
  refine State.settle_canon _ ?_
  have hf := foldl_keeps_canon (fun s a (h : s.canon = true) => s.act_canon a h)
    (s.drogue.waiting.filter fun a => !decide (a = .sparReset))
  split <;> simp [hf, hs]
@[simp ↓] theorem sparResetDone_canon (hs : s.canon = true) : (sparResetDone s).canon = true := by simp [hs, sparResetDone]
@[simp ↓] theorem drogueParity_canon : (drogueParity s).canon = s.canon := by simp [drogueParity]
@[simp ↓] theorem capClear_canon (v : W32) : (capClear v s).canon = s.canon := by simp [capClear]
@[simp ↓] theorem heartbeat_canon (master : W16) (v : W32) (hs : s.canon = true) : (heartbeat master v s).canon = true := by simp [hs, heartbeat]
@[simp ↓] theorem heartbeatMiss_canon (core : Nat) (hs : s.canon = true) : (heartbeatMiss core s).canon = true := by simp [hs, heartbeatMiss]
@[simp ↓] theorem coreRestarted_canon (k : Nat) : (coreRestarted k s).canon = s.canon := by simp [coreRestarted]
@[simp ↓] theorem clusterResetDone_canon (c : Nat) : (clusterResetDone c s).canon = s.canon := by simp [clusterResetDone]
@[simp ↓] theorem bridleResetDone_canon : (bridleResetDone s).canon = s.canon := by simp [bridleResetDone]

/-! Signed images, the boot chain, SPDM, owner keys and the debug token (19). Byte layouts of the SPDM messages are DSP0274's (log 4). -/

@[simp ↓] theorem State.modSec_canon (f : Sec → Sec) : (s.modSec f).canon = s.canon := by rfl
@[simp ↓] theorem State.drawBytes_canon (n : Nat) : (s.drawBytes n).2.canon = s.canon := by rfl
@[simp ↓] theorem fwDownload_canon (id : CmdId) (ofst : W32) (data : Bytes) : (fwDownload id ofst data s).canon = s.canon := by simp [fwDownload]
@[simp ↓] theorem fwCommit_canon (id : CmdId) (action slot : Nat) : (fwCommit id action slot s).canon = s.canon := by simp [fwCommit]
@[simp ↓] theorem boot_canon : (boot s).canon = s.canon := by
  simp only [boot]
  (repeat' split) <;> simp

@[simp ↓] theorem State.fuseFirmware_canon : s.fuseFirmware.canon = s.canon := by
  simp only [State.fuseFirmware]
  (repeat' split) <;> simp

@[simp ↓] theorem State.modSpdm_canon (f : Spdm → Spdm) : (s.modSpdm f).canon = s.canon := by rfl
@[simp ↓] theorem State.respond_canon (r : Bytes) : (s.respond r).canon = s.canon := by simp [State.respond]
@[simp ↓] theorem spdmVersion_canon (req : Bytes) : (spdmVersion req s).canon = s.canon := by simp [spdmVersion]
@[simp ↓] theorem spdmCapabilities_canon (req : Bytes) : (spdmCapabilities req s).canon = s.canon := by simp [spdmCapabilities]
@[simp ↓] theorem spdmAlgorithms_canon (req : Bytes) : (spdmAlgorithms req s).canon = s.canon := by simp [spdmAlgorithms]
@[simp ↓] theorem spdmDigests_canon (req : Bytes) : (spdmDigests req s).canon = s.canon := by simp [spdmDigests]
@[simp ↓] theorem spdmCertificate_canon (req : Bytes) : (spdmCertificate req s).canon = s.canon := by simp [spdmCertificate]
@[simp ↓] theorem spdmChallenge_canon (req : Bytes) : (spdmChallenge req s).canon = s.canon := by simp [spdmChallenge]
@[simp ↓] theorem spdmMeasurements_canon (req : Bytes) : (spdmMeasurements req s).canon = s.canon := by simp [spdmMeasurements]
@[simp ↓] theorem spdmChunkGet_canon (req : Bytes) : (spdmChunkGet req s).canon = s.canon := by simp [spdmChunkGet]
@[simp ↓] theorem pqSignature_canon (signed : Option Bytes) : (pqSignature signed s).canon = s.canon := by
  unfold pqSignature
  split <;> simp

@[simp ↓] theorem getNonce_canon : (getNonce s).canon = s.canon := by simp [getNonce]
@[simp ↓] theorem ownerSet_canon (b : Bytes) : (ownerSet b s).canon = s.canon := by simp [ownerSet]
@[simp ↓] theorem ownerRevoke_canon (b : Bytes) : (ownerRevoke b s).canon = s.canon := by simp [ownerRevoke]
@[simp ↓] theorem spdmVendor_canon (req : Bytes) (signed : Option Bytes) : (spdmVendor req signed s).canon = s.canon := by
  unfold spdmVendor
  (repeat' split) <;> simp

@[simp ↓] theorem spdmRequest_canon (req : Bytes) : (spdmRequest req s).canon = s.canon := by
  unfold spdmRequest
  refine ite_keeps_canon _ (fun _ => s.respond_canon _) fun _ => ite_keeps_canon _ (fun _ => spdmVersion_canon ..) fun _ =>
    ite_keeps_canon _ (fun _ => s.respond_canon _) fun _ => ite_keeps_canon _ (fun _ => spdmChunkGet_canon ..) fun _ => ?_
  dsimp only
  split
  · exact spdmCapabilities_canon ..
  · exact spdmAlgorithms_canon ..
  · refine ite_keeps_canon _ (fun _ => State.respond_canon ..) fun _ => ?_
    split
    · exact spdmDigests_canon ..
    · exact spdmCertificate_canon ..
    · exact spdmChallenge_canon ..
    · exact spdmMeasurements_canon ..
    · exact spdmVendor_canon ..
    · exact State.respond_canon ..

@[simp ↓] theorem spdmChunkSend_canon (req : Bytes) : (spdmChunkSend req s).canon = s.canon := by simp [spdmChunkSend]
@[simp ↓] theorem spdm_canon (req : Bytes) : (spdm req s).canon = s.canon := by simp [spdm]
@[simp ↓] theorem spdmWhole_canon (req : Bytes) : (spdmWhole req s).canon = s.canon := by simp [spdmWhole]
@[simp ↓] theorem securitySend_canon (id : CmdId) (secp : Byte) (data : Bytes) :
    (securitySend id secp data s).canon = s.canon := by simp [securitySend]

@[simp ↓] theorem securityReceive_canon (id : CmdId) (secp : Byte) (len : Nat) :
    (securityReceive id secp len s).canon = s.canon := by simp [securityReceive]

@[simp ↓] theorem State.newNonce_canon : s.newNonce.canon = s.canon := by rfl
@[simp ↓] theorem unlock_canon : (unlock s).canon = s.canon := by simp [unlock]
@[simp ↓] theorem tokenChecked_canon : (tokenChecked s).canon = s.canon := by simp [tokenChecked]

/-! Input, power-up, resets, Hold, sleep, throttles, sensors, adaptive loops (20; 13 R306, R308; 01 R26). -/

@[simp ↓] theorem State.modPower_canon (f : Power → Power) : (s.modPower f).canon = s.canon := by rfl
@[simp ↓] theorem State.stopLinks_canon (cut : Bool) : (s.stopLinks cut).canon = s.canon := by simp [State.stopLinks]

@[simp ↓] theorem State.stopRefits_canon (alive : Nat → Bool) : (s.stopRefits alive).canon = s.canon := by simp [State.stopRefits]
@[simp ↓] theorem State.stopModels_canon : s.stopModels.canon = s.canon := by simp [State.stopModels]
@[simp ↓] theorem State.stopSearch_canon (alive : Nat → Bool) : (s.stopSearch alive).canon = s.canon := by
  unfold State.stopSearch
  exact foldl_canon (fun s x => s.freeObjs_canon ..) _ _

@[simp ↓] theorem State.stopNamespaces_canon (alive : Nat → Bool) (cut : Bool) : (s.stopNamespaces alive cut).canon = s.canon := by
  unfold State.stopNamespaces
  refine foldl_canon (fun s n => ite_keeps_canon _ (fun _ => State.dropNs_canon ..) fun _ => ?_) _ _
  have hg : ∀ t : State, (n.groups.foldl State.clearGroupMap t).canon = t.canon := foldl_canon State.clearGroupMap_canon _
  extract_lets s1 s2 s3
  have h1 : s1.canon = s.canon := by
    simp only [s1]
    split
    · exact ite_keeps_canon _ (fun _ => (State.modNs_canon ..).trans (hg s)) fun _ => rfl
    · rfl
  have h2 : s2.canon = s.canon := (State.modNs_canon ..).trans h1
  exact ite_keeps_canon _ (fun _ => (State.modSec_canon ..).trans ((hg s2).trans h2)) fun _ => h2

@[simp ↓] theorem State.stopReel_canon (cut : Bool) : (s.stopReel cut).canon = s.canon := by simp [State.stopReel]
@[simp ↓] theorem State.stopSec_canon : s.stopSec.canon = s.canon := by rfl
@[simp ↓] theorem State.moduleStop_canon (cut : Bool) : (s.moduleStop cut).canon = true := by
  rfl
@[simp ↓] theorem State.resetModule_canon (cause : BitVec 4) (hs : s.canon = true) : (s.resetModule cause).canon = true := by
  simp [hs, State.resetModule]

@[simp ↓] theorem modReset_canon (ns : Nat) (hs : s.canon = true) : (modReset ns s).canon = true := by simp [hs, modReset]
@[simp ↓] theorem State.inputLoss_canon (next : Phase) (hs : s.canon = true) :
    (s.inputLoss next).canon = true := by simp [hs, State.inputLoss]

@[simp ↓] theorem holdupFalls_canon : (holdupFalls s).canon = s.canon := by simp [holdupFalls]
@[simp ↓] theorem pwrAssert_canon (mv : Nat) : (pwrAssert mv s).canon = s.canon := by
  simp only [pwrAssert]
  (repeat' split) <;> simp

@[simp ↓] theorem pwrDeassert_canon (hs : s.canon = true) : (pwrDeassert s).canon = true := by simp [hs, pwrDeassert]
@[simp ↓] theorem inputBack_canon : (inputBack s).canon = s.canon := by simp [inputBack]
@[simp ↓] theorem railTimeout_canon (rail : Nat) : (railTimeout rail s).canon = s.canon := by simp [railTimeout]
@[simp ↓] theorem powerGood_canon : (powerGood s).canon = s.canon := by simp [powerGood]
@[simp ↓] theorem inputSample_canon (mv ma10 : Nat) (hs : s.canon = true) : (inputSample mv ma10 s).canon = true := by
  unfold inputSample
  extract_lets s1 s2 s3
  have h3 : s3.canon = true := (State.modPower_canon ..).trans ((State.advance_canon ..).trans ((State.modPower_canon ..).trans hs))
  refine ite_keeps_canon _ (fun _ => hs) fun _ => ite_keeps_canon _ (fun _ => State.inputLoss_canon _ _ ((State.modPower_canon ..).trans h3)) fun _ => h3

@[simp ↓] theorem holdupTest_canon (us : Nat) : (holdupTest us s).canon = s.canon := by simp [holdupTest]
@[simp ↓] theorem State.supplyCleared_canon (was : Bool) : (s.supplyCleared was).canon = s.canon := by simp [State.supplyCleared]
@[simp ↓] theorem sensorSample_canon (l : List W16) (hs : s.canon = true) :
    (sensorSample l s).canon = true := by
  have hf : ∀ (o : BitVec 8) (l : List Nat) (t : State), t.canon = true →
      (l.foldl (fun (s : State) k => if bit s.power.overCrit k && !bit o k then s.report_ (mkFault 0x12 0x0B00) else s) t).canon = true :=
    fun o l t ht => foldl_keeps_canon (fun s k h => by split <;> simp [h]) l t ht
  unfold sensorSample
  refine ite_keeps_canon _ (fun _ => hs) fun _ => ite_keeps_canon _ (fun _ => ?_) fun _ => ?_
  · exact State.inputLoss_canon _ _ ((State.modPower_canon ..).trans ((State.supplyCleared_canon ..).trans (hf _ _ _ hs)))
  · exact (State.warnEvents_canon _).trans ((State.supplyCleared_canon ..).trans (hf _ _ _ hs))

@[simp ↓] theorem railOut_canon (rail : Nat) (hs : s.canon = true) : (railOut rail s).canon = true := by simp [hs, railOut]
@[simp ↓] theorem railBack_canon (rail : Nat) : (railBack rail s).canon = s.canon := by simp [railBack]
@[simp ↓] theorem State.noteThrottle_canon : s.noteThrottle.canon = s.canon := by rfl
@[simp ↓] theorem State.setTarget_canon (n : BitVec 3) : (s.setTarget n).canon = s.canon := by simp [State.setTarget]
@[simp ↓] theorem softDown_canon : (softDown s).canon = s.canon := by simp [softDown]
@[simp ↓] theorem softUp_canon : (softUp s).canon = s.canon := by simp [softUp]
@[simp ↓] theorem State.chargeStop_canon (m : BitVec 8) : (s.chargeStop m).canon = s.canon := by simp [State.chargeStop]
@[simp ↓] theorem State.chargeFreeze_canon : s.chargeFreeze.canon = s.canon := by simp [State.chargeFreeze]
@[simp ↓] theorem State.chargeHalts_canon : s.chargeHalts.canon = s.canon := by simp [State.chargeHalts]
@[simp ↓] theorem hardThrottle_canon : (hardThrottle s).canon = s.canon := by simp [hardThrottle]
@[simp ↓] theorem freezeEnd_canon : (freezeEnd s).canon = s.canon := by simp [freezeEnd]
@[simp ↓] theorem State.stepTrim_canon (g : Nat) (up : Bool) : (s.stepTrim g up).canon = s.canon := by rfl
@[simp ↓] theorem avsGroup_canon (g margin pm : Nat) (hs : s.canon = true) : (avsGroup s g margin pm).canon = true := by simp [hs, avsGroup]
@[simp ↓] theorem avsLoop_canon (margins pm : List Nat) (hs : s.canon = true) : (avsLoop margins pm s).canon = true := by simp +contextual [hs, avsLoop]
@[simp ↓] theorem droop_canon (g : Nat) : (droop g s).canon = s.canon := by simp [droop]
@[simp ↓] theorem droopEnd_canon (g : Nat) : (droopEnd g s).canon = s.canon := by rfl
@[simp ↓] theorem sleepReq_canon (c : Nat) : (sleepReq c s).canon = s.canon := by simp [sleepReq]
@[simp ↓] theorem sleepEnter_canon (c : Nat) (hs : s.canon = true) : (sleepEnter c s).canon = true := by simp [hs, sleepEnter]
@[simp ↓] theorem sleepWake_canon (c : Nat) : (sleepWake c s).canon = s.canon := by simp [sleepWake]
@[simp ↓] theorem holdSet_canon (v : W32) : (holdSet v s).canon = s.canon := by simp [holdSet]
@[simp ↓] theorem holdClr_canon (v : W32) (hs : s.canon = true) : (holdClr v s).canon = true := by simp [hs, holdClr]
@[simp ↓] theorem State.holdTick_canon : s.holdTick.canon = s.canon := by
  unfold State.holdTick
  split <;> simp

@[simp ↓] theorem State.fault_canon (f : FaultIn) (hs : s.canon = true) : (s.fault f).canon = true := by simp [hs, State.fault]
@[simp ↓] theorem watchdog_canon (hs : s.canon = true) : (watchdog s).canon = true := by simp [hs, watchdog]

/-! What the Envelope reports: programs, erases and reads that end, dies that fail, flushes, reclamation, scrub, the rebuild at a start (13 R294 to R310; 14 R326 to R341). -/

@[simp ↓] theorem State.dieFails_canon (d : Nat) (hs : s.canon = true) : (s.dieFails d).canon = true := by simp [hs, State.dieFails]
@[simp ↓] theorem State.countDie_canon (d : Nat) (hs : s.canon = true) : (s.countDie d).canon = true := by simp [hs, State.countDie]
@[simp ↓] theorem State.channelFails_canon (ch : Nat) (hs : s.canon = true) : (s.channelFails ch).canon = true := by simp [hs, State.channelFails]
@[simp ↓] theorem State.train_canon (n : Nat) (rates : List (BitVec 3)) (hs : s.canon = true) : (s.train n rates).canon = true := by simp +contextual [hs, State.train]
@[simp ↓] theorem envResetEnds_canon (n : Nat) (rates : List (BitVec 3)) (hs : s.canon = true) : (envResetEnds n rates s).canon = true := by simp [hs, envResetEnds]
@[simp ↓] theorem State.writeNow_canon (n : Nat) : (s.writeNow n).canon = s.canon := by rfl
@[simp ↓] theorem programEnds_canon (job : Nat) (fail : Bool) (hs : s.canon = true) : (programEnds job fail s).canon = true := by
  unfold programEnds
  split <;> simp [hs]

@[simp ↓] theorem eraseEnds_canon (d : Nat) (fail : Bool) (hs : s.canon = true) : (eraseEnds d fail s).canon = true := by
  unfold eraseEnds
  split <;> simp [hs]

@[simp ↓] theorem State.staged_canon (g : Nat) (hs : s.canon = true) : (s.staged g).2.canon = true := by
  unfold State.staged
  split
  · exact hs
  · have h := State.parRead_canon _ g 0 64 (s.parWrite_canon g 0 64 hs)
    exact Parity.canon_bad h (Sparse.wf_clearRange false _ _ _ ((Parity.canon_iff _).1 h).2)
@[simp ↓] theorem flashReadEnds_canon (l step : Nat) (hs : s.canon = true) : (flashReadEnds l step s).canon = true := by
  unfold flashReadEnds
  split <;> simp [hs]

@[simp ↓] theorem dieTimeout_canon (d : Nat) (hs : s.canon = true) : (dieTimeout d s).canon = true := by
  unfold dieTimeout
  split <;> simp [hs]

@[simp ↓] theorem calibrationRead_canon (d b : Nat) (l : List Byte) : (calibrationRead d b l s).canon = s.canon := by simp [calibrationRead]
@[simp ↓] theorem flushDue_canon (hs : s.canon = true) : (flushDue s).canon = true := by simp [hs, flushDue]
@[simp ↓] theorem gcStart_canon (d : Nat) (bad : List Nat) (hs : s.canon = true) : (gcStart d bad s).canon = true := by simp [hs, gcStart]
@[simp ↓] theorem gcCommit_canon (n : Nat) (hs : s.canon = true) : (gcCommit n s).canon = true := by simp [hs, gcCommit]
@[simp ↓] theorem scrub_canon (d b cw step : Nat) (hs : s.canon = true) : (scrub d b cw step s).canon = true := by
  unfold scrub
  refine ite_keeps_canon _ (fun _ => hs) fun _ => ?_
  split
  · exact hs
  · extract_lets s1 s2 gone s3 s4
    have h2 : s2.canon = true := ite_keeps_canon _ (fun _ => (State.ladder_canon ..).trans hs) fun _ => (State.ladder_canon ..).trans hs
    refine ite_keeps_canon _ (fun _ => State.settle_canon _ h2) fun _ => ?_
    have h3 : s3.canon = true := (foldl_canon (fun s u => s.markLost_canon _) _ _).trans h2
    have h4 : s4.canon = true := ite_keeps_canon _ (fun _ => h3) fun _ => (State.journalMap_canon ..).trans h3
    split
    · exact State.settle_canon _ h4
    · exact State.settle_canon _ ((State.writePart_canon ..).trans h4)

@[simp ↓] theorem tempSample_canon : (tempSample s).canon = s.canon := by simp [tempSample]
@[simp ↓] theorem startDie_canon (rb : RebuildIn) (d : Nat) (hs : s.canon = true) : (startDie rb s d).canon = true := by simp [hs, startDie]
@[simp ↓] theorem startBlock_canon (e : Nat × Blk) : (startBlock s e).canon = s.canon := by
  unfold startBlock
  split <;> simp

@[simp ↓] theorem State.rewriteCut_canon : s.rewriteCut.canon = s.canon := by simp [State.rewriteCut]
@[simp ↓] theorem startBad_canon (e : Nat × Die) : (startBad s e).canon = s.canon := by simp [startBad]
@[simp ↓] theorem rebuild_canon (rb : RebuildIn) (hs : s.canon = true) : (rebuild rb s).canon = true := by
  simp only [rebuild]
  split
  · exact hs
  · refine State.loadHandlers_canon _ ((State.fuseFirmware_canon _).trans ?_)
    have hd := foldl_keeps_canon (fun (s : State) d h => startDie_canon s rb d h) (upTo 2048) _
      (foldl_keeps_canon (fun (s : State) n h => s.train_canon n ((rb.rates.drop (32 * n)).take 32) h) (upTo 8) s hs)
    have hc := fun l => foldl_keeps_canon (fun (s : State) (e : Nat × Die) h => s.countDie_canon e.1 h) l
    simp [hd, hc]
@[simp ↓] theorem shardReplay_canon (index : W64) (shard : W16) : (shardReplay index shard s).canon = s.canon := by
  unfold shardReplay
  (repeat' split) <;> simp

/-! The register window: the block map, what every register reads, what a write does, unavailable blocks (22; the register tables of 02 to 21). -/

@[simp ↓] theorem State.bufParity_canon (b : WinBlock) (o : Nat) (hs : s.canon = true) : (s.bufParity b o).2.canon = true := by
  unfold State.bufParity
  split <;> simp [hs]

@[simp ↓] theorem State.readParity_canon (b : WinBlock) (o master : Nat) (hs : s.canon = true) :
    (s.readParity b o master).2.canon = true := by
  unfold State.readParity
  split
  · simp [hs]
  · split
    · exact hs
    · split
      · exact hs
      · simp [hs, canon_of_eq ‹_› (s.parTrip_canon ..)]

@[simp ↓] theorem State.winBad_canon (cause : BitVec 4) (master addr : Nat) : (s.winBad cause master addr).canon = s.canon := by rfl
@[simp ↓] theorem flipMask_canon (g : Nat) (v : W32) (master : Nat) (hs : s.canon = true) : (flipMask g v master s).canon = true := by
  obtain ⟨hm, hb⟩ := s.parity.canon_iff.1 hs
  unfold flipMask
  refine ite_keeps_canon _ (fun _ => hs) fun _ => ite_keeps_canon _ (fun _ => by simp [hs]) fun _ => ?_
  exact (Parity.canon_iff _).2 ⟨Sparse.wf_set 0 _ _ _ hm, hb⟩
@[simp ↓] theorem icWrite_canon (c r : Nat) (v : W32) (hs : s.canon = true) : (icWrite c r v s).canon = true := by
  unfold icWrite
  split <;> simp [hs]

@[simp ↓] theorem State.writeReg_canon (via : Via) (master : Nat) (b : WinBlock) (o : Nat) (v : W32) (hs : s.canon = true) :
    (s.writeReg via master b o v).canon = true := by
  unfold State.writeReg
  split <;> simp [hs]

@[simp ↓] theorem State.winWrite_canon (via : Via) (master : Nat) (b : WinBlock) (o addr : Nat) (v : W32) (hs : s.canon = true) :
    (s.winWrite via master b o addr v).canon = true := by
  simp [hs, State.winWrite]

theorem State.regRefused_canon {s t : State} {core : Nat} {addr cdw11 : W32} {rsv : BitVec 31}
    (h : s.regRefused core addr cdw11 rsv = some t) : t.canon = s.canon := by
  unfold State.regRefused at h
  dsimp only at h
  split at h
  · cases h; rfl
  · split at h
    · cases h; simp
    · split at h
      · cases h; simp
      · cases h

@[simp ↓] theorem State.accessRead_canon (core a : Nat) (hs : s.canon = true) : (s.accessRead core a).2.canon = true := by
  unfold State.accessRead
  split
  · exact hs
  · refine (ite_snd_canon ..).trans (ite_eq_iff'.2 ⟨fun _ => hs, fun _ => ?_⟩)
    split
    · exact canon_of_eq ‹_› (s.readParity_canon _ _ _ hs)
    · exact hs

@[simp ↓] theorem regAccessRead_canon (id : CmdId) (core : Nat) (addr cdw11 : W32) (rsv : BitVec 31) (hs : s.canon = true) :
    (regAccessRead id core addr cdw11 rsv s).canon = true := by
  unfold regAccessRead
  split
  · simp +contextual [hs, State.regRefused_canon ‹_›]
  · simp +contextual [hs]

@[simp ↓] theorem regAccessWrite_canon (id : CmdId) (core : Nat) (addr cdw11 : W32) (rsv : BitVec 31) (data : List W32) (hs : s.canon = true) :
    (regAccessWrite id core addr cdw11 rsv data s).canon = true := by
  unfold regAccessWrite
  split
  · simp [hs, State.regRefused_canon ‹_›]
  · refine (State.answer_canon ..).trans (foldl_keeps_canon (fun s x h => ?_) _ _ hs)
    split <;> simp [h]

@[simp ↓] theorem coreWrite_canon (master addr : Nat) (v : W32) (hs : s.canon = true) : (coreWrite master addr v s).canon = true := by
  unfold coreWrite
  (repeat' split) <;> simp [hs]

/-! Admin commands as the management cores serve them, and those that wait for a halted core (03 R58 to R61; 15 R343 to R349, R354, R368; 19 R443, R449; 21 R495). -/

@[simp ↓] theorem applyDwords_canon (id : CmdId) (rsv : Bool) (mode : Nat) (cdw11 cdw12 : W32) :
    (applyDwords id rsv mode cdw11 cdw12 s).canon = s.canon := by
  simp [applyDwords]

@[simp ↓] theorem State.giveFwEvent_canon (ctrl : W16) : (s.giveFwEvent ctrl).canon = s.canon := by simp [State.giveFwEvent]
@[simp ↓] theorem propertySet_canon (id : CmdId) (ofs : W32) (v : W64) (hs : s.canon = true) :
    (propertySet id ofs v s).canon = true := by
  unfold propertySet
  split <;> simp [hs]

@[simp ↓] theorem adminOp_canon (i : Instr) (hs : s.canon = true) : (adminOp i s).canon = true := by
  unfold adminOp
  split <;> simp [hs]

@[simp ↓] theorem State.resumeCore_canon (k n : Nat) (hs : s.canon = true) : (State.resumeCore k n s).canon = true := by
  induction n generalizing s with
  | zero => exact hs
  | succ n ih =>
    unfold State.resumeCore
    (repeat' split) <;> simp [hs, ih]

@[simp ↓] theorem adminIn_canon (id : CmdId) (i : Instr) (hs : s.canon = true) : (adminIn id i s).canon = true := by
  unfold adminIn adminOn
  simp [hs]

/-! The words of a cluster's program and its handlers (06 R134 to R151; 07 R161 to R165, R177, R181). -/

@[simp ↓] theorem fetched_canon (c n : Nat) (w : W64) (f : State → State) (hf : ∀ s, s.canon = true → (f s).canon = true)
    (hs : s.canon = true) : (fetched c n w f s).canon = true := by
  unfold fetched
  split
  · have hp := s.parTrip_canon (0xA8 + c) (handlerByte (s.clusterAt c).ic.pc) (8 * n) hs
    split
    · simp [canon_of_eq ‹_› hp]
    · exact hf _ (canon_of_eq ‹_› hp)
  · exact hf s hs

@[simp ↓] theorem issueSli_canon (c : Nat) (w : W64) (hs : s.canon = true) : (issueSli c w s).canon = true := issueSeq_canon _ _ _ _ _ (fun v s h => by simp [h]) hs
@[simp ↓] theorem issueEnd_canon (c : Nat) (w : W64) (hs : s.canon = true) : (issueEnd c w s).canon = true := issueSeq_canon _ _ _ _ _ (fun v s h => by simp [h]) hs
@[simp ↓] theorem issueNext_canon (c : Nat) (hs : s.canon = true) : (issueNext c s).canon = true := by
  unfold issueNext
  dsimp only
  split
  · exact hs
  · refine fetched_canon _ _ _ _ _ (fun s h => ?_) hs
    split <;> simp +contextual [h]

/-! The debug port, ROM recovery and the SMBus devices (19 R454; 21). -/

@[simp ↓] theorem State.modDbg_canon (f : Dbg → Dbg) : (s.modDbg f).canon = s.canon := by rfl
@[simp ↓] theorem haltSet_canon (v : W32) : (haltSet v s).canon = s.canon := by simp [haltSet]
@[simp ↓] theorem haltClr_canon (v : W32) (hs : s.canon = true) : (haltClr v s).canon = true := by simp +contextual [hs, haltClr]
@[simp ↓] theorem stepCluster_canon (c : Nat) (hs : s.canon = true) : (stepCluster c s).canon = true := by simp [hs, stepCluster]
@[simp ↓] theorem dbgStep_canon (v : W32) (hs : s.canon = true) : (dbgStep v s).canon = true := by simp +contextual [hs, dbgStep]

@[simp ↓] theorem breakpointHit_canon (u : BpUnit) : (breakpointHit u s).canon = s.canon := by
  unfold breakpointHit
  refine ite_keeps_canon _ (fun _ => rfl) fun _ => ?_
  cases u with
  | cluster c => exact ite_keeps_canon _ (fun _ => (State.chargeHalts_canon _).trans ((State.modDbg_canon ..).trans (State.modCluster_canon ..))) fun _ => rfl
  | core k pc => exact ite_keeps_canon _ (fun _ => (State.modDbg_canon ..).trans (State.modCore_canon ..)) fun _ => rfl

@[simp ↓] theorem relock_canon (hs : s.canon = true) : (relock s).canon = true := by simp [hs, relock]
@[simp ↓] theorem State.dbgFault_canon (n : BitVec 4) : (s.dbgFault n).canon = s.canon := by rfl
@[simp ↓] theorem rcvCommit_canon (hs : s.canon = true) : (rcvCommit s).canon = true := by simp [hs, rcvCommit]
@[simp ↓] theorem dbgWrite_canon (o : Nat) (v : W32) (hs : s.canon = true) : (dbgWrite o v s).canon = true := by
  unfold dbgWrite
  refine ite_keeps_canon _ (fun _ => ?_) fun _ => ite_keeps_canon _ (fun _ => ?_) fun _ => ite_keeps_canon _ (fun _ => ?_) fun _ =>
    ite_keeps_canon _ (fun _ => ?_) fun _ => ite_keeps_canon _ (fun _ => hs) fun _ => ite_keeps_canon _ (fun _ => hs) fun _ =>
    ite_keeps_canon _ (fun _ => hs) fun _ => ite_keeps_canon _ (fun _ => hs) fun _ => ite_keeps_canon _ (fun _ => hs) fun _ => hs
  · split <;> simp [hs]
  all_goals simp [hs]

@[simp ↓] theorem State.portWrite_canon (b : WinBlock) (o addr : Nat) (v : W32) (hs : s.canon = true) :
    (s.portWrite b o addr v).canon = true := by
  unfold State.portWrite
  split <;> simp [hs]

@[simp ↓] theorem State.debugRow_canon (addr : Nat) (v : W32) (hs : s.canon = true) : (s.debugRow addr v).canon = true := by
  unfold State.debugRow
  split <;> simp [hs]

@[simp ↓] theorem State.dbgAnswer_canon (ack : Ack) (data : Option W32) : (s.dbgAnswer ack data).canon = s.canon := by rfl
@[simp ↓] theorem State.dbgFail_canon (n : BitVec 4) : (s.dbgFail n).canon = s.canon := by rfl
@[simp ↓] theorem State.dbgAt_canon (f : DbgFrame) : (s.dbgAt f).canon = s.canon := by rfl
@[simp ↓] theorem frameRead_canon (f : DbgFrame) (hs : s.canon = true) : (frameRead f s).canon = true := by
  simp only [frameRead]
  (repeat' split) <;> simp [hs]

@[simp ↓] theorem frameWrite_canon (f : DbgFrame) (hs : s.canon = true) : (frameWrite f s).canon = true := by
  unfold frameWrite
  (repeat' split) <;> simp [hs]

@[simp ↓] theorem frameRun_canon (f : DbgFrame) (write wait : Bool) (hs : s.canon = true) :
    (frameRun f write wait s).canon = true := by
  simp [hs, frameRun]

@[simp ↓] theorem frameIn_canon (hdr : Bool) (f : DbgFrame) (write wait : Bool) (hs : s.canon = true) :
    (frameIn hdr f write wait s).canon = true := by
  simp [hs, frameIn]

@[simp ↓] theorem lineReset_canon (high low : Nat) : (lineReset high low s).canon = s.canon := by simp [lineReset]
@[simp ↓] theorem nvmeMiBasic_canon (code : Byte) : (nvmeMiBasic code s).canon = s.canon := by simp [nvmeMiBasic]
@[simp ↓] theorem fruRead_canon (ofs len : Nat) : (fruRead ofs len s).canon = s.canon := by rfl

/-! What the module does at a tick, in the order of 02 R34. -/

@[simp ↓] theorem State.countHours_canon (before : Nat) : (s.countHours before).canon = s.canon := by rfl
@[simp ↓] theorem slotEnds_canon (c k : Nat) : (slotEnds c k s).canon = s.canon := by
  simp only [slotEnds]
  (repeat' split) <;> simp

@[simp ↓] theorem guardStarts_canon (c k : Nat) : (guardStarts c k s).canon = s.canon := by
  unfold guardStarts
  split <;> simp

@[simp ↓] theorem State.endSlots_canon : s.endSlots.canon = s.canon := by
  unfold State.endSlots
  refine foldl_canon (fun s _ => ?_) _ _
  (repeat' split) <;> simp

@[simp ↓] theorem State.releaseRows_canon : s.releaseRows.canon = s.canon := by simp [State.releaseRows]
@[simp ↓] theorem State.pickRow_canon : s.pickRow.canon = s.canon := by
  unfold State.pickRow
  split <;> simp

@[simp ↓] theorem State.readTable_canon (hs : s.canon = true) : s.readTable.canon = true := by
  unfold State.readTable
  split
  · exact hs
  · have hp := s.parTrip_canon 0xB0 parTable 64 hs
    split <;> simp [canon_of_eq ‹_› hp]

@[simp ↓] theorem State.wakeForSlots_canon : s.wakeForSlots.canon = s.canon := by simp [State.wakeForSlots]
@[simp ↓] theorem State.noteRemote_canon : s.noteRemote.canon = s.canon := by simp [State.noteRemote]
@[simp ↓] theorem State.exchange_canon (hs : s.canon = true) : s.exchange.canon = true := by simp [hs, State.exchange]
@[simp ↓] theorem State.shiftRecent_canon : s.shiftRecent.canon = s.canon := by rfl
@[simp ↓] theorem State.clusterTick_canon : s.clusterTick.canon = s.canon := by simp [State.clusterTick]
@[simp ↓] theorem State.chargeFrame_canon : s.chargeFrame.canon = s.canon := by simp [State.chargeFrame]
@[simp ↓] theorem State.tickUp_canon (stepped : Bool) (hs : s.canon = true) : (s.tickUp stepped).canon = true := by
  simp only [State.tickUp]
  refine State.settle_canon _ ?_
  have h1 := s.endSlots.activateDue_canon ((State.endSlots_canon s).trans hs)
  have h2 := s.endSlots.activateDue.releaseRows.pickRow.readTable_canon (by simp [h1])
  have h3 := State.exchange_canon ((s.endSlots.activateDue.releaseRows.pickRow.readTable.wakeForSlots.raiseAll 8).noteRemote.noteThrottle) (by simp [h2])
  simp [h3]
@[simp ↓] theorem tick_canon (move trim : Int) (hs : s.canon = true) : (tick move trim s).canon = true := by
  unfold tick
  split <;> simp [hs]

/-! The rows of power, sensors, throttles, Hold and the frame timer. -/

@[simp ↓] theorem accessWrite_canon (addr : Nat) (v : W32) (hs : s.canon = true) : (accessWrite addr v s).canon = true := by
  unfold accessWrite
  (repeat' split) <;> simp [hs]

@[simp ↓] theorem slotBegins_canon (c k : Nat) : (slotBegins c k s).canon = s.canon := by
  simp only [slotBegins]
  (repeat' split) <;> simp

/-! The rows of Novzeow messages and the group's timeouts. -/

@[simp ↓] theorem serving_canon (f : State → State) (hf : ∀ s, (f s).canon = s.canon) (hs : s.canon = true) : (serving f s).canon = true := by simp [hs, serving, hf]

/-! The rows of I/O commands and of the events of models, contexts, refits and search. -/

@[simp ↓] theorem nodeIn_canon (ctx : Nat) (marked : Bool) (hs : s.canon = true) : (nodeIn ctx marked s).canon = true := by simp [hs, nodeIn]
@[simp ↓] theorem ioIn_canon (h : IoHdr) (nvm : Bool) (i : Instr) (hs : s.canon = true) : (ioIn h nvm i s).canon = true := by simp [hs, ioIn]
@[simp ↓] theorem writeIn_canon (h : IoHdr) (slba : W64) (nlb : W16) (data : Bytes) (hs : s.canon = true) : (writeIn h slba nlb data s).canon = true := by
  have hp := s.staged_canon (0xC8 + match s.ctrlFor h.id.ctrl with | some c => c.port | none => 0) hs
  unfold writeIn
  dsimp only
  split
  · exact hs
  · split <;> simp [canon_of_eq ‹_› hp]

/-! The rows of ports and queue pairs that end something. -/

@[simp ↓] theorem portFalls_canon (p : Nat) (hs : s.canon = true) : (portFalls p s).canon = true := by simp [hs, portFalls]
@[simp ↓] theorem ackTimeout_canon (qp : Nat) (hs : s.canon = true) : (ackTimeout qp s).canon = true := by
  unfold ackTimeout
  (repeat' split) <;> simp [hs]

/-! The rows of the die service port, of flash and of media management. -/

@[simp ↓] theorem dspWrite_canon (n o : Nat) (v : W32) (t : Nat) (hs : s.canon = true) :
    (dspWrite n o v t s).canon = true := by simp [hs, dspWrite]

@[simp ↓] theorem dspRead_canon (n cmd : Nat) (door : DspDoor) (hs : s.canon = true) : (dspRead n cmd door s).canon = true := by
  unfold dspRead
  split <;> simp [hs]

@[simp ↓] theorem dspProgram_canon (n cmd : Nat) (die row data : W32) (p : Pass) :
    (dspProgram n cmd die row data p s).canon = s.canon := by simp [dspProgram]

/-! The rows of the Reel and the Bridle. -/

@[simp ↓] theorem fetchIn_canon (addr : W64) (piece : Nat) (bad : List Nat) (steps : List (Nat × Fin 6)) (data : Bytes) (marks : List Nat) (hs : s.canon = true) :
    (fetchIn addr piece bad steps data marks s).canon = true := by
  unfold fetchIn
  dsimp only
  split
  · exact hs
  · have hp := s.staged_canon 0x9A hs
    split <;> simp [canon_of_eq ‹_› hp]

@[simp ↓] theorem messageIn_canon (net : Nat) (b : Bytes) (t : Nat) (hs : s.canon = true) : (messageIn net b t s).canon = true := by
  have hp := s.staged_canon 0x99 hs
  unfold messageIn
  split
  · exact hs
  · split
    simp [canon_of_eq ‹_› hp]

/-! The rows of passes, clusters and their interrupt controllers. -/

@[simp ↓] theorem passStarts_canon (c uid t : Nat) (hs : s.canon = true) : (passStarts c uid t s).canon = true := by
  unfold passStarts
  split <;> simp [hs]

@[simp ↓] theorem passLate_canon (c : Nat) : (passLate c s).canon = s.canon := by
  unfold passLate
  split <;> simp

@[simp ↓] theorem watchdogEnds_canon (c t : Nat) (hs : s.canon = true) :
    (watchdogEnds c t s).canon = true := by
  unfold watchdogEnds
  split
  · exact hs
  · exact State.settle_canon _ (State.fault_canon _ _ (watchdogPass_canon _ _ (by simp [hs])))

@[simp ↓] theorem tilePath_canon (tile : Nat) (hs : s.canon = true) : (tilePath tile s).canon = true := by
  unfold tilePath
  split
  · exact hs
  · have hp := tileFault_canon s tile hs
    split <;> simp [canon_of_eq ‹_› hp]

@[simp ↓] theorem weightMark_canon (tile : Nat) (hs : s.canon = true) : (weightMark tile s).canon = true := by
  unfold weightMark
  split <;> simp [hs]

@[simp ↓] theorem reelWrite_canon (c : Nat) (f : Fill) (hs : s.canon = true) : (reelWrite c f s).canon = true := by
  unfold reelWrite
  split
  · exact hs
  · have hp := s.staged_canon 0x9A hs
    split <;> simp [canon_of_eq ‹_› hp]

@[simp ↓] theorem handlerIn_canon (c : Nat) (hs : s.canon = true) : (handlerIn c s).canon = true := by
  unfold handlerIn
  split
  · exact hs
  · have hp := s.parTrip_canon (0xA8 + c) 0 4 hs
    split <;> simp [canon_of_eq ‹_› hp]

end

end Sys2Proof.Machine
end

section
/-! SUPPORT. Every command keeps the parity stores in canonical form, and the statement on steps. -/

set_option Elab.async false

namespace Sys2Proof.Machine

/-- What a command answers holds its parity stores in canonical form. -/
def KeepsCanon (o : Host.Outcome State Fault Refusal) : Prop := ∀ t, o = .next t → t.canon = true

theorem keepsCanon_next {t : State} (ht : t.canon = true) : KeepsCanon (.next t) := by
  rintro _ ⟨⟩
  exact ht

theorem keepsCanon_ite {c : Prop} [Decidable c] {t : State} {e : Fault} (ht : t.canon = true) :
    KeepsCanon (if c then .next t else .fault e) := by
  split
  · exact keepsCanon_next ht
  · rintro _ ⟨⟩

section
variable (s : State)

theorem spdmRow_keepsCanon (code vendor : Nat) (req : Bytes) (hs : s.canon = true) : KeepsCanon (spdmRow code vendor req s) :=
  keepsCanon_ite (by simp [hs])

/-- Each row answers `.next` of a function of the model or, where it checks its operands, of one behind that check. -/
theorem exec_keepsCanon (i : Instr) (hs : s.canon = true) : KeepsCanon (exec i s) := by
  cases i
  -- rows that check their operands
  case registerAccessWrite | registerWrite | rd | wr | sensorSample | faultReport | modelLoadBegin | modelLoadData |
      modelLoadCommit | modelLoadAddScale | modelLoadAbandon | filterCreate | filterAddIds | filterRemoveIds | filterFillAll |
      filterCombine | filterDestroy | calibrationRead | passSubmit =>
    exact keepsCanon_ite (by simp [hs])
  -- words of a cluster's handler, which check their opcode
  case vnop | vsetvl | vld | vst | vgather | vperm | vbcast | vcvt | vadd | vmul | vfma | vcmp | vsel | vmin | vmax | vmlog |
      vred | mrun | sli | mwait | sadd | sld | br | spawn | signal =>
    exact keepsCanon_ite (fetched_canon _ _ _ _ _ (fun t h => by simp +contextual [h]) hs)
  case hret | endProgram => exact keepsCanon_next (fetched_canon _ _ _ _ _ (fun t h => by simp [h]) hs)
  -- rows of SPDM, which check the code of their message
  case getVersion | getCapabilities | negotiateAlgorithms | getDigests | getCertificate | challenge | getMeasurements |
      chunkGet | getPqCert | getPqSignature | getNonce | ownerSet | ownerRevoke =>
    exact spdmRow_keepsCanon s _ _ _ hs
  -- every other row answers one state
  all_goals exact keepsCanon_next (by simp [hs])

end

/-- Settles O57: a command at the front of the queue keeps the two stores canonical, and an empty queue answers the same state. -/
theorem stepsKeepCanonicalForm : Obligations.StepsKeepCanonicalForm := by
  unfold Obligations.StepsKeepCanonicalForm
  intro s t hs e
  rw [State.canonical_iff] at hs ⊢
  cases hq : s.pending with
  | nil =>
    obtain rfl := Host.Outcome.next.inj ((step_of_pending_nil hq).symm.trans e)
    exact hs
  | cons c rest =>
    have hr : { s with pending := rest }.canon = true := (State.canon_mk ..).trans hs
    exact exec_keepsCanon _ c hr t ((step_of_pending_cons hq).symm.trans e)

/-- Settles O53: the queue's front runs on the rest of the queue, an empty queue answers the same state, and no word decodes. -/
theorem stepTakesTheFront : Obligations.StepTakesTheFront := by
  unfold Obligations.StepTakesTheFront
  exact ⟨fun c rest s h => step_of_pending_cons h, fun s h => step_of_pending_nil h, fun _ _ _ => ⟨rfl, rfl⟩⟩

end Sys2Proof.Machine
end

section
/-! SUPPORT. Where an admin command runs, and the statement on it (15 R343, R346; 21 R495). -/

set_option Elab.async false

namespace Sys2Proof.Machine

section
variable {s : State} {id : CmdId} {i : Instr}

theorem adminIn_of_halted (hup : s.adminUp id = true) (hnew : s.isOpen id = false) (hhalt : (s.coreAt (adminCore i id)).halted = true) :
    adminIn id i s = s.enter id false (some i) := by
  simp [adminIn, adminOn, hup, hnew, hhalt]

theorem adminIn_of_not_taken (h : s.adminUp id = false ∨ s.isOpen id = true) : adminIn id i s = s := by
  rcases h with hup | hopen
  · simp [adminIn, adminOn, hup]
  · simp [adminIn, adminOn, hopen]

end

/-- Settles O13: the row takes the command to its core, which runs it, keeps it open while halted, or passes it over. -/
theorem adminCommandsRun : Obligations.AdminCommandsRun := by
  unfold Obligations.AdminCommandsRun
  refine ⟨fun i id s hi hs => exec_of_serves hi hs, fun i id s hi hup hnew hhalt => ?_, fun i id s hi h => ?_⟩
  · rw [exec_of_adminId hi, adminIn_of_halted hup hnew hhalt]
  · rw [exec_of_adminId hi, adminIn_of_not_taken h]

/-- Settles O20: the last step of a drop filters the controllers and the queue pairs by the identifier. -/
theorem queuesEnd : Obligations.QueuesEnd := by
  unfold Obligations.QueuesEnd
  intro s n
  constructor
  · exact List.find?_eq_none.2 fun c hc => by simpa using (List.mem_filter.1 hc).2
  · exact List.all_eq_true.2 fun q hq => (List.mem_filter.1 hq).2

end Sys2Proof.Machine
end

section
/-! SUPPORT. Connections and controller properties (15 R343, R354, R355), and the statement on them. -/

set_option Elab.async false

namespace Sys2Proof.Machine

/-! The rows do their operations, whatever the state. -/

section
variable (s : State) (id : CmdId)

theorem exec_connect (p : Fin 8) (q : W16) (kato : W32) : exec (.connect id p q kato) s = .next (connectCmd id p q kato s) := rfl
theorem exec_propertyGet (ofs : W32) : exec (.propertyGet id ofs) s = .next (propertyGet id ofs s) := rfl
theorem exec_propertySet (ofs : W32) (v : W64) : exec (.propertySet id ofs v) s = .next (propertySet id ofs v s).settle := rfl
theorem exec_disconnect : exec (.disconnect id) s = .next (disconnectCmd id s).settle := rfl
theorem exec_transportConnectionLost (ctrl sq : W16) : exec (.transportConnectionLost ctrl sq) s = .next (connectionLost ctrl sq s).settle := rfl

end

theorem katoOf_of_bounds {ms : Nat} (hlo : 1000 ≤ ms) (hhi : ms ≤ 60000) : katoOf ms = some (ceilDiv ms 100 * 100) := by
  simp [katoOf, hlo, hhi]

section
variable {s : State} {id : CmdId} {c : HostCtrl}

/-! Connect: of the admin queue once for an identifier, of an I/O queue to its enabled controller (R343). -/

section
variable {p : Nat} {q : W16} {kato : W32} (hphase : s.phase = .up) (hup : (s.portAt p).up = true) (haddr : (s.portAt p).addr = true)
  (hroom : s.tether.qps.length < 65536)
include hphase hup haddr hroom

theorem connectCmd_admin (hsq : id.sq = 0) (hnew : s.host.ctrls.any (fun c => decide (c.cntlid = id.ctrl)) = false)
    (hctrls : s.host.ctrls.length < 64) (hlo : 1000 ≤ kato.toNat) (hhi : kato.toNat ≤ 60000) (hq : q ≠ 0) (hq31 : q.toNat ≤ 31) :
    connectCmd id p q kato s =
      (({ s with host := { s.host with ctrls := s.host.ctrls ++ [{ cntlid := id.ctrl, port := p, kato := ceilDiv kato.toNat 100 * 100, lastKa := s.frame.time, queues := [{ sq := 0, size := q }] }] } } : State).openHostQp p id.ctrl 0).answer id stOk (id.ctrl.setWidth 32) := by
  have hsize : ¬(31 < q.toNat ∨ q = 0) := not_or.2 ⟨hq31.not_gt, hq⟩
  simp only [connectCmd, hphase, hup, haddr, hsq, hnew, katoOf_of_bounds hlo hhi, if_neg hroom.not_ge, if_neg hsize, hctrls.not_ge,
    ne_eq, not_true_eq_false, Bool.not_true, Bool.false_eq_true, or_self, if_false, if_true]

theorem connectCmd_of_known (hsq : id.sq = 0) (hknown : s.host.ctrls.any (fun c => decide (c.cntlid = id.ctrl)) = true) :
    connectCmd id p q kato s = s.answer id stSequence := by
  simp only [connectCmd, hphase, hup, haddr, hsq, hknown, if_neg hroom.not_ge, ne_eq, not_true_eq_false, Bool.not_true,
    Bool.false_eq_true, or_self, if_false, true_or, if_true]

theorem connectCmd_io (hsq : id.sq ≠ 0) (hc : s.ctrlFor id.ctrl = some c) (hport : c.port = p) (hready : c.ready = true)
    (hnew : c.hasQueue id.sq = false) (hqueues : c.queues.length - 1 < bits c.numQueues 15 0 + 1)
    (hall : sumBy (fun (c : HostCtrl) => c.queues.length - 1) s.host.ctrls < 4096) (hq : q ≠ 0) (hq4095 : q.toNat ≤ 4095) :
    connectCmd id p q kato s =
      ((s.modHostCtrl id.ctrl fun c => { c with queues := c.queues ++ [{ sq := id.sq, size := q }] }).openHostQp p id.ctrl id.sq).answer id stOk (id.ctrl.setWidth 32) := by
  have hsize : ¬(4095 < q.toNat ∨ q = 0) := not_or.2 ⟨hq4095.not_gt, hq⟩
  simp only [connectCmd, hphase, hup, haddr, hc, hport, hready, hnew, if_neg hsq, if_neg hroom.not_ge, if_neg hsize, hqueues.not_ge,
    hall.not_ge, ne_eq, not_true_eq_false, Bool.not_true, Bool.false_eq_true, or_self, if_false]

end

/-! Properties: CSTS, CC and NSSR (R343; 20 R460). -/

theorem propertyGet_csts (hc : s.ctrlFor id.ctrl = some c) :
    propertyGet id 0x1C s = s.answer id stOk (BitVec.ofNat 32 (b2n c.ready + 4 * c.shst.toNat)) := by
  simp only [propertyGet, hc]
  rfl

theorem setCc_enables {v : W32} (hc : s.ctrlFor id.ctrl = some c) (hoff : bit c.cc 0 = false) (hen : bit v 0 = true)
    (hshn : bits v 15 14 = 0) :
    setCc id v s =
      ((s.modHostCtrl id.ctrl fun c => { c with cc := v }).modHostCtrl id.ctrl fun c => { c with ready := true, shst := 0 }).answer id stOk := by
  simp only [setCc, hc, hoff, hen, hshn, ne_eq, not_true_eq_false, Bool.false_and, Bool.not_false, Bool.true_and, Bool.false_eq_true,
    if_false, if_true]

theorem State.giveFwEvent_of_none {t : State} (h : t.host.fwEvent = false) (n : W16) : t.giveFwEvent n = t := by
  simp [State.giveFwEvent, h]

theorem propertySet_cc (v : W64) (hc : s.ctrlFor id.ctrl = some c) : propertySet id 0x14 v s = (setCc id (v.setWidth 32) s).giveFwEvent id.ctrl := by
  simp only [propertySet, hc, if_true]

theorem propertySet_nssr {v : W64} (hc : s.ctrlFor id.ctrl = some c) (hv : v.setWidth 32 = (0x4E564D65 : W32)) :
    propertySet id 0x20 v s = s.resetModule 3 := by
  simp only [propertySet, hc, hv, if_true]
  rfl

/-! A queue that ends takes the association with it where it is the admin queue (R354, R355). -/

theorem disconnectCmd_of_queue (hc : s.ctrlFor id.ctrl = some c) (hq : c.hasQueue id.sq = true) :
    disconnectCmd id s = if id.sq = 0 then (s.dropController id.ctrl).answer id stOk else (s.loseQueue id.ctrl id.sq true).answer id stOk := by
  simp only [disconnectCmd, hc, hq, Bool.not_true, Bool.false_eq_true, if_false]

theorem connectionLost_of_queue {n q : W16} (hc : s.ctrlFor n = some c) (hq : c.hasQueue q = true) :
    connectionLost n q s = if q = 0 then s.dropController n else s.loseQueue n q false := by
  simp only [connectionLost, hc, hq, Bool.not_true, Bool.false_eq_true, if_false]

end

/-- Settles O19: each row is one operation of the model, and each operation answers by its equation for the case it meets. -/
theorem connections : Obligations.Connections := by
  unfold Obligations.Connections
  refine ⟨?admin, ?again, ?io, ?csts, ?enable, ?nssr, ?disconnect, ?lost, fun id p q k s => exec_connect s id p q k,
    fun id o s => exec_propertyGet s id o, fun id o v s => exec_propertySet s id o v, fun id s => exec_disconnect s id,
    fun n q s => exec_transportConnectionLost s n q⟩
  case admin =>
    intro id p q kato s hphase hup haddr hroom hsq hnew hctrls hlo hhi hq hq31
    rw [exec_connect, connectCmd_admin hphase hup haddr hroom hsq hnew hctrls hlo hhi hq hq31]
  case again =>
    intro id p q kato s hphase hup haddr hroom hsq hknown
    rw [exec_connect, connectCmd_of_known hphase hup haddr hroom hsq hknown]
  case io =>
    intro id p q kato s c hphase hup haddr hroom hsq hc hport hready hnew hqueues hall hq hq4095
    rw [exec_connect, connectCmd_io hphase hup haddr hroom hsq hc hport hready hnew hqueues hall hq hq4095]
  case csts =>
    intro id s c hc
    rw [exec_propertyGet, propertyGet_csts hc]
  case enable =>
    intro id v s c hc hoff hen hshn hev
    rw [exec_propertySet, propertySet_cc v hc, setCc_enables hc hoff hen hshn, State.giveFwEvent_of_none]
    exact hev
  case nssr =>
    intro id v s c hc hv
    rw [exec_propertySet, propertySet_nssr hc hv]
  case disconnect =>
    intro id s c hc hq
    rw [exec_disconnect, disconnectCmd_of_queue hc hq]
  case lost =>
    intro n q s c hc hq
    rw [exec_transportConnectionLost, connectionLost_of_queue hc hq]

end Sys2Proof.Machine
end

section
/-! SUPPORT. What a report of the supply's faults and the stop of a module leave: the phase, the state of the input, the readings of the sensors. -/

set_option Elab.async false

namespace Sys2Proof.Machine

/-- The phase of the power sequence, INPUT_OK, THERMAL_TRIP and the latest readings of the sensors. -/
def State.supply (s : State) : Phase × Bool × Bool × List W16 :=
  (s.phase, s.power.inputOk, s.power.thermalTrip, s.power.tempNow)

@[simp ↓] theorem State.supply_fold (s : State) : (s.phase, s.power.inputOk, s.power.thermalTrip, s.power.tempNow) = s.supply := by rfl

@[simp ↓] theorem State.supply_mk (pending phase frame loft clusters sched sparReset reel library bridle search media host tether group drogue parity gondola sec power dbg draws) :
    (State.mk pending phase frame loft clusters sched sparReset reel library bridle search media host tether group drogue parity gondola sec power dbg draws).supply =
      (phase, power.inputOk, power.thermalTrip, power.tempNow) := by rfl

section
variable {β : Type} (c : Prop) [Decidable c]

@[simp ↓] theorem ite_supply (s t : State) : (if c then s else t).supply = if c then s.supply else t.supply := apply_ite _ _ _ _
@[simp ↓] theorem ite_snd_supply (s t : β × State) : (if c then s else t).2.supply = if c then s.2.supply else t.2.supply := by split <;> rfl

end

section
variable {α β γ : Type}

@[simp ↓] theorem foldl_supply {f : State → α → State} (h : ∀ s a, (f s a).supply = s.supply) (l : List α) (s : State) :
    (l.foldl f s).supply = s.supply :=
  foldl_keeps_of (g := State.supply) (fun t a ht => (h t a).trans ht) l s rfl

@[simp ↓] theorem foldl_snd_supply {f : β × State → α → β × State} (h : ∀ x a, (f x a).2.supply = x.2.supply) (l : List α)
    (x : β × State) : (l.foldl f x).2.supply = x.2.supply :=
  foldl_keeps_of (g := fun x => x.2.supply) (fun y a hy => (h y a).trans hy) l x rfl

end

section
variable (s : State)

@[simp ↓] theorem State.modCtrl_supply (n : Nat) (f : Ctrl → Ctrl) : (s.modCtrl n f).supply = s.supply := by simp [State.modCtrl]
@[simp ↓] theorem State.modDie_supply (d : Nat) (f : Die → Die) : (s.modDie d f).supply = s.supply := by rfl
@[simp ↓] theorem State.drawn_supply : s.drawn.supply = s.supply := by rfl
@[simp ↓] theorem State.logError_supply (id : CmdId) (t : Status) : (s.logError id t).supply = s.supply := by simp [State.logError]
@[simp ↓] theorem State.answer_supply (id : CmdId) (t : Status) (dw0 : W32) (data : Bytes) (dw1 : W32) :
    (s.answer id t dw0 data dw1).supply = s.supply := by
  simp [State.answer]

@[simp ↓] theorem State.leave_supply (id : CmdId) : (s.leave id).supply = s.supply := by rfl
@[simp ↓] theorem State.complete_supply (id : CmdId) (t : Status) (dw0 dw1 : W32) (data : Bytes) :
    (s.complete id t dw0 dw1 data).supply = s.supply := by
  simp [State.complete]

@[simp ↓] theorem State.completeOpt_supply (id : Option CmdId) (t : Status) (dw0 dw1 : W32) (data : Bytes) :
    (s.completeOpt id t dw0 dw1 data).supply = s.supply := by
  unfold State.completeOpt
  split <;> simp

@[simp ↓] theorem State.raiseEvent_supply (e mask : W32) : (s.raiseEvent e mask).supply = s.supply := by simp [State.raiseEvent]
@[simp ↓] theorem State.telemetry_supply (block event unit detail : Nat) :
    (s.telemetry block event unit detail).supply = s.supply := by simp [State.telemetry]

@[simp ↓] theorem State.send_supply (net toRank : Nat) (m : Bytes) : (s.send net toRank m).supply = s.supply := by rfl

@[simp ↓] theorem State.record_supply (c : FaultClass) (f : FaultIn) : (s.record c f).supply = s.supply := by rfl
@[simp ↓] theorem State.modObj_supply (ofs : Nat) (f : Obj → Obj) : (s.modObj ofs f).supply = s.supply := by rfl
@[simp ↓] theorem State.writeObj_supply (a : W64) (b : Bytes) : (s.writeObj a b).supply = s.supply := by
  unfold State.writeObj
  split <;> simp

@[simp ↓] theorem State.markObj_supply (a : W64) (n : Nat) : (s.markObj a n).supply = s.supply := by
  unfold State.markObj
  split <;> simp

@[simp ↓] theorem State.freeGroupList_supply (l : List Nat) : (s.freeGroupList l).supply = s.supply := by rfl
@[simp ↓] theorem State.freeObj_supply (a : W64) : (s.freeObj a).supply = s.supply := by
  unfold State.freeObj
  split <;> simp

@[simp ↓] theorem State.freeObjs_supply (l : List W64) : (s.freeObjs l).supply = s.supply := by simp [State.freeObjs]
@[simp ↓] theorem State.noteFar_supply (t : Nat) (a : W64) (i u : Nat) : (s.noteFar t a i u).supply = s.supply := by rfl
@[simp ↓] theorem State.noteRead_supply (a : W64) (n : Nat) : (s.noteRead a n).supply = s.supply := by
  unfold State.noteRead
  (repeat' split) <;> simp

@[simp ↓] theorem State.modContract_supply (id : Nat) (f : CtEntry → CtEntry) : (s.modContract id f).supply = s.supply := by rfl
@[simp ↓] theorem State.closeRequest_supply (id : CmdId) : (s.closeRequest id).supply = s.supply := by
  unfold State.closeRequest
  split <;> simp

@[simp ↓] theorem State.finishRequest_supply (id : CmdId) (t : Status) (dw0 : W32) (data : Bytes) (flags : W32) :
    (s.finishRequest id t dw0 data flags).supply = s.supply := by
  simp [State.finishRequest]

@[simp ↓] theorem State.modBlk_supply (d b : Nat) (f : Blk → Blk) : (s.modBlk d b f).supply = s.supply := by rfl
@[simp ↓] theorem State.takeSeq_supply : s.takeSeq.2.supply = s.supply := by rfl
@[simp ↓] theorem State.addJob_supply (w : Wordline) (p : Pass) (after : List Nat) (half : Option Bool) :
    (s.addJob w p after half).supply = s.supply := by
  rfl

@[simp ↓] theorem State.journalAll_supply (l : List JBody) (after : List Nat) (half : Option Bool) :
    (s.journalAll l after half).2.supply = s.supply := by
  simp [State.journalAll]

@[simp ↓] theorem State.journal_supply (b : JBody) : (s.journal b).2.supply = s.supply := by rfl
@[simp ↓] theorem State.journalMap_supply (l : List Nat) : (s.journalMap l).supply = s.supply := by simp [State.journalMap]
@[simp ↓] theorem State.setMap_supply (t : Nat) (w : W64) : (s.setMap t w).supply = s.supply := by rfl
@[simp ↓] theorem State.writeStripeAt_supply (at_ : Option (Nat × Nat)) (stream : Nat) (grouped : Bool) (t : Nat) (u0 u1 : Option Container) :
    (s.writeStripeAt at_ stream grouped t u0 u1).2.supply = s.supply := by
  simp only [State.writeStripeAt]
  (repeat' split) <;> simp

@[simp ↓] theorem State.writeStripe_supply (stream : Nat) (grouped : Bool) (t : Nat) (u0 u1 : Option Container) :
    (s.writeStripe stream grouped t u0 u1).2.supply = s.supply := by
  simp [State.writeStripe]

@[simp ↓] theorem State.writePart_supply (stream : Nat) (grouped : Bool) (for_ : WriteFor) (l : List (Nat × Option Container × Option Container)) :
    (s.writePart stream grouped for_ l).2.supply = s.supply := by
  simp [State.writePart]

@[simp ↓] theorem State.applyRec_supply (r : StripeRec) : (s.applyRec r).supply = s.supply := by rfl
@[simp ↓] theorem State.stepPart_supply (p : WritePart) : (s.stepPart p).2.supply = s.supply := by
  unfold State.stepPart
  split <;> simp

@[simp ↓] theorem State.stepParts_supply : s.stepParts.2.supply = s.supply := by simp [State.stepParts]
@[simp ↓] theorem State.settleParity_supply : s.settleParity.supply = s.supply := by rfl
@[simp ↓] theorem State.beginJob_supply (j : ProgJob) : (s.beginJob j).supply = s.supply := by
  simp only [State.beginJob]
  (repeat' split) <;> simp

@[simp ↓] theorem State.kick_supply : s.kick.supply = s.supply := by simp [State.kick]
@[simp ↓] theorem State.joinGroup_supply (w : Wordline) : (s.joinGroup w).supply = s.supply := by
  simp only [State.joinGroup]
  (repeat' split) <;> simp

@[simp ↓] theorem State.closeGroups_supply (all : Bool) : (s.closeGroups all).supply = s.supply := by simp [State.closeGroups]
@[simp ↓] theorem State.releaseGroups_supply : s.releaseGroups.supply = s.supply := by rfl
@[simp ↓] theorem State.retire_supply (d b cause : Nat) : (s.retire d b cause).supply = s.supply := by simp [State.retire]
@[simp ↓] theorem State.rewriteRec_supply (r : StripeRec) : (s.rewriteRec r).supply = s.supply := by
  unfold State.rewriteRec
  split <;> simp

@[simp ↓] theorem State.dropGcs_supply (hit : StripeRec → Bool) : (s.dropGcs hit).supply = s.supply := by simp [State.dropGcs]
@[simp ↓] theorem State.evacuate_supply (d b : Nat) : (s.evacuate d b).supply = s.supply := by simp [State.evacuate]
@[simp ↓] theorem State.passEnds_supply (j : ProgJob) (fail : Bool) : (s.passEnds j fail).supply = s.supply := by
  unfold State.passEnds
  split <;> simp

@[simp ↓] theorem State.noteLost_supply (l : Nat) : (s.noteLost l).supply = s.supply := by
  simp only [State.noteLost]
  (repeat' split) <;> simp

@[simp ↓] theorem State.gcFinish_supply (g : Gc) : (s.gcFinish g).supply = s.supply := by
  unfold State.gcFinish
  refine foldl_supply (fun s _ => ?_) _ _
  (repeat' split) <;> simp

@[simp ↓] theorem State.settleGc_supply : s.settleGc.supply = s.supply := by
  unfold State.settleGc
  refine foldl_supply (fun s _ => ?_) _ _
  (repeat' split) <;> simp

@[simp ↓] theorem State.flushRest_supply : s.flushRest.supply = s.supply := by
  unfold State.flushRest
  split <;> simp

@[simp ↓] theorem State.settleMedia_supply : s.settleMedia.2.supply = s.supply := by simp [State.settleMedia]
@[simp ↓] theorem State.clearGroupMap_supply (g : Nat) : (s.clearGroupMap g).supply = s.supply := by simp [State.clearGroupMap]
@[simp ↓] theorem State.stopMedia_supply (cut : Bool) : (s.stopMedia cut).supply = s.supply := by
  unfold State.stopMedia
  simp only [State.supply_mk]
  refine (foldl_supply (fun s r => ?_) _ _).trans ((foldl_supply (fun s e => ?_) _ _).trans ?_)
  · split <;> simp
  · split <;> simp
  · simp

@[simp ↓] theorem State.modDsp_supply (n : Nat) (f : Dsp → Dsp) : (s.modDsp n f).supply = s.supply := by simp [State.modDsp]
@[simp ↓] theorem State.dspAbandon_supply (n : Nat) : (s.dspAbandon n).supply = s.supply := by simp [State.dspAbandon]
@[simp ↓] theorem State.modModel_supply (id : W64) (f : Model → Model) : (s.modModel id f).supply = s.supply := by rfl
@[simp ↓] theorem State.writeTable_supply (id : W64) : (s.writeTable id).supply = s.supply := by
  unfold State.writeTable
  split <;> simp

@[simp ↓] theorem State.modCtx_supply (i : Nat) (f : Context → Context) : (s.modCtx i f).supply = s.supply := by rfl
@[simp ↓] theorem State.finishBatch_supply (i : Nat) (b : Batch) (t : Status) (flags : W32) :
    (s.finishBatch i b t flags).supply = s.supply := by simp [State.finishBatch]

@[simp ↓] theorem State.nv_supply (net type dst : Nat) (body : Bytes) : (s.nv net type dst body).supply = s.supply := by rfl
@[simp ↓] theorem State.nvTo_supply (type dst : Nat) (body : Bytes) : (s.nvTo type dst body).supply = s.supply := by rfl
@[simp ↓] theorem State.dropPlace_supply (p : Place) : (s.dropPlace p).supply = s.supply := by rfl
@[simp ↓] theorem State.storePlace_supply (p : Place) : (s.storePlace p).supply = s.supply := by rfl
@[simp ↓] theorem State.dirSet_supply (p : Place) : (s.dirSet p).supply = s.supply := by rfl
@[simp ↓] theorem State.relocate_supply (r : Reloc) : (s.relocate r).supply = s.supply := by simp [State.relocate]
@[simp ↓] theorem State.adopt_supply (p : Place) : (s.adopt p).supply = s.supply := by
  simp only [State.adopt]
  (repeat' split) <;> simp

@[simp ↓] theorem State.report_supply (l : List Place) : (s.report l).supply = s.supply := by simp [State.report]
@[simp ↓] theorem State.modNs_supply (nsid : Nat) (f : Namespace → Namespace) : (s.modNs nsid f).supply = s.supply := by rfl
@[simp ↓] theorem State.storeObj_supply (a : W64) : (s.storeObj a).2.supply = s.supply := by
  unfold State.storeObj
  split
  · rfl
  · refine foldl_snd_supply (fun r x => ?_) _ _
    split <;> simp

@[simp ↓] theorem State.storeObjs_supply (l : List W64) : (s.storeObjs l).2.supply = s.supply := by simp [State.storeObjs]
@[simp ↓] theorem State.freeCtx_supply (i : Nat) (tell : Bool) : (s.freeCtx i tell).supply = s.supply := by simp [State.freeCtx]
@[simp ↓] theorem State.endCtx_supply (i : Nat) (tell : Bool) : (s.endCtx i tell).supply = s.supply := by simp [State.endCtx]
@[simp ↓] theorem State.releaseModel_supply (m : Model) : (s.releaseModel m).supply = s.supply := by simp [State.releaseModel]
@[simp ↓] theorem State.modRefit_supply (job : Nat) (f : Refit → Refit) : (s.modRefit job f).supply = s.supply := by rfl
@[simp ↓] theorem State.dropRefit_supply (job : Nat) : (s.dropRefit job).supply = s.supply := by rfl
@[simp ↓] theorem State.releaseScale_supply (j : Refit) : (s.releaseScale j).supply = s.supply := by simp [State.releaseScale]
@[simp ↓] theorem State.refitFails_supply (j : Refit) : (s.refitFails j).supply = s.supply := by simp [State.refitFails]
@[simp ↓] theorem State.refitWrites_supply (j : Refit) : (s.refitWrites j).supply = s.supply := by
  unfold State.refitWrites
  (repeat' split) <;> simp

@[simp ↓] theorem State.streamState_supply (j : Refit) : (s.streamState j).supply = s.supply := by
  unfold State.streamState
  split <;> simp

@[simp ↓] theorem State.refitTick_supply : s.refitTick.supply = s.supply := by
  unfold State.refitTick
  refine foldl_supply (fun s _ => ?_) _ _
  (repeat' split) <;> simp

@[simp ↓] theorem State.modSearch_supply (f : Search → Search) : (s.modSearch f).supply = s.supply := by rfl
@[simp ↓] theorem State.dropNs_supply (n : Namespace) : (s.dropNs n).supply = s.supply := by simp [State.dropNs]
@[simp ↓] theorem State.rename_supply (a b : CmdId) : (State.rename a b s).supply = s.supply := by rfl
@[simp ↓] theorem State.dropQuery_supply (id : CmdId) : (s.dropQuery id).supply = s.supply := by
  unfold State.dropQuery
  split <;> simp

@[simp ↓] theorem State.modLoft_supply (f : Loft → Loft) : (s.modLoft f).supply = s.supply := by rfl
@[simp ↓] theorem State.discardPending_supply : s.discardPending.supply = s.supply := by
  unfold State.discardPending
  split <;> simp

@[simp ↓] theorem State.modDrogue_supply (f : Drogue → Drogue) : (s.modDrogue f).supply = s.supply := by rfl
@[simp ↓] theorem State.endFreeze_supply : s.endFreeze.supply = s.supply := by simp [State.endFreeze]
@[simp ↓] theorem State.restartQuiet_supply : s.restartQuiet.supply = s.supply := by rfl
@[simp ↓] theorem State.interruptCmd_supply (o : OpenCmd) : (s.interruptCmd o).supply = s.supply := by
  simp only [State.interruptCmd]
  (repeat' split) <;> simp

@[simp ↓] theorem State.stopForSafe_supply : s.stopForSafe.supply = s.supply := by simp [State.stopForSafe]
@[simp ↓] theorem State.enterSafe_supply (src : Byte) : (s.enterSafe src).supply = s.supply := by simp [State.enterSafe]
@[simp ↓] theorem State.moduleFatal_supply (f : FaultIn) : (s.moduleFatal f).supply = s.supply := by simp [State.moduleFatal]
@[simp ↓] theorem State.modSec_supply (f : Sec → Sec) : (s.modSec f).supply = s.supply := by rfl
@[simp ↓] theorem State.drawBytes_supply (n : Nat) : (s.drawBytes n).2.supply = s.supply := by rfl
@[simp ↓] theorem State.newNonce_supply : s.newNonce.supply = s.supply := by rfl
@[simp ↓] theorem State.stopLinks_supply (cut : Bool) : (s.stopLinks cut).supply = s.supply := by simp [State.stopLinks]

@[simp ↓] theorem State.stopRefits_supply (alive : Nat → Bool) : (s.stopRefits alive).supply = s.supply := by simp [State.stopRefits]
@[simp ↓] theorem State.stopModels_supply : s.stopModels.supply = s.supply := by simp [State.stopModels]
@[simp ↓] theorem State.stopSearch_supply (alive : Nat → Bool) : (s.stopSearch alive).supply = s.supply := by simp [State.stopSearch]
@[simp ↓] theorem State.stopNamespaces_supply (alive : Nat → Bool) (cut : Bool) : (s.stopNamespaces alive cut).supply = s.supply := by
  unfold State.stopNamespaces
  refine foldl_supply (fun s _ => ?_) _ _
  (repeat' split) <;> simp

@[simp ↓] theorem State.stopReel_supply (cut : Bool) : (s.stopReel cut).supply = s.supply := by simp [State.stopReel]
@[simp ↓] theorem State.stopSec_supply : s.stopSec.supply = s.supply := by rfl
@[simp ↓] theorem State.supplyCleared_supply (was : Bool) : (s.supplyCleared was).supply = s.supply := by simp [State.supplyCleared]

end

/-- A report of SOURCE 12h, module-fatal, leaves them (R431, R470). -/
@[simp ↓] theorem State.report_supply_fault (s : State) : (s.report_ (mkFault 0x12 0x0B00)).supply = s.supply := State.moduleFatal_supply _ _

theorem State.powered_of_supply {s t : State} (h : s.supply = t.supply) : s.powered = t.powered := by
  have hp : s.phase = t.phase := congrArg Prod.fst h
  simp only [State.powered, hp]

theorem State.reading_of_supply {s t : State} (h : s.supply = t.supply) (k : Nat) : s.reading k = t.reading k := by
  have ht : s.power.tempNow = t.power.tempNow := congrArg (fun x => x.2.2.2) h
  rw [State.reading, ht, State.reading]

/-- What a stop of the module does block by block, before it writes the registers anew. -/
theorem stops_supply (s : State) (cut : Bool) :
    (((((((s.stopLinks cut).stopRefits fun n => s.survives n).stopModels.stopSearch fun n => s.survives n).stopMedia
      cut).stopNamespaces (fun n => s.survives n) cut).stopReel cut).stopSec).supply = s.supply := by simp

/-- An input loss leaves INPUT_OK and THERMAL_TRIP as it finds them. -/
theorem State.moduleStop_inputOk (s : State) : (s.moduleStop true).power.inputOk = s.power.inputOk :=
  congrArg (fun x => x.2.1) (stops_supply s true)

theorem State.moduleStop_thermalTrip (s : State) : (s.moduleStop true).power.thermalTrip = s.power.thermalTrip :=
  congrArg (fun x => x.2.2.1) (stops_supply s true)

end Sys2Proof.Machine
end

section
/-! SUPPORT. Power-up and the input (20 R457, R458), and the statement on them. -/

set_option Elab.async false

namespace Sys2Proof.Machine

/-! The rows do their operations, whatever the state. -/

section
variable (s : State)

theorem exec_pwrEnAssert (mv : Nat) : exec (.pwrEnAssert mv) s = .next (pwrAssert mv s) := rfl
theorem exec_powerGood : exec .powerGood s = .next (powerGood s) := rfl
theorem exec_railTimeout (rail : Fin 6) : exec (.railTimeout rail) s = .next (railTimeout rail s) := rfl
theorem exec_pwrEnDeassert : exec .pwrEnDeassert s = .next (pwrDeassert s) := rfl
theorem exec_inputRestored : exec .inputRestored s = .next (inputBack s) := rfl
theorem exec_inputSample (mv ma : Nat) : exec (.inputSample mv ma) s = .next (inputSample mv ma s) := rfl
theorem exec_holdupBod : exec .holdupBod s = .next (holdupFalls s) := rfl
theorem exec_holdupTest (us : Nat) : exec (.holdupTest us) s = .next (holdupTest us s).warnEvents := rfl

end

section
variable {s : State}

theorem pwrAssert_of_off {mv : Nat} {u : Bool} (hoff : s.phase = .off u) (hen : s.power.enable = false) (hlo : 38000 ≤ mv) (hhi : mv ≤ 56000) :
    pwrAssert mv s = { s with phase := .sequencing, power := { s.power with enable := true } } := by
  simp [pwrAssert, State.modPower, hoff, hen, hlo, hhi]

theorem inputBack_of_off (hoff : s.phase = .off true) (hen : s.power.enable = true) : inputBack s = { s with phase := .sequencing } := by
  simp [inputBack, hoff, hen]

theorem railTimeout_of_sequencing (rail : Nat) (h : s.phase = .sequencing) :
    railTimeout rail s = { s with phase := .stopped, power := { s.power with rail := BitVec.ofNat 4 (rail + 1) } } := by
  rw [railTimeout, if_pos h]
  rfl

theorem powerGood_of_sequencing (h : s.phase = .sequencing) :
    powerGood s = { s with phase := .starting, frame := {}, media := { s.media with health := { s.media.health with powerCycles := s.media.health.powerCycles + 1 } }, power := { s.power with pwrFail := false, rail := 0, inputOk := true, cause := if s.power.thermalTrip then 5 else 1 } } := by
  rw [powerGood, if_neg (not_not_intro h)]

theorem pwrDeassert_of_stopped (h : s.phase = .stopped) (hen : s.power.enable = true) :
    pwrDeassert s = { s with phase := .off false, power := { s.power with enable := false } } := by
  simp [pwrDeassert, State.modPower, State.powered, h, hen]

end

/-- Settles O1: each operation of the power sequence in the phase that it waits for. -/
theorem inputAndPowerUpSequence : Obligations.InputAndPowerUpSequence := by
  unfold Obligations.InputAndPowerUpSequence
  refine ⟨?assert, ?restored, ?timeout, ?good, ?deassert, fun mv s => exec_pwrEnAssert s mv, exec_powerGood,
    fun r s => exec_railTimeout s r, exec_pwrEnDeassert, exec_inputRestored⟩
  case assert =>
    intro s mv u hoff hen hlo hhi
    rw [exec_pwrEnAssert, pwrAssert_of_off hoff hen hlo hhi]
  case restored =>
    intro s hoff hen
    rw [exec_inputRestored, inputBack_of_off hoff hen]
  case timeout =>
    intro s rail h
    rw [exec_railTimeout, railTimeout_of_sequencing _ h]
  case good =>
    intro s h
    rw [exec_powerGood, powerGood_of_sequencing h]
  case deassert =>
    intro s h hen
    rw [exec_pwrEnDeassert, pwrDeassert_of_stopped h hen]

/-! A sample of the input: within its run of samples out of range, and the fifth of the low ones (R457). -/

section
variable {s : State} {mv ma : Nat}

/-- A powered module records the sample and time goes on; then the runs out of range are judged. -/
theorem inputSample_of_powered (hp : s.powered = true) {t : State}
    (ht : t = ((s.modPower fun p => { p with voltage := BitVec.ofNat 16 mv, current := BitVec.ofNat 16 ma }).advance (min s.frame.nextTick (s.frame.time + 1000))).modPower fun p => { p with inputOk := decide (36000 ≤ mv) && decide (mv ≤ 58000), lowRun := if mv < 36000 then p.lowRun + 1 else 0, highRun := if 58000 < mv then p.highRun + 1 else 0, samples := (mv * ma :: p.samples).take 1000 }) :
    inputSample mv ma s =
      if 5 ≤ t.power.lowRun ∨ 5 ≤ t.power.highRun then (t.modPower fun p => { p with thermalTrip := false, inputOk := false }).inputLoss (.off true) else t := by
  have hp' : (s.modPower fun p => { p with voltage := BitVec.ofNat 16 mv, current := BitVec.ofNat 16 ma }).powered = true := hp
  subst ht
  simp only [inputSample, hp', Bool.not_true, Bool.false_eq_true, if_false]
  rfl

theorem run_lt_five {c : Prop} [Decidable c] {n : Nat} (h : c → n < 4) : ¬5 ≤ if c then n + 1 else 0 := by
  split
  · have := h ‹_›
    omega
  · omega

theorem inputSample_of_short_run (hp : s.powered = true) (hlow : mv < 36000 → s.power.lowRun < 4) (hhigh : 58000 < mv → s.power.highRun < 4) :
    inputSample mv ma s =
      ((s.modPower fun p => { p with voltage := BitVec.ofNat 16 mv, current := BitVec.ofNat 16 ma }).advance (min s.frame.nextTick (s.frame.time + 1000))).modPower fun p => { p with inputOk := decide (36000 ≤ mv) && decide (mv ≤ 58000), lowRun := if mv < 36000 then p.lowRun + 1 else 0, highRun := if 58000 < mv then p.highRun + 1 else 0, samples := (mv * ma :: p.samples).take 1000 } := by
  rw [inputSample_of_powered hp rfl, if_neg]
  exact not_or.2 ⟨run_lt_five hlow, run_lt_five hhigh⟩

/-- An input loss of a powered module stops it, everything on the dies lost. -/
theorem State.inputLoss_of_powered (next : Phase) (hp : s.powered = true) : s.inputLoss next = { s.moduleStop true with phase := next, frame := {} } := by
  simp only [State.inputLoss, hp, Bool.not_true, Bool.false_eq_true, if_false]

theorem inputSample_of_fifth_low (hp : s.powered = true) (hlow : mv < 36000) (hrun : s.power.lowRun = 4) :
    ∃ u : State, u.power.inputOk = false ∧ inputSample mv ma s = { u.moduleStop true with phase := .off true, frame := {} } := by
  obtain ⟨t, ht⟩ : ∃ t, t = ((s.modPower fun p => { p with voltage := BitVec.ofNat 16 mv, current := BitVec.ofNat 16 ma }).advance (min s.frame.nextTick (s.frame.time + 1000))).modPower fun p => { p with inputOk := decide (36000 ≤ mv) && decide (mv ≤ 58000), lowRun := if mv < 36000 then p.lowRun + 1 else 0, highRun := if 58000 < mv then p.highRun + 1 else 0, samples := (mv * ma :: p.samples).take 1000 } := ⟨_, rfl⟩
  have hpow : t.powered = true := by rw [ht]; exact hp
  have hfive : 5 ≤ t.power.lowRun := by
    rw [ht]
    show 5 ≤ if mv < 36000 then s.power.lowRun + 1 else 0
    rw [if_pos hlow, hrun]
  refine ⟨t.modPower fun p => { p with thermalTrip := false, inputOk := false }, rfl, (inputSample_of_powered hp ht).trans ?_⟩
  rw [if_pos (.inl hfive)]
  exact State.inputLoss_of_powered _ hpow

theorem holdupFalls_of_pwrFail (hoff : s.powered = false) (hfail : s.power.pwrFail = true) :
    holdupFalls s = (upTo 16).foldl (fun (q : State) i => (upTo 8).foldl (fun (q : State) t => q.modDie (8 * (32 * (i / 2) + i % 2) + t) fun x => { x with bod := true }) q) s := by
  simp only [holdupFalls, hoff, hfail, Bool.not_true, Bool.or_false, Bool.false_eq_true, if_false]

theorem holdupTest_of_powered (us : Nat) (hp : s.powered = true) :
    holdupTest us s = { s with power := { s.power with holdupOk := decide (28000 ≤ us), holdupBad := decide (us < 28000) } } := by
  simp only [holdupTest, hp, Bool.not_true, Bool.false_eq_true, if_false]
  rfl

end

/-- Settles O3: the run of samples out of range says whether a sample is recorded or stops the module. -/
theorem inputSamples : Obligations.InputSamples := by
  unfold Obligations.InputSamples
  refine ⟨?sample, ?fifth, ?bod, ?test, fun mv ma s => exec_inputSample s mv ma, exec_holdupBod, fun us s => exec_holdupTest s us⟩
  case sample =>
    intro s mv ma hp hlow hhigh
    rw [exec_inputSample, inputSample_of_short_run hp hlow hhigh]
  case fifth =>
    intro s mv ma hp hlow hrun
    obtain ⟨u, hu, hs⟩ := inputSample_of_fifth_low (ma := ma) hp hlow hrun
    refine ⟨_, congrArg Host.Outcome.next hs, rfl, rfl, ?_, rfl, rfl, rfl, rfl, rfl, rfl⟩
    exact (u.moduleStop_inputOk).trans hu
  case bod =>
    intro s hoff hfail
    rw [exec_holdupBod, holdupFalls_of_pwrFail hoff hfail]
  case test =>
    intro s us hp
    rw [exec_holdupTest, holdupTest_of_powered us hp]

end Sys2Proof.Machine
end

section
/-! SUPPORT. Temperatures and supply rails (20 R470), and the statement on them. -/

set_option Elab.async false

namespace Sys2Proof.Machine

/-! The rows do their operations, whatever the state. -/

section
variable (s : State)

theorem exec_sensorSample {l : List W16} (hl : l.length = 8) : exec (.sensorSample l) s = .next (sensorSample l s) := if_pos hl
theorem exec_sensorSample_illFormed {l : List W16} (hl : l.length ≠ 8) : exec (.sensorSample l) s = .fault .illFormed := if_neg hl
theorem exec_railExcursion (r : Fin 6) : exec (.railExcursion r) s = .next (railOut r s) := rfl
theorem exec_railRecovered (r : Fin 6) : exec (.railRecovered r) s = .next (railBack r s) := rfl

/-- The readings recorded, with the thresholds that they reach. -/
def State.sensed (l : List W16) : State :=
  { s with power := { s.power with tempNow := l, tempHigh := (s.power.tempHigh.zip l).map (fun x => if x.1.toInt < x.2.toInt then x.2 else x.1), softSrc := mkBits 8 (fun k => match sensorSoft k with | none => false | some t => decide (8 * (t : Int) ≤ (l.getD k 0).toInt)), overCrit := mkBits 8 (fun k => decide (8 * (sensorCritical k : Int) ≤ (l.getD k 0).toInt)) } }

/-- A report for each sensor that was not critical before. -/
def State.sensorReports (old : BitVec 8) : State :=
  (upTo 8).foldl (fun (q : State) k => if bit q.power.overCrit k && !bit old k then q.report_ (mkFault 0x12 0x0B00) else q) s

@[simp ↓] theorem State.sensorReports_supply (old : BitVec 8) : (s.sensorReports old).supply = s.supply :=
  foldl_supply (fun s k => by split <;> simp) _ _

end

section
variable {s : State} {l : List W16}

/-- The readings are recorded and reported, then the trip is judged by them. -/
theorem sensorSample_of_powered (hp : s.powered = true) :
    sensorSample l s =
      (let t := ((s.sensed l).sensorReports s.power.overCrit).supplyCleared s.supplyBad
       if (upTo 8).any fun k => decide (8 * (sensorCritical k + 10 : Int) ≤ (l.getD k 0).toInt) then
         (t.modPower fun p => { p with thermalTrip := true }).inputLoss .stopped
       else t.warnEvents) := by
  have hr : ∀ k, (((s.sensed l).sensorReports s.power.overCrit).supplyCleared s.supplyBad).reading k = (l.getD k 0).toInt :=
    fun k => State.reading_of_supply (t := s.sensed l) (by simp) k
  simp only [sensorSample, hp, Bool.not_true, Bool.false_eq_true, if_false]
  simp only [← hr]
  rfl

theorem mkBits_of_none {w : Nat} {f : Nat → Bool} (hf : ∀ i < w, f i = false) : mkBits w f = 0 := by
  have h : sumBy (fun i => if f i then 2 ^ i else 0) (upTo w) = sumBy (fun _ => 0) (upTo w) :=
    sumBy_congr fun i hi => by rw [hf i (List.mem_range.mp hi)]; rfl
  rw [mkBits, h]
  simp [sumBy]

/-- With no reading critical nothing is reported. -/
theorem State.sensorReports_of_zero {t : State} {old : BitVec 8} (h : t.power.overCrit = 0) : t.sensorReports old = t := by
  refine foldl_keeps_of (g := id) (n := t) (fun q k hq => ?_) (upTo 8) t rfl
  obtain rfl : q = t := hq
  simp [h, bit]

theorem sensorSample_of_no_critical (hp : s.powered = true) (hcrit : s.power.overCrit = 0) (hrail : s.power.railBad = 0)
    (hl : ∀ k < 8, (l.getD k 0).toInt < 8 * (sensorCritical k : Int)) :
    sensorSample l s = ({ s.sensed l with power := { (s.sensed l).power with overCrit := 0 } } : State).warnEvents := by
  have hover : (s.sensed l).power.overCrit = 0 := mkBits_of_none fun k hk => decide_eq_false (hl k hk).not_ge
  have hgood : s.supplyBad = false := by simp [State.supplyBad, hcrit, hrail]
  have hcool : ((upTo 8).any fun k => decide (8 * (sensorCritical k + 10 : Int) ≤ (l.getD k 0).toInt)) = false :=
    List.any_eq_false.2 fun k hk => by
      have := hl k (List.mem_range.mp hk)
      simp only [decide_eq_true_eq]
      omega
  have hsame : s.sensed l = { s.sensed l with power := { (s.sensed l).power with overCrit := 0 } } := by rw [← hover]
  simp only [sensorSample_of_powered hp, State.sensorReports_of_zero hover, State.supplyCleared, hgood, hcool, Bool.false_and,
    Bool.false_eq_true, if_false]
  rw [← hsame]

theorem sensorSample_of_no_trip (hp : s.powered = true) (hl : ∀ k < 8, (l.getD k 0).toInt < 8 * (sensorCritical k + 10 : Int)) :
    sensorSample l s = (((s.sensed l).sensorReports s.power.overCrit).supplyCleared s.supplyBad).warnEvents := by
  have hcool : ((upTo 8).any fun k => decide (8 * (sensorCritical k + 10 : Int) ≤ (l.getD k 0).toInt)) = false :=
    List.any_eq_false.2 fun k hk => by simpa using hl k (List.mem_range.mp hk)
  simp only [sensorSample_of_powered hp, hcool, Bool.false_eq_true, if_false]

/-- A reading 10 °C above its critical threshold stops the module. -/
theorem sensorSample_of_trip (hp : s.powered = true) {k : Nat} (hk : k < 8) (hl : 8 * (sensorCritical k + 10 : Int) ≤ (l.getD k 0).toInt) :
    ∃ u : State, u.power.thermalTrip = true ∧ sensorSample l s = { u.moduleStop true with phase := .stopped, frame := {} } := by
  have hhot : ((upTo 8).any fun k => decide (8 * (sensorCritical k + 10 : Int) ≤ (l.getD k 0).toInt)) = true :=
    List.any_eq_true.2 ⟨k, List.mem_range.mpr hk, decide_eq_true hl⟩
  have hpow : (((s.sensed l).sensorReports s.power.overCrit).supplyCleared s.supplyBad).powered = true :=
    (State.powered_of_supply (t := s.sensed l) (by simp)).trans hp
  refine ⟨(((s.sensed l).sensorReports s.power.overCrit).supplyCleared s.supplyBad).modPower fun p => { p with thermalTrip := true }, rfl,
    (sensorSample_of_powered hp).trans ?_⟩
  rw [if_pos hhot]
  exact State.inputLoss_of_powered _ hpow

/-! Rails (R470). -/

theorem railOut_of_powered (r : Nat) (hp : s.powered = true) :
    railOut r s = if bit s.power.railBad r then s else ({ s with power := { s.power with railBad := setBit s.power.railBad r true } } : State).report_ (mkFault 0x12 0x0B00) := by
  simp only [railOut, hp, Bool.not_true, Bool.false_or]
  rfl

theorem railBack_of_service (r : Nat) (hp : s.powered = true) (hsafe : s.safe = false) :
    railBack r s = { s with power := { s.power with railBad := setBit s.power.railBad r false } } := by
  have hsafe' : (s.modPower fun p => { p with railBad := setBit p.railBad r false }).safe = false := hsafe
  simp only [railBack, hp, State.supplyCleared, hsafe', Bool.not_true, Bool.and_false, Bool.false_eq_true, if_false]
  rfl

end

/-- Settles O4: the readings against their thresholds say whether they are recorded, reported, or trip the module. -/
theorem sensorsAndRails : Obligations.SensorsAndRails := by
  unfold Obligations.SensorsAndRails
  refine ⟨?cool, ?critical, ?trip, fun s l hl => exec_sensorSample_illFormed s hl, ?out, ?back, fun l s hl => exec_sensorSample s hl,
    fun r s => exec_railExcursion s r, fun r s => exec_railRecovered s r⟩
  case cool =>
    intro s l hp hlen hcrit hrail hl
    rw [exec_sensorSample s hlen, sensorSample_of_no_critical hp hcrit hrail hl]
    rfl
  case critical =>
    intro s l hp hlen hl
    rw [exec_sensorSample s hlen, sensorSample_of_no_trip hp hl]
    rfl
  case trip =>
    intro s l k hp hlen hk hl
    obtain ⟨u, hu, hs⟩ := sensorSample_of_trip hp hk hl
    refine ⟨_, (exec_sensorSample s hlen).trans (congrArg Host.Outcome.next hs), rfl, ?_, rfl, rfl⟩
    exact (u.moduleStop_thermalTrip).trans hu
  case out =>
    intro s r hp
    rw [exec_railExcursion, railOut_of_powered r hp]
  case back =>
    intro s r hp hsafe
    rw [exec_railRecovered, railBack_of_service r hp hsafe]

end Sys2Proof.Machine
end

section
/-! SUPPORT. Array Sleep and Hold (20 R464, R465; 07 R183), and the statement on them. -/

set_option Elab.async false

namespace Sys2Proof.Machine

/-! The rows do their operations, whatever the state. -/

section
variable (s : State) (c : Fin 8) (v : BitVec 32)

theorem exec_sleepReq : exec (.sleepReq c) s = .next (sleepReq c s) := rfl
theorem exec_arraySleepEnter : exec (.arraySleepEnter c) s = .next (sleepEnter c s) := rfl
theorem exec_arraySleepWake : exec (.arraySleepWake c) s = .next (sleepWake c s) := rfl
theorem exec_pwrHoldSet : exec (.pwrHoldSet v) s = .next (accessWrite 0x05000008 v s) := rfl
theorem exec_pwrHoldClr : exec (.pwrHoldClr v) s = .next (accessWrite 0x0500000C v s).settle := rfl

end

section
variable {s : State} {c : Nat}

theorem sleepReq_of_mayDoze (h : s.mayDoze c = true) : sleepReq c s = s.raise c 23 := if_pos h

theorem sleepEnter_of_mayDoze (h : s.mayDoze c = true) (hidle : (s.clusterAt c).ic.busy = false) :
    sleepEnter c s = (s.modCluster c fun k => { k.sleepT0 with asleep := true, ic := { k.ic with retPend := k.ic.pend, retEn := k.ic.en, retTaken := k.ic.taken, latched := 0 } }).parDisarm (parOfCluster c) := by
  simp only [sleepEnter, h, hidle, Bool.not_false, Bool.and_self, if_true]

theorem sleepWake_of_wanted (h : (s.clusterAt c).asleep = true) (hw : s.listed c = true ∨ s.holdsA c = true) :
    sleepWake c s = { s.modCluster c (fun k => { k with asleep := false, level := s.power.target, idleFrames := 0, ic := { k.ic with pend := k.ic.retPend ||| k.ic.latched, en := k.ic.retEn, taken := k.ic.retTaken, latched := 0 } }) with power := { s.power with wakes := satInc s.power.wakes } } := by
  have hwake : ((s.clusterAt c).asleep && (decide ((s.clusterAt c).ic.latched &&& (s.clusterAt c).ic.retEn ≠ 0) || s.listed c || s.holdsA c)) = true := by
    rcases hw with hw | hw <;> simp [h, hw]
  simp only [sleepWake, hwake, if_true]
  rfl

/-! Hold is asked for and ended by writes of the power block, which is always there (R465). -/

theorem accessWrite_hold_set (v : W32) (hup : s.firmwareUp = true) : accessWrite 0x05000008 v s = holdSet v s :=
  accessWrite_up _ v s .pwr 0x08 hup rfl rfl

theorem accessWrite_hold_clr (v : W32) (hup : s.firmwareUp = true) : accessWrite 0x0500000C v s = holdClr v s :=
  accessWrite_up _ v s .pwr 0x0C hup rfl rfl

theorem holdSet_asks (hphase : s.phase = .up) (hhold : s.power.hold = .none) (hsafe : s.safe = false) (hbare : s.bare = false)
    (hgroup : s.inGroup = false) : holdSet 1 s = { s with power := { s.power with hold := .asked } } := by
  have hbit : bit (1 : W32) 0 = true := rfl
  simp only [holdSet, hphase, hhold, hsafe, hbare, hgroup, hbit, Bool.not_true, Bool.false_eq_true, ne_eq, not_true_eq_false, or_self,
    Bool.false_and, if_false, State.modPower]

theorem holdClr_ends (hhold : s.power.hold = .held) : holdClr 1 s = ({ s with power := { s.power with hold := .none } } : State).settle := by
  have hbit : bit (1 : W32) 0 = true := rfl
  have hnot : ¬(HoldPhase.held = .none) := nofun
  simp only [holdClr, hhold, hbit, hnot, Bool.not_true, Bool.false_eq_true, or_self, if_false]
  rfl

end

/-- Settles O6: each operation where its condition holds; a write of the Hold registers reaches the power block. -/
theorem sleepAndHold : Obligations.SleepAndHold := by
  unfold Obligations.SleepAndHold
  refine ⟨?request, ?enter, ?wake, ?hold, ?release, fun c s => exec_sleepReq s c, fun c s => exec_arraySleepEnter s c,
    fun c s => exec_arraySleepWake s c, fun v s => exec_pwrHoldSet s v, fun v s => exec_pwrHoldClr s v⟩
  case request =>
    intro s c h
    rw [exec_sleepReq, sleepReq_of_mayDoze h]
  case enter =>
    intro s c h hidle
    rw [exec_arraySleepEnter, sleepEnter_of_mayDoze h hidle]
  case wake =>
    intro s c h hw
    rw [exec_arraySleepWake, sleepWake_of_wanted h hw]
  case hold =>
    intro s hup hphase hhold hsafe hbare hgroup
    rw [exec_pwrHoldSet, accessWrite_hold_set 1 hup, holdSet_asks hphase hhold hsafe hbare hgroup]
  case release =>
    intro s hup hphase hhold
    rw [exec_pwrHoldClr, accessWrite_hold_clr 1 hup, holdClr_ends hhold]

end Sys2Proof.Machine
end

section
/-! SUPPORT. Fault reports (18 R425 to R437): what each class does, the quiet period and the captures, and the statement on them. -/

set_option Elab.async false

namespace Sys2Proof.Machine

section
variable (s : State)

theorem exec_faultReport (f : FaultIn) (h : (sourceClass f.source).isSome = true) :
    exec (.faultReport f) s = .next (if s.powered then (s.fault f).settle else s) := if_pos h

theorem exec_faultReport_unknown (f : FaultIn) (h : sourceClass f.source = none) : exec (.faultReport f) s = .fault .illFormed :=
  if_neg (by rw [h]; exact Bool.false_ne_true)

theorem exec_quietPeriodEnd : exec .quietPeriodEnd s = .next (quietEnds s).settle := rfl
theorem exec_drogueParityError : exec .drogueParityError s = .next (if s.powered then (drogueParity s).settle else s) := rfl
theorem exec_drgCapClr (v : BitVec 32) : exec (.drgCapClr v) s = .next (accessWrite 0x04000004 v s) := rfl

/-- On a powered module a known source is a fault, then what the state now allows. -/
theorem exec_faultReport_powered (f : FaultIn) (hp : s.powered = true) {c : FaultClass} (hc : sourceClass f.source = some c) :
    exec (.faultReport f) s = .next (s.fault f).settle := by
  rw [exec_faultReport s f (by rw [hc]; rfl), if_pos hp]

end

/-! The fields of a record that the safe state reads. -/

@[simp] theorem Drogue.takeFirst_state (d : Drogue) (k : Capture) : (d.takeFirst k).state = d.state := by
  unfold Drogue.takeFirst; split <;> rfl

@[simp] theorem Drogue.takeFirst_exits (d : Drogue) (k : Capture) : (d.takeFirst k).exits = d.exits := by
  unfold Drogue.takeFirst; split <;> rfl

@[simp] theorem Drogue.takeFirst_waiting (d : Drogue) (k : Capture) : (d.takeFirst k).waiting = d.waiting := by
  unfold Drogue.takeFirst; split <;> rfl

@[simp] theorem Drogue.takeFatal_state (d : Drogue) (k : Capture) : (d.takeFatal k).state = d.state := by
  unfold Drogue.takeFatal; split <;> rfl

@[simp] theorem Drogue.takeFatal_exits (d : Drogue) (k : Capture) : (d.takeFatal k).exits = d.exits := by
  unfold Drogue.takeFatal; split <;> rfl

section
variable {s : State} {f : FaultIn}

theorem State.recordFatal_state : (s.record .moduleFatal f).drogue.state = s.drogue.state :=
  (Drogue.takeFirst_state ..).trans (Drogue.takeFatal_state ..)

theorem State.recordFatal_recentExits : (s.record .moduleFatal f).recentExits = s.recentExits :=
  congrArg (fun l => (recentTimes s.frame.time 600000000000 l).length) ((Drogue.takeFirst_exits ..).trans (Drogue.takeFatal_exits ..))

theorem State.recordLocal_state : (s.record .localFatal f).drogue.state = s.drogue.state := Drogue.takeFirst_state ..
theorem State.recordLocal_waiting : (s.record .localFatal f).drogue.waiting = s.drogue.waiting := Drogue.takeFirst_waiting ..

/-! A fault by its class. -/

theorem State.fault_reset (h : f.source = 0x15) : s.fault f = (s.record .moduleFatal f).resetModule 4 := if_pos h

/-- No source but 15h, a module-fatal one, resets the module. -/
theorem State.fault_of_class {c : FaultClass} (h : sourceClass f.source = some c) (hc : c ≠ .moduleFatal ∨ f.source ≠ 0x15) :
    s.fault f = s.report_ f := by
  refine if_neg fun h15 => ?_
  rw [h15] at h hc
  obtain hc | hc := hc
  · exact hc (Option.some.inj h).symm
  · exact hc rfl

theorem State.fault_corrected (h : sourceClass f.source = some .corrected) :
    s.fault f = { s with drogue := { s.drogue with cntCorr := satInc s.drogue.cntCorr } } := by
  rw [State.fault_of_class h (.inl nofun), State.report_, h]
  rfl

theorem State.fault_deferred (h : sourceClass f.source = some .deferred) (hf : s.drogue.first.valid = false) :
    s.fault f = { s with drogue := { s.drogue with cntDefer := satInc s.drogue.cntDefer, first := captureOf f .deferred s.frame.time s.frame.num } } := by
  rw [State.fault_of_class h (.inl nofun), State.report_, h]
  simp only [State.record, Drogue.record, Drogue.takeFirst, hf, Bool.false_eq_true, if_false]

theorem State.fault_local (h : sourceClass f.source = some .localFatal) : s.fault f = s.localFatal f := by
  rw [State.fault_of_class h (.inl nofun), State.report_, h]

theorem State.fault_module (h : sourceClass f.source = some .moduleFatal) (h15 : f.source ≠ 0x15) : s.fault f = s.moduleFatal f := by
  rw [State.fault_of_class h (.inr h15), State.report_, h]

/-! A local-fatal fault. -/

/-- The first one of all is no eighth of its master. -/
theorem State.countLocal_first (h3 : f.source ≠ 0x03) (hl : s.drogue.locals = []) :
    s.countLocal f = (false, s.modDrogue fun d => { d with locals := [(f.master, s.frame.time)] }) := by
  rw [State.countLocal, if_neg h3]
  simp [hl]

/-- SOURCE 03h is not counted toward eight. -/
theorem State.countLocal_withheld (h3 : f.source = 0x03) : s.countLocal f = (false, s) := if_pos h3

theorem State.localFatal_in_service (h3 : f.source ≠ 0x03) (hsafe : s.safe = false) (hl : s.drogue.locals = []) :
    s.localFatal f = ((s.modDrogue fun d => { d with locals := [(f.master, s.frame.time)] }).record .localFatal f).act (localAct f) := by
  have hq : ((s.modDrogue fun d => { d with locals := [(f.master, s.frame.time)] }).record .localFatal f).safe = false := by
    rw [State.safe, State.recordLocal_state]
    exact hsafe
  simp only [State.localFatal, State.countLocal_first h3 hl, hq, Bool.false_eq_true, if_false]

theorem localAct_withheld (h3 : f.source = 0x03) : localAct f = .tileWithheld (f.master.toNat % 64) := by
  simp only [localAct, h3]
  rfl

theorem State.localFatal_waits (h3 : f.source = 0x03) (hsafe : s.safe = true) (hw : s.drogue.waiting = []) :
    s.localFatal f = ((s.record .localFatal f).modDrogue fun d =>
      { d with exiting := false, waiting := [.tileWithheld (f.master.toNat % 64)] }).restartQuiet := by
  have hq : (s.record .localFatal f).safe = true := by
    rw [State.safe, State.recordLocal_state]
    exact hsafe
  have hwq : (s.record .localFatal f).drogue.waiting = [] := State.recordLocal_waiting.trans hw
  simp only [State.localFatal, State.countLocal_withheld h3, localAct_withheld h3, hq, Bool.false_eq_true, if_false, if_true,
    State.modDrogue, hwq, List.contains_nil, List.nil_append]

/-! A module-fatal fault. -/

theorem State.moduleFatal_enters (hout : s.drogue.state = 0) (hexits : s.recentExits < 4) :
    s.moduleFatal f = ((s.record .moduleFatal f).modDrogue fun d =>
      { d with state := if f.source = 0x09 then 2 else 1, self := decide (f.source = 0x14), entrySource := f.source }).stopForSafe.restartQuiet := by
  have hex : decide (4 ≤ (s.record .moduleFatal f).recentExits) = false := by
    rw [State.recordFatal_recentExits]
    exact decide_eq_false (Nat.not_le_of_lt hexits)
  simp only [State.moduleFatal, State.enterSafe, State.recordFatal_state, hout, hex, Bool.or_false, decide_eq_true_eq, if_true]

theorem State.moduleFatal_stays (hin : s.drogue.state ≠ 0) :
    s.moduleFatal f = ((s.record .moduleFatal f).modDrogue fun d =>
      { d with exiting := false, state := if f.source = 0x09 then 2 else s.drogue.state }).restartQuiet := by
  have hst : (s.record .moduleFatal f).drogue.state = s.drogue.state := State.recordFatal_state
  simp only [State.moduleFatal, State.enterSafe, hst, if_neg hin, State.modDrogue]

/-! The quiet period, the Drogue's own parity, and the captures. -/

theorem quietEnds_of_quiet {t : Nat} (hst : s.drogue.state = 1) (hex : s.drogue.exiting = false) (hbad : s.supplyBad = false)
    (hspar : s.sparReset = false) (hq : s.drogue.quietFrom = some t) (ht : t + s.quietNs ≤ s.frame.time) :
    quietEnds s = beginSparReset (s.modDrogue fun d => { d with exiting := true }) := by
  have hs : (s.modDrogue fun d => { d with exiting := true }).sparReset = false := hspar
  simp only [quietEnds, hq, hst, hex, hbad, ht, hs, Bool.not_false, and_self, if_true, Bool.false_eq_true, if_false]

theorem quietEnds_of_not_quiet {t : Nat} (hq : s.drogue.quietFrom = some t)
    (h : s.drogue.state ≠ 1 ∨ s.supplyBad = true ∨ s.frame.time < t + s.quietNs) : quietEnds s = s := by
  simp only [quietEnds, hq]
  refine if_neg ?_
  rintro ⟨hst, -, hbad, ht⟩
  obtain h | h | h := h
  · exact h hst
  · rw [h] at hbad
    exact Bool.false_ne_true hbad
  · omega

theorem drogueParity_of_safe (hsafe : s.safe = true) :
    drogueParity s = ({ s with drogue := { state := 1, self := true, entrySource := 0x14, first := captureOf (mkFault 0x14 0x0C00) .moduleFatal s.frame.time s.frame.num, fatal := captureOf (mkFault 0x14 0x0C00) .moduleFatal s.frame.time s.frame.num, cntFatal := 1, waiting := s.drogue.waiting, hbTime := s.drogue.hbTime } } : State).restartQuiet := by
  simp only [drogueParity, hsafe, if_true]

theorem accessWrite_capClear (v : W32) (hup : s.firmwareUp = true) : accessWrite 0x04000004 v s = capClear v s :=
  accessWrite_up _ v s .drg 0x04 hup rfl rfl

theorem capClear_eq (v : W32) :
    capClear v s = { s with drogue := { s.drogue with
      first := if bit v 0 = true then {} else s.drogue.first, firstMore := if bit v 0 = true then 0 else s.drogue.firstMore
      fatal := if bit v 1 = true then {} else s.drogue.fatal, fatalMore := if bit v 1 = true then 0 else s.drogue.fatalMore } } := by
  unfold capClear
  by_cases h1 : bit v 1 = true
  · by_cases h0 : bit v 0 = true
    · simp only [h0, h1, if_true, State.modDrogue]
    · simp only [h0, h1, if_true, if_false, Bool.false_eq_true, State.modDrogue]
  · by_cases h0 : bit v 0 = true
    · simp only [h0, h1, if_true, if_false, Bool.false_eq_true, State.modDrogue]
    · simp only [h0, h1, if_false, Bool.false_eq_true]

end

/-- Settles O48. -/
theorem faultReports : Obligations.FaultReports := by
  unfold Obligations.FaultReports
  refine ⟨?corrected, ?deferred, ?acts, ?waits, ?enters, ?stays, ?resets, fun f s => exec_faultReport_unknown s f, ?quiet, ?noQuiet, ?parity, ?captures,
    fun f s => exec_faultReport s f, exec_quietPeriodEnd, exec_drogueParityError, fun v s => exec_drgCapClr s v⟩
  case corrected =>
    intro f s hp hc
    rw [exec_faultReport_powered s f hp hc, State.fault_corrected hc]
  case deferred =>
    intro f s hp hc hf
    rw [exec_faultReport_powered s f hp hc, State.fault_deferred hc hf]
  case acts =>
    intro f s hp hc h3 hsafe hl
    rw [exec_faultReport_powered s f hp hc, State.fault_local hc, State.localFatal_in_service h3 hsafe hl]
  case waits =>
    intro f s hp h3 hsafe hw
    have hc : sourceClass f.source = some .localFatal := by rw [h3]; rfl
    rw [exec_faultReport_powered s f hp hc, State.fault_local hc, State.localFatal_waits h3 hsafe hw]
  case enters =>
    intro f s hp hc h15 hout hexits
    rw [exec_faultReport_powered s f hp hc, State.fault_module hc h15, State.moduleFatal_enters hout hexits]
  case stays =>
    intro f s hp hc h15 hin
    rw [exec_faultReport_powered s f hp hc, State.fault_module hc h15, State.moduleFatal_stays hin]
  case resets =>
    intro f s hp h15
    have hc : sourceClass f.source = some .moduleFatal := by rw [h15]; rfl
    rw [exec_faultReport_powered s f hp hc, State.fault_reset h15]
  case quiet =>
    intro s t hst hex hbad hspar hq ht
    rw [exec_quietPeriodEnd, quietEnds_of_quiet hst hex hbad hspar hq ht]
  case noQuiet =>
    intro s t hq h
    rw [exec_quietPeriodEnd, quietEnds_of_not_quiet hq h]
  case parity =>
    intro s hp hsafe
    rw [exec_drogueParityError, if_pos hp, drogueParity_of_safe hsafe]
  case captures =>
    intro s v hup
    rw [exec_drgCapClr, accessWrite_capClear v hup, capClear_eq]

end Sys2Proof.Machine
end

section
/-! SUPPORT. Heartbeats, the watches over the cores, and the ends of block resets (18 R437; 20 R460), and the statement on them. -/

set_option Elab.async false

namespace Sys2Proof.Machine

section
variable (s : State)

theorem exec_drgHb (master : BitVec 16) (v : BitVec 32) :
    exec (.drgHb master v) s = .next (if s.firmwareUp then (heartbeat master v s).settle else s) := rfl

theorem exec_heartbeatMiss (core : Fin 5) : exec (.heartbeatMiss core) s = .next (heartbeatMiss core.val s).settle := rfl
theorem exec_managementWatchdog : exec .managementWatchdog s = .next (watchdog s) := rfl
theorem exec_clusterResetDone (c : Fin 8) : exec (.clusterResetDone c) s = .next (clusterResetDone c.val s) := rfl
theorem exec_bridleResetDone : exec .bridleResetDone s = .next (bridleResetDone s) := rfl
theorem exec_coreRestartDone (core : Fin 4) : exec (.coreRestartDone core) s = .next (coreRestarted core.val s) := rfl

end

section
variable {s : State}

/-! A part that stands in its list, changed. -/

theorem State.modCore_eq {n : Nat} {k : Core} (f : Core → Core) (h : s.gondola.cores[n]? = some k) :
    s.modCore n f = { s with gondola := { s.gondola with cores := s.gondola.cores.set n (f k) } } := by
  rw [State.modCore, modifyAt_eq_set f _ n k h]

theorem State.modCluster_eq {c : Nat} {k : Cluster} (f : Cluster → Cluster) (h : s.clusters[c]? = some k) :
    s.modCluster c f = { s with clusters := s.clusters.set c (f k) } := by
  rw [State.modCluster, modifyAt_eq_set f _ c k h]

/-! A write of DRG_HB. -/

/-- A management core's own number, where no parity error is armed in its memory. -/
theorem heartbeat_own {v : W32} {m : W16} {n : Nat} {k : Core} (hn : n < 4) (hm : m.toNat = n) (hv : bits v 2 0 = n)
    (hk : s.gondola.cores[n]? = some k) (hr : k.restarting = false) (hmask : Sparse.get (0 : W32) s.parity.masks (0xB8 + n) = 0) :
    heartbeat m v s = { s with drogue := { s.drogue with hbTime := setAt s.drogue.hbTime n s.frame.time, hbSeen := setBit s.drogue.hbSeen n true }, gondola := { s.gondola with cores := s.gondola.cores.set n { k with watchOff := false } } } := by
  have hnot : ¬(m.toNat ≠ n ∨ 4 < n) := by omega
  have hcore : (s.modDrogue fun d => { d with hbTime := setAt d.hbTime n s.frame.time, hbSeen := setBit d.hbSeen n true }).gondola.cores[n]? = some k := hk
  simp only [heartbeat, hv, if_neg hnot, hn, if_true, State.modCore_eq _ hcore, hr, Bool.false_eq_true, if_false]
  exact if_pos hmask

theorem heartbeat_other {v : W32} {m : W16} (h : m.toNat ≠ bits v 2 0 ∨ 4 < bits v 2 0) : heartbeat m v s = s := if_pos h

/-! The watches. -/

theorem heartbeatMiss_core {n : Nat} (hn : n < 4) (hup : s.firmwareUp = true) (hh : (s.coreAt n).halted = false)
    (hw : (s.coreAt n).watchOff = false) (ht : s.drogue.hbTime.getD n 0 + 10000000 ≤ s.frame.time) :
    heartbeatMiss n s = s.report_ (mkFault 0x0E n 5) := by
  have hlate : decide (s.frame.time < s.drogue.hbTime.getD n 0 + 10000000) = false := decide_eq_false (Nat.not_lt_of_le ht)
  simp only [heartbeatMiss, hup, hh, hw, hlate, Nat.ne_of_lt hn, Bool.not_true, Bool.or_self, Bool.false_eq_true, if_false]

theorem heartbeatMiss_security (hup : s.firmwareUp = true) (ht : s.drogue.hbTime.getD 4 0 + 10000000 ≤ s.frame.time) :
    heartbeatMiss 4 s = s.moduleFatal (mkFault 0x0F 4 5) := by
  simp only [heartbeatMiss, hup, Bool.not_true, Bool.false_eq_true, if_false, if_true, if_pos ht]
  rfl

theorem heartbeatMiss_early {n : Nat} (hw : (s.coreAt n).watchOff = false) (ht : s.frame.time < s.drogue.hbTime.getD n 0 + 10000000) :
    heartbeatMiss n s = s := by
  unfold heartbeatMiss
  refine ite_eq_left_iff.2 fun _ => ?_
  by_cases h4 : n = 4
  · rw [if_pos h4, if_neg (Nat.not_le_of_lt ht)]
  · simp only [if_neg h4, hw, Bool.false_eq_true, if_false, ht, decide_true, Bool.or_true, if_true]

theorem watchdog_silent (h : s.coresSilent = true) : watchdog s = (s.record .moduleFatal (mkFault 0x15 0x0C00 5)).resetModule 4 :=
  (if_pos h).trans (if_pos rfl)

theorem watchdog_heard (h : s.coresSilent = false) : watchdog s = s := if_neg (Bool.not_eq_true _ ▸ h)

/-! Blocks whose reset ends. -/

theorem bridleResetDone_of_reset (h : s.bridle.inReset = true) :
    bridleResetDone s = { s with bridle := { s.bridle with inReset := false, unanswered := s.bridle.unanswered.map fun (d : Dispatch) => { d with resend := true } } } :=
  if_neg (by rw [h]; exact Bool.false_ne_true)

theorem coreRestarted_of_core {n : Nat} {k : Core} (hk : s.gondola.cores[n]? = some k) :
    coreRestarted n s = ((k.aborts.filter fun id => s.host.ctrls.any fun (c : HostCtrl) => decide (c.cntlid = id.ctrl)).foldl
      (fun (s : State) id => s.answer id stAbortRequested) s).modCore n fun c => { c with restarting := false, aborts := [] } := by
  rw [coreRestarted, State.coreAt, getD_eq_of_some _ _ _ _ hk]

end

/-- Settles O49. -/
theorem heartbeatsAndRestarts : Obligations.HeartbeatsAndRestarts := by
  unfold Obligations.HeartbeatsAndRestarts
  refine ⟨?own, ?other, ?miss, ?security, ?early, ?silent, ?heard, ?cluster, ?bridle, ?core, fun m v s => exec_drgHb s m v,
    fun n s => exec_heartbeatMiss s n, exec_managementWatchdog, fun c s => exec_clusterResetDone s c, exec_bridleResetDone,
    fun n s => exec_coreRestartDone s n⟩
  case own =>
    intro s v n k hup hn hv hk hr hmask
    have hm : (BitVec.ofNat 16 n).toNat = n := by
      rw [BitVec.toNat_ofNat]
      exact Nat.mod_eq_of_lt (by omega)
    rw [exec_drgHb, if_pos hup, heartbeat_own hn hm hv hk hr hmask]
  case other =>
    intro s m v hup h
    rw [exec_drgHb, if_pos hup, heartbeat_other h]
  case miss =>
    intro core s hn hup hh hw ht
    rw [exec_heartbeatMiss, heartbeatMiss_core hn hup hh hw ht]
  case security =>
    intro s hup ht
    exact congrArg (fun t => Host.Outcome.next t.settle) (heartbeatMiss_security hup ht)
  case early =>
    intro core s hw ht
    rw [exec_heartbeatMiss, heartbeatMiss_early hw ht]
  case silent =>
    intro s h
    rw [exec_managementWatchdog, watchdog_silent h]
  case heard =>
    intro s h
    rw [exec_managementWatchdog, watchdog_heard h]
  case cluster =>
    intro s c k hk
    rw [exec_clusterResetDone, clusterResetDone, State.modCluster_eq _ hk]
  case bridle =>
    intro s h
    rw [exec_bridleResetDone, bridleResetDone_of_reset h]
  case core =>
    intro s n k hk
    rw [exec_coreRestartDone, coreRestarted_of_core hk]

end Sys2Proof.Machine
end

section
/-! SUPPORT. How a worker comes into the group (17 R390 to R398), and the statement on it. -/

set_option Elab.async false

namespace Sys2Proof.Machine

/-! The rows do their operations, whatever the state. -/

section
variable (s : State)

theorem exec_discover (net : Fin 2) (b : Bytes) : exec (.discover net b) s = .next (discoverIn net.val b s) := rfl
theorem exec_hello (net : Fin 2) (b : Bytes) : exec (.hello net b) s = .next (helloIn net.val b s) := rfl
theorem exec_beacon (net : Fin 2) (b : Bytes) (t : Nat) :
    exec (.beacon net b t) s = .next (if s.phase = .up then (beaconIn net.val b t s).settle else s) := rfl
theorem exec_join (net : Fin 2) (b : Bytes) : exec (.join net b) s = .next (serving (joinIn net.val b) s) := rfl
theorem exec_joinRetry : exec .joinRetry s = .next (serving joinRetry s) := rfl
theorem exec_admitMsg (net : Fin 2) (b : Bytes) : exec (.admitMsg net b) s = .next (serving (admitIn b) s) := rfl
theorem exec_reject (net : Fin 2) (b : Bytes) : exec (.reject net b) s = .next (serving (rejectIn b) s) := rfl
theorem exec_ready (b : Bytes) : exec (.ready b) s = .next (serving (readyIn b) s) := rfl
theorem exec_readyTimeout (r : BitVec 16) : exec (.readyTimeout r) s = .next (serving (readyTimeout r.toNat) s) := rfl
theorem exec_admissionDeadline (r : BitVec 16) : exec (.admissionDeadline r) s = .next (serving (admissionDeadline r.toNat) s) := rfl
theorem exec_noBeacon : exec .noBeacon s = .next (noBeacon s) := rfl

end

section
variable {s : State}

/-- In service the group's work is done, then what it allows. -/
theorem serving_inService (f : State → State) (h : s.inService) : serving f s = (f s).settle :=
  if_neg (by simp only [h.1, h.2, ne_eq, not_true_eq_false, decide_false, Bool.or_self, Bool.false_eq_true, not_false_eq_true])

/-- The first cause of all is kept. -/
theorem State.suspect_first (r cause : Nat) (h : s.group.causes = []) :
    s.suspect r cause = s.modGroup fun g => { g with causes := [(r, cause)] } := by
  simp only [State.suspect, h, List.any_nil, Bool.false_eq_true, if_false, State.modGroup, List.nil_append]

theorem State.any_rank_eq (r : Nat) : (s.group.members.any fun m => decide (m.rank = r)) = s.memberRanks.contains r := by
  rw [State.memberRanks, List.contains_eq_any_beq, List.any_map]
  exact congrArg (List.any _) (funext fun m => by rw [Function.comp_apply, BEq.comm]; rfl)

/-! Discovery. -/

theorem discoverIn_answered {net : Nat} {b : Bytes} (hok : s.nvOk b nvDiscover = true) (hphase : s.phase = .up) (hnet : s.netUp net = true) :
    discoverIn net b s = s.nv net nvHello (nvSrc b) s.helloBody :=
  if_pos (by simp only [hok, hphase, hnet, decide_true, Bool.and_self])

theorem discoverIn_not_ok (net : Nat) {b : Bytes} (hok : s.nvOk b nvDiscover = false) : discoverIn net b s = s :=
  if_neg (by simp only [hok, Bool.false_and, Bool.false_eq_true, not_false_eq_true])

/-- What a HELLO tells of its sender (R392). -/
def readHello (net : Nat) (b : Bytes) : Discovered :=
  { net := net, uid := slice b 0x40 16, level := leNat b 0x50 2, schema := leNat b 0x52 2, role := leNat b 0x54 1, state := leNat b 0x55 1, rank := leNat b 0x56 2, nets := leNat b 0x58 1, groupId := leNat b 0x60 8 }

theorem helloIn_ok (net : Nat) {b : Bytes} (hok : s.nvOk b nvHello = true) :
    helloIn net b s = s.modGroup fun g => { g with discovered := (g.discovered.filter fun x => !(decide (x.uid = (readHello net b).uid) && decide (x.net = net))) ++ [readHello net b] } :=
  if_pos hok

theorem helloIn_not_ok (net : Nat) {b : Bytes} (hok : s.nvOk b nvHello = false) : helloIn net b s = s :=
  if_neg (by rw [hok]; exact Bool.false_ne_true)

/-! Beacons. -/

theorem beaconIn_not_ok (net t : Nat) {b : Bytes} (hok : s.nvOk b nvBeacon = false) : beaconIn net b t s = s.advance t := by
  have hadv : (s.advance t).nvOk b nvBeacon = false := hok
  exact if_pos (by simp only [hadv, Bool.not_false, Bool.true_or])

/-- The group as a module that is neither member nor manager hears it in a BEACON (R394). -/
def heardBeacon (net : Nat) (b : Bytes) (s : State) : Group :=
  { s.group with
    heardA := if net = 0 then some s.frame.num.toNat else s.group.heardA, heardB := if net = 1 then some s.frame.num.toNat else s.group.heardB, beaconFrame := some (nvFrame b)
    noBeacon := false, asking := false, votes := [], elected := false, managerRank := nvSrc b, managerUid := slice b 0x40 16
    level := leNat b 0x5A 2, schema := leNat b 0x5C 2, expected := leNat b 0x5E 2, quorum := leNat b 0x60 2, deputy := leNat b 0x62 2, running := decide (leNat b 0x64 1 = 1) }

theorem beaconIn_outside (net t : Nat) {b : Bytes} (hok : s.nvOk b nvBeacon = true) (huid : slice b 0x40 16 ≠ s.gondola.uid)
    (hact : s.group.act = 0) (hstate : s.group.state = 0) (hadm : s.group.admission = none)
    (himg : (s.loft.image.any fun i => decide (i.src = 2)) = false) :
    beaconIn net b t s = { (s.advance t) with frame := { (s.advance t).frame with sinceBeacon := 0 }, group := heardBeacon net b s } := by
  have hman : (s.advance t).isManager = false := by
    have hg : (s.advance t).group.act = 0 := hact
    rw [State.isManager, hg]
    rfl
  unfold beaconIn
  extract_lets s0 uid src waiting n first member dep s2 f s3 s4 s5 s6
  have hmem : ¬(member = true) := by
    have hg : s0.group.state = 0 := hstate
    simp only [member, hg]
    decide
  have h4 : s4 = s3 := if_neg hmem
  have h5 : s5 = s4 := if_neg fun h => hmem h.1
  have h6 : s6 = s5 := if_neg fun h => by
    rw [h5, h4] at h
    exact Bool.false_ne_true (himg.symm.trans h.2)
  have hact2 : s2 = s0.modGroup fun _ => heardBeacon net b s := by
    have hg : (if member = true ∧ dep = s0.rank then (3 : BitVec 2) else 0) = s.group.act := (if_neg fun h => hmem h.1).trans hact.symm
    simp only [s2, State.modGroup, hg]
    rfl
  have h0 : ¬(!s0.nvOk b nvBeacon || decide (uid = s0.gondola.uid)) = true := by
    have hok0 : s0.nvOk b nvBeacon = true := hok
    have huid0 : uid ≠ s0.gondola.uid := huid
    simp only [hok0, huid0, Bool.not_true, decide_false, Bool.or_self, Bool.false_eq_true, not_false_eq_true]
  have hadm6 : s3.group.admission = none := hadm
  have hjoin : s3.mayJoin = false := by
    have hg : s3.group.state = 0 := hstate
    simp only [State.mayJoin, hg]
    simp
  have h1 : ¬s0.group.act = 1 := by rw [show s0.group.act = 0 from hact]; decide
  have h2 : ¬s0.group.act = 2 := by rw [show s0.group.act = 0 from hact]; decide
  rw [if_neg h0, if_neg (by rw [hman, Bool.and_false]; exact Bool.false_ne_true), if_neg h1, if_neg h2, h6.trans (h5.trans h4)]
  simp only [hadm6, hjoin, Bool.false_eq_true, if_false]
  simp only [s3, f, hact2]
  rfl

/-! A worker asks to join. -/

/-- What a JOIN asks for (R395). -/
def readJoin (net : Nat) (b : Bytes) (s : State) : JoinReq :=
  { rank := leNat b 0x50 2, uid := slice b 0x40 16, level := leNat b 0x52 2, schema := leNat b 0x54 2, period := leNat b 0x56 2, epoch := nvEpoch b, last := leNat b 0x58 8, time := s.frame.time, net := net }

section
variable {net : Nat} {b : Bytes} (hok : s.nvOk b nvJoin = true) (hman : s.isManager = true) (hdup : s.group.duplicate = false)
include hok hman hdup

theorem joinIn_waits (hr : s.joinReject (readJoin net b s) = none) (hnew : s.memberRanks.contains (readJoin net b s).rank = false) :
    joinIn net b s = s.modGroup fun g => { g with joins := (g.joins.filter fun x => decide (x.rank ≠ (readJoin net b s).rank)) ++ [readJoin net b s] } := by
  rw [readJoin] at hr hnew ⊢
  rw [← State.any_rank_eq] at hnew
  simp only [joinIn, hok, hman, hdup, hr, Bool.not_true, Bool.or_self, Bool.false_eq_true, if_false, State.modGroup, hnew]

theorem joinIn_rejected {r : Nat} (hr : s.joinReject (readJoin net b s) = some r) :
    joinIn net b s = s.nv net nvReject (readJoin net b s).rank (toLe r 1 ++ List.replicate 7 0) := by
  rw [readJoin] at hr ⊢
  simp only [joinIn, hok, hman, hdup, hr, Bool.not_true, Bool.or_self, Bool.false_eq_true, if_false]

end

theorem joinRetry_due {t : Nat} (hlast : s.group.lastJoin = some t) (hstate : s.group.state = 2) (hadm : s.group.admission = none)
    (ht : t + 500000000 ≤ s.frame.time) (h0 : s.netUp 0 = true) (h1 : s.netUp 1 = true) : joinRetry s = s.sendJoin := by
  simp only [joinRetry, hlast]
  exact if_pos ⟨h0, h1, hstate, by rw [hadm]; rfl, ht⟩

theorem admitIn_joining {b : Bytes} (hok : s.nvOk b nvAdmit = true) (hrank : leNat b 0x40 2 = s.rank) (hstate : s.group.state = 2) :
    admitIn b s = s.modGroup fun g => { g with deputy := leNat b 0x42 2, level := leNat b 0x44 2, schema := leNat b 0x46 2, quorum := leNat b 0x48 2, admission := some { stepFrame := leNat b 0x50 6, declared := decide (leNat b 0x4A 1 = 1), members := readMap b 0x58, handback := leNat b 0xD8 6 } } := by
  simp only [admitIn, hok, hrank, hstate, Bool.not_true, ne_eq, not_true_eq_false, decide_false, Bool.or_self, Bool.false_eq_true, if_false, if_true]

theorem rejectIn_joining {b : Bytes} (hok : s.nvOk b nvReject = true) (hstate : s.group.state = 2) :
    rejectIn b s = s.modGroup fun g => { g with state := 0, rejected := true, lastJoin := none, admission := none } :=
  if_pos (by simp only [hok, hstate, decide_true, Bool.and_self])

/-! The manager and its members. -/

theorem State.openPeer_group (r : Nat) : (s.openPeer r).group = s.group := by
  refine foldl_keeps_of (g := State.group) (fun t n ht => ?_) _ _ ?_
  · dsimp only
    split
    · exact ht
    · split <;> exact ht
  · dsimp only
    split <;> rfl

theorem readyIn_unready {b : Bytes} {m : Member} (hok : s.nvOk b nvReady = true) (hman : s.isManager = true) (hm : m ∈ s.group.members)
    (hrank : m.rank = nvSrc b) (hready : m.ready = false) (hplaces : s.group.places = []) :
    readyIn b s = (s.modMember (nvSrc b) fun m => { m with ready := true, lastStatus := s.frame.num.toNat }).openPeer (nvSrc b) := by
  have hany : (s.group.members.any fun m => decide (m.rank = nvSrc b) && !m.ready) = true :=
    List.any_eq_true.2 ⟨m, hm, by rw [hrank, hready, decide_eq_true rfl]; rfl⟩
  have hnone : ∀ f, ((s.modMember (nvSrc b) f).openPeer (nvSrc b)).group.places = [] := fun f => by
    rw [State.openPeer_group]
    exact hplaces
  simp only [readyIn, hok, hman, hany, Bool.not_true, Bool.or_self, Bool.false_eq_true, if_false, hnone, List.filter_nil, List.foldl_nil]

theorem readyTimeout_unready {r : Nat} {m : Member} (hman : s.isManager = true) (hm : m ∈ s.group.members) (hrank : m.rank = r)
    (hready : m.ready = false) (ht : m.admittedAt + 500000000 ≤ s.frame.time) :
    readyTimeout r s = (s.modGroup fun g => { g with members := g.members.filter fun m => decide (m.rank ≠ r) }).closePeer r := by
  have hany : (s.group.members.any fun m => decide (m.rank = r) && !m.ready && decide (m.admittedAt + 500000000 ≤ s.frame.time)) = true :=
    List.any_eq_true.2 ⟨m, hm, by rw [hrank, hready, decide_eq_true rfl, decide_eq_true ht]; rfl⟩
  simp only [readyTimeout, hman, hany, Bool.and_self, if_true]

theorem admissionDeadline_absent {r : Nat} (hman : s.isManager = true) (hrun : s.group.running = true)
    (ht : s.group.runningAt + 20000000000 ≤ s.frame.time) (hexp : r < s.group.expected) (hmem : s.memberRanks.contains r = false)
    (hfail : s.group.failed.contains r = false) (hc : s.group.causes = []) :
    admissionDeadline r s = s.modGroup fun g => { g with causes := [(r, 5)] } := by
  rw [← State.suspect_first r 5 hc]
  exact if_pos (by simp only [hman, hrun, ht, hexp, hmem, hfail, decide_true, Bool.not_false, Bool.and_self])

theorem noBeacon_noted (ht : 16 ≤ s.frame.sinceBeacon) (hman : s.isManager = false) (hbare : s.bare = false) :
    noBeacon s = s.modGroup fun g => { g with noBeacon := true } :=
  if_pos (by simp only [ht, hman, hbare, decide_true, Bool.not_false, Bool.and_self])

end

/-- Settles O44. -/
theorem groupJoin : Obligations.GroupJoin := by
  unfold Obligations.GroupJoin
  refine ⟨?discover, ?unheard, ?hello, ?badBeacon, ?beacon, ?joins, ?refused, ?again, ?admitted, ?rejected, ?ready, ?removed, ?absent, ?silent,
    fun n b s => exec_discover s n b, fun n b s => exec_hello s n b, fun n b t s => exec_beacon s n b t, fun n b s => exec_join s n b, exec_joinRetry,
    fun n b s => exec_admitMsg s n b, fun n b s => exec_reject s n b, fun b s => exec_ready s b, fun r s => exec_readyTimeout s r,
    fun r s => exec_admissionDeadline s r, exec_noBeacon⟩
  case discover =>
    intro net b s hphase hok hnet
    rw [exec_discover, discoverIn_answered hok hphase hnet]
  case unheard =>
    intro net b s hd hh
    rw [exec_discover, exec_hello, discoverIn_not_ok _ hd, helloIn_not_ok _ hh]
    exact ⟨rfl, rfl⟩
  case hello =>
    intro net b s hok
    rw [exec_hello, helloIn_ok _ hok]
    exact ⟨_, readHello net.val b, rfl, List.mem_append_right _ (List.mem_singleton_self _), rfl, rfl, rfl, rfl, rfl, rfl⟩
  case badBeacon =>
    intro net b t s hphase hok
    rw [exec_beacon, if_pos hphase, beaconIn_not_ok _ _ hok]
  case beacon =>
    intro net b t s hphase hok huid hact hstate hadm himg
    rw [exec_beacon, if_pos hphase, beaconIn_outside _ _ hok huid hact hstate hadm himg, heardBeacon]
  case joins =>
    intro net b s j hserv hok hman hdup hj hr hnew
    subst hj
    rw [exec_join, serving_inService _ hserv, joinIn_waits hok hman hdup hr hnew, readJoin]
  case refused =>
    intro net b s j r hserv hok hman hdup hj hr
    subst hj
    rw [exec_join, serving_inService _ hserv, joinIn_rejected hok hman hdup hr, readJoin]
  case again =>
    intro s t hserv hlast hstate hadm ht h0 h1
    rw [exec_joinRetry, serving_inService _ hserv, joinRetry_due hlast hstate hadm ht h0 h1]
  case admitted =>
    intro net b s hserv hok hrank hstate
    rw [exec_admitMsg, serving_inService _ hserv, admitIn_joining hok hrank hstate]
  case rejected =>
    intro net b s hserv hok hstate
    rw [exec_reject, serving_inService _ hserv, rejectIn_joining hok hstate]
  case ready =>
    intro b s m hserv hok hman hm hrank hready hplaces
    rw [exec_ready, serving_inService _ hserv, readyIn_unready hok hman hm hrank hready hplaces]
  case removed =>
    intro r s m hserv hman hm hrank hready ht
    rw [exec_readyTimeout, serving_inService _ hserv, readyTimeout_unready hman hm hrank hready ht]
  case absent =>
    intro r s hserv hman hrun ht hexp hmem hfail hc
    rw [exec_admissionDeadline, serving_inService _ hserv, admissionDeadline_absent hman hrun ht hexp hmem hfail hc]
  case silent =>
    intro s ht hman hbare
    rw [exec_noBeacon, noBeacon_noted ht hman hbare]

end Sys2Proof.Machine
end

section
/-! SUPPORT. How the group watches its members, and a takeover by vote (17 R392, R407, R408, R414, R418), and the statement on it. -/

set_option Elab.async false

namespace Sys2Proof.Machine

/-! The rows do their operations, whatever the state. -/

section
variable (s : State)

theorem exec_status (net : Fin 2) (b : Bytes) : exec (.status net b) s = .next (serving (statusIn b) s) := rfl
theorem exec_statusTimeout (r : BitVec 16) : exec (.statusTimeout r) s = .next (serving (statusTimeout r.toNat) s) := rfl
theorem exec_failMsg (b : Bytes) : exec (.failMsg b) s = .next (failIn b s).settle := rfl
theorem exec_level (b : Bytes) : exec (.level b) s = .next (serving (levelIn b) s) := rfl
theorem exec_takeover (b : Bytes) : exec (.takeover b) s = .next (serving (takeoverIn b) s) := rfl
theorem exec_vote (b : Bytes) : exec (.vote b) s = .next (serving (voteIn b) s) := rfl
theorem exec_takeoverTimeout : exec .takeoverTimeout s = .next (serving takeoverTimeout s) := rfl

end

section
variable {s : State} {b : Bytes}

/-! STATUS of a member. -/

/-- What the manager notes from a STATUS (R392). -/
def State.noteStatus (s : State) (b : Bytes) : State :=
  s.modMember (nvSrc b) fun m => { m with lastStatus := s.frame.num.toNat, safe := bit (byteAt b 0x41) 0, drained := bit (byteAt b 0x41) 1, freeContexts := leNat b 0x42 2, freeGroups := leNat b 0x48 8 }

/-- A note about members leaves their ranks. -/
theorem State.noteStatus_memberRanks : (s.noteStatus b).memberRanks = s.memberRanks := by
  have h : (s.noteStatus b).group.members = s.group.members.map fun m => if m.rank = nvSrc b then { m with lastStatus := s.frame.num.toNat, safe := bit (byteAt b 0x41) 0, drained := bit (byteAt b 0x41) 1, freeContexts := leNat b 0x42 2, freeGroups := leNat b 0x48 8 } else m := rfl
  rw [State.memberRanks, h, List.map_map]
  refine List.map_congr_left fun m _ => ?_
  rw [Function.comp_apply]
  split <;> rfl

section
variable (hok : s.nvOk b nvStatus = true) (hman : s.isManager = true)
include hok hman

theorem statusIn_manager :
    statusIn b s = if bit (byteAt b 0x41) 0 = true ∧ (s.noteStatus b).memberRanks.contains (nvSrc b) = true then (s.noteStatus b).suspect (nvSrc b) 2 else s.noteStatus b := by
  simp only [statusIn, hok, hman, Bool.not_true, Bool.or_self, Bool.false_eq_true, if_false]
  rfl

theorem statusIn_not_safe (hsafe : bit (byteAt b 0x41) 0 = false) : statusIn b s = s.noteStatus b := by
  rw [statusIn_manager hok hman, if_neg fun h => Bool.false_ne_true (hsafe.symm.trans h.1)]

theorem statusIn_safe (hsafe : bit (byteAt b 0x41) 0 = true) (hmem : s.memberRanks.contains (nvSrc b) = true) (hc : s.group.causes = []) :
    statusIn b s = (s.noteStatus b).modGroup fun g => { g with causes := [(nvSrc b, 2)] } := by
  rw [statusIn_manager hok hman, if_pos ⟨hsafe, by rw [State.noteStatus_memberRanks]; exact hmem⟩]
  exact State.suspect_first _ _ hc

end

theorem statusTimeout_silent {r : Nat} {m : Member} (hman : s.isManager = true) (hm : m ∈ s.group.members) (hrank : m.rank = r)
    (hready : m.ready = true) (hself : r ≠ s.rank) (ht : m.lastStatus + 16 ≤ s.frame.num.toNat) (hc : s.group.causes = []) :
    statusTimeout r s = s.modGroup fun g => { g with causes := [(r, 1)] } := by
  have hany : (s.group.members.any fun m => decide (m.rank = r) && m.ready && decide (r ≠ s.rank) && decide (m.lastStatus + 16 ≤ s.frame.num.toNat)) = true :=
    List.any_eq_true.2 ⟨m, hm, by rw [hrank, hready, decide_eq_true rfl, decide_eq_true hself, decide_eq_true ht]; rfl⟩
  rw [← State.suspect_first r 1 hc]
  exact if_pos (by rw [hman, hany]; rfl)

/-! Failure, levels and the vote. -/

theorem failIn_member (hok : s.nvOk b nvFail = true) (hin : s.inGroup = true) :
    failIn b s = (s.modGroup fun g => { g with members := g.members.filter fun m => decide (m.rank ≠ leNat b 0x40 2), failed := if g.failed.contains (leNat b 0x40 2) then g.failed else g.failed ++ [leNat b 0x40 2] }).closePeer (leNat b 0x40 2) :=
  if_neg (by rw [hok, hin]; exact Bool.false_ne_true)

theorem levelIn_member (hok : s.nvOk b nvLevel = true) (hman : s.isManager = false) (hin : s.inGroup = true) :
    levelIn b s = if bit (byteAt b 0x44) 0 = true then s.modGroup fun g => { g with pendLevel := 0, pendSchema := 0, pendFrame := 0 } else s.modGroup fun g => { g with pendLevel := leNat b 0x40 2, pendSchema := leNat b 0x42 2, pendFrame := leNat b 0x48 6 } :=
  if_neg (by rw [hok, hman, hin]; exact Bool.false_ne_true)

theorem takeoverIn_member (hok : s.nvOk b nvTakeover = true) (hin : s.inGroup = true) (hman : s.isManager = false) :
    takeoverIn b s = s.nvTo nvVote (nvSrc b) (slice b 0x40 4 ++ toLe (b2n (decide (16 ≤ s.frame.sinceBeacon))) 1 ++ List.replicate 3 0) :=
  if_pos (by rw [hok, hin, hman]; rfl)

theorem voteIn_counts (hok : s.nvOk b nvVote = true) (hask : s.group.asking = true) (hround : leNat b 0x40 4 = s.group.round)
    (hyes : leNat b 0x44 1 = 1) (hnew : s.group.votes.contains (nvSrc b) = false) :
    voteIn b s = s.modGroup fun g => { g with votes := g.votes ++ [nvSrc b], elected := decide (g.quorum ≤ g.votes.length + 1) } :=
  if_pos (by rw [hok, hask, decide_eq_true hround, decide_eq_true hyes, hnew]; rfl)

theorem voteIn_void (h : s.nvOk b nvVote = false ∨ s.group.asking = false ∨ s.group.votes.contains (nvSrc b) = true) : voteIn b s = s := by
  refine if_neg ?_
  obtain h | h | h := h
  · simp only [h, Bool.false_and, Bool.false_eq_true, not_false_eq_true]
  · simp only [h, Bool.and_false, Bool.false_and, Bool.false_eq_true, not_false_eq_true]
  · simp only [h, Bool.not_true, Bool.and_false, Bool.false_eq_true, not_false_eq_true]

theorem takeoverTimeout_due (hask : s.group.asking = true) (hel : s.group.elected = false) (ht : s.group.askAt + 64 ≤ s.frame.num.toNat) :
    takeoverTimeout s = s.modGroup fun g => { g with asking := false, votes := [], askAt := s.frame.num.toNat + 64 } :=
  if_pos (by rw [hask, hel, decide_eq_true ht]; rfl)

end

/-- Settles O45. -/
theorem groupWatch : Obligations.GroupWatch := by
  unfold Obligations.GroupWatch
  refine ⟨?status, ?safeMember, ?silent, ?fail, ?level, ?asked, ?counted, ?void, ?givenUp, fun n b s => exec_status s n b, fun r s => exec_statusTimeout s r,
    fun b s => exec_failMsg s b, fun b s => exec_level s b, fun b s => exec_takeover s b, fun b s => exec_vote s b, exec_takeoverTimeout⟩
  case status =>
    intro net b s hserv hok hman hsafe
    rw [exec_status, serving_inService _ hserv, statusIn_not_safe hok hman hsafe, State.noteStatus, hsafe]
  case safeMember =>
    intro net b s hserv hok hman hsafe hmem hc
    rw [exec_status, serving_inService _ hserv, statusIn_safe hok hman hsafe hmem hc, State.noteStatus, hsafe]
  case silent =>
    intro r s m hserv hman hm hrank hready hself ht hc
    rw [exec_statusTimeout, serving_inService _ hserv, statusTimeout_silent hman hm hrank hready hself ht hc]
  case fail =>
    intro b s hok hin
    rw [exec_failMsg, failIn_member hok hin]
  case level =>
    intro b s hserv hok hman hin
    rw [exec_level, serving_inService _ hserv, levelIn_member hok hman hin]
  case asked =>
    intro b s hserv hok hin hman
    rw [exec_takeover, serving_inService _ hserv, takeoverIn_member hok hin hman]
  case counted =>
    intro b s hserv hok hask hround hyes hnew
    rw [exec_vote, serving_inService _ hserv, voteIn_counts hok hask hround hyes hnew]
  case void =>
    intro b s hserv h
    rw [exec_vote, serving_inService _ hserv, voteIn_void h]
  case givenUp =>
    intro s hserv hask hel ht
    rw [exec_takeoverTimeout, serving_inService _ hserv, takeoverTimeout_due hask hel ht]

end Sys2Proof.Machine
end

section
/-! SUPPORT. Ports that fall and train again, and the rules of a queue pair (16 R370 to R389), and the statement on them. -/

set_option Elab.async false

namespace Sys2Proof.Machine

/-! The rows do their operations, whatever the state. -/

section
variable (s : State)

theorem exec_portDown (p : Fin 8) (k : Fin 4) : exec (.portDown p k) s = .next (portFalls p.val s) := rfl
theorem exec_portRetrain (p : Fin 8) : exec (.portRetrain p) s = .next (portRetrain p s) := rfl
theorem exec_fecDegrade (l : Fin 32) : exec (.fecDegrade l) s = .next (fecDegrade l s) := rfl
theorem exec_addressAcquired (p : Fin 8) : exec (.addressAcquired p) s = .next (addressAcquired p s) := rfl
theorem exec_tetEvtClr (p : Fin 8) (v : BitVec 32) : exec (.tetEvtClr p v) s = .next (accessWrite (0x03000000 + p.val * 0x10000 + 0x54) v s) := rfl
theorem exec_congestionNotification (n : Nat) : exec (.congestionNotification n) s = .next (congestion n s) := rfl
theorem exec_rateRaise (n : Nat) : exec (.rateRaise n) s = .next (rateRaise n s) := rfl
theorem exec_ackTimeout (n : Nat) : exec (.ackTimeout n) s = .next (ackTimeout n s) := rfl
theorem exec_ptpEventMessage (p : Fin 8) (eg : Bool) (seq : W16) (t : Nat) :
    exec (.ptpEventMessage p eg seq t) s = .next (ptpStamp p eg seq t s) := rfl

end

section
variable {s : State}

/-! Ports. -/

theorem portFalls_up {p : Nat} (h : (s.portAt p).up = true) : portFalls p s = (s.portLost p).settle := if_pos h
theorem portFalls_down {p : Nat} (h : (s.portAt p).up = false) : portFalls p s = s := if_neg (by rw [h]; exact Bool.false_ne_true)

theorem addressAcquired_up {p : Nat} (h : (s.portAt p).up = true) : addressAcquired p s = s.modPort p fun x => { x with addr := true } := if_pos h
theorem addressAcquired_down {p : Nat} (h : (s.portAt p).up = false) : addressAcquired p s = s := if_neg (by rw [h]; exact Bool.false_ne_true)

/-- A port of the module, read after it changed. -/
theorem State.portAt_modPort {p : Nat} (f : Port → Port) (hp : p < s.tether.ports.length) : (s.modPort p f).portAt p = f (s.portAt p) := by
  have hi : s.tether.ports[p]? = some s.tether.ports[p] := List.getElem?_eq_getElem hp
  have hl : (s.tether.ports.set p (f s.tether.ports[p]))[p]? = some (f s.tether.ports[p]) := List.getElem?_set_self hp
  rw [State.portAt, State.portAt, getD_eq_of_some _ _ _ _ hi, State.modPort, modifyAt_eq_set _ _ _ _ hi]
  exact getD_eq_of_some _ _ _ _ hl

/-- A port that may train restarts its lanes, once no reset holds it. -/
theorem portRetrain_down {p : Nat} (huse : s.portUse p = true) (hup : s.firmwareUp = true) (hsq : (s.portAt p).squelched = false)
    (hdown : (s.portAt p).up = false) (hp : p < s.tether.ports.length) :
    portRetrain p s = (portLanes p).foldl (fun (s : State) l => s.modLane l fun x => if x.training then x else x.restart) (s.modPort p fun x => { x with inReset := false }) := by
  have hport := State.portAt_modPort (fun x => { x with inReset := false }) hp
  have hlive : (s.modPort p fun x => { x with inReset := false }).portLive p = true := by
    rw [State.portLive, hport, hsq]
    exact Bool.and_eq_true_iff.2 ⟨Bool.and_eq_true_iff.2 ⟨Bool.and_eq_true_iff.2 ⟨hup, huse⟩, rfl⟩, rfl⟩
  exact if_pos (by rw [hlive, hport, hdown]; rfl)

theorem fecDegrade_up {l : Nat} (hup : (s.portAt (l / 4)).up = true) (hmode : (s.portAt (l / 4)).mode = 0) :
    fecDegrade l s = (s.modPort (l / 4) fun x => { x with degrade := true }).portEvent (l / 4) 3 :=
  if_pos (by rw [hup, decide_eq_true hmode]; rfl)

theorem accessWrite_tetEvtClear {p : Nat} (v : W32) (hp : p < 8) (hup : s.firmwareUp = true) (haway : s.blockAway (.tet p) = false) :
    accessWrite (0x03000000 + p * 0x10000 + 0x54) v s = tetEvtClear p v s :=
  accessWrite_up _ v s (.tet p) 0x54 hup (winBlock_tet p 0x54 hp (by decide)) haway

theorem ptpStamp_up {p : Nat} (eg : Bool) (seq : W16) (t : Nat) (h : (s.portAt p).up = true) :
    ptpStamp p eg seq t s = { s.advance t with tether := { (s.advance t).tether with stamps := (s.advance t).tether.stamps ++ [{ port := p, egress := eg, seq := seq, time := t }] } } :=
  if_pos h

/-! A local ACK timeout. -/

theorem ackTimeout_unknown {n : Nat} (h : s.qpFor n = none) : ackTimeout n s = s := by simp only [ackTimeout, h]

/-- A packet that may go again begins or goes on with its row of retries. -/
theorem ackTimeout_retry {n : Nat} {q : QueuePair} (h : s.qpFor n = some q) (hex : q.exhausted s.frame.time = false) :
    ackTimeout n s = s.modQp n fun q' => if q.retries = 0 ∨ q.since + 1024000 < s.frame.time then { q' with retries := 1, since := s.frame.time } else { q' with retries := q'.retries + 1 } := by
  simp only [ackTimeout, ackRetry, h, hex, Bool.not_false, Bool.false_eq_true, if_false, if_true]
  by_cases hrow : q.retries = 0 ∨ q.since + 1024000 < s.frame.time
  · simp only [if_pos hrow]
  · simp only [if_neg hrow]

/-- The eighth timeout of a row loses the queue pair and what left on it toward a peer. -/
theorem ackTimeout_exhausted {n : Nat} {q : QueuePair} (h : s.qpFor n = some q) (hex : q.exhausted s.frame.time = true) (hc : q.ctrl = none) :
    ackTimeout n s = (let t := match q.peer with | some r => s.lostOn r q.net (s.frame.time - 1152000) | none => s; { t with tether := { t.tether with qps := t.tether.qps.filter fun x => !decide (x.num = n) } }) := by
  simp only [ackTimeout, ackRetry, h, hex, hc, Bool.not_true, Bool.false_eq_true, if_false, if_true] <;> rfl

end

/-- Settles O43. -/
theorem portsAndQueuePairs : Obligations.PortsAndQueuePairs := by
  unfold Obligations.PortsAndQueuePairs
  refine ⟨?falls, ?down, ?retrain, ?degrade, ?address, ?clear, fun n s => exec_congestionNotification s n, fun n s => exec_rateRaise s n, ?retry, ?lost, ?unknown, ?stamp,
    fun p k s => exec_portDown s p k, fun p s => exec_portRetrain s p, fun l s => exec_fecDegrade s l, fun p s => exec_addressAcquired s p,
    fun n s => exec_ackTimeout s n, fun p eg seq t s => exec_ptpEventMessage s p eg seq t, fun p v s => exec_tetEvtClr s p v⟩
  case falls =>
    intro p k s h
    rw [exec_portDown, portFalls_up h]
  case down =>
    intro p k s h
    rw [exec_portDown, exec_addressAcquired, portFalls_down h, addressAcquired_down h]
    exact ⟨rfl, rfl⟩
  case retrain =>
    intro p s huse hup hsq hdown hshape
    obtain ⟨-, -, hports, -⟩ := hshape
    rw [exec_portRetrain, portRetrain_down huse hup hsq hdown (by omega)]
  case degrade =>
    intro l s hup hmode
    rw [exec_fecDegrade, fecDegrade_up hup hmode]
  case address =>
    intro p s h
    rw [exec_addressAcquired, addressAcquired_up h]
  case clear =>
    intro p v s hup haway
    rw [exec_tetEvtClr, accessWrite_tetEvtClear v p.isLt hup haway, tetEvtClear]
  case retry =>
    intro n s q h hex
    rw [exec_ackTimeout, ackTimeout_retry h hex]
  case lost =>
    intro n s q h hex hc
    exact congrArg Host.Outcome.next (ackTimeout_exhausted h hex hc)
  case unknown =>
    intro n s h
    rw [exec_ackTimeout, ackTimeout_unknown h]
  case stamp =>
    intro p eg seq t s h
    rw [exec_ptpEventMessage, ptpStamp_up eg seq t h]

end Sys2Proof.Machine
end

section
/-! SUPPORT. The firmware door of a die service port, the end of its commands, and a sequence that waits too long (13 R298 to R306), and the statement on them. -/

set_option Elab.async false

namespace Sys2Proof.Machine

/-! The rows do their operations, whatever the state. -/

section
variable (s : State) (n : Fin 8)

theorem exec_readStatus (d : DspDoor) : exec (.readStatus n d) s = .next (dspRead n.val 1 d s) := rfl
theorem exec_readPage (d : DspDoor) : exec (.readPage n d) s = .next (dspRead n.val 2 d s) := rfl
theorem exec_readCalRow (d : DspDoor) : exec (.readCalRow n d) s = .next (dspRead n.val 3 d s) := rfl
theorem exec_readLevels (d : DspDoor) : exec (.readLevels n d) s = .next (dspRead n.val 4 d s) := rfl
theorem exec_programSlc (die row : W32) (data : Bytes) : exec (.programSlc n die row data) s = .next (dspProgram n.val 16 die row 0 .slc s) := rfl
theorem exec_programTlc (die row : W32) (fine : Bool) (data : Bytes) :
    exec (.programTlc n die row fine data) s = .next (dspProgram n.val 17 die row (BitVec.ofNat 32 (b2n fine)) (if fine then .fine else .foggy) s) := rfl
theorem exec_erase (die row : W32) : exec (.erase n die row) s = .next (if s.doorOpen n.val 18 then dspFirmware n.val 18 [die, row] 0 s else s) := rfl
theorem exec_dieReset (die : W32) : exec (.dieReset n die) s = .next (if s.doorOpen n.val 19 then dspFirmware n.val 19 [die] 0 s else s) := rfl
theorem exec_dspDone (page : Bytes) (u : Fin 6) : exec (.dspDone n page u) s = .next (dspDone n.val page u.val s).settle := rfl
theorem exec_dspTimeout : exec (.dspTimeout n) s = .next (dspTimeout n.val s) := rfl

variable {s n}

/-- The four read commands run through one function, by their code. -/
theorem exec_dspReadRow {i : Instr} {cmd : Nat} {d : DspDoor} (h : dspReadRow i = some (n, cmd, d)) :
    exec i s = .next (dspRead n.val cmd d s) ∧ (cmd = 1 ∨ cmd = 2 ∨ cmd = 3 ∨ cmd = 4) := by
  unfold dspReadRow at h
  split at h
  · cases h; exact ⟨exec_readStatus .., .inl rfl⟩
  · cases h; exact ⟨exec_readPage .., .inr (.inl rfl)⟩
  · cases h; exact ⟨exec_readCalRow .., .inr (.inr (.inl rfl))⟩
  · cases h; exact ⟨exec_readLevels .., .inr (.inr (.inr rfl))⟩
  · cases h

end

/-! A change of one part of a list, of which only the value at that part counts. -/

theorem modifyAt_congr {α : Type} {f g : α → α} {l : List α} {i : Nat} {d : α} (h : f (l.getD i d) = g (l.getD i d)) : modifyAt f l i = modifyAt g l i := by
  cases hi : l[i]? with
  | none =>
    have hlen : l.length ≤ i := List.getElem?_eq_none_iff.1 hi
    rw [modifyAt_beyond _ _ _ hlen, modifyAt_beyond _ _ _ hlen]
  | some a =>
    rw [getD_eq_of_some _ _ _ _ hi] at h
    rw [modifyAt_eq_set _ _ _ _ hi, modifyAt_eq_set _ _ _ _ hi, h]

section
variable {s : State} {n : Nat}

theorem State.modDsp_congr {f g : Dsp → Dsp} (h : f (s.dspAt n) = g (s.dspAt n)) : s.modDsp n f = s.modDsp n g := by
  have hc := modifyAt_congr (f := fun k : Ctrl => { k with dsp := f k.dsp }) (g := fun k => { k with dsp := g k.dsp }) (l := s.media.ctrls) (i := n) (d := {})
    (congrArg (fun d => { s.ctrlAt n with dsp := d }) h)
  rw [State.modDsp, State.modDsp, State.modCtrl, State.modCtrl, hc]

/-! A launch, by its command. -/

section
variable {cmd : Nat} {addrs : List W32} {data : W32}

theorem dspFirmware_busy (h : (s.dspAt n).busy = true) : dspFirmware n cmd addrs data s = s := if_pos (by rw [h]; rfl)

theorem dspFirmware_idle (hb : (s.dspAt n).busy = false) (hp : (s.dspAt n).phase = 0) : dspFirmware n cmd addrs data s = dspLaunch n cmd addrs data s :=
  if_neg (by rw [hb, hp]; decide)

/-- A failed die is refused with ERR 5 (R301). -/
theorem dspLaunch_failed (h : s.dieFailed (dieOfWord n (addrs.getD 0 0)) = true) :
    dspLaunch n cmd addrs data s = s.modDsp n fun d => { d with phase := 0, addrs := [], err := 5 } :=
  if_pos h

variable (hd : s.dieFailed (dieOfWord n (addrs.getD 0 0)) = false)
include hd

theorem dspLaunch_plain (h16 : cmd ≠ 16) (h17 : cmd ≠ 17) (h18 : cmd ≠ 18) : dspLaunch n cmd addrs data s = s.dspStarted n cmd addrs data := by
  simp only [dspLaunch, hd, h16, h17, h18, Bool.false_eq_true, if_false, State.dspStarted]

theorem dspLaunch_slc :
    dspLaunch n 16 addrs data s = (s.dspStarted n 16 addrs data).modDie (dieOfWord n (addrs.getD 0 0)) fun x =>
      { x with op := some { code := 2, start := s.frame.time, block := blockOfRow (addrs.getD 1 0), job := none } } := by
  simp only [dspLaunch, hd, Bool.false_eq_true, if_false, if_true, State.dspStarted]
  rfl

theorem dspLaunch_tlc :
    dspLaunch n 17 addrs data s = (s.dspStarted n 17 addrs data).modDie (dieOfWord n (addrs.getD 0 0)) fun x =>
      { x with op := some { code := if bit data 0 then 5 else 3, start := s.frame.time, block := blockOfRow (addrs.getD 1 0), job := none } } := by
  simp only [dspLaunch, hd, Bool.false_eq_true, if_false, State.dspStarted]
  rfl

theorem dspLaunch_erase :
    dspLaunch n 18 addrs data s = (let t := s.dspStarted n 18 addrs data
      { t with media := { t.media with eraseQueue := t.media.eraseQueue ++ [(dieOfWord n (addrs.getD 0 0), blockOfRow (addrs.getD 1 0))] } }) := by
  simp only [dspLaunch, hd, Bool.false_eq_true, if_false, State.dspStarted]
  rfl

end

/-! The rows of the firmware door on an idle port. -/

section
variable (hb : (s.dspAt n).busy = false) (hp : (s.dspAt n).phase = 0)
include hb hp

theorem dspRead_firmware {cmd : Nat} {die row col data : W32} (hopen : s.doorOpen n cmd = true) (hd : s.dieFailed (dieOfWord n die) = false)
    (hcmd : cmd = 1 ∨ cmd = 2 ∨ cmd = 3 ∨ cmd = 4) :
    dspRead n cmd (.firmware die row col data) s = s.dspStarted n cmd ([die, row, col].take ((dspWords cmd).getD 0)) data := by
  have hdie : ([die, row, col].take ((dspWords cmd).getD 0)).getD 0 0 = die := by
    obtain rfl | rfl | rfl | rfl := hcmd <;> rfl
  rw [dspRead, if_pos hopen, dspDoor, dspFirmware_idle hb hp]
  exact dspLaunch_plain (by rw [hdie]; exact hd) (by omega) (by omega) (by omega)

theorem dspProgram_idle {cmd : Nat} {die row data : W32} {p : Pass} (hopen : s.doorOpen n cmd = true) (hmay : s.dieMayProgram (dieOfWord n die) p = true) :
    dspProgram n cmd die row data p s = dspLaunch n cmd [die, row] data s :=
  (if_pos (by rw [hopen, hmay, Bool.or_true]; rfl)).trans (dspFirmware_idle hb hp)

end

theorem dspProgram_busy {cmd : Nat} {die row data : W32} {p : Pass} (hb : (s.dspAt n).busy = true) : dspProgram n cmd die row data p s = s :=
  ite_eq_right_iff.2 fun _ => dspFirmware_busy hb

/-! The end of a command, and the time limit of a sequence. -/

theorem dspDone_idle (page : Bytes) (u : Nat) (hb : (s.dspAt n).busy = false) : dspDone n page u s = s := by
  unfold dspDone
  exact if_pos (by rw [hb]; rfl)

theorem dspDone_status (page : Bytes) (u : Nat) (hb : (s.dspAt n).busy = true) (hc : (s.dspAt n).cmd = 1) :
    dspDone n page u s = (let w := s.statusWord (dieOfWord n ((s.dspAt n).addrs.getD 0 0))
      (s.modDie (dieOfWord n ((s.dspAt n).addrs.getD 0 0)) fun x => { x with sw := w }).modDsp n fun d => { d with busy := false, done := true, addrs := [], sw := w }) := by
  have hcmd : (s.dspAt n).cmd.toNat = 1 := congrArg BitVec.toNat hc
  unfold dspDone
  extract_lets d die block w fin returned ended
  rw [if_neg (by rw [show d.busy = true from hb]; exact Bool.false_ne_true), show d.cmd.toNat = 1 from hcmd]
  rfl

theorem dspTimeout_waits (hp : (s.dspAt n).phase ≠ 0) (hb : (s.dspAt n).busy = false) :
    dspTimeout n s = (s.advance ((s.dspAt n).last + 100001)).modDsp n fun d => { d with phase := 0, addrs := [], err := 3 } := by
  have hadv : ∀ t, ((s.advance t).dspAt n).busy = false := fun _ => hb
  simp only [dspTimeout, hb, decide_eq_true hp, Bool.not_false, Bool.and_self, if_true, State.dspFault]
  exact State.modDsp_congr (by simp only [hadv, Bool.false_eq_true, if_false])

theorem dspTimeout_nothing (h : (s.dspAt n).phase = 0 ∨ (s.dspAt n).busy = true) : dspTimeout n s = s := by
  unfold dspTimeout
  refine if_neg ?_
  obtain h | h := h
  · simp only [h, ne_eq, not_true_eq_false, decide_false, Bool.false_and, Bool.false_eq_true, not_false_eq_true]
  · simp only [h, Bool.not_true, Bool.and_false, Bool.false_eq_true, not_false_eq_true]

end

/-- Settles O39. -/
theorem dspCommands : Obligations.DspCommands := by
  unfold Obligations.DspCommands
  refine ⟨?reads, ?slc, ?tlc, ?erase, ?reset, ?failed, ?busy, ?status, ?idle, ?waits, ?nothing, fun n d s => exec_readStatus s n d, fun n d s => exec_readPage s n d,
    fun n d s => exec_readCalRow s n d, fun n d s => exec_readLevels s n d, fun n die row data s => exec_programSlc s n die row data,
    fun n die row fine data s => exec_programTlc s n die row fine data, fun n die row s => exec_erase s n die row, fun n die s => exec_dieReset s n die,
    fun n page u s => exec_dspDone s n page u, fun n s => exec_dspTimeout s n⟩
  case reads =>
    intro i n cmd die row col data s hrow hopen hb hp hd
    obtain ⟨hexec, hcmd⟩ := exec_dspReadRow (s := s) hrow
    rw [hexec, dspRead_firmware hb hp hopen hd hcmd]
  case slc =>
    intro n die row data s hopen hb hp hd hmay
    rw [exec_programSlc, dspProgram_idle hb hp hopen hmay, dspLaunch_slc (addrs := [die, row]) hd]
    rfl
  case tlc =>
    intro n die row fine data s hopen hb hp hd hmay
    rw [exec_programTlc, dspProgram_idle hb hp hopen hmay, dspLaunch_tlc (addrs := [die, row]) hd]
    cases fine <;> rfl
  case erase =>
    intro n die row s hopen hb hp hd
    rw [exec_erase, if_pos hopen, dspFirmware_idle hb hp, dspLaunch_erase (addrs := [die, row]) hd]
    rfl
  case reset =>
    intro n die s hopen hb hp hd
    rw [exec_dieReset, if_pos hopen, dspFirmware_idle hb hp, dspLaunch_plain (addrs := [die]) hd (by decide) (by decide) (by decide)]
  case failed =>
    intro n die row s hopen hb hp hd
    rw [exec_erase, if_pos hopen, dspFirmware_idle hb hp, dspLaunch_failed (addrs := [die, row]) hd]
  case busy =>
    intro n die row data s hb
    rw [exec_erase, exec_dieReset, exec_programSlc, dspFirmware_busy hb, dspFirmware_busy hb, dspProgram_busy hb, ite_self, ite_self]
    exact ⟨rfl, rfl, rfl⟩
  case status =>
    intro n page u s hb hc
    rw [exec_dspDone, dspDone_status _ _ hb hc]
  case idle =>
    intro n page u s hb
    rw [exec_dspDone, dspDone_idle _ _ hb]
  case waits =>
    intro n s hp hb
    rw [exec_dspTimeout, dspTimeout_waits hp hb]
  case nothing =>
    intro n s h
    rw [exec_dspTimeout, dspTimeout_nothing h]

end Sys2Proof.Machine
end

section
/-! SUPPORT. Flush, reclamation, scrub, temperature history and the end of a controller reset (14 R326 to R341; 20 R460), and the statement on them. -/

set_option Elab.async false

namespace Sys2Proof.Machine

/-! The rows do their operations, whatever the state. -/

section
variable (s : State)

theorem exec_mediaFlush : exec .mediaFlush s = .next (flushDue s) := rfl
theorem exec_gcStart (die : Fin 2048) (bad : List Nat) : exec (.gcStart die bad) s = .next (gcStart die.val bad s) := rfl
theorem exec_gcCommit (n : Fin 8) : exec (.gcCommit n) s = .next (gcCommit n.val s) := rfl
theorem exec_scrub (die : Fin 2048) (b cw : Nat) (k : Fin 6) : exec (.scrub die b cw k) s = .next (scrub die.val b cw k.val s) := rfl
theorem exec_tempHistSample : exec .tempHistSample s = .next (tempSample s) := rfl
theorem exec_envelopeControllerResetDone (n : Fin 8) (rates : List (BitVec 3)) :
    exec (.envelopeControllerResetDone n rates) s = .next (envResetEnds n.val rates s) := rfl

end

section
variable {s : State}

/-! Flush and reclamation. -/

theorem flushDue_due (hd : s.classD = true) (h : s.media.flushFrame + 64 ≤ s.frame.num.toNat ∨ 268435456 ≤ s.media.durableBytes) :
    flushDue s = (s.flushMedia false).settle := by
  refine if_pos (Bool.and_eq_true_iff.2 ⟨hd, ?_⟩)
  rw [Bool.or_eq_true, decide_eq_true_eq, decide_eq_true_eq]
  exact h

theorem flushDue_early (h : s.classD = false ∨ (s.frame.num.toNat < s.media.flushFrame + 64 ∧ s.media.durableBytes < 268435456)) : flushDue s = s := by
  refine if_neg fun hdue => ?_
  rw [Bool.and_eq_true, Bool.or_eq_true, decide_eq_true_eq, decide_eq_true_eq] at hdue
  obtain ⟨hd, hdue⟩ := hdue
  obtain h | ⟨hf, hb⟩ := h
  · exact Bool.false_ne_true (h.symm.trans hd)
  · omega

theorem gcStart_low {d : Nat} (bad : List Nat) (hd : s.classD = true) (hfree : s.freeCount d < 6) (hnew : s.media.collecting.contains d = false) :
    gcStart d bad s = (({ s with media := { s.media with collecting := s.media.collecting ++ [d] } } : State).gcBegin d bad).settle := by
  simp only [gcStart, hd, hfree, hnew, Bool.not_true, Bool.false_eq_true, if_false, if_true]

theorem gcStart_without_classD (d : Nat) (bad : List Nat) (hd : s.classD = false) : gcStart d bad s = s := if_pos (by rw [hd]; rfl)

theorem gcCommit_powered (n : Nat) (hsafe : s.safe = false) (hp : s.powered = true) :
    gcCommit n s = ((s.media.gcs.filter fun g => decide (dieCtrl g.die = n) && g.flag.isNone && s.gcVerified g).foldl State.gcWriteFlag s).settle :=
  if_neg (by rw [hsafe, hp]; exact Bool.false_ne_true)

/-! Scrub. -/

/-- A read at the first step of the ladder leaves it as it is. -/
theorem State.ladder_first (d b : Nat) : s.ladder d b 0 = s := rfl

theorem State.ladderOk_of_ne (d b : Nat) {k : Nat} (h : k ≠ 1) : s.ladderOk d b k = true := by
  rw [State.ladderOk, decide_eq_true h, Bool.true_or]

theorem scrub_without_classD (d b cw k : Nat) (hd : s.classD = false) : scrub d b cw k s = s := by
  unfold scrub
  exact if_pos (by simp only [hd, Bool.not_false, Bool.true_or])

section
variable {d b cw k : Nat} {r : StripeRec} (hd : s.classD = true) (hreads : s.dieReads d = true) (hfail : s.dieFailed d = false)
  (hclosed : (s.blkAt d b).state = .closed)
  (hr : (s.media.records.find? fun r => decide (r.die = d) && decide (r.block = b) && decide (r.cw ≤ cw) && decide (cw < r.cw + r.ncw) && decide (s.mapAt r.stripe = r.word)) = some r)
include hd hreads hfail hclosed hr

/-- A codeword read at step `k` goes up the ladder. -/
theorem scrub_found (hok : s.ladderOk d b k = true) :
    scrub d b cw k s = (let s := s.ladder d b k
      let s := if 1 ≤ k ∧ k < 5 then s.corrected else s
      if k ≠ 5 then s.settle
      else
        let gone := (r.unitsAt (cw - r.cw)).filter fun u => !s.hasCopy (2 * r.stripe + u)
        let s := gone.foldl (fun (s : State) u => s.markLost (2 * r.stripe + u)) s
        let s := if gone.isEmpty then s else s.journalMap [r.stripe]
        match s.recordAt r.stripe (s.mapAt r.stripe) with
        | none => s.settle
        | some q => ((s.writePart 3 false .recovery [(r.stripe, (q.unit0, q.unit1))]).2).settle) := by
  unfold scrub
  rw [if_neg (by simp only [hd, hreads, hfail, hclosed, hok, Bool.not_true, ne_eq, not_true_eq_false, decide_false, Bool.or_self, Bool.false_eq_true, not_false_eq_true]), hr] <;> rfl

theorem scrub_first_step : scrub d b cw 0 s = s.settle :=
  scrub_found hd hreads hfail hclosed hr (State.ladderOk_of_ne d b (by decide))

theorem scrub_corrected (hk : 1 ≤ k ∧ k ≤ 4) (hok : s.ladderOk d b k = true) : scrub d b cw k s = ((s.ladder d b k).corrected).settle := by
  have hlt : 1 ≤ k ∧ k < 5 := by omega
  have h5 : k ≠ 5 := by omega
  simp only [scrub_found hd hreads hfail hclosed hr hok, if_pos hlt, if_pos h5]

theorem scrub_uncorrectable :
    scrub d b cw 5 s = (let s1 := s.ladder d b 5
     let gone := (r.unitsAt (cw - r.cw)).filter fun u => !s1.hasCopy (2 * r.stripe + u)
     let t := gone.foldl (fun (s : State) u => s.markLost (2 * r.stripe + u)) s1
     let t := if gone.isEmpty then t else t.journalMap [r.stripe]
     (match t.recordAt r.stripe (t.mapAt r.stripe) with
      | none => t
      | some q => (t.writePart 3 false .recovery [(r.stripe, (q.unit0, q.unit1))]).2).settle) := by
  have hnot : ¬(1 ≤ 5 ∧ 5 < 5) := by omega
  rw [scrub_found hd hreads hfail hclosed hr (State.ladderOk_of_ne d b (by decide))]
  simp only [if_neg hnot, ne_eq, not_true_eq_false, if_false]
  split <;> rfl

end

/-! The temperature history and the end of a controller reset. -/

theorem tempSample_powered (hp : s.powered = true) :
    tempSample s = { s with media := { s.media with health := { s.media.health with tempHist := Sparse.set 0 s.media.health.tempHist (min 63 ((s.reading 3 + 80) / 16).toNat) (satInc (Sparse.get (0 : W32) s.media.health.tempHist (min 63 ((s.reading 3 + 80) / 16).toNat))) } } } := by
  simp only [tempSample, hp, Bool.not_true, Bool.false_eq_true, if_false, State.modHealth]

theorem envResetEnds_reset {n : Nat} (rates : List (BitVec 3)) (h : (s.ctrlAt n).inReset = true) :
    envResetEnds n rates s = ((s.train n rates).modCtrl n fun k => { k with ready := true, inReset := false }).settle :=
  if_neg (by rw [h]; exact Bool.false_ne_true)

theorem envResetEnds_out_of_reset {n : Nat} (rates : List (BitVec 3)) (h : (s.ctrlAt n).inReset = false) : envResetEnds n rates s = s :=
  if_pos (by rw [h]; rfl)

end

/-- Settles O41. -/
theorem mediaUpkeep : Obligations.MediaUpkeep := by
  unfold Obligations.MediaUpkeep
  refine ⟨?flush, ?noFlush, ?collect, ?noCollect, ?commit, ?first, ?corrected, ?lost, ?noScrub, ?temperature, ?reset, ?noReset, exec_mediaFlush,
    fun d bad s => exec_gcStart s d bad, fun n s => exec_gcCommit s n, fun d b cw k s => exec_scrub s d b cw k, exec_tempHistSample,
    fun n rates s => exec_envelopeControllerResetDone s n rates⟩
  case flush =>
    intro s hd h
    rw [exec_mediaFlush, flushDue_due hd h]
  case noFlush =>
    intro s h
    rw [exec_mediaFlush, flushDue_early h]
  case collect =>
    intro d bad s hd hfree hnew
    rw [exec_gcStart, gcStart_low bad hd hfree hnew]
  case noCollect =>
    intro d bad s hd
    rw [exec_gcStart, gcStart_without_classD _ _ hd]
  case commit =>
    intro n s hsafe hp
    rw [exec_gcCommit, gcCommit_powered _ hsafe hp]
  case first =>
    intro d b cw s r hd hreads hfail hclosed hr
    exact (exec_scrub ..).trans (congrArg Host.Outcome.next (scrub_first_step hd hreads hfail hclosed hr))
  case corrected =>
    intro d b cw k s r hd hreads hfail hclosed hr hk hok
    rw [exec_scrub, scrub_corrected hd hreads hfail hclosed hr hk hok]
  case lost =>
    intro d b cw s r hd hreads hfail hclosed hr
    exact (exec_scrub ..).trans (congrArg Host.Outcome.next (scrub_uncorrectable hd hreads hfail hclosed hr))
  case noScrub =>
    intro d b cw k s hd
    rw [exec_scrub, scrub_without_classD _ _ _ _ hd]
  case temperature =>
    intro s hp
    rw [exec_tempHistSample, tempSample_powered hp]
  case reset =>
    intro n rates s h
    rw [exec_envelopeControllerResetDone, envResetEnds_reset rates h]
  case noReset =>
    intro n rates s h
    rw [exec_envelopeControllerResetDone, envResetEnds_out_of_reset rates h]

end Sys2Proof.Machine
end

section
/-! SUPPORT. What a lane does in training, and the line code (16 R371 to R379), and the statement on them. -/

set_option Elab.async false

namespace Sys2Proof.Machine

/-! The rows do their operations, whatever the state. -/

section
variable (s : State)

theorem exec_signalDetect (l : Fin 32) : exec (.signalDetect l) s = .next (signalDetect l s) := rfl
theorem exec_trainingFrame (l : Fin 32) (ctl sts : W32) (c1 c2 : W16) (q : LaneSelf) :
    exec (.trainingFrame l ctl sts c1 c2 q) s = .next (trainingFrame l ctl sts c1 c2 q s) := rfl
theorem exec_trainingTimeout (l : Fin 32) : exec (.trainingTimeout l) s = .next (trainingTimeout l s) := rfl
theorem exec_trainingModeSwitch (p : Fin 8) : exec (.trainingModeSwitch p) s = .next (modeSwitch p s) := rfl
theorem exec_alignmentMarker (l : Fin 32) (am : BitVec 257) (p e a b : Nat) :
    exec (.alignmentMarker l am p e a b) s = .next (alignmentMarker l am p e a b s) := rfl

end

/-! A training frame. -/

/-- What of a lane the requests of a control word leave: its fields but the taps, their STAT and precoding. -/
def Lane.kept (l : Lane) : Bool × Bool × W32 × W32 × Bool :=
  (l.frameLock, l.rxReady, l.ctl, l.sts, l.tuned)

theorem Lane.requests_kept (l : Lane) (req : Nat) : (l.requests req).kept = l.kept := by
  refine foldl_keeps_of (g := Lane.kept) (fun m i hm => ?_) _ _ rfl
  dsimp only
  split
  · exact hm
  · split <;> exact hm

theorem Lane.control_kept (l : Lane) (ctl : W32) : (l.control ctl).kept = l.kept := by
  unfold Lane.control
  dsimp only
  split
  · split <;> rfl
  · exact Lane.requests_kept ..

/-- The lane as a frame whose two fields are right leaves it to the control word (R376). -/
def Lane.received (l : Lane) (ctl sts : W32) (q : LaneSelf) : Lane :=
  { l with ctl := ctl, sts := sts, cdrLock := true, markers := q.markers, frameLock := l.frameLock || decide (3 ≤ q.markers), polInv := q.polInv }

/-- Training ends in the frame that finds both receivers satisfied and DONE sent (R379). -/
theorem Lane.frame_done (l : Lane) {ctl sts : W32} {q : LaneSelf} (hm : 3 ≤ q.markers) (hsat : q.satisfied = true) (hdone : q.doneSent = true)
    (hpartner : bit sts 31 = true) :
    l.frame ctl sts (crc16 ctl) (crc16 sts) q =
      { (l.received ctl sts q).control ctl with
        rxReady := true, partnerReady := true, training := false, doneSent := true, tuned := true, amSeen := 0, locked := false } := by
  have hkept := Lane.control_kept (l.received ctl sts q) ctl
  rw [Lane.kept, Lane.kept] at hkept
  obtain ⟨hlock, -, -, hsts, -⟩ : _ ∧ _ ∧ _ ∧ _ ∧ _ := by simpa only [Prod.mk.injEq] using hkept
  have hlock' : ((l.received ctl sts q).control ctl).frameLock = true := by
    rw [hlock, Lane.received, decide_eq_true hm, Bool.or_true]
  have hready : (((l.received ctl sts q).control ctl).rxReady || (((l.received ctl sts q).control ctl).frameLock && q.satisfied)) = true := by
    rw [hlock', hsat, Bool.and_self, Bool.or_true]
  have hpart : bit ((l.received ctl sts q).control ctl).sts 31 = true := by
    rw [hsts]
    exact hpartner
  rw [Lane.received] at hready hpart ⊢
  simp only [Lane.frame, if_true, hready, hpart, hdone, Bool.and_self]

theorem Lane.frame_done_ctl (l : Lane) {ctl sts : W32} (q : LaneSelf) :
    ((l.received ctl sts q).control ctl).ctl = ctl ∧ ((l.received ctl sts q).control ctl).sts = sts := by
  have hkept := Lane.control_kept (l.received ctl sts q) ctl
  rw [Lane.kept, Lane.kept] at hkept
  obtain ⟨-, -, hctl, hsts, -⟩ : _ ∧ _ ∧ _ ∧ _ ∧ _ := by simpa only [Prod.mk.injEq] using hkept
  exact ⟨hctl, hsts⟩

/-! The line code. -/

/-- The pair of every value reads back as that value (R373). -/
theorem pamValue_pamOf (v : Fin 32) : pamValue (pamOf v).1 (pamOf v).2 = some v.val := by
  revert v
  decide

/-- The receiver undoes precoding (R374). -/
theorem unprecode_precode (y : Fin 6) (l : List (Fin 6)) : unprecode y (precode y l) = l := by
  induction l generalizing y with
  | nil => rfl
  | cons x t ih => rw [precode, unprecode, ih, sub_add_cancel]

/-- The receiver undoes the scrambler: both registers take the bits sent (R372). -/
theorem descramble_scramble (r : BitVec 58) (b : List Bool) : descramble r (scramble r b) = b := by
  induction b generalizing r with
  | nil => rfl
  | cons d t ih =>
    have hd : ((((d ^^ r.getLsbD 38) ^^ r.getLsbD 57) ^^ r.getLsbD 38) ^^ r.getLsbD 57) = d := by
      cases d <;> cases r.getLsbD 38 <;> cases r.getLsbD 57 <;> rfl
    simp only [scramble, descramble, hd, ih]

/-- A marker block is read as a marker: its fields lie between the 32 bits of the marker and bit 61 (R375). -/
theorem markerOk_markerBlock (count stat req : Byte) (port : Fin 8) (lane : Fin 4) : markerOk (markerBlock count stat req port lane) = true := by
  have hc := count.isLt
  have hs := stat.isLt
  have hr := req.isLt
  have hp := port.isLt
  have hl := lane.isLt
  have hnat : (markerBlock count stat req port lane).toNat = 0x6C3AF159 + 2 ^ 32 * lane + 2 ^ 34 * port + 2 ^ 37 * req.toNat + 2 ^ 45 * stat.toNat + 2 ^ 53 * count.toNat := by
    rw [markerBlock, BitVec.toNat_ofNat]
    exact Nat.mod_eq_of_lt (by omega)
  rw [markerOk, Bool.and_eq_true, decide_eq_true_eq, decide_eq_true_eq, bits, hnat]
  omega

/-! The rows in training and after it. -/

section
variable {s : State}

theorem signalDetect_starts {l : Nat} (hlive : s.portLive (l / 4) = true) (hdown : (s.portAt (l / 4)).up = false) (ht : (s.laneAt l).training = false) :
    signalDetect l s = s.modLane l fun l => { taps := if l.tuned then l.taps else preset 2, tuned := l.tuned, training := true } :=
  if_pos (by rw [hlive, hdown, ht]; rfl)

theorem trainingFrame_taken {l : Nat} (ctl sts : W32) (c1 c2 : W16) (q : LaneSelf) (ht : (s.laneAt l).training = true) (hlive : s.portLive (l / 4) = true) :
    trainingFrame l ctl sts c1 c2 q s = s.modLane l fun x => x.frame ctl sts c1 c2 q :=
  if_pos (by rw [ht, hlive]; rfl)

theorem trainingFrame_not_taken {l : Nat} (ctl sts : W32) (c1 c2 : W16) (q : LaneSelf) (h : (s.laneAt l).training = false ∨ s.portLive (l / 4) = false) :
    trainingFrame l ctl sts c1 c2 q s = s := by
  refine if_neg ?_
  obtain h | h := h
  · rw [h]; exact Bool.false_ne_true
  · rw [h, Bool.and_false]; exact Bool.false_ne_true

theorem trainingTimeout_training {l : Nat} (ht : (s.laneAt l).training = true) :
    trainingTimeout l s = (s.modLane l Lane.restart).modPort (l / 4) fun x => { x with evt := setBit x.evt 2 true } :=
  if_pos ht

theorem modeSwitch_bare {p : Nat} (himg : s.loft.image = none) (hlive : s.portLive p = true) (hdown : (s.portAt p).up = false) :
    modeSwitch p s = (portLanes p).foldl (fun (s : State) l => s.modLane l fun l => { taps := l.taps, tuned := l.tuned }) (s.modPort p fun x => { x with mode := if x.mode = 0 then 1 else 0 }) :=
  if_pos (by rw [State.bare, himg, hlive, hdown]; rfl)

section
variable {l : Nat} (ht : (s.laneAt l).training = false) (hdone : (s.laneAt l).doneSent = true) (hlive : s.portLive (l / 4) = true)
include ht hdone hlive

/-- A lane in data takes the marker, the port its counts, and comes up once all lanes hold (R375). -/
theorem alignmentMarker_data (am : BitVec 257) (p e a b : Nat) :
    alignmentMarker l am p e a b s = ((s.modLane l fun x => x.marker (s.portAt (l / 4)).mode am p e).modPort (l / 4) fun x =>
      { x with fecCorr := satAdd x.fecCorr a, fecUncorr := satAdd x.fecUncorr b }).tryUp (l / 4) :=
  if_neg (by rw [ht, hdone, hlive]; exact Bool.false_ne_true)

end

/-- At 400 GT a marker in place counts toward lock. -/
theorem Lane.marker_400 (x : Lane) {mode : BitVec 2} (am : BitVec 257) (e : Nat) (hmode : mode ≠ 0) :
    x.marker mode am 8192 e = { x with cdrLock := true, amSeen := x.amSeen + 1, locked := x.locked || decide (3 ≤ x.amSeen + 1), bitErr := BitVec.ofNat 16 (min e 0xFFFF) } := by
  simp only [Lane.marker, hmode, false_and, if_false, if_true]

/-- At 1600 GT a block that is no marker is not taken; a marker names the lane and carries the back channel's requests. -/
theorem Lane.marker_1600 (x : Lane) (am : BitVec 257) (p e : Nat) :
    x.marker 0 am p e = if markerOk am = false then x else ({ x with cdrLock := true, amSeen := (if p = 8192 then x.amSeen + 1 else 1), locked := x.locked || decide (3 ≤ (if p = 8192 then x.amSeen + 1 else 1)), bitErr := BitVec.ofNat 16 (min e 0xFFFF), amCount := BitVec.ofNat 8 (bits am 60 53), logical := BitVec.ofNat 2 (bits am 33 32) } : Lane).requests (bits am 44 37) := by
  simp only [Lane.marker, true_and, Bool.not_eq_true', if_true]

end

/-- Settles O42. -/
theorem linkTraining : Obligations.LinkTraining := by
  unfold Obligations.LinkTraining
  refine ⟨?detect, ?frame, ?noFrame, ?done, ?timeout, ?mode, ?marker400, ?marker1600, ?code, fun l s => exec_signalDetect s l,
    fun l ctl sts c1 c2 q s => exec_trainingFrame s l ctl sts c1 c2 q, fun l s => exec_trainingTimeout s l, fun p s => exec_trainingModeSwitch s p,
    fun l am p e a b s => exec_alignmentMarker s l am p e a b⟩
  case detect =>
    intro l s hlive hdown ht
    rw [exec_signalDetect, signalDetect_starts hlive hdown ht]
  case frame =>
    intro l ctl sts c1 c2 q s ht hlive
    rw [exec_trainingFrame, trainingFrame_taken _ _ _ _ _ ht hlive]
  case noFrame =>
    intro l ctl sts c1 c2 q s h
    rw [exec_trainingFrame, trainingFrame_not_taken _ _ _ _ _ h]
  case done =>
    intro x ctl sts q hm hsat hdone hpartner
    rw [Lane.frame_done x hm hsat hdone hpartner]
    obtain ⟨hctl, hsts⟩ := x.frame_done_ctl (ctl := ctl) (sts := sts) q
    exact ⟨rfl, rfl, hctl, hsts⟩
  case timeout =>
    intro l s ht
    rw [exec_trainingTimeout, trainingTimeout_training ht]
  case mode =>
    intro p s himg hlive hdown
    rw [exec_trainingModeSwitch, modeSwitch_bare himg hlive hdown]
  case marker400 =>
    intro l am e a b s s1 ht hdone hlive hmode _ hs1
    rw [exec_alignmentMarker, alignmentMarker_data ht hdone hlive, hs1]
    simp only [Lane.marker_400 _ am e hmode]
  case marker1600 =>
    intro l am p e a b s s1 ht hdone hlive hmode hs1
    rw [exec_alignmentMarker, alignmentMarker_data ht hdone hlive, hs1, hmode]
    simp only [Lane.marker_1600]
  case code =>
    intro v y l r b count stat req port lane
    exact ⟨pamValue_pamOf v, unprecode_precode y l, descramble_scramble r b, markerOk_markerBlock count stat req port lane⟩

end Sys2Proof.Machine
end

section
/-! SUPPORT. Frames of the debug port (21 R488 to R492), and the statement on them. -/

set_option Elab.async false

namespace Sys2Proof.Machine

/-! The rows do their operations, whatever the state. -/

section
variable {s : State}

theorem exec_rd (hdr : Bool) {wide : Bool} {addr : W64} (wait : Bool) (h : wide = true ∨ addr.toNat < 2 ^ 32) :
    exec (.rd hdr wide addr wait) s = .next (frameIn hdr { op := 1, wide := wide, addr := addr, data := 0, par := false } false wait s).settle :=
  if_pos h

theorem exec_wr (hdr : Bool) {wide : Bool} {addr : W64} (v : W32) (par wait : Bool) (h : wide = true ∨ addr.toNat < 2 ^ 32) :
    exec (.wr hdr wide addr v par wait) s = .next (frameIn hdr { op := 2, wide := wide, addr := addr, data := v, par := par } true wait s).settle :=
  if_pos h

theorem exec_rdNext (hdr wait : Bool) :
    exec (.rdNext hdr wait) s = .next (frameIn hdr { op := 3, wide := s.dbg.lastWide, addr := s.dbgNext, data := 0, par := false } false wait s).settle := rfl

theorem exec_wrNext (hdr : Bool) (v : W32) (par wait : Bool) :
    exec (.wrNext hdr v par wait) s = .next (frameIn hdr { op := 4, wide := s.dbg.lastWide, addr := s.dbgNext, data := v, par := par } true wait s).settle := rfl

theorem exec_wrSame (hdr : Bool) (v : W32) (par wait : Bool) :
    exec (.wrSame hdr v par wait) s = .next (frameIn hdr { op := 5, wide := s.dbg.lastWide, addr := s.dbg.lastAddr, data := v, par := par } true wait s).settle := rfl

theorem exec_lineReset (high low : Nat) : exec (.lineReset high low) s = .next (lineReset high low s) := rfl

/-- A register address above 32 bits is ill-formed. -/
theorem exec_rd_far (hdr wait : Bool) {addr : W64} (h : 2 ^ 32 ≤ addr.toNat) : exec (.rd hdr false addr wait) s = .fault .illFormed :=
  if_neg (by rintro (hw | hlt); exacts [Bool.false_ne_true hw, Nat.not_lt_of_le h hlt])

theorem exec_wr_far (hdr : Bool) (v : W32) (par wait : Bool) {addr : W64} (h : 2 ^ 32 ≤ addr.toNat) :
    exec (.wr hdr false addr v par wait) s = .fault .illFormed :=
  if_neg (by rintro (hw | hlt); exacts [Bool.false_ne_true hw, Nat.not_lt_of_le h hlt])

/-- The five operations are one: a frame comes in. -/
theorem exec_dbgFrame {i : Instr} {f : DbgFrame} {hdr write wait : Bool} (h : dbgFrameOf s i = some (hdr, f, write, wait)) (hfits : f.fits) :
    exec i s = .next (frameIn hdr f write wait s).settle := by
  unfold dbgFrameOf at h
  split at h
  · cases h; exact exec_rd _ _ (hfits (show (1 : BitVec 4) ≤ 2 by decide))
  · cases h; exact exec_wr _ _ _ _ (hfits (show (2 : BitVec 4) ≤ 2 by decide))
  · cases h; exact exec_rdNext ..
  · cases h; exact exec_wrNext ..
  · cases h; exact exec_wrSame ..
  · cases h

/-! A frame comes in. -/

theorem frameIn_off (hdr : Bool) (f : DbgFrame) (write wait : Bool) (h : s.dbgUp = false ∨ s.dbg.lineError = true) : frameIn hdr f write wait s = s := by
  refine if_pos ?_
  obtain h | h := h
  · rw [h]; rfl
  · rw [h, Bool.or_true]

section
variable (hline : s.lineOk)
include hline

theorem frameIn_header_error (f : DbgFrame) (write wait : Bool) : frameIn false f write wait s = s.modDbg fun d => { d with lineError := true } :=
  if_neg (by rw [hline.1, hline.2]; exact Bool.false_ne_true)

theorem frameIn_runs (f : DbgFrame) (write wait : Bool) : frameIn true f write wait s = frameRun f write wait s :=
  if_neg (by rw [hline.1, hline.2]; exact Bool.false_ne_true)

end

/-! A frame runs. -/

/-- The data of a write fails its parity. -/
theorem not_even_of_odd {f : DbgFrame} (h : f.odd) : decide ((sumBy (fun i => b2n (bit f.data i)) (upTo 32) + b2n f.par) % 2 = 0) = false :=
  decide_eq_false (by rw [DbgFrame.odd] at h; omega)

theorem even_of_not_odd {f : DbgFrame} (h : ¬f.odd) : decide ((sumBy (fun i => b2n (bit f.data i)) (upTo 32) + b2n f.par) % 2 = 0) = true :=
  decide_eq_true (by rw [DbgFrame.odd] at h; omega)

/-- Another access is pending: WAIT. -/
theorem frameRun_pending {f : DbgFrame} (write wait : Bool) (hsome : s.dbg.waiting.isSome = true) (hother : s.dbg.waiting ≠ some f) :
    frameRun f write wait s = { s with dbg := { s.dbg with answers := s.dbg.answers ++ [{ ack := .wait, data := none }] } } :=
  if_pos ⟨hsome, hother⟩

section
variable (hfree : s.dbg.waiting = none)
include hfree

/-- Nothing is pending. -/
theorem not_pending (f : DbgFrame) : ¬(s.dbg.waiting.isSome = true ∧ s.dbg.waiting ≠ some f) := by
  rw [hfree]
  exact fun h => Bool.false_ne_true h.1

theorem frameRun_bad_parity {f : DbgFrame} (wait : Bool) (hpar : ¬f.odd) :
    frameRun f true wait s = (s.modDbg fun d => { d with fault := 1 }).dbgAnswered .fault none := by
  unfold frameRun
  extract_lets t allowed even
  exact (if_neg (not_pending hfree f)).trans (if_pos (even_of_not_odd hpar))

section
variable {f : DbgFrame} {write : Bool} (hpar : write = false ∨ f.odd)
include hpar

/-- A frame of right parity, with nothing pending, is denied, faulted, made to wait or done. -/
theorem frameRun_good {t : Option (WinBlock × Nat)} (ht : (if f.wide then none else winBlock (f.addr.toNat / 4 * 4)) = t) (hsome : t.isSome = true ∨ f.wide = true)
    (wait : Bool) :
    frameRun f write wait s = if !s.dbgAllows t write f.data then s.dbgAnswer .denied
      else if f.addr.toNat % 4 ≠ 0 then (if f.wide then s else s.winBad 2 5 f.addr.toNat).dbgFail 4
      else if wait then (s.dbgAnswer .wait).modDbg fun d => { d with waiting := some f }
      else if write then frameWrite f s
      else frameRead f s := by
  have heven : ¬(write && decide ((sumBy (fun i => b2n (bit f.data i)) (upTo 32) + b2n f.par) % 2 = 0)) = true := by
    obtain h | h := hpar
    · rw [h]; exact Bool.false_ne_true
    · rw [not_even_of_odd h, Bool.and_false]; exact Bool.false_ne_true
  unfold frameRun
  rw [ht]
  extract_lets t' allowed even
  have hallowed : allowed = s.dbgAllows t write f.data := by
    cases t with
    | some x => rfl
    | none =>
      obtain h | h := hsome
      · exact absurd h (by decide)
      · simp only [allowed, t', h]
  rw [if_neg (not_pending hfree f), if_neg heven, hallowed]

section
variable {b : WinBlock} {o : Nat} (hwide : f.wide = false) (ht : winBlock (f.addr.toNat / 4 * 4) = some (b, o))
include hwide ht

theorem frameRun_denied (wait : Bool) (hno : s.dbgAllows (some (b, o)) write f.data = false) : frameRun f write wait s = s.dbgAnswered .denied none := by
  rw [frameRun_good hfree hpar (t := some (b, o)) (by rw [hwide]; exact ht) (.inl rfl), hno]
  rfl

theorem frameRun_unaligned (wait : Bool) (hyes : s.dbgAllows (some (b, o)) write f.data = true) (hodd : f.addr.toNat % 4 ≠ 0) :
    frameRun f write wait s = ((s.winBad 2 5 f.addr.toNat).modDbg fun d => { d with fault := 4 }).dbgAnswered .fault none := by
  rw [frameRun_good hfree hpar (t := some (b, o)) (by rw [hwide]; exact ht) (.inl rfl), hyes, if_neg (by decide), if_pos hodd, hwide]
  rfl

end

section
variable {b : WinBlock} {o : Nat} (hwide : f.wide = false) (hb : winBlock f.addr.toNat = some (b, o)) (hyes : s.dbgAllows (some (b, o)) write f.data = true)
  (hal : f.addr.toNat % 4 = 0)
include hwide hb hyes hal

/-- An aligned access of a register, in the scope. -/
theorem frameRun_allowed (wait : Bool) :
    frameRun f write wait s = if wait then (s.dbgAnswer .wait).modDbg fun d => { d with waiting := some f } else if write then frameWrite f s else frameRead f s := by
  have haddr : f.addr.toNat / 4 * 4 = f.addr.toNat := by omega
  rw [frameRun_good hfree hpar (t := some (b, o)) (by rw [hwide, haddr]; exact hb) (.inl rfl), hyes, if_neg (by decide), if_neg (not_not_intro hal)]

theorem frameRun_waits :
    frameRun f write true s = { s with dbg := { s.dbg with waiting := some f, answers := s.dbg.answers ++ [{ ack := .wait, data := none }] } } :=
  frameRun_allowed hfree hpar hwide hb hyes hal true

end
end

theorem frameRun_writes {f : DbgFrame} {b : WinBlock} {o : Nat} (hpar : f.odd) (hwide : f.wide = false) (hb : winBlock f.addr.toNat = some (b, o))
    (hyes : s.dbgAllows (some (b, o)) true f.data = true) (hal : f.addr.toNat % 4 = 0) :
    frameRun f true false s = ({ s.dbgAnswered .ok none with dbg := { (s.dbgAnswered .ok none).dbg with lastWide := false, lastAddr := f.addr } } : State).portWrite b o f.addr.toNat f.data := by
  rw [frameRun_allowed hfree (.inr hpar) hwide hb hyes hal, if_neg Bool.false_ne_true, if_pos rfl, frameWrite, hwide, if_neg Bool.false_ne_true, hb, State.dbgAt, hwide]
  rfl

/-- DBG_ID is open to every frame. -/
theorem frameRun_dbgId :
    frameRun { op := 1, wide := false, addr := 0x07000000, data := 0, par := false } false false s =
      { s.dbgAnswered .ok (some 0x0C1A0901) with dbg := { (s.dbgAnswered .ok (some 0x0C1A0901)).dbg with lastWide := false, lastAddr := 0x07000000 } } := by
  have hb : winBlock (0x07000000 : W64).toNat = some (.dbg, 0) := rfl
  have hyes : s.dbgAllows (some (.dbg, 0)) false 0 = true := rfl
  rw [frameRun_allowed hfree (.inl rfl) rfl hb hyes (by decide), if_neg Bool.false_ne_true, if_neg Bool.false_ne_true, frameRead, if_neg Bool.false_ne_true, hb]
  rfl

/-- An address of the Loft at another rank is FAULT 2. -/
theorem frameRun_other_rank {a : W64} (hyes : s.dbgAllows none false 0 = true) (hal : a.toNat % 4 = 0) (hrank : rankOf a ≠ s.rank) :
    frameRun { op := 1, wide := true, addr := a, data := 0, par := false } false false s = (s.modDbg fun d => { d with fault := 2 }).dbgAnswered .fault none := by
  rw [frameRun_good hfree (.inl rfl) (t := none) rfl (.inr rfl), hyes, if_neg (by decide), if_neg (not_not_intro hal), if_neg Bool.false_ne_true,
    if_neg Bool.false_ne_true, frameRead, if_pos rfl, if_pos hrank]
  rfl

end

/-! A line reset. -/

theorem lineReset_whole {high low : Nat} (hup : s.dbgUp = true) (hh : 56 ≤ high) (hl : 2 ≤ low) :
    lineReset high low s = { s with dbg := { s.dbg with lineError := false, waiting := none } } :=
  if_pos (by rw [hup, decide_eq_true hh, decide_eq_true hl]; rfl)

theorem lineReset_short {high low : Nat} (h : high < 56 ∨ low < 2) : lineReset high low s = s := by
  refine if_neg fun hreset => ?_
  rw [Bool.and_eq_true, Bool.and_eq_true, decide_eq_true_eq, decide_eq_true_eq] at hreset
  obtain ⟨⟨-, hh⟩, hl⟩ := hreset
  omega

end

/-- Settles O51. -/
theorem debugFrames : Obligations.DebugFrames := by
  unfold Obligations.DebugFrames
  refine ⟨?off, ?header, ?pending, ?parity, ?denied, ?unaligned, ?waits, ?writes, ?ident, ?far, ?rank, ?reset, ?short, fun hdr _ _ wait _ h => exec_rd hdr wait h,
    fun hdr _ _ v par wait _ h => exec_wr hdr v par wait h, fun hdr wait _ => exec_rdNext hdr wait, fun hdr v par wait _ => exec_wrNext hdr v par wait,
    fun hdr v par wait _ => exec_wrSame hdr v par wait, fun high low _ => exec_lineReset high low⟩
  case off =>
    intro i f hdr write wait s hrow hfits h
    rw [exec_dbgFrame hrow hfits, frameIn_off _ _ _ _ h]
  case header =>
    intro i f hdr write wait s hrow hfits hline hhdr
    subst hhdr
    rw [exec_dbgFrame hrow hfits, frameIn_header_error hline]
  case pending =>
    intro i f hdr write wait s hrow hfits hline hhdr hsome hother
    subst hhdr
    rw [exec_dbgFrame hrow hfits, frameIn_runs hline, frameRun_pending _ _ hsome hother]
  case parity =>
    intro i f hdr write wait s hrow hfits hline hhdr hfree hwrite hpar
    subst hhdr hwrite
    rw [exec_dbgFrame hrow hfits, frameIn_runs hline, frameRun_bad_parity hfree _ hpar]
  case denied =>
    intro i f hdr write wait s b o hrow hfits hline hhdr hfree hpar hwide ht hno
    subst hhdr
    rw [exec_dbgFrame hrow hfits, frameIn_runs hline, frameRun_denied hfree hpar hwide ht _ hno]
  case unaligned =>
    intro i f hdr write wait s b o hrow hfits hline hhdr hfree hpar hwide ht hyes hodd
    subst hhdr
    rw [exec_dbgFrame hrow hfits, frameIn_runs hline, frameRun_unaligned hfree hpar hwide ht _ hyes hodd]
  case waits =>
    intro i f hdr write wait s b o hrow hfits hline hhdr hfree hpar hwide hb hyes hal hwait
    subst hhdr hwait
    rw [exec_dbgFrame hrow hfits, frameIn_runs hline, frameRun_waits hfree hpar hwide hb hyes hal]
  case writes =>
    intro i f hdr write wait s b o hrow hfits hline hhdr hfree hwrite hpar hwide hb hyes hal hwait
    subst hhdr hwrite hwait
    rw [exec_dbgFrame hrow hfits, frameIn_runs hline, frameRun_writes hfree hpar hwide hb hyes hal]
  case ident =>
    intro s hline hfree
    rw [exec_rd true false (.inr (by decide)), frameIn_runs hline, frameRun_dbgId hfree]
  case far =>
    intro s wide a v p w hdr hwide ha
    subst hwide
    exact ⟨exec_rd_far hdr w ha, exec_wr_far hdr v p w ha⟩
  case rank =>
    intro s a hline hfree hyes hal hrank
    rw [exec_rd true false (.inl rfl), frameIn_runs hline, frameRun_other_rank hfree hyes hal hrank]
  case reset =>
    intro s high low hup hh hl
    rw [exec_lineReset, lineReset_whole hup hh hl]
  case short =>
    intro s high low h
    rw [exec_lineReset, lineReset_short h]

end Sys2Proof.Machine
end

section
/-! SUPPORT. SPDM requests to the security core (19 R446 to R451), and the statement on them. -/

set_option Elab.async false

namespace Sys2Proof.Machine

/-! The rows: a message runs whole where its codes are the row's. -/

section
variable {s : State} {i : Instr} {code vendor : Nat} {b : Bytes}

theorem exec_spdmOf (h : spdmOf i = some (code, vendor, b)) : exec i s = spdmRow code vendor b s := by
  unfold spdmOf at h
  split at h <;> cases h <;> rfl

theorem spdmRow_matching (h : spdmCode b = code) (hv : vendor = 0 ∨ vendorCode b = vendor) :
    spdmRow code vendor b s = .next (if s.firmwareUp then spdmWhole b s else s) :=
  if_pos ⟨h, hv⟩

theorem spdmRow_other (h : spdmCode b ≠ code ∨ (vendor ≠ 0 ∧ vendorCode b ≠ vendor)) : spdmRow code vendor b s = .fault .illFormed := by
  refine if_neg ?_
  rintro ⟨hc, hv⟩
  obtain h | ⟨h0, h⟩ := h
  · exact h hc
  · exact hv.elim h0 h

/-- The rows by name: each runs its message where firmware runs, and does nothing before. -/
theorem exec_spdm (h : spdmOf i = some (code, vendor, b)) (hc : spdmCode b = code) (hv : vendor = 0 ∨ vendorCode b = vendor) :
    exec i s = .next (if s.firmwareUp then spdmWhole b s else s) :=
  (exec_spdmOf h).trans (spdmRow_matching hc hv)

theorem exec_spdm_up (h : spdmOf i = some (code, vendor, b)) (hc : spdmCode b = code) (hv : vendor = 0 ∨ vendorCode b = vendor) (hup : s.firmwareUp = true) :
    exec i s = .next (spdmWhole b s) := by
  rw [exec_spdm h hc hv, if_pos hup]

end

section
variable {s : State} {b : Bytes}

theorem spdmCode_of_byte {x : Byte} (h : byteAt b 1 = x) : spdmCode b = x.toNat := congrArg BitVec.toNat h

/-! A whole request. -/

theorem spdmWhole_short (h : b.length ≤ 4096) : spdmWhole b s = spdmRequest b s :=
  (if_neg (by omega)).trans (if_neg fun hl => by omega)

theorem spdmWhole_agreed (h : b.length ≤ 65536) (hstage : s.sec.spdm.stage = 3) : spdmWhole b s = spdmRequest b s :=
  (if_neg (by omega)).trans (if_neg fun hl => hl.2 hstage)

/-- What a request other than GET_VERSION and CHUNK_GET does, by its code. -/
def spdmByCode (c : Nat) (req : Bytes) (signed : Option Bytes) (s : State) : State :=
  match c with
  | 0xE1 => spdmCapabilities req s
  | 0xE3 => spdmAlgorithms req s
  | _ =>
    if s.sec.spdm.stage ≠ 3 then s.respond unexpectedRequest
    else match c with
    | 0x81 => spdmDigests req s
    | 0x82 => spdmCertificate req s
    | 0x83 => spdmChallenge req s
    | 0xE0 => spdmMeasurements req s
    | 0xFE => spdmVendor req signed s
    | n => s.respond (unsupportedRequest n)

theorem spdmRequest_version (hlen : 4 ≤ b.length) (hc : spdmCode b = 0x84) : spdmRequest b s = spdmVersion b s :=
  (if_neg (by omega)).trans (if_pos hc)

section
variable (hlen : 4 ≤ b.length) (hv : byteAt b 0 = 0x13)
include hlen hv

theorem spdmRequest_chunkGet (hc : spdmCode b = 0x86) : spdmRequest b s = spdmChunkGet b s :=
  (if_neg (by omega)).trans ((if_neg (by omega)).trans ((if_neg (not_not_intro hv)).trans (if_pos hc)))

theorem spdmRequest_byCode (h84 : spdmCode b ≠ 0x84) (h86 : spdmCode b ≠ 0x86) :
    spdmRequest b s = spdmByCode (spdmCode b) b s.sec.spdm.lastSigned s.spdmFresh :=
  (if_neg (by omega)).trans ((if_neg h84).trans ((if_neg (not_not_intro hv)).trans (if_neg h86)))

end

/-- A request that needs agreed algorithms, before there are any. -/
theorem spdmByCode_early {c : Nat} (signed : Option Bytes) (hE1 : c ≠ 0xE1) (hE3 : c ≠ 0xE3) (hstage : s.sec.spdm.stage ≠ 3) :
    spdmByCode c b signed s = s.respond unexpectedRequest := by
  unfold spdmByCode
  split
  · exact absurd rfl hE1
  · exact absurd rfl hE3
  · exact if_pos hstage

/-- A ready security core answers by the code of the request. -/
theorem exec_spdm_ready {i : Instr} {code vendor : Nat} (op : State → State) (h : spdmOf i = some (code, vendor, b)) (hready : s.spdmReady b)
    (hc : spdmCode b = code) (hv : vendor = 0 ∨ vendorCode b = vendor) (h84 : code ≠ 0x84) (h86 : code ≠ 0x86)
    (hop : ∀ t, spdmByCode code b s.sec.spdm.lastSigned t = if t.sec.spdm.stage ≠ 3 then t.respond unexpectedRequest else op t) :
    exec i s = .next (op s.spdmFresh) := by
  obtain ⟨hup, hstage, hver, hlen, hmax⟩ := hready
  rw [exec_spdm_up h hc hv hup, spdmWhole_agreed hmax hstage, spdmRequest_byCode hlen hver (by rw [hc]; exact h84) (by rw [hc]; exact h86), hc, hop]
  exact congrArg Host.Outcome.next (if_neg (not_not_intro hstage))

/-! Vendor-defined requests (R450). -/

/-- A vendor request code other than 0 is read from a payload. -/
theorem vendorPayload_of_code {v : Nat} (h : vendorCode b = v) (hv : v ≠ 0) : ∃ x, vendorPayload b = some x ∧ leNat x 0 2 = v := by
  unfold vendorCode at h
  split at h
  · exact ⟨_, ‹_›, h⟩
  · exact absurd h.symm hv

theorem vendorCode_of_payload {x : Bytes} (h : vendorPayload b = some x) : vendorCode b = leNat x 0 2 := by
  rw [vendorCode, h]

section
variable {x : Bytes} (signed : Option Bytes) (h : vendorPayload b = some x)
include h

theorem spdmVendor_cert (hc : leNat x 0 2 = 1) : spdmVendor b signed s = s.respond (vendorResponse (Config.certChain 1)) := by
  simp only [spdmVendor, h, hc]

theorem spdmVendor_signature (hc : leNat x 0 2 = 2) : spdmVendor b signed s = pqSignature signed s := by
  simp only [spdmVendor, h, hc]

theorem spdmVendor_nonce (hc : leNat x 0 2 = 3) : spdmVendor b signed s = getNonce s := by
  simp only [spdmVendor, h, hc]

theorem spdmVendor_set (hc : leNat x 0 2 = 4) : spdmVendor b signed s = ownerSet x s := by
  simp only [spdmVendor, h, hc]

theorem spdmVendor_revoke (hc : leNat x 0 2 = 5) : spdmVendor b signed s = ownerRevoke x s := by
  simp only [spdmVendor, h, hc]

end

/-- A vendor row of a ready security core runs the vendor request on its payload. -/
theorem exec_vendor_ready {i : Instr} {vendor : Nat} (h : spdmOf i = some (0xFE, vendor, b)) (hready : s.spdmReady b) (hb : byteAt b 1 = 0xFE)
    (hv : vendorCode b = vendor) : exec i s = .next (spdmVendor b s.sec.spdm.lastSigned s.spdmFresh) :=
  exec_spdm_ready (spdmVendor b s.sec.spdm.lastSigned) h hready (spdmCode_of_byte hb) (.inr hv) (by decide) (by decide) fun _ => rfl

/-! A response leaves all but the connection. -/

theorem State.respond_eq (s : State) (r : Bytes) : ∃ p, s.respond r = s.modSec fun c => { c with spdm := p } := by
  unfold State.respond
  split <;> exact ⟨_, rfl⟩

section
variable (s : State) (r : Bytes)

theorem State.respond_nonce : (s.respond r).sec.nonce = s.sec.nonce := by
  obtain ⟨p, hp⟩ := s.respond_eq r
  rw [hp]; rfl

theorem State.respond_ownerSet : (s.respond r).sec.ownerSet = s.sec.ownerSet := by
  obtain ⟨p, hp⟩ := s.respond_eq r
  rw [hp]; rfl

theorem State.respond_ownerKeys : (s.respond r).sec.ownerKeys = s.sec.ownerKeys := by
  obtain ⟨p, hp⟩ := s.respond_eq r
  rw [hp]; rfl

theorem State.respond_ownerRevoked : (s.respond r).sec.ownerRevoked = s.sec.ownerRevoked := by
  obtain ⟨p, hp⟩ := s.respond_eq r
  rw [hp]; rfl

end

/-! Owner keys (R446). -/

/-- Everything that an OWNER_SET needs. -/
def ownerSetOk (x : Bytes) (s : State) : Bool :=
  decide (leNat x 2 1 < 4) && !bit s.sec.ownerSet (leNat x 2 1) && decide (slice x 435 16 = s.gondola.uid) && s.nonceOk (slice x 451 32) && !s.safe &&
    if s.owned then decide (x.length = 483 + 16624) && zeros x 484 15 && s.ownerGood (leNat x 483 1) && decide (sigFails (s.sec.ownerKeys.getD (leNat x 483 1) ([], [])) x 483 = 0)
    else decide (x.length = 483) || decide (x.length = 483 + 16624)

/-- Everything that an OWNER_REVOKE needs but its signature. -/
def ownerRevokeOk (x : Bytes) (s : State) : Bool :=
  decide (leNat x 2 1 < 4) && bit s.sec.ownerSet (leNat x 2 1) && ((upTo 4).any fun i => decide (i ≠ leNat x 2 1) && s.ownerGood i) && decide (slice x 3 16 = s.gondola.uid) &&
    s.nonceOk (slice x 19 32) && !s.safe && decide (x.length = 51 + 16624) && zeros x 52 15 && s.ownerGood (leNat x 51 1)

/-- The state once the nonce is used up. -/
def State.nonceUsed (s : State) : State := s.modSec fun c => { c with nonce := none }

theorem ownerSet_eq (x : Bytes) (s : State) :
    ownerSet x s = if ownerSetOk x s = true then (s.nonceUsed.modSec fun c => { c with ownerSet := setBit c.ownerSet (leNat x 2 1) true, ownerKeys := setAt c.ownerKeys (leNat x 2 1) (slice x 3 384, slice x 387 48) }).respond (vendorResponse [])
      else s.nonceUsed.respond invalidRequest := rfl

theorem ownerRevoke_eq (x : Bytes) (s : State) :
    ownerRevoke x s = if (ownerRevokeOk x s && decide (sigFails (s.sec.ownerKeys.getD (leNat x 51 1) ([], [])) x 51 = 0)) = true then (s.nonceUsed.modSec fun c => { c with ownerRevoked := setBit c.ownerRevoked (leNat x 2 1) true }).respond (vendorResponse [])
      else s.nonceUsed.respond invalidRequest := rfl

/-- Without a nonce no OWNER_SET and no OWNER_REVOKE is right. -/
theorem State.nonceOk_none (h : s.sec.nonce = none) (n : Bytes) : s.nonceOk n = false := by rw [State.nonceOk, h]

theorem ownerSetOk_without_nonce {x : Bytes} (h : s.sec.nonce = none) : ownerSetOk x s = false := by
  simp only [ownerSetOk, State.nonceOk_none h, Bool.and_false, Bool.false_and]

theorem ownerRevokeOk_without_nonce {x : Bytes} (h : s.sec.nonce = none) : ownerRevokeOk x s = false := by
  simp only [ownerRevokeOk, State.nonceOk_none h, Bool.and_false, Bool.false_and]

theorem ownerSet_nonce (x : Bytes) (s : State) : (ownerSet x s).sec.nonce = none := by
  rw [ownerSet_eq]
  split <;> exact State.respond_nonce ..

theorem ownerSet_ownerRevoked (x : Bytes) (s : State) : (ownerSet x s).sec.ownerRevoked = s.sec.ownerRevoked := by
  rw [ownerSet_eq]
  split <;> exact State.respond_ownerRevoked ..

theorem ownerSet_without_nonce {x : Bytes} (h : s.sec.nonce = none) :
    (ownerSet x s).sec.ownerSet = s.sec.ownerSet ∧ (ownerSet x s).sec.ownerKeys = s.sec.ownerKeys := by
  rw [ownerSet_eq, ownerSetOk_without_nonce h, if_neg Bool.false_ne_true]
  exact ⟨State.respond_ownerSet .., State.respond_ownerKeys ..⟩

theorem ownerRevoke_nonce (x : Bytes) (s : State) : (ownerRevoke x s).sec.nonce = none := by
  rw [ownerRevoke_eq]
  split <;> exact State.respond_nonce ..

theorem ownerRevoke_keys (x : Bytes) (s : State) :
    (ownerRevoke x s).sec.ownerSet = s.sec.ownerSet ∧ (ownerRevoke x s).sec.ownerKeys = s.sec.ownerKeys := by
  rw [ownerRevoke_eq]
  split <;> exact ⟨State.respond_ownerSet .., State.respond_ownerKeys ..⟩

theorem ownerRevoke_without_nonce {x : Bytes} (h : s.sec.nonce = none) : (ownerRevoke x s).sec.ownerRevoked = s.sec.ownerRevoked := by
  rw [ownerRevoke_eq, ownerRevokeOk_without_nonce h, Bool.false_and, if_neg Bool.false_ne_true]
  exact State.respond_ownerRevoked ..

/-- A free slot is programmed under every condition of R446. -/
theorem ownerSetOk_of {x : Bytes} {k : Nat} (hk : leNat x 2 1 = k) (hlt : k < 4) (hfree : bit s.sec.ownerSet k = false) (huid : slice x 435 16 = s.gondola.uid)
    (hnonce : s.nonceOk (slice x 451 32) = true) (hsafe : s.safe = false)
    (h : (s.owned = false ∧ (x.length = 483 ∨ x.length = 17107)) ∨ (s.owned = true ∧ x.length = 17107 ∧ zeros x 484 15 = true ∧ s.ownerGood (leNat x 483 1) = true ∧ sigFails (s.sec.ownerKeys.getD (leNat x 483 1) ([], [])) x 483 = 0)) :
    ownerSetOk x s = true := by
  have hlast : (if s.owned then decide (x.length = 483 + 16624) && zeros x 484 15 && s.ownerGood (leNat x 483 1) && decide (sigFails (s.sec.ownerKeys.getD (leNat x 483 1) ([], [])) x 483 = 0)
      else decide (x.length = 483) || decide (x.length = 483 + 16624)) = true := by
    obtain ⟨hown, hlen⟩ | ⟨hown, hlen, hzero, hgood, hsig⟩ := h
    · rw [hown, if_neg Bool.false_ne_true, Bool.or_eq_true, decide_eq_true_eq, decide_eq_true_eq]
      exact hlen
    · rw [hown, if_pos rfl, hlen, hzero, hgood, hsig]
      rfl
  rw [ownerSetOk, hk, hlast, hfree, hnonce, hsafe, decide_eq_true hlt, decide_eq_true huid]
  rfl

theorem ownerRevokeOk_of {x : Bytes} {k : Nat} (hk : leNat x 2 1 = k) (hlt : k < 4) (hset : bit s.sec.ownerSet k = true)
    (hothers : ((upTo 4).any fun i => decide (i ≠ k) && s.ownerGood i) = true) (huid : slice x 3 16 = s.gondola.uid)
    (hnonce : s.nonceOk (slice x 19 32) = true) (hsafe : s.safe = false) (hlen : x.length = 16675) (hzero : zeros x 52 15 = true)
    (hgood : s.ownerGood (leNat x 51 1) = true) : ownerRevokeOk x s = true := by
  rw [ownerRevokeOk, hk, hset, hothers, hnonce, hsafe, hlen, hzero, hgood, decide_eq_true hlt, decide_eq_true huid]
  rfl

/-! CHUNK_GET and the first three requests of a connection. -/

theorem spdmChunkGet_empty (h : s.sec.spdm.chunk = []) : spdmChunkGet b s = s.modSpdm fun p => { p with response := unexpectedRequest } := if_pos h

theorem spdmChunkGet_in_turn (h : s.sec.spdm.chunk ≠ []) (hlen : 6 ≤ b.length) (hh : byteAt b 3 = s.sec.spdm.chunkHandle) (hseq : leNat b 4 2 = s.sec.spdm.chunkSeq) :
    spdmChunkGet b s = (let p := s.sec.spdm
      let n := min p.chunk.length (min 4096 p.peerSize - if p.chunkSeq = 0 then 16 else 12)
      s.modSpdm fun p => { p with chunk := p.chunk.drop n, chunkSeq := p.chunkSeq + 1, response := spdmHead 0x06 (b2n (decide (n = p.chunk.length))) p.chunkHandle.toNat ++ toLe p.chunkSeq 2 ++ [0, 0] ++ toLe n 4 ++ (if p.chunkSeq = 0 then toLe p.chunkLen 4 else []) ++ p.chunk.take n }) := by
  have hno : ¬(b.length < 6 ∨ byteAt b 3 ≠ s.sec.spdm.chunkHandle ∨ leNat b 4 2 ≠ s.sec.spdm.chunkSeq) := by
    rintro (hl | hl | hl)
    exacts [Nat.not_lt_of_le hlen hl, hl hh, hl hseq]
  simp only [spdmChunkGet, if_neg h, if_neg hno, decide_eq_true_eq, State.spdmSize, State.modSpdm, State.modSec]

theorem spdmVersion_13 (h : byteAt b 0 = 0x10) :
    spdmVersion b s = s.modSpdm fun p => { stage := 1, vca := b ++ [0x10, 0x04, 0, 0, 0, 1, 0, 0x13], response := [0x10, 0x04, 0, 0, 0, 1, 0, 0x13], chunkHandle := p.chunkHandle } :=
  if_neg (not_not_intro h)

/-- What GET_CAPABILITIES is answered (R449). -/
def capabilitiesResponse : Bytes := spdmHead 0x61 0 0 ++ [0, Config.identifyByte 7 0, 0, 0] ++ toLe 0x20016 4 ++ toLe 4096 4 ++ toLe 65536 4

theorem spdmCapabilities_taken (hstage : s.sec.spdm.stage = 1) (hlen : 20 ≤ b.length) (hsize : 42 ≤ leNat b 12 4) :
    spdmCapabilities b s = s.modSpdm fun p => { p with stage := 2, vca := p.vca ++ b ++ capabilitiesResponse, response := capabilitiesResponse, peerSize := leNat b 12 4, chunk := [], lastSigned := none } :=
  (if_neg (not_not_intro hstage)).trans (if_neg (by omega))

theorem spdmAlgorithms_stage (hstage : s.sec.spdm.stage = 2) (hlen : 32 ≤ b.length) (hl : leNat b 4 2 = b.length) : (spdmAlgorithms b s).sec.spdm.stage = 3 := by
  unfold spdmAlgorithms
  rw [if_neg (not_not_intro hstage), if_neg (by omega)]
  rfl

end

/-- Settles O50. -/
theorem spdmRequests : Obligations.SpdmRequests := by
  unfold Obligations.SpdmRequests
  refine ⟨?runs, ?illFormed, ?version, ?capabilities, ?algorithms, ?early, ?digests, ?certificate, ?challenge, ?measurements, ?nothingLeft, ?pqCert, ?nonce, ?pqSign,
    ?set, ?revoke, ?down, ?inTurn, ?programs, ?revokes, fun _ _ h => exec_spdm rfl h (.inl rfl), fun _ _ h => exec_spdm rfl h (.inl rfl),
    fun _ _ h => exec_spdm rfl h (.inl rfl), fun _ _ h => exec_spdm rfl h (.inl rfl), fun _ _ h => exec_spdm rfl h (.inl rfl), fun _ _ h => exec_spdm rfl h (.inl rfl),
    fun _ _ h => exec_spdm rfl h (.inl rfl), fun _ _ h => exec_spdm rfl h (.inl rfl), fun _ _ h => exec_spdm rfl h.1 (.inr h.2), fun _ _ h => exec_spdm rfl h.1 (.inr h.2),
    fun _ _ h => exec_spdm rfl h.1 (.inr h.2), fun _ _ h => exec_spdm rfl h.1 (.inr h.2), fun _ _ h => exec_spdm rfl h.1 (.inr h.2)⟩
  case runs =>
    intro i code vendor b s h hc hv hup
    exact exec_spdm_up h hc hv hup
  case illFormed =>
    intro i code vendor b s h hne
    rw [exec_spdmOf h, spdmRow_other hne]
  case version =>
    intro b s hup hlen hmax hver hb
    rw [exec_spdm_up rfl (spdmCode_of_byte hb) (.inl rfl) hup, spdmWhole_short hmax, spdmRequest_version hlen (spdmCode_of_byte hb), spdmVersion_13 hver]
  case capabilities =>
    intro b s hup hstage hlen hmax hver hb hsize
    have hc := spdmCode_of_byte hb
    have hrun := spdmRequest_byCode (s := s) (by omega) hver (by rw [hc]; decide) (by rw [hc]; decide)
    have htaken := spdmCapabilities_taken (s := s.spdmFresh) (b := b) hstage hlen hsize
    rw [hc] at hrun
    rw [exec_spdm_up rfl hc (.inl rfl) hup, spdmWhole_short hmax, hrun]
    refine ⟨_, congrArg Host.Outcome.next htaken, rfl, rfl, ?_, ?_⟩
    · rfl
    · rfl
  case algorithms =>
    intro b s hup hstage hlen hmax hl hver hb
    have hc := spdmCode_of_byte hb
    have hrun := spdmRequest_byCode (s := s) (by omega) hver (by rw [hc]; decide) (by rw [hc]; decide)
    rw [hc] at hrun
    rw [exec_spdm_up rfl hc (.inl rfl) hup, spdmWhole_short hmax, hrun]
    exact ⟨_, rfl, spdmAlgorithms_stage (s := s.spdmFresh) hstage hlen hl⟩
  case early =>
    intro i code vendor b s h h84 h86 hE1 hE3 hc hv hup hstage hver hlen hmax
    rw [exec_spdm_up h hc hv hup, spdmWhole_short hmax, spdmRequest_byCode hlen hver (by rw [hc]; exact h84) (by rw [hc]; exact h86), hc,
      spdmByCode_early (s := s.spdmFresh) _ hE1 hE3 hstage, unexpectedRequest]
  case digests =>
    intro b s hready hb
    exact exec_spdm_ready (spdmDigests b) rfl hready (spdmCode_of_byte hb) (.inl rfl) (by decide) (by decide) fun _ => rfl
  case certificate =>
    intro b s hready hb
    exact exec_spdm_ready (spdmCertificate b) rfl hready (spdmCode_of_byte hb) (.inl rfl) (by decide) (by decide) fun _ => rfl
  case challenge =>
    intro b s hready hb
    exact exec_spdm_ready (spdmChallenge b) rfl hready (spdmCode_of_byte hb) (.inl rfl) (by decide) (by decide) fun _ => rfl
  case measurements =>
    intro b s hready hb
    exact exec_spdm_ready (spdmMeasurements b) rfl hready (spdmCode_of_byte hb) (.inl rfl) (by decide) (by decide) fun _ => rfl
  case nothingLeft =>
    intro b s hready hb hchunk
    obtain ⟨hup, hstage, hver, hlen, hmax⟩ := hready
    rw [exec_spdm_up rfl (spdmCode_of_byte hb) (.inl rfl) hup, spdmWhole_agreed hmax hstage, spdmRequest_chunkGet hlen hver (spdmCode_of_byte hb), spdmChunkGet_empty hchunk]
  case pqCert =>
    intro b s hready hb hv
    obtain ⟨x, hx, hcode⟩ := vendorPayload_of_code hv (by decide)
    rw [exec_vendor_ready rfl hready hb hv, spdmVendor_cert _ hx hcode]
  case nonce =>
    intro b s hready hb hv
    obtain ⟨x, hx, hcode⟩ := vendorPayload_of_code hv (by decide)
    rw [exec_vendor_ready rfl hready hb hv, spdmVendor_nonce _ hx hcode]
    rfl
  case pqSign =>
    intro b m s hready hb hv hm
    obtain ⟨x, hx, hcode⟩ := vendorPayload_of_code hv (by decide)
    rw [exec_vendor_ready rfl hready hb hv, spdmVendor_signature _ hx hcode, hm, pqSignature]
  case set =>
    intro b s hready hb hv
    obtain ⟨x, hx, hcode⟩ := vendorPayload_of_code hv (by decide)
    rw [exec_vendor_ready rfl hready hb hv, spdmVendor_set _ hx hcode]
    exact ⟨_, rfl, ownerSet_nonce .., ownerSet_ownerRevoked .., fun h => ownerSet_without_nonce (s := s.spdmFresh) h⟩
  case revoke =>
    intro b s hready hb hv
    obtain ⟨x, hx, hcode⟩ := vendorPayload_of_code hv (by decide)
    obtain ⟨hset, hkeys⟩ := ownerRevoke_keys x s.spdmFresh
    rw [exec_vendor_ready rfl hready hb hv, spdmVendor_revoke _ hx hcode]
    exact ⟨_, rfl, ownerRevoke_nonce .., hset, hkeys, fun h => ownerRevoke_without_nonce (s := s.spdmFresh) h⟩
  case down =>
    intro i code vendor b s h hc hv hdown
    rw [exec_spdm h hc hv, hdown, if_neg Bool.false_ne_true]
  case inTurn =>
    intro b s hready hb hchunk hlen6 hh hseq
    obtain ⟨hup, hstage, hver, hlen, hmax⟩ := hready
    rw [exec_spdm_up rfl (spdmCode_of_byte hb) (.inl rfl) hup, spdmWhole_agreed hmax hstage, spdmRequest_chunkGet hlen hver (spdmCode_of_byte hb),
      spdmChunkGet_in_turn hchunk hlen6 hh hseq]
  case programs =>
    intro b x s k hready hb hx hcode hk hlt hfree huid hnonce hsafe hrest
    have hok : ownerSetOk x s.spdmFresh = true := ownerSetOk_of (s := s.spdmFresh) hk hlt hfree huid hnonce hsafe hrest
    rw [exec_vendor_ready rfl hready hb ((vendorCode_of_payload hx).trans hcode), spdmVendor_set _ hx hcode, ownerSet_eq, if_pos hok, hk]
    rfl
  case revokes =>
    intro b x s k hready hb hx hcode hk hlt hset hothers huid hnonce hsafe hlen hzero hgood
    have hok : ownerRevokeOk x s.spdmFresh = true := ownerRevokeOk_of (s := s.spdmFresh) hk hlt hset hothers huid hnonce hsafe hlen hzero hgood
    rw [exec_vendor_ready rfl hready hb ((vendorCode_of_payload hx).trans hcode), spdmVendor_revoke _ hx hcode, ownerRevoke_eq, hok, Bool.true_and, hk]
    exact congrArg Host.Outcome.next (if_congr decide_eq_true_iff rfl rfl)

end Sys2Proof.Machine
end
